-- ==== Sys2Proof/Word.lean ====
section
/-!
DEFINITION. The plain types every layer uses: the byte, byte strings, and the sparse table kept as a sorted list of
key and value pairs.
-/
namespace Sys2Proof

/-- The smallest addressable unit of every memory of the device (R342). -/
abbrev Byte := BitVec 8

/-- A byte string in ascending address order (R7) or in wire order for packet data. -/
abbrev Bytes := List Byte

/-- A sparse table: keys strictly rising, no entry equal to the table's default value. -/
abbrev Tbl (α : Type) := List (Nat × α)

end Sys2Proof
end

