-- ==== Sys2Proof/Syntax.lean ====
section
/-!
DEFINITION. The commands of the YX960: one constructor per row of the table of operations and events. A row of the Yoximar
Command Protocol carries the request that the host left in a mailbox; a register write carries the value written; every
other row carries what the outside world supplies at that step (a frame, a measurement, returned data).
-/
namespace Sys2Proof

/-- A request in a mailbox and the doorbell that was rung for it (R403, R407). The constructor of `Instr` that carries it
gives its OPCODE. -/
structure YcpReq where
  /-- The mailbox, 0–7. -/
  mbx : Fin 8
  /-- The value written to MBX_DOORBELL. -/
  doorbell : BitVec 32
  /-- Header offset 2: TAG. -/
  tag : BitVec 16
  /-- Header offset 4: FLAGS. -/
  flags : BitVec 16
  /-- Header offset 6: reserved. -/
  rsv6 : BitVec 16
  /-- Header offset 8: LENGTH of the body. -/
  length : BitVec 32
  /-- Header offset 12: EPOCH. -/
  epoch : BitVec 32
  /-- Header offset 16: SEQ. -/
  seq : BitVec 32
  /-- Header offset 20: reserved. -/
  rsv20 : BitVec 32
  /-- Header offset 24: reserved. -/
  rsv24 : BitVec 64
  /-- What the mailbox holds from offset 32. -/
  body : Bytes
  /-- What the DMA read of REQ_ADDR gave, `none` where it failed; read only with FLAGS.DMA_BODY. -/
  dmaData : Option Bytes
  /-- The DMA write of the response to RSP_ADDR succeeds; read only with FLAGS.DMA_BODY. -/
  dmaWriteOk : Bool
  deriving DecidableEq, Repr

/-- A command of the device: a row of the table of operations and events. -/
inductive Instr where
  /-- NOP (R413). YCP command that echoes its request body back in the response. -/
  | nop (r : YcpReq)
  /-- SUMMARY (R418). YCP command that takes a new snapshot at OFFSET 0, or reads on from OFFSET in a kept snapshot, of the self-describing state block. -/
  | summary (r : YcpReq)
  /-- MODE_SET (R474). YCP command that writes FRUGAL at once to both bank copies and writes every other MODE bit to the shadow copy. -/
  | modeSet (r : YcpReq)
  /-- DEV_INFO (R412). YCP command that returns the identity and state properties of the device. -/
  | devInfo (r : YcpReq)
  /-- RESET_COLD (R443). RESET command with TYPE 1, which starts a cold reset after its response is sent. -/
  | resetCold (r : YcpReq)
  /-- RESET_WARM (R445). RESET command with TYPE 2, which starts the warm quiesce and the warm reset. -/
  | resetWarm (r : YcpReq)
  /-- RESET_BLOCK_MGMT (R447). Block reset 0x01, which restarts Clove through the boot ROM while forwarding continues. -/
  | resetBlockMgmt (r : YcpReq)
  /-- RESET_BLOCK_HOST (R447). Block reset 0x02, which resets the HOST domain as a function-level reset does. -/
  | resetBlockHost (r : YcpReq)
  /-- RESET_BLOCK_ACT (R447). Block reset 0x03, which cancels every graph instance, abandons provisional entries and starts POOL_AUDIT. -/
  | resetBlockAct (r : YcpReq)
  /-- RESET_BLOCK_LANE_GROUP (R447). Block reset 0x10-0x19, which turns every lane of a group OFF and restarts its bring-up. -/
  | resetBlockLaneGroup (r : YcpReq)
  /-- RESET_BLOCK_PIPELINE (R447). Block reset 0x20-0x30, which resets a spare pipeline and runs its sentinel. -/
  | resetBlockPipeline (r : YcpReq)
  /-- COUNTER_READ (R499). YCP command that reads counters by their 30-bit identifiers. -/
  | counterRead (r : YcpReq)
  /-- SPARE_STATUS (R492). YCP command that returns the spare inventory, wear projections and policy as a property list. -/
  | spareStatus (r : YcpReq)
  /-- SPARE_POLICY_SET (R490). YCP command that writes the 32-byte swap policy record. -/
  | sparePolicySet (r : YcpReq)
  /-- SPARE_SWAP (R491). YCP command that starts a named spare swap at any time. -/
  | spareSwap (r : YcpReq)
  /-- EPOCH_COMMIT (R59). YCP command that validates the shadow bank and makes it active, either at once or as a drained commit. -/
  | epochCommit (r : YcpReq)
  /-- BANK_COPY (R60). YCP command that copies every object of the active bank into the shadow bank, rule counters excepted. -/
  | bankCopy (r : YcpReq)
  /-- EPOCH_STATUS (R61). YCP command that returns the epoch number, the bank states and counts, and the duplicate-classification state. -/
  | epochStatus (r : YcpReq)
  /-- DMA_QUEUE_SET (R538). YCP command that enables or disables an inject or punt DMA queue. -/
  | dmaQueueSet (r : YcpReq)
  /-- PUNT_MAP_SET (R417). YCP command that writes the map from punt code to punt queue. -/
  | puntMapSet (r : YcpReq)
  /-- SVC_TABLE_WRITE (R204). YCP command that writes service-table entries. -/
  | svcTableWrite (r : YcpReq)
  /-- SVC_TABLE_READ (R412). YCP command that reads service-table entries. -/
  | svcTableRead (r : YcpReq)
  /-- L2_WRITE (R225). L2_WRITE with OP 1, which writes an L2 entry by key through the learn engine. -/
  | l2Write (r : YcpReq)
  /-- L2_WRITE_DELETE (R225). L2_WRITE with OP 2, which deletes an L2 entry by key. -/
  | l2WriteDelete (r : YcpReq)
  /-- L2_WRITE_SEARCH (R225). L2_WRITE with OP 3, which searches the L2 table by key. -/
  | l2WriteSearch (r : YcpReq)
  /-- L2_FLUSH (R217). YCP command that removes the learned entries matching a FID, a port or both. -/
  | l2Flush (r : YcpReq)
  /-- L2_CONFIG (R215). YCP command that sets HOLD, L2_AGE and L2_SEED. -/
  | l2Config (r : YcpReq)
  /-- CAM_WRITE (R219). CAM_WRITE with OP 1, which writes a key-search CAM entry. -/
  | camWrite (r : YcpReq)
  /-- CAM_WRITE_DELETE (R225). CAM_WRITE with OP 2, which clears VALID of a CAM entry. -/
  | camWriteDelete (r : YcpReq)
  /-- CAM_WRITE_READ (R225). CAM_WRITE with OP 3, which reads a CAM entry. -/
  | camWriteRead (r : YcpReq)
  /-- CAM_PROFILE_SET (R222). YCP command that writes CAM search profiles, refused while a search of that profile is in flight. -/
  | camProfileSet (r : YcpReq)
  /-- CAM_SEARCH (R221). YCP command for a host search of a CAM profile. -/
  | camSearch (r : YcpReq)
  /-- SUB_CTX_WRITE (R210). YCP command that makes a masked write of a subscriber context through the subscriber-context cache. -/
  | subCtxWrite (r : YcpReq)
  /-- SUB_CTX_READ (R210). YCP command that reads a subscriber context as the cache or HBM holds it. -/
  | subCtxRead (r : YcpReq)
  /-- TABLE_STATUS (R412). YCP command that returns the occupancy and scrub state of the lookup tables. -/
  | tableStatus (r : YcpReq)
  /-- PORT_CONFIG (R320). YCP command that writes port records, enabling or disabling ports. -/
  | portConfig (r : YcpReq)
  /-- PORT_STATUS (R412). YCP command that returns port records and status. -/
  | portStatus (r : YcpReq)
  /-- BUF_POOL_SET (R236). YCP command that writes a pool record and resizes cell pools against SHARED. -/
  | bufPoolSet (r : YcpReq)
  /-- BUF_CLASS_SET (R249). YCP command that writes the per-class threshold and age records. -/
  | bufClassSet (r : YcpReq)
  /-- PORT_BUF_SET (R260). YCP command that writes port buffer records and resizes the headroom allotments. -/
  | portBufSet (r : YcpReq)
  /-- MC_GROUP_SET (R259). YCP command that writes multicast groups. -/
  | mcGroupSet (r : YcpReq)
  /-- MIRROR_SESSION_SET (R260). YCP command that writes mirror sessions. -/
  | mirrorSessionSet (r : YcpReq)
  /-- BUF_STATUS (R237). YCP command that returns pool records, levels and headroom use. -/
  | bufStatus (r : YcpReq)
  /-- QUEUE_STATUS (R412). YCP command that returns the depth and state of a range of queues. -/
  | queueStatus (r : YcpReq)
  /-- FLOW_TABLE_INIT (R413). YCP command that clears both tiers, sets B and the seeds, and fills the pair ring. -/
  | flowTableInit (r : YcpReq)
  /-- FLOW_TABLE_STATUS (R412). YCP command that returns tier occupancy, sweep position and migration state. -/
  | flowTableStatus (r : YcpReq)
  /-- FLOW_PROFILE_WRITE (R72). YCP command that writes a flow profile into the shadow bank. -/
  | flowProfileWrite (r : YcpReq)
  /-- FLOW_LOOKUP (R413). YCP command that returns a flow's hot image or bulk record by key. -/
  | flowLookup (r : YcpReq)
  /-- FLOW_DELETE (R535). YCP command that removes the flow named by a canonical key and runs its ageing graph. -/
  | flowDelete (r : YcpReq)
  /-- FLOW_AGEING_SET (R97). YCP command that sets the ageing period. -/
  | flowAgeingSet (r : YcpReq)
  /-- FLOW_MIGRATE_START (R104). FLOW_MIGRATE START, which begins a table migration with a new B and seed. -/
  | flowMigrateStart (r : YcpReq)
  /-- FLOW_MIGRATE_RESUME (R109). FLOW_MIGRATE RESUME, which continues a migration held at its cursor after a warm reset. -/
  | flowMigrateResume (r : YcpReq)
  /-- FLOW_MIGRATE_RATE (R104). FLOW_MIGRATE RATE, which changes MIG_RATE. -/
  | flowMigrateRate (r : YcpReq)
  /-- HOT_BLOCK_RETIRE (R88). YCP command that starts moving a logical hot block to a reserve block. -/
  | hotBlockRetire (r : YcpReq)
  /-- FLOW_ADMIT_CLASS_SET (R114). YCP command that writes admission classes. -/
  | flowAdmitClassSet (r : YcpReq)
  /-- FLOW_ADMIT_STATUS (R412). YCP command that returns admission state per pipeline. -/
  | flowAdmitStatus (r : YcpReq)
  /-- GRAPH_TEMPLATE_WRITE (R138). YCP command that checks a graph template and writes it into the shadow bank. -/
  | graphTemplateWrite (r : YcpReq)
  /-- GRAPH_TEMPLATE_READ (R412). YCP command that reads a graph template of a named bank. -/
  | graphTemplateRead (r : YcpReq)
  /-- GRAPH_RUN (R147). YCP command that starts a host-kind graph instance and returns its RUN_ID. -/
  | graphRun (r : YcpReq)
  /-- GRAPH_CANCEL (R153). YCP command that cancels a host run by RUN_ID. -/
  | graphCancel (r : YcpReq)
  /-- TASK_STATUS (R412). YCP command that returns task, context and engine status. -/
  | taskStatus (r : YcpReq)
  /-- TASK_CONFIG (R152). YCP command that sets SPILL_BP per level and ADMIT_RESERVE. -/
  | taskConfig (r : YcpReq)
  /-- SVC_PROFILE_SET (R167). YCP command that writes service profile entries. -/
  | svcProfileSet (r : YcpReq)
  /-- XLAT_POOL_SET (R170). YCP command that writes translation pools and address entries and fills the free-block rings. -/
  | xlatPoolSet (r : YcpReq)
  /-- XLAT_SUB_SET (R172). YCP command that writes subscriber directory entries. -/
  | xlatSubSet (r : YcpReq)
  /-- XLAT_SWEEP_SET (R176). YCP command that sets MAP_SWEEP. -/
  | xlatSweepSet (r : YcpReq)
  /-- LB_BACKEND_SET (R185). YCP command that writes load-balancer backend entries. -/
  | lbBackendSet (r : YcpReq)
  /-- LB_BUILD (R186). YCP command with which firmware fills a service's slot table from backend weights. -/
  | lbBuild (r : YcpReq)
  /-- LB_TABLE_WRITE (R186). YCP command that writes load-balancer slots directly. -/
  | lbTableWrite (r : YcpReq)
  /-- POOL_AUDIT (R197). POOL_AUDIT OP 1, which starts the rebuild of translation and load-balancer accounting. -/
  | poolAudit (r : YcpReq)
  /-- POOL_AUDIT_RATE (R197). POOL_AUDIT OP 2, which sets AUDIT_RATE. -/
  | poolAuditRate (r : YcpReq)
  /-- POOL_AUDIT_STATUS (R197). POOL_AUDIT OP 3, which returns the audit status. -/
  | poolAuditStatus (r : YcpReq)
  /-- XLAT_QUERY (R413). YCP command that returns a map entry, or a subscriber's blocks and mappings. -/
  | xlatQuery (r : YcpReq)
  /-- RULE_WRITE (R65). YCP command that writes one classifier rule into the shadow epoch, and its twin where required. -/
  | ruleWrite (r : YcpReq)
  /-- RULE_READ (R412). YCP command that reads a rule of a named bank. -/
  | ruleRead (r : YcpReq)
  /-- RULE_COUNTERS (R412). YCP command that reads the packet and byte counters of a range of rules. -/
  | ruleCounters (r : YcpReq)
  /-- PARSE_GRAPH_WRITE (R35). YCP command that writes header-graph nodes or transition entries. -/
  | parseGraphWrite (r : YcpReq)
  /-- PARSE_PROFILE_WRITE (R43). YCP command that writes parse profiles or extraction instructions. -/
  | parseProfileWrite (r : YcpReq)
  /-- CLS_PROFILE_WRITE (R52). YCP command that writes classification profiles. -/
  | clsProfileWrite (r : YcpReq)
  /-- METER_SET (R188). YCP command that writes rule, subscriber and service meters and fills their buckets. -/
  | meterSet (r : YcpReq)
  /-- FLOW_METER_PROFILE_SET (R188). YCP command that writes flow meter profiles 1-15. -/
  | flowMeterProfileSet (r : YcpReq)
  /-- SCHED_ELEM_SET (R270). YCP command that writes scheduling element records. -/
  | schedElemSet (r : YcpReq)
  /-- SCHED_ELEM_READ (R412). YCP command that reads element records with their tags and eligibility. -/
  | schedElemRead (r : YcpReq)
  /-- SHAPER_SET (R276). YCP command that writes shapers and resets their tokens. -/
  | shaperSet (r : YcpReq)
  /-- PORT_SCHED_SET (R277). YCP command that writes port scheduling records. -/
  | portSchedSet (r : YcpReq)
  /-- GATE_LIST_WRITE (R280). YCP command that writes pending gate-list entries and list parameters. -/
  | gateListWrite (r : YcpReq)
  /-- GATE_LIST_COMMIT (R284). GATE_LIST_COMMIT COMMIT, which computes START and makes the pending list the next operational list. -/
  | gateListCommit (r : YcpReq)
  /-- GATE_LIST_ABORT (R284). GATE_LIST_COMMIT ABORT, which cancels a pending commit. -/
  | gateListAbort (r : YcpReq)
  /-- GATE_STATUS (R412). YCP command that returns the gate lists, START and the entry in force. -/
  | gateStatus (r : YcpReq)
  /-- LAUNCH_CLASS_SET (R287). YCP command that writes launch records per class. -/
  | launchClassSet (r : YcpReq)
  /-- SAMPLE_SET (R289). YCP command that writes sampler entries, subject to the aggregate rate limit. -/
  | sampleSet (r : YcpReq)
  /-- SAMPLE_RING_SET (R291). YCP command that sets a sample ring. -/
  | sampleRingSet (r : YcpReq)
  /-- SAMPLE_RING_ACK (R291). YCP command that advances the CONS of a sample ring. -/
  | sampleRingAck (r : YcpReq)
  /-- SCHED_STATUS (R412). YCP command that returns token counts and selection counts per port. -/
  | schedStatus (r : YcpReq)
  /-- TIME_REG_READ (R412). YCP command that reads Saffron registers. -/
  | timeRegRead (r : YcpReq)
  /-- TIME_REG_WRITE (R301). YCP command that writes Saffron registers that have no behaviour of their own. -/
  | timeRegWrite (r : YcpReq)
  /-- TIME_SNAP (R301). Write of TIME_SNAP.SNAP, which latches both domains, the active time and the free-running counter on one tick. -/
  | timeSnap (r : YcpReq)
  /-- TIME_CONFIG (R537). YCP command that sets source, PTP domain, owner, watchdog and qualification per domain. -/
  | timeConfig (r : YcpReq)
  /-- TIME_ADJUST_SET (R307). TIME_ADJUST SET, which writes a domain value, subject to the 1 s guard. -/
  | timeAdjustSet (r : YcpReq)
  /-- TIME_ADJUST_STEP (R307). TIME_ADJUST STEP, which adds a signed offset to a domain. -/
  | timeAdjustStep (r : YcpReq)
  /-- TIME_ADJUST_SLEW (R307). TIME_ADJUST SLEW, which applies an offset of at most 1 s at SLEW_RATE. -/
  | timeAdjustSlew (r : YcpReq)
  /-- TIME_ACTIVE_SET (R308). YCP command that requests a switchover to a named domain and sets REVERT_S. -/
  | timeActiveSet (r : YcpReq)
  /-- TIME_STATUS (R412). YCP command that returns the time-domain states and the last switchover. -/
  | timeStatus (r : YcpReq)
  /-- PTP_PORT_SET (R306). YCP command that sets TC_EN, RX_LAT, TX_LAT and ASYM per port. -/
  | ptpPortSet (r : YcpReq)
  /-- PPS_SET (R310). YCP command that sets the PPS and recovered-clock outputs. -/
  | ppsSet (r : YcpReq)
  /-- MEM_STATUS (R412). YCP command that returns PC states, temperatures and data rate. -/
  | memStatus (r : YcpReq)
  /-- MEM_MAP (R345). YCP command that returns the region orders and sets the order of HOST. -/
  | memMap (r : YcpReq)
  /-- MEM_PAGE_SET (R348). YCP command that sets IDLE_CLK per PC. -/
  | memPageSet (r : YcpReq)
  /-- MEM_QOS_SET (R353). YCP command that writes requester QoS records. -/
  | memQosSet (r : YcpReq)
  /-- MEM_TRAIN (R358). YCP command that sets MARGIN_FLOOR and returns training status. -/
  | memTrain (r : YcpReq)
  /-- MEM_FREQ_SET (R360). YCP command that sets the HBM data rate, or records it while FRUGAL holds the rate low. -/
  | memFreqSet (r : YcpReq)
  /-- MEM_REPAIR (R363). YCP command that starts the retirement of a named PC. -/
  | memRepair (r : YcpReq)
  /-- MEM_ACCESS (R413). MEM_ACCESS OP 1, which reads any HBM region as it stands. -/
  | memAccess (r : YcpReq)
  /-- MEM_ACCESS_WRITE (R413). MEM_ACCESS OP 2, which writes the HOST region only. -/
  | memAccessWrite (r : YcpReq)
  /-- MEM_COUNTERS (R412). YCP command that reads the HBM counters. -/
  | memCounters (r : YcpReq)
  /-- MEM_SCRUB_SET (R361). YCP command that sets SCRUB_PERIOD. -/
  | memScrubSet (r : YcpReq)
  /-- MACE_STATUS (R382). YCP command that returns Mace source status entries, pins and safe ports. -/
  | maceStatus (r : YcpReq)
  /-- MACE_SET (R382). YCP command that writes Mace source records. -/
  | maceSet (r : YcpReq)
  /-- MACE_CLEAR (R382). YCP command that clears STICKY, SEVERE, the window and SCOPE of named sources. -/
  | maceClear (r : YcpReq)
  /-- MACE_SAFE_CLEAR (R390). YCP command that ends the safe state on named ports. -/
  | maceSafeClear (r : YcpReq)
  /-- MACE_RAISE (R386). YCP command that delivers an event to a test source F240-F255. -/
  | maceRaise (r : YcpReq)
  /-- INTEG_INJECT (R372). YCP command that arms SC-256 symbol corruption of the next unit written into a structure. -/
  | integInject (r : YcpReq)
  /-- CVU_REG_READ (R412). YCP command that reads check-value unit registers. -/
  | cvuRegRead (r : YcpReq)
  /-- CVU_REG_WRITE (R376). YCP command that writes check-value unit registers that have no behaviour of their own. -/
  | cvuRegWrite (r : YcpReq)
  /-- CVU_PRESET (R374). Write of CVU_CTRL.PRESET, which loads all six CRC parameters at once. -/
  | cvuPreset (r : YcpReq)
  /-- CVU_START (R375). Write of CVU_CTRL.START, which restarts a STREAM computation from INIT. -/
  | cvuStart (r : YcpReq)
  /-- SAFETY_STATUS (R412). YCP command that returns ASSURED arming and self-test results. -/
  | safetyStatus (r : YcpReq)
  /-- LANE_CONFIG (R322). YCP command that writes lane records. -/
  | laneConfig (r : YcpReq)
  /-- LANE_STATUS (R336). YCP command that returns lane status records. -/
  | laneStatus (r : YcpReq)
  /-- LANE_PATTERN (R332). YCP command that starts or stops a lane pattern generator and checker. -/
  | lanePattern (r : YcpReq)
  /-- LANE_LOOP (R334). YCP command that sets a lane loop and puts the port in TEST. -/
  | laneLoop (r : YcpReq)
  /-- LANE_INJECT (R333). YCP command that injects pattern or FEC errors. -/
  | laneInject (r : YcpReq)
  /-- LANE_SWAP (R331). YCP command that requests a spare swap of a named logical lane. -/
  | laneSwap (r : YcpReq)
  /-- LANE_SWAP_RESTORE (R331). LANE_SWAP RESTORE, which returns a FAILED lane to SPARE_TRAIN. -/
  | laneSwapRestore (r : YcpReq)
  /-- LANE_MAP (R413). YCP command that returns the lane maps of all groups. -/
  | laneMap (r : YcpReq)
  /-- POWER_STATUS (R412). YCP command that returns domain states and sleep depths. -/
  | powerStatus (r : YcpReq)
  /-- FRUGAL_SET (R438). YCP command that sets CG_IDLE. -/
  | frugalSet (r : YcpReq)
  /-- PORT_SLEEP_SET (R436). YCP command that writes port sleep records. -/
  | portSleepSet (r : YcpReq)
  /-- POWER_STANDBY_ENTER (R442). POWER_STANDBY ENTER, which stops ingress and starts the entry to standby. -/
  | powerStandbyEnter (r : YcpReq)
  /-- POWER_STANDBY_EXIT (R442). POWER_STANDBY EXIT, which starts the exit from standby. -/
  | powerStandbyExit (r : YcpReq)
  /-- IDENTITY (R424). YCP command that returns the certificate chain. -/
  | identity (r : YcpReq)
  /-- ATTEST (R425). YCP command that returns the signed attestation report for a nonce. -/
  | attest (r : YcpReq)
  /-- FW_STATUS (R424). YCP command that returns the image slots, BOOT_CTRL and OTP state. -/
  | fwStatus (r : YcpReq)
  /-- FW_WRITE (R424). YCP command that erases and programs part of an image slot. -/
  | fwWrite (r : YcpReq)
  /-- FW_VERIFY (R424). YCP command that verifies an image slot. -/
  | fwVerify (r : YcpReq)
  /-- FW_ACTIVATE (R424). YCP command that verifies a slot and writes BOOT_CTRL, on trial or for good. -/
  | fwActivate (r : YcpReq)
  /-- FW_CONFIRM (R424). YCP command that makes a trial-booted slot ACTIVE. -/
  | fwConfirm (r : YcpReq)
  /-- ROLLBACK_ADVANCE (R424). YCP command that blows anti-rollback steps up to TARGET. -/
  | rollbackAdvance (r : YcpReq)
  /-- TELEM_RING_SET (R195). YCP command that sets an export ring. -/
  | telemRingSet (r : YcpReq)
  /-- TELEM_RING_ACK (R195). YCP command that advances the CONS of an export ring. -/
  | telemRingAck (r : YcpReq)
  /-- SVC_COUNTER_READ (R193). YCP command that reads flow-attributed counters, HBM value plus accumulator. -/
  | svcCounterRead (r : YcpReq)
  /-- TRACE_SET (R503). YCP command that writes the trace configuration. -/
  | traceSet (r : YcpReq)
  /-- TRACE_START (R503). TRACE_CTRL START, which starts capture. -/
  | traceStart (r : YcpReq)
  /-- TRACE_STOP (R503). TRACE_CTRL STOP, which stops capture. -/
  | traceStop (r : YcpReq)
  /-- TRACE_CLEAR (R503). TRACE_CTRL CLEAR, which resets SEQ and the write pointer. -/
  | traceClear (r : YcpReq)
  /-- TRACE_READ (R503). YCP command that reads trace slots. -/
  | traceRead (r : YcpReq)
  /-- TRACE_MARK (R502). YCP command that writes a MARK record while the trace runs. -/
  | traceMark (r : YcpReq)
  /-- COUNTER_CATALOG (R500). YCP command that returns counter catalogue entries. -/
  | counterCatalog (r : YcpReq)
  /-- TRACE_STATUS (R503). YCP command that returns the trace status. -/
  | traceStatus (r : YcpReq)
  /-- IMPAIR_SET (R506). YCP command that writes impairment unit records. -/
  | impairSet (r : YcpReq)
  /-- IMPAIR_REQUEST (R509). IMPAIR_ARM REQUEST, which returns a token bound to the mailbox, ports and records. -/
  | impairRequest (r : YcpReq)
  /-- IMPAIR_CONFIRM (R509). IMPAIR_ARM CONFIRM, which arms the named units on one clock when the token matches. -/
  | impairConfirm (r : YcpReq)
  /-- IMPAIR_DISARM (R509). IMPAIR_ARM DISARM, which disarms the named units and sends any held frame. -/
  | impairDisarm (r : YcpReq)
  /-- IMPAIR_STATUS (R510). YCP command that returns impairment status as a property list. -/
  | impairStatus (r : YcpReq)
  /-- JOIN_CONFIG_SET (R454). JOIN_CONFIG SET, which writes the join record. -/
  | joinConfigSet (r : YcpReq)
  /-- JOIN_CONFIG_ADD (R467). JOIN_CONFIG ADD, which returns members to the present set and restores the home map. -/
  | joinConfigAdd (r : YcpReq)
  /-- JOIN_CONFIG_TIMEOUTS (R454). JOIN_CONFIG TIMEOUTS, which writes the wrap and member timeouts. -/
  | joinConfigTimeouts (r : YcpReq)
  /-- JOIN_STATUS (R413). YCP command that returns the joined-ring status. -/
  | joinStatus (r : YcpReq)
  /-- KS_FLOW_READ (R426). Forerunner command that renders a flow as a KS-240 record. -/
  | ksFlowRead (r : YcpReq)
  /-- KS_FLOW_DELETE (R426). Forerunner command that deletes a flow as FLOW_DELETE does. -/
  | ksFlowDelete (r : YcpReq)
  /-- KS_FLOW_DUMP (R426). Forerunner command that dumps live records from a slot upwards. -/
  | ksFlowDump (r : YcpReq)
  /-- KS_QOS_SET (R426). Forerunner command that sets eight latency targets mapped to requesters. -/
  | ksQosSet (r : YcpReq)
  /-- KS_QOS_GET (R426). Forerunner command that returns the eight latency targets. -/
  | ksQosGet (r : YcpReq)
  /-- REGISTER_WRITE (R9). Host write of a BAR0 register that has no behaviour of its own, under its access code. -/
  | registerWrite (off : Nat) (v : BitVec 32)
  /-- SUM_CTRL_GO (R420). Write of SUM_CTRL.GO, which starts a SUMMARY written by DMA to SUM_PTR. -/
  | sumCtrlGo (v : BitVec 32)
  /-- EVR_CONS_WRITE (R414). Host write of EVR_CONS, which makes room in the event ring. -/
  | evrConsWrite (v : BitVec 32)
  /-- EVR_CTRL_ENABLE (R414). Write of EVR_CTRL.ENABLE, which enables or disables event-ring writes. -/
  | evrCtrlEnable (v : BitVec 32)
  /-- INJ_TAIL_WRITE (R416). Host write of INJ_TAILq, which passes filled inject descriptors to the device. -/
  | injTailWrite (q : Nat) (v : BitVec 32)
  /-- PUNT_TAIL_WRITE (R416). Host write of PUNT_TAILq, which posts free punt buffers. -/
  | puntTailWrite (q : Nat) (v : BitVec 32)
  /-- TCW_READ (R225). TCW_CMD OP READ, which reads a table entry into the window. -/
  | tcwRead (v : BitVec 32)
  /-- TCW_WRITE (R225). TCW_CMD OP WRITE, which writes a table entry from the window. -/
  | tcwWrite (v : BitVec 32)
  /-- TCW_DELETE (R225). TCW_CMD OP DELETE, which deletes a table entry. -/
  | tcwDelete (v : BitVec 32)
  /-- TCW_SEARCH (R225). TCW_CMD OP SEARCH, which searches the L2 table or the CAM. -/
  | tcwSearch (v : BitVec 32)
  /-- OBS_READ (R496). Observation-port READ transaction, which streams data from a 40-bit address. -/
  | obsRead (addr : Nat) (words : Nat)
  /-- OBS_STATUS (R497). Observation-port STATUS transaction, which returns OBS_STATUS. -/
  | obsStatus
  /-- OBS_IDENT (R496). Observation-port IDENT transaction, which returns the part identity. -/
  | obsIdent
  /-- AON_POWER_GOOD (R448). AON power good rises: power-on reset, strap sampling and the start-up sequence. -/
  | aonPowerGood (devid : Nat) (spiQuad : Bool) (testN : Bool)
  /-- RST_N_ASSERT (R443). RST_N held low for at least 1 µs starts a cold reset. -/
  | rstNAssert
  /-- RST_N_RELEASE (R530). RST_N rises and start-up proceeds from step 2. -/
  | rstNRelease
  /-- WRST_N_ASSERT (R443). WRST_N held low for at least 1 µs starts a warm reset. -/
  | wrstNAssert
  /-- WRST_N_RELEASE (R443). WRST_N rises and a warm reset held at its final quiesce step proceeds. -/
  | wrstNRelease
  /-- MAIN_PG_RISE (R522). MAIN_PG rises and start-up step 2 may begin, or the device starts as after a cold reset. -/
  | mainPgRise
  /-- MAIN_PG_FALL (R522). MAIN_PG falls: every domain except AON is isolated and held in reset. -/
  | mainPgFall
  /-- PERST_N_ASSERT (R517). PERST_N low resets the PCIe link and the HOST domain as a function-level reset. -/
  | perstNAssert
  /-- FUNCTION_LEVEL_RESET (R402). A PCIe function-level reset resets the HOST domain only. -/
  | functionLevelReset
  /-- PCIE_LINK_DOWN (R402). The PCIe link goes down and F192 is raised. -/
  | pcieLinkDown
  /-- PPS_IN_EDGE (R310). A PPS_IN rising edge is stamped in both domains and posted as PPS_EDGE. -/
  | ppsInEdge (sub : Nat)
  /-- REF10_IN_QUALIFIED (R310). REF10_IN has stayed within ±20 ppm of REF25 for 1 s and becomes qualified. -/
  | ref10InQualified
  /-- REF10_IN_DISQUALIFIED (R310). REF10_IN has a missing edge or drifts and is disqualified, raising F076. -/
  | ref10InDisqualified
  /-- CLOCK_MONITOR_CHECK (R434). The 1 µs clock-monitor check of REF25 and the fast clocks, which raises clock faults. -/
  | clockMonitorCheck (ref25 : Bool) (core : Bool) (clove : Bool) (hbm : List Nat) (lanePll : List Nat)
  /-- SUPPLY_OUT_OF_RANGE (R520). A rail stays outside its widened tolerance for 1 µs and F005 is raised. -/
  | supplyOutOfRange (rail : Nat)
  /-- JUNCTION_TEMPERATURE_CROSS (R528). The hottest on-die sensor crosses a threshold: TALERT_N changes, or F006 or F007 is raised. -/
  | junctionTemperatureCross (tenths : Int)
  /-- DOMAIN_POWER_GOOD (R432). A power domain reaches power good and leaves isolation. -/
  | domainPowerGood (dom : Nat) (late : Bool)
  /-- DOMAIN_POWER_FAIL (R432). A domain misses power good or its off state within 10 µs, raising F224 or F225. -/
  | domainPowerFail (dom : Nat) (up : Bool)
  /-- BOOT_IMAGE_CHECKED (R422). The boot ROM finishes loading and checking an image, or enters RECOVERY. -/
  | bootImageChecked
  /-- FW_INIT_DONE (R448). Start-up step 4 ends with the core domains on and the maps restored from the spare record. -/
  | fwInitDone
  /-- FULL_TRAINING_DONE (R359). HBM full training, or T0-T5, completes. -/
  | fullTrainingDone (failed : List Nat) (lanes : List (Nat × Nat))
  /-- START_UP_READY (R448). Start-up reaches READY, or after a warm reset forwarding resumes. -/
  | startUpReady
  /-- WARM_QUIESCE_DONE (R445). The warm-reset quiesce reaches Q5 with the stacks in self-refresh. -/
  | warmQuiesceDone
  /-- WARM_QUIESCE_TIMEOUT (R445). The warm quiesce has not ended at 5 ms, so the reset proceeds and WARM_QUIESCE_LATE advances. -/
  | warmQuiesceTimeout
  /-- FRAME_RECEIVE (R234). A port receives a frame into cells charged to its ingress priority. -/
  | frameReceive (p : Nat) (data : Bytes) (total : Nat)
  /-- PAUSE_FRAME_RECEIVE (R255). A received pause frame stops the paused classes of the port. -/
  | pauseFrameReceive (p : Nat) (mask : Nat) (quanta : List Nat)
  /-- PAUSE_QUANTA_EXPIRY (R255). The received pause time runs out and the paused classes resume. -/
  | pauseQuantaExpiry (p : Nat) (prio : Nat)
  /-- PAUSE_REPEAT (R252). While XOFF holds, the pause frame is repeated every 32,768 quanta. -/
  | pauseRepeat (p : Nat) (prio : Nat)
  /-- REMOTE_FAULT_RECEIVE (R325). Remote-fault ordered sets take the port down. -/
  | remoteFaultReceive (link : Nat)
  /-- PARSER_ENTRY (R32). A packet enters the parser and passes parse, service lookup, classifier, flow stage, action resolution and enqueue. -/
  | parserEntry (p : Nat)
  /-- FRAME_END_CHECK (R47). At a cut-through frame's end the deferred checks run, and the tail is stomped or discarded. -/
  | frameEndCheck (p : Nat) (rest : Bytes)
  /-- ADMISSION_QUEUE_START (R116). The head of an admission queue starts its miss once its resources are free. -/
  | admissionQueueStart (pl : Nat)
  /-- ADMISSION_QUEUE_WAIT_EXPIRY (R117). A packet that has waited the hold limit in the admission queue takes the OVERFLOW action. -/
  | admissionQueueWaitExpiry (pl : Nat) (index : Nat)
  /-- BULK_INDEX_RETURN (R91). An index line returns and the bulk lookup matches fingerprints, reads records or finds the record absent. -/
  | bulkIndexReturn (l : Nat)
  /-- BULK_RECORD_RETURN (R91). Record lines return and the lookup finds the flow's record or goes on. -/
  | bulkRecordReturn (l : Nat)
  /-- SQUASH_RECORD_PLACE (R128). A squashed record that found no place is placed on the first clock on which one exists. -/
  | squashRecordPlace (l : Nat)
  /-- UNDO_APPLY (R126). Once every claimed entry is filled, the undo log is applied in descending SEQ. -/
  | undoApply (l : Nat)
  /-- SUBSCRIBER_CONTEXT_RETURN (R93). The subscriber-context line returns and confirmation checks the limit and claims the slot. -/
  | subscriberContextReturn (l : Nat)
  /-- CONFIRM (R127). Once the index and reverse-map writes are accepted and SIGNAL DONE and the GATE nodes complete, the flow is confirmed and its held packets spliced. -/
  | confirm (l : Nat)
  /-- RERUN_PARSER_ENTRY (R128). A held packet re-enters the parser as a re-run after a squash or deferral. -/
  | rerunParserEntry (pl : Nat)
  /-- HOLD_DEADLINE_EXPIRY (R131). A provisional entry reaches its hold deadline without a bulk answer and takes the expiry action. -/
  | holdDeadlineExpiry (l : Nat)
  /-- RECIRCULATION_ENTRY (R64). A recirculated or hairpinned packet re-enters the parser for another pass. -/
  | recirculationEntry (pl : Nat)
  /-- INBOUND_MAP_RETURN (R179). The map entry read for an inbound alias miss returns and the packet re-enters the flow stage. -/
  | inboundMapReturn (pl : Nat) (index : Nat)
  /-- INBOUND_LIST_WAIT_EXPIRY (R179). A packet that has waited the hold limit in the inbound list takes the miss-overflow action. -/
  | inboundListWaitExpiry (pl : Nat) (index : Nat)
  /-- SCHEDULER_SELECTION (R273). A port scheduler selects a frame from its eligible queues and dequeues it for transmission. -/
  | schedulerSelection (p : Nat)
  /-- REORDER_RELEASE (R508). A frame held for reordering is sent after DEPTH frames or REORDER_WAIT. -/
  | reorderRelease (p : Nat)
  /-- AGER_VISIT (R258). The ager visits a non-empty queue and discards expired head frames. -/
  | agerVisit (q : Nat)
  /-- PARK_TIMER_EXPIRY (R263). A down port's park timer expires and its queues are flushed. -/
  | parkTimerExpiry (p : Nat)
  /-- MC_RESIDUE_RECHECK (R259). Every 1 µs the residue list is re-examined and ready destinations are enqueued. -/
  | mcResidueRecheck
  /-- RECLAIM_SCAN (R246). The reclaim scan frees cells whose allocation stamp is old enough. -/
  | reclaimScan
  /-- POOL_CELL_MOVE (R236). The pool manager moves a free cell from a shrinking pool to a growing pool. -/
  | poolCellMove
  /-- FREE_LIST_REBUILD_DONE (R247). A pool's free list, broken by an uncorrectable header, has been rebuilt. -/
  | freeListRebuildDone
  /-- INJECT_DESCRIPTOR (R416). The device takes the head inject descriptor of a queue once HOST cells are available. -/
  | injectDescriptor (q : Nat) (desc : Option Bytes) (data : Option Bytes)
  /-- PUNT_DELIVERY (R417). A punted frame is written by DMA to a posted buffer, or dropped if none is posted. -/
  | puntDelivery (q : Nat) (entry : Option Bytes) (ok : Bool)
  /-- EVENT_RING_WRITE (R414). A backlogged event is written to the event ring when room appears. -/
  | eventRingWrite
  /-- SUMMARY_DMA_DONE (R420). A SUMMARY written by DMA completes and SUM_CTRL.DONE is set. -/
  | summaryDmaDone (ok : Bool)
  /-- TASK_DISPATCH (R148). The task scheduler dispatches ready tasks to free engines, which execute them. -/
  | taskDispatch
  /-- HBM_NODE_COMPLETION (R141). An HBM or service node completes when its data return or its write is accepted. -/
  | hbmNodeCompletion (c : Nat) (node : Nat)
  /-- WAIT_EVENT_TIMER (R141). A WAIT_EVENT TIMER node completes IMM ns after it became ready. -/
  | waitEventTimer (c : Nat) (node : Nat)
  /-- GRAPH_TIMEOUT (R155). An instance's ELAPSED reaches TIMEOUT and the kind's timeout action applies. -/
  | graphTimeout (c : Nat)
  /-- SPILL_RING_REFILL (R150). The scheduler reads 16 descriptors from a spill ring into free on-die slots. -/
  | spillRingRefill (level : Nat)
  /-- ENGINE_SELF_TEST (R159). An engine runs its 50 µs built-in self-test. -/
  | engineSelfTest (engine : Nat) (ok : Bool)
  /-- SPARE_ENGINE_JOIN (R159). A spare engine joins the working set after an engine fault. -/
  | spareEngineJoin
  /-- ENGINE_CLOCK_GATE (R160). An engine idle for 10 µs under FRUGAL is clock-gated. -/
  | engineClockGate (engine : Nat)
  /-- BULK_SWEEP_VISIT (R97). The bulk sweep visits a bucket and removes expired flows. -/
  | bulkSweepVisit
  /-- HOT_SWEEP_VISIT (R98). The hot sweep visits a set, evicting expired NOSLOT entries and writing back unwritten bodies. -/
  | hotSweepVisit
  /-- HOT_TIER_SCRUB (R103). The state-SRAM scrub reads entries and corrects or invalidates them. -/
  | hotTierScrub (bad : List (Nat × Nat)) (lruBad : Bool)
  /-- HOT_BLOCK_SET_COPY (R88). One set of a retiring hot block is copied under its lock. -/
  | hotBlockSetCopy
  /-- MIGRATION_FLUSH (R105). The FLUSH phase writes back an unwritten hot body. -/
  | migrationFlush
  /-- MIGRATION_COPY_BUCKET (R105). The migration copies one old bucket into the new index, at MIG_RATE. -/
  | migrationCopyBucket
  /-- MAP_SWEEP_VISIT (R176). The map sweep visits an allocated block, reclaims expired HOLD ports and frees empty blocks. -/
  | mapSweepVisit
  /-- COUNTER_FOLD (R193). The on-die accumulators are folded into HBM. -/
  | counterFold
  /-- POOL_AUDIT_END (R197). The audit ends and the shadows replace FLOWS and ACTIVE. -/
  | poolAuditEnd
  /-- FREE_BLOCK_PUSH (R459). Firmware pushes newly owned free blocks onto the rings after HOME_MAP changes. -/
  | freeBlockPush
  /-- LEARN_APPLY (R215). The learn engine applies one learn request or host change. -/
  | learnApply
  /-- L2_AGEING_VISIT (R216). The L2 ageing sweep visits an entry and clears HIT or removes it. -/
  | l2AgeingVisit (idx : Nat)
  /-- LOOKUP_TABLE_SCRUB (R207). The scrub reads service, L2 and CAM entries and invalidates failing ones. -/
  | lookupTableScrub (fail : Option (Nat × Nat))
  /-- TCAM_SCRUB (R53). The scrub reads TCAM and parser entries and handles parity errors. -/
  | tcamScrub (fail : Option (Nat × Bool × Nat))
  /-- TWIN_REPAIR (R53). A TCAM copy that fails parity is rewritten from its twin. -/
  | twinRepair (b : Bool) (n : Nat)
  /-- TWIN_COPY_DONE (R67). The primaries are copied to the twin half, and DUP_ACTIVE is reported. -/
  | twinCopyDone
  /-- TWIN_HALF_CLEAR_DONE (R67). After leaving ASSURED the other TCAM half is cleared. -/
  | twinHalfClearDone
  /-- EPOCH_BANK_DRAINED (R59). A DRAINING bank's in-flight count reaches 0, the bank becomes SHADOW and EPOCH_DRAINED is posted. -/
  | epochBankDrained
  /-- DRAINED_COMMIT_BOUNDARY (R62). The active bank has drained, so the new MODE word takes effect and the boundary is placed. -/
  | drainedCommitBoundary
  /-- DRAIN_LIMIT_EXPIRY (R63). A drained commit misses DRAIN_LIMIT and is abandoned with TIMEOUT. -/
  | drainLimitExpiry
  /-- GATE_LIST_START (R284). The active time reaches START, the gate buffers swap and GATE_ADOPTED is posted. -/
  | gateListStart (p : Nat)
  /-- GATE_ENTRY_CHANGE (R281). The cycle position passes to the next gate-list entry and its gate states apply. -/
  | gateEntryChange (p : Nat)
  /-- SAMPLE_INSTANT (R289). A sampler takes a depth and delay sample of its queue. -/
  | sampleInstant (idx : Nat)
  /-- SCHEDULER_SCRUB (R292). The scrub reads scheduler, shaper, launch and gate-list records. -/
  | schedulerScrub (fail : Option (Nat × Nat))
  /-- AON_TICK (R298). Every 80 ns both time domains advance and their copies are compared. -/
  | aonTick (domUpset : Option (Nat × Nat)) (maceUpset : Bool)
  /-- SERVO_UPDATE (R536). An offset measurement of a domain's servo updates its count and its correction. -/
  | servoUpdate (d : Nat) (offset : Int)
  /-- SYNC_WATCHDOG_EXPIRY (R307). A domain's Sync watchdog expires, the domain enters HOLDOVER and may trigger a switchover. -/
  | syncWatchdogExpiry (d : Nat)
  /-- SWITCHOVER (R309). On the first tick after a trigger the active domain changes by slew or step. -/
  | switchover
  /-- SLEW_COMPLETE (R309). RESID reaches 0 and SLEWING clears. -/
  | slewComplete
  /-- REVERT_TIMER (R301). The former domain has been LOCKED for REVERT_S and a switch back starts. -/
  | revertTimer
  /-- PPS_OUT_EDGE (R310). A rising PPS_OUT edge at each SEC carry of the selected domain. -/
  | ppsOutEdge
  /-- RCLK_RESUME (R310). A squelched recovered-clock output resumes 10 ms after relock. -/
  | rclkResume (out : Nat)
  /-- LANE_SIGNAL_DETECTED (R323). Energy detected for 10 µs moves a lane to CDR_LOCK. -/
  | laneSignalDetected (lane : Nat)
  /-- LANE_CDR_LOCK (R323). CDR lock held for 10 µs moves a lane to POLARITY. -/
  | laneCdrLock (lane : Nat)
  /-- LANE_POLARITY_FOUND (R323). The pattern is found in one polarity and the lane enters EQ_ADAPT. -/
  | lanePolarityFound (lane : Nat) (inverted : Bool)
  /-- LANE_EQ_CONVERGED (R323). Adaptation converges with margin at or above the floor. -/
  | laneEqConverged (lane : Nat) (margin : Nat) (ctle : Nat) (dfe : Byte) (ffe : Bytes)
  /-- LANE_ORDER_IDENTIFIED (R323). All lanes of the port are identified and deskewed. -/
  | laneOrderIdentified (link : Nat) (perm : Bytes)
  /-- FEC_ALIGN_LOCK (R323). FEC codeword and alignment lock is reached and the port enters LINK_UP. -/
  | fecAlignLock (link : Nat)
  /-- LANE_STAGE_LIMIT_EXPIRY (R323). A bring-up state limit passes, F082 is raised and the lanes return to SIGNAL_DETECT. -/
  | laneStageLimitExpiry (lane : Nat)
  /-- LANE_LOSS_OF_SIGNAL (R325). Loss of signal for LOS_DEBOUNCE takes the port down. -/
  | laneLossOfSignal (lane : Nat)
  /-- LANE_CDR_LOSS (R325). A lane loses CDR lock and the port goes down. -/
  | laneCdrLoss (lane : Nat)
  /-- FEC_LOCK_LOSS (R325). The port loses FEC or alignment-marker lock and goes down. -/
  | fecLockLoss (link : Nat)
  /-- UNCORR_WINDOW_END (R325). The 1 ms window ends with uncorrectable codewords above UNCORR_MAX, raising F087. -/
  | uncorrWindowEnd (p : Nat) (cw : Nat) (corr : Nat) (uncorr : Nat)
  /-- RETRAIN_GAP_EXPIRY (R326). RETRAIN_GAP passes and the lanes enter a retrain attempt. -/
  | retrainGapExpiry (link : Nat)
  /-- RETRAIN_ATTEMPT_END (R326). A fast retrain attempt succeeds or fails within 500 µs. -/
  | retrainAttemptEnd (link : Nat) (ok : Bool)
  /-- MARGIN_MEASUREMENT (R328). Every 1 ms a lane's MARGIN is measured and judged for degradation. -/
  | marginMeasurement (lane : Nat) (margin : Nat) (corr : Nat) (syms : Nat)
  /-- STEERING_BLOCK_RECEIVE (R329). A steering block is received on the spare lane and its stable fields are acted on. -/
  | steeringBlockReceive (g : Nat) (blk : Bytes)
  /-- SWAP_ACK_TIMEOUT (R331). No ACK arrives within 20 µs and the swap is refused. -/
  | swapAckTimeout (g : Nat)
  /-- SWAP_ADAPTATION_DONE (R330). The spare's fine adaptation completes and the lane map is remapped. -/
  | swapAdaptationDone (g : Nat)
  /-- SPARE_READY (R323). A spare in SPARE_TRAIN reaches the floor and becomes SPARE_READY. -/
  | spareReady (g : Nat) (margin : Nat) (ctle : Nat) (dfe : Byte) (ffe : Bytes)
  /-- SPARE_TRAIN_TIMEOUT (R330). A former lane is not SPARE_READY within 300 ms and becomes FAILED. -/
  | spareTrainTimeout (lane : Nat)
  /-- LANE_PLL_LOSS (R318). A lane PLL loses lock and takes down every lane on it. -/
  | lanePllLoss (g : Nat) (pll : Nat)
  /-- HBM_ISSUE_SLOT (R356). A PC controller chooses and issues one request in an issue slot. -/
  | hbmIssueSlot (pc : Nat)
  /-- HBM_REFRESH_SLOT (R349). A per-bank refresh is issued, or postponed up to 8 times. -/
  | hbmRefreshSlot (pc : Nat)
  /-- HBM_WRITE_ACCEPT (R357). A write enters its PC's write queue and is accepted. -/
  | hbmWriteAccept (pc : Nat)
  /-- HBM_READ_RETURN (R361). Read data return and SC-256 corrects them or finds them uncorrectable. -/
  | hbmReadReturn (pc : Nat)
  /-- HBM_READ_RETRY (R361). An uncorrectable line is read again after a pause, up to 3 times. -/
  | hbmReadRetry (pc : Nat)
  /-- RETRAINING_VISIT (R358). A periodic retraining visit pauses a PC and adjusts its strobe delays. -/
  | retrainingVisit (pc : Nat) (margins : Bytes)
  /-- PC_MIGRATION_COPY (R363). The copy cursor moves a line of the retiring PC to the spare. -/
  | pcMigrationCopy (stack : Nat)
  /-- PC_REMAP (R363). The cursor ends and the logical PC is remapped to the spare. -/
  | pcRemap (stack : Nat)
  /-- TEMPERATURE_POLL (R350). Each stack's temperature is read and the refresh mode is set. -/
  | temperaturePoll (stack : Nat) (reading : Option Int)
  /-- PATROL_SCRUB (R361). Patrol scrub reads a line and writes back corrections. -/
  | patrolScrub
  /-- FREQUENCY_CHANGE_DONE (R360). An HBM rate change completes T5 and issue resumes. -/
  | frequencyChangeDone (failed : List Nat) (lanes : List (Nat × Nat))
  /-- MACE_EVENT (R378). A fault event reaches Mace and is counted in its source's window. -/
  | maceEvent
  /-- MACE_SUBWINDOW_ROLL (R379). A source's sub-window ends and its oldest count leaves the window. -/
  | maceSubwindowRoll (src : Nat)
  /-- PIPELINE_SWAP_DONE (R487). Step P7 passes the pending cells to the spare and resumes the block's queues. -/
  | pipelineSwapDone
  /-- TCAM_BLOCK_SWAP_DONE (R387). A TCAM block copy commits and the spare block replaces it. -/
  | tcamBlockSwapDone
  /-- SRAM_ROW_REPLACE_DONE (R387). A failing SRAM row is replaced by a spare row. -/
  | sramRowReplaceDone
  /-- SENTINEL_RUN (R393). Every 50 µs a pipeline runs a sentinel and compares its signature. -/
  | sentinelRun (pl : Nat) (ok : Bool)
  /-- CVU_STREAM_DONE (R375). A STREAM window or region pass ends and the result is compared with EXPECT. -/
  | cvuStreamDone (u : Nat) (data : Bytes)
  /-- PORT_QUIET_ENTER (R437). A port idle for QUIET_IDLE puts its lanes in quiet. -/
  | portQuietEnter (p : Nat)
  /-- PORT_DOZE_ENTER (R437). A port idle for DOZE_IDLE puts its lanes in doze. -/
  | portDozeEnter (p : Nat)
  /-- PORT_WAKE (R437). An enqueue, partner wake, inject or FRUGAL clear wakes a sleeping port. -/
  | portWake (p : Nat)
  /-- DOZE_WAKE_TIMEOUT (R437). A doze wake has not reached LINK_UP within 2 ms and becomes a link-down event. -/
  | dozeWakeTimeout (p : Nat)
  /-- PIPELINE_CLOCK_GATE (R438). A pipeline half idle for CG_IDLE is clock-gated. -/
  | pipelineClockGate (pl : Nat) (half : Nat)
  /-- PIPE_DOMAIN_POWER_GATE (R438). A PIPE domain whose pipelines all qualify is power-gated. -/
  | pipeDomainPowerGate (dom : Nat)
  /-- STANDBY_ENTERED (R442). Standby entry finishes its drain and the domains go off. -/
  | standbyEntered
  /-- STANDBY_EXIT_DONE (R442). Standby exit completes and forwarding resumes. -/
  | standbyExitDone (failed : List Nat) (lanes : List (Nat × Nat))
  /-- WEAR_SAMPLE (R489). Firmware samples the wear monitors. -/
  | wearSample (ro : List Nat)
  /-- SPARE_POLICY_EVALUATION (R491). The hourly policy evaluation projects wear and starts or records pre-emptive swaps. -/
  | sparePolicyEvaluation
  /-- SPARE_WINDOW_OPEN (R491). The daily window opens and a pending pre-emptive swap starts. -/
  | spareWindowOpen
  /-- TRACE_RECORD_WRITE (R504). A record from a trace FIFO is written to the trace buffer. -/
  | traceRecordWrite
  /-- IMPAIR_ARM_TIME_EXPIRY (R510). ARM_TIME passes and the unit disarms. -/
  | impairArmTimeExpiry (p : Nat)
  /-- IMPAIR_TOKEN_EXPIRY (R509). An arming token becomes void 10 s after its REQUEST. -/
  | impairTokenExpiry
  /-- CHAIN_BLOCK_RECEIVE (R456). A chain-link block is received, acknowledged or NAKed, and credits returned. -/
  | chainBlockReceive (g : Nat) (blk : Bytes) (bad : Bool)
  /-- CHAIN_RETRANSMIT_EXHAUSTED (R456). After 3 unacknowledged retransmits the chain link is down. -/
  | chainRetransmitExhausted (g : Nat)
  /-- CONTROL_FRAME_SEND (R457). A member sends a CONTROL frame on each chain group every 10 µs. -/
  | controlFrameSend
  /-- CONTROL_FRAME_RECEIVE (R457). A CONTROL frame is received and checked. -/
  | controlFrameReceive (g : Nat)
  /-- FLOW_FRAME_ARRIVAL (R461). A FLOW chain frame reaches its home and runs the flow stage there. -/
  | flowFrameArrival (g : Nat)
  /-- RESULT_FRAME_ARRIVAL (R461). A RESULT chain frame reaches its egress member and is enqueued. -/
  | resultFrameArrival (g : Nat)
  /-- WRAP_TIMEOUT_EXPIRY (R466). The wrap timer expires and traffic routes the other way round. -/
  | wrapTimeoutExpiry (g : Nat)
  /-- UNWRAP (R466). A link that has stayed up for 1 s ends the wrap. -/
  | unwrap (g : Nat)
  /-- MEMBER_TIMEOUT_EXPIRY (R467). No CONTROL frame from a member for MEMBER_TIMEOUT, so it is declared lost and its homes pass on. -/
  | memberTimeoutExpiry (m : Nat)
  /-- FALLBACK_REBIND (R469). Firmware rewrites the directory entries of moved subscribers to their fallback pool. -/
  | fallbackRebind
  /-- DEV_HEARTBEAT (R401). Clove increases DEV_HEARTBEAT every 1 ms. -/
  | devHeartbeat
  /-- CLOVE_HEARTBEAT_TIMEOUT (R385). The Clove heartbeat is missing for 100 ms and F008 is raised. -/
  | cloveHeartbeatTimeout
  /-- UNKNOWN_OP (R408). A doorbell for a request whose opcode is not defined completes with UNKNOWN_OP and executes nothing. -/
  | unknownOp (op : Nat) (r : YcpReq)
  /-- DOORBELL_WHILE_BUSY (R403). A doorbell or mailbox write to a BUSY mailbox is discarded, OVR is set and F194 is raised. -/
  | doorbellWhileBusy (mbx : Nat)
  /-- TCW_INVALID_OP (R224). A write of TCW_CMD with an undefined OP or TABLE completes with RESULT INVALID. -/
  | tcwInvalidOp (v : BitVec 32)
  /-- OBS_BAD_CMD (R496). An undefined observation-port command byte sets OBS_STATUS.BAD_CMD, and SDO is driven high for the rest of the transaction. -/
  | obsBadCmd (b : Byte)
  /-- FIRMWARE_ASSERTION (R428). A firmware assertion halts Clove in STAGE 15 (HALTED), stops DEV_HEARTBEAT and raises F199 until a reset. -/
  | firmwareAssertion
  /-- PCIE_LINK_UP (R448). The PCIe link completes training and the host can again reach BAR0. -/
  | pcieLinkUp
  /-- PERST_N_RELEASE (R517). PERST_N rises, which releases the HOST domain from reset and lets PCIe link training start. -/
  | perstNRelease
  /-- PRBS_CHECKER_LOCK (R332). A lane pattern checker locks after 1,024 error-free bits and starts counting PRBS_BITS and PRBS_ERR. -/
  | prbsCheckerLock (lane : Nat)
  /-- PRBS_CHECKER_LOSS_OF_LOCK (R332). A pattern checker sees 64 errors in 1,024 bits and reports loss of lock, which under SQ_MODE 1 counts as the lane losing lock. -/
  | prbsCheckerLossOfLock (lane : Nat) (nbits : Nat) (errs : Nat)
  /-- PTP_MASTER_CHANGE (R300). The servo sees a master change in a domain, which moves the domain to ACQUIRING and, for the active domain with AUTO_SWITCH set, triggers a switchover. -/
  | ptpMasterChange (d : Nat)
  /-- PPS_OUT_PULSE_END (R310). PPS_OUT falls when PPS_WIDTH has passed after its rising edge. -/
  | ppsOutPulseEnd
  /-- POOL_AUDIT_WALK (R197). The pool audit, paced at AUDIT_RATE, walks the next hot entries and bulk records and adds them to the shadow counts. -/
  | poolAuditWalk (n : Nat)
  /-- JTAG_ACCESS (R527). The IEEE 1149.1 port executes a TAP instruction such as BYPASS, IDCODE, SAMPLE/PRELOAD, EXTEST, EXTEST_PULSE or EXTEST_TRAIN. -/
  | jtagAccess (ir : Nat)
  /-- PERSISTENT_FAILURE_COLD_RESET (R443). A supply or clock failure that persists 10 ms after a WARM reaction starts a cold reset. -/
  | persistentFailureColdReset
  /-- EVR_INTERRUPT_MODERATION (R401). The MODERATE interval of vector 0 runs out and a pending event-ring interrupt is raised. -/
  | evrInterruptModeration
  deriving DecidableEq, Repr

end Sys2Proof
end

