-- ==== Sys2Proof/Decode.lean ====
section
/-!
DEFINITION. The command that a word of the table spells.
-/
namespace Sys2Proof

/-- The table of operations and events gives no row any bits: a command is an event or a request in a mailbox, not a word.
So every word spells none (log 1). -/
def decodeTableWord (_nbits _w : Nat) : Option Instr := none

end Sys2Proof
end

