-- ==== Sys2Proof/Config.lean ====
section
/-!
DEFINITION. What an implementation fixes and the spec leaves open: constants with no body, so that a statement about them
holds for every value they can take.
-/
namespace Sys2Proof

/-- ID_DEVICE.STEPPING: 0 A0, 1 A1 (R401). -/
opaque Config.stepping : BitVec 4

/-- The device serial number (R401), fixed at manufacture. -/
opaque Config.serial : BitVec 64

/-- Onaro's PCI vendor ID (R399), which the spec does not state (log 2). -/
opaque Config.vendorId : BitVec 16

/-- Which of the CODEs that are left the firmware image assigns to a counter (R499; log 2), by the model's number of the counter. -/
opaque Config.counterCode : Nat → BitVec 12

/-- ECDSA P-256 signature with the identity key, which no path reads out (R425): digest (32) to r then s (64). -/
opaque Config.ecdsaSign : Bytes → Bytes

/-- SHA-256 of the boot ROM (R423). -/
opaque Config.romHash : Bytes

/-- Lengths from which those of the device, intermediate and root certificates are taken (R424, log 75). -/
opaque Config.certificateLen : Nat → Nat

/-- The DER bytes of the three certificates (R424): certificate, then offset. -/
opaque Config.certificateByte : Nat → Nat → Byte

/-- A value the spec leaves open, one for each number of a state's `fresh` counter (log 2). -/
opaque Config.free : Nat → Nat

/-- Signature of the sentinel packet, fixed at manufacture, of a half: pipeline × 2 + half (R393; log 10). -/
opaque Config.sentinelSig : Nat → BitVec 64

/-- FREQ_ADJ that the firmware servo sets after an offset (R536 states no law): domain, offset in units of 2^-48 ns, present value, and
whether REF10_IN is qualified, which a servo of SOURCE 2 uses (R307, R310). -/
opaque Config.servoFreq : Nat → Int → BitVec 32 → Bool → BitVec 32

/-- What one tick must add to a domain's rate to keep it against REF10_IN (R300), in 2^-10 ppb: the measured difference of
REF25 and REF10_IN, by the number of the state's `fresh` counter and the domain (log 77). -/
opaque Config.refDrift : Nat → Nat → Int

/-- The bits of the patterns of IEEE 802.3 that R332 names and does not print: pattern 0–5 (PRBS7, 9, 13, 15, 31, SSPRQ), then
the number of the bit. -/
opaque Config.patternBit : Nat → Nat → Bool

/-- What TRACE_READ gives for a slot of the trace buffer that holds an uncorrectable unit (R501 states nothing; log 84). -/
opaque Config.badSlot : Nat → BitVec 256

end Sys2Proof
end

