-- ==== Sys2Proof/Machine/Bytes.lean ====
section
/-!
DEFINITION. Byte order (R7), bit fields (R6), record layouts and the sparse tables: the helpers every meaning uses.
-/
namespace Sys2Proof.Machine

/-- Little-endian value of a byte string (R7). -/
def leNat : Bytes → Nat
  | [] => 0
  | b :: bs => b.toNat + 256 * leNat bs

/-- `n` little-endian bytes of `v` (R7). -/
def leBytes : Nat → Nat → Bytes
  | 0, _ => []
  | n + 1, v => BitVec.ofNat 8 v :: leBytes n (v / 256)

/-- Big-endian value: packet fields are in network byte order (R7). -/
def beNat (b : Bytes) : Nat := b.foldl (fun a x => a * 256 + x.toNat) 0

/-- `n` big-endian bytes of `v`. -/
def beBytes (n v : Nat) : Bytes := (leBytes n v).reverse

/-- `n` zero bytes. -/
def zeros (n : Nat) : Bytes := List.replicate n 0

/-- Exactly `n` bytes: cut, or zero-padded at the end. -/
def fit (n : Nat) (b : Bytes) : Bytes := b.take n ++ zeros (n - b.length)

/-- Exactly `n` bytes from offset `o`; a byte past the end reads 0. -/
def slice (b : Bytes) (o n : Nat) : Bytes := fit n (b.drop o)

/-- The little-endian field of `n` bytes at offset `o` (R7). -/
def fld (b : Bytes) (o n : Nat) : Nat := leNat (slice b o n)

/-- The big-endian field of `n` bytes at offset `o` (R7, packet fields). -/
def bfld (b : Bytes) (o n : Nat) : Nat := beNat (slice b o n)

/-- Bits [lo+w-1 : lo] of a value (R6). -/
def bits (v lo w : Nat) : Nat := (v >>> lo) % 2 ^ w

/-- Bit `n` of a value (R6). -/
def bit (v n : Nat) : Bool := v.testBit n

/-- `v` with bits [lo+w-1 : lo] replaced by `x`. -/
def putBits (v lo w x : Nat) : Nat := v - (bits v lo w) <<< lo + (x % 2 ^ w) <<< lo

/-- The bytes of `v` written at offset `o`. -/
def put (b : Bytes) (o : Nat) (v : Bytes) : Bytes := b.take o ++ v ++ b.drop (o + v.length)

/-- A little-endian field of `n` bytes written at offset `o`. -/
def putF (b : Bytes) (o n v : Nat) : Bytes := put b o (leBytes n v)

/-- 1 for true. -/
def b2n (b : Bool) : Nat := if b then 1 else 0

/-- The ASCII bytes of a name (R410, R500). -/
def ascii (s : String) : Bytes := s.toList.map fun c => BitVec.ofNat 8 c.toNat

/-- Groups of `n` bytes, `k` of them. -/
def chunks (n : Nat) : Nat → Bytes → List Bytes
  | 0, _ => []
  | k + 1, b => b.take n :: chunks n k (b.drop n)

/-! Record layouts. -/

/-- What the spec says of the encoding of a record: its size in bytes, the bits that must be written 0 (R11) as
(bit offset, width), and the fields with a stated range as (bit offset, width, lowest, highest). -/
structure Layout where
  size : Nat
  resv : List (Nat × Nat) := []
  rng : List (Nat × Nat × Nat × Nat) := []
  deriving DecidableEq, Repr

/-- Every reserved bit of the record is 0 (R11). -/
def Layout.clean (l : Layout) (r : Bytes) : Bool :=
  let v := leNat r
  l.resv.all fun p => bits v p.1 p.2 == 0

/-- Every field lies in its stated range. -/
def Layout.inRange (l : Layout) (r : Bytes) : Bool :=
  let v := leNat r
  l.rng.all fun p => let x := bits v p.1 p.2.1; decide (p.2.2.1 ≤ x ∧ x ≤ p.2.2.2)

/-! Sparse tables. -/

/-- The entry of key `k`, if listed. -/
def tget? {α : Type} : Tbl α → Nat → Option α
  | [], _ => none
  | (k', v) :: t, k => if k' = k then some v else tget? t k

/-- The value of key `k`, the default `d` where it is not listed. -/
def tget {α : Type} (d : α) (t : Tbl α) (k : Nat) : α := (tget? t k).getD d

/-- The table without key `k`. -/
def tdel {α : Type} : Tbl α → Nat → Tbl α
  | [], _ => []
  | (k', v) :: t, k => if k' = k then tdel t k else (k', v) :: tdel t k

/-- The table with key `k` listed as `v`, in key order. -/
def tput {α : Type} : Tbl α → Nat → α → Tbl α
  | [], k, v => [(k, v)]
  | (k', v') :: t, k, v =>
    if k < k' then (k, v) :: (k', v') :: t
    else if k = k' then (k, v) :: t
    else (k', v') :: tput t k v

/-- A write that keeps the canonical form: writing the default removes the entry. -/
def tset {α : Type} [DecidableEq α] (d : α) (t : Tbl α) (k : Nat) (v : α) : Tbl α :=
  if v = d then tdel t k else tput t k v

/-- Every listed key is at least `n`, keys strictly rise, and no entry is the default. -/
def twfFrom {α : Type} [DecidableEq α] (d : α) : Nat → Tbl α → Bool
  | _, [] => true
  | n, (k, v) :: t => decide (n ≤ k) && decide (v ≠ d) && twfFrom d (k + 1) t

/-- The canonical form of a table with default `d`. -/
def twf {α : Type} [DecidableEq α] (d : α) (t : Tbl α) : Bool := twfFrom d 0 t

/-! Memory: the sparse table of bytes (Host.Cell). -/

/-- First byte and size of the FREE_PAIR region (R102). -/
def pairRing : Nat := 0x1800000000
def pairRingSize : Nat := 0x80000000

/-- What a byte that nothing has written reads as: in the pair ring the even slot numbers in order, as FLOW_TABLE_INIT leaves it
(R90); elsewhere 0.  DESIGN CHOICE (log 3): the spec gives HBM and flash no contents at power-on. Unsafe. -/
def memDefault (a : Nat) : Byte :=
  if pairRing ≤ a ∧ a < pairRing + pairRingSize then BitVec.ofNat 8 (2 * ((a - pairRing) / 4) / 256 ^ (a % 4)) else 0

/-- One byte read. -/
def memGet (m : Tbl Byte) (a : Nat) : Byte := tget (memDefault a) m a

/-- `n` bytes read from address `a` upwards. -/
def memRead (m : Tbl Byte) (a : Nat) : Nat → Bytes
  | 0 => []
  | n + 1 => memGet m a :: memRead m (a + 1) n

/-- The bytes written from address `a` upwards. -/
def memWrite (m : Tbl Byte) (a : Nat) : Bytes → Tbl Byte
  | [] => m
  | b :: bs => memWrite (tset (memDefault a) m a b) (a + 1) bs

/-- Every listed address is at least `n`, addresses strictly rise, and no entry is what an unlisted byte reads as. -/
def memWfFrom : Nat → Tbl Byte → Bool
  | _, [] => true
  | n, (k, v) :: t => decide (n ≤ k) && decide (v ≠ memDefault k) && memWfFrom (k + 1) t

/-- The canonical form of a memory. -/
def memWf (m : Tbl Byte) : Bool := memWfFrom 0 m

end Sys2Proof.Machine
end

