-- ==== Sys2Proof/Machine/Crc.lean ====
section
/-!
DEFINITION. The CRCs of R374 under the usual parameter model, SHA-256 (R421, R423) and SC-256 (R369, R370).
-/
namespace Sys2Proof.Machine

/-- `w` bits reversed. -/
def reflect (w v : Nat) : Nat :=
  (List.range w).foldl (fun a i => a + (if v.testBit i then 2 ^ (w - 1 - i) else 0)) 0

/-- One message bit through a CRC register of `w` bits, most significant bit first. -/
def crcBit (w poly : Nat) (r : Nat) (b : Bool) : Nat :=
  let top := r.testBit (w - 1)
  let r' := (r <<< 1) % 2 ^ w
  if top != b then r' ^^^ poly else r'

/-- One message byte. -/
def crcByte (w poly : Nat) (refin : Bool) (r : Nat) (b : Byte) : Nat :=
  let v := if refin then reflect 8 b.toNat else b.toNat
  [7, 6, 5, 4, 3, 2, 1, 0].foldl (fun a i => crcBit w poly a (v.testBit i)) r

/-- The parameters of a CRC (R374). -/
structure CrcParams where
  width : Nat
  poly : Nat
  init : Nat
  refin : Bool
  refout : Bool
  xorout : Nat
  deriving DecidableEq, Repr

/-- The CRC of a byte string (R374). -/
def crc (p : CrcParams) (b : Bytes) : Nat :=
  let r := b.foldl (crcByte p.width (p.poly % 2 ^ p.width) p.refin) (p.init % 2 ^ p.width)
  ((if p.refout then reflect p.width r else r) ^^^ p.xorout) % 2 ^ p.width

/-- Preset 1: CRC-32, the Ethernet FCS. -/
def crc32Params : CrcParams := ⟨32, 0x04C11DB7, 0xFFFFFFFF, true, true, 0xFFFFFFFF⟩
/-- Preset 2: CRC-32C. -/
def crc32cParams : CrcParams := ⟨32, 0x1EDC6F41, 0xFFFFFFFF, true, true, 0xFFFFFFFF⟩
/-- Preset 3: CRC-16/CCITT-FALSE. -/
def crc16Params : CrcParams := ⟨16, 0x1021, 0xFFFF, false, false, 0⟩
/-- Preset 4: CRC-64/XZ. -/
def crc64Params : CrcParams :=
  ⟨64, 0x42F0E1EBA9EA3693, 0xFFFFFFFFFFFFFFFF, true, true, 0xFFFFFFFFFFFFFFFF⟩

/-- The preset parameters of R374, 1 to 4. -/
def crcPreset : Nat → Option CrcParams
  | 1 => some crc32Params
  | 2 => some crc32cParams
  | 3 => some crc16Params
  | 4 => some crc64Params
  | _ => none

def crc32 (b : Bytes) : Nat := crc crc32Params b
def crc32c (b : Bytes) : Nat := crc crc32cParams b
/-- crc32c(data, init) and crc32_ieee(data, init) (R77): INIT replaced, the other parameters kept. -/
def crc32cI (init : Nat) (b : Bytes) : Nat := crc { crc32cParams with init := init } b
def crc32I (init : Nat) (b : Bytes) : Nat := crc { crc32Params with init := init } b
def crc16 (b : Bytes) : Nat := crc crc16Params b
/-- CRC-8, polynomial 0x07, initial 0, no reflection (R488). -/
def crc8 (b : Bytes) : Nat := crc ⟨8, 0x07, 0, false, false, 0⟩ b

/-! SHA-256 over 32-bit words held as Nat. -/

def w32 (n : Nat) : Nat := n % 4294967296

def rotr32 (n v : Nat) : Nat := w32 ((v >>> n) ||| (v <<< (32 - n)))

def sha256K : List Nat :=
  [0x428a2f98, 0x71374491, 0xb5c0fbcf, 0xe9b5dba5, 0x3956c25b, 0x59f111f1, 0x923f82a4, 0xab1c5ed5] ++
  [0xd807aa98, 0x12835b01, 0x243185be, 0x550c7dc3, 0x72be5d74, 0x80deb1fe, 0x9bdc06a7, 0xc19bf174] ++
  [0xe49b69c1, 0xefbe4786, 0x0fc19dc6, 0x240ca1cc, 0x2de92c6f, 0x4a7484aa, 0x5cb0a9dc, 0x76f988da] ++
  [0x983e5152, 0xa831c66d, 0xb00327c8, 0xbf597fc7, 0xc6e00bf3, 0xd5a79147, 0x06ca6351, 0x14292967] ++
  [0x27b70a85, 0x2e1b2138, 0x4d2c6dfc, 0x53380d13, 0x650a7354, 0x766a0abb, 0x81c2c92e, 0x92722c85] ++
  [0xa2bfe8a1, 0xa81a664b, 0xc24b8b70, 0xc76c51a3, 0xd192e819, 0xd6990624, 0xf40e3585, 0x106aa070] ++
  [0x19a4c116, 0x1e376c08, 0x2748774c, 0x34b0bcb5, 0x391c0cb3, 0x4ed8aa4a, 0x5b9cca4f, 0x682e6ff3] ++
  [0x748f82ee, 0x78a5636f, 0x84c87814, 0x8cc70208, 0x90befffa, 0xa4506ceb, 0xbef9a3f7, 0xc67178f2]

/-- The next schedule word from the 16 before it, newest first. -/
def shaNextW (w : List Nat) : Nat :=
  let g (i : Nat) := w.getD i 0
  let s0 := rotr32 7 (g 14) ^^^ rotr32 18 (g 14) ^^^ ((g 14) >>> 3)
  let s1 := rotr32 17 (g 1) ^^^ rotr32 19 (g 1) ^^^ ((g 1) >>> 10)
  w32 (g 15 + s0 + g 6 + s1)

/-- The message schedule: `n` more words, newest first. -/
def shaSchedule : Nat → List Nat → List Nat
  | 0, w => w
  | n + 1, w => shaSchedule n (shaNextW w :: w)

/-- One round on the working variables a–h. -/
def shaRound (v : List Nat) (kw : Nat) : List Nat :=
  let g (i : Nat) := v.getD i 0
  let a := g 0; let e := g 4
  let s1 := rotr32 6 e ^^^ rotr32 11 e ^^^ rotr32 25 e
  let ch := (e &&& g 5) ^^^ ((e ^^^ 4294967295) &&& g 6)
  let t1 := w32 (g 7 + s1 + ch + kw)
  let s0 := rotr32 2 a ^^^ rotr32 13 a ^^^ rotr32 22 a
  let maj := (a &&& g 1) ^^^ (a &&& g 2) ^^^ (g 1 &&& g 2)
  [w32 (t1 + s0 + maj), a, g 1, g 2, w32 (g 3 + t1), e, g 5, g 6]

def shaBlock (h : List Nat) (blk : Bytes) : List Nat :=
  let w := (shaSchedule 48 (((chunks 4 16 blk).map beNat).reverse)).reverse
  let v := (List.zipWith (fun k x => w32 (k + x)) sha256K w).foldl shaRound h
  List.zipWith (fun x y => w32 (x + y)) h v

def shaPad (b : Bytes) : Bytes :=
  let n := b.length
  b ++ [0x80] ++ zeros ((119 - n % 64) % 64) ++ beBytes 8 (8 * n)

def sha256Init : List Nat :=
  [0x6a09e667, 0xbb67ae85, 0x3c6ef372, 0xa54ff53a, 0x510e527f, 0x9b05688c, 0x1f83d9ab, 0x5be0cd19]

/-- SHA-256: a 32-byte big-endian string (R421). -/
def sha256 (b : Bytes) : Bytes :=
  let p := shaPad b
  (((chunks 64 (p.length / 64) p).foldl shaBlock sha256Init).map (beBytes 4)).flatten

/-! SC-256 (R369, R370). -/

/-- Multiplication by α = 0x02 in GF(2^8) with 0x11D. -/
def gfX (a : Nat) : Nat := let b := a <<< 1; if b.testBit 8 then (b ^^^ 0x11D) else b

/-- Product in GF(2^8), by the bits of `b` from the top. -/
def gfMul (a b : Nat) : Nat :=
  [7, 6, 5, 4, 3, 2, 1, 0].foldl (fun r i => gfX r ^^^ (if b.testBit i then a else 0)) 0

/-- α^n. -/
def gfPow : Nat → Nat
  | 0 => 1
  | n + 1 => gfX (gfPow n)

/-- The four check symbols p0–p3 of 32 data symbols: the remainder of d(x) by g(x) (R369). -/
def sc256Check (d : Bytes) : Bytes :=
  (d.foldl (fun (r : List Nat) b =>
    let r0 := r.getD 0 0; let r1 := r.getD 1 0; let r2 := r.getD 2 0; let r3 := r.getD 3 0
    let f := r0 ^^^ b.toNat
    [r1 ^^^ gfMul f 0x0F, r2 ^^^ gfMul f 0x36, r3 ^^^ gfMul f 0x78, gfMul f 0x40]) [0, 0, 0, 0]).map
    (BitVec.ofNat 8)

/-- Syndrome i of 36 received symbols (R370), by Horner's rule at α^i. -/
def sc256Syn (i : Nat) (s : Bytes) : Nat :=
  s.foldl (fun r b => gfMul r (gfPow i) ^^^ b.toNat) 0

/-- What the decoder finds (R370). -/
inductive ScResult where
  | clean (d : Bytes)
  | corrected (d : Bytes)
  | uncorrectable
  deriving DecidableEq, Repr

/-- e with α^e · b = a, below 36, if any (R370's log, limited to the degrees a unit has). -/
def scLog (a b : Nat) : Option Nat := (List.range 36).find? fun e => gfMul (gfPow e) b == a

/-- The SC-256 decoder over 36 symbols (R370). -/
def sc256Decode (s : Bytes) : ScResult :=
  let s0 := sc256Syn 0 s; let s1 := sc256Syn 1 s; let s2 := sc256Syn 2 s; let s3 := sc256Syn 3 s
  if s0 = 0 ∧ s1 = 0 ∧ s2 = 0 ∧ s3 = 0 then .clean (s.take 32)
  else if s0 ≠ 0 ∧ s1 ≠ 0 ∧ gfMul s1 s1 = gfMul s0 s2 ∧ gfMul s2 s2 = gfMul s1 s3 then
    match scLog s1 s0 with
    | some e => .corrected ((s.set (35 - e) ((s.getD (35 - e) 0) ^^^ BitVec.ofNat 8 s0)).take 32)
    | none => .uncorrectable
  else .uncorrectable

end Sys2Proof.Machine
end

