-- ==== Sys2Proof/Machine/PktState.lean ====
section
/-!
DEFINITION. What the pipeline knows of a packet between its stages (chapters 1 to 6).
-/
namespace Sys2Proof.Machine

/-- A header as the walk met it: its node, where it starts, its length and its kind (R32, R34). -/
structure Hdr where
  node : Nat
  /-- The node's record at parse time, by which the deferred checks go (R34, R47). -/
  rule : Bytes
  off : Nat
  len : Nat
  type : Nat
  /-- T (R45). -/
  tot : Nat
  /-- E, where an enclosing accepted header with TOT_EN gives it (R45). -/
  encl : Option Int
  /-- 8 × fragment offset (R36, R45). -/
  frag : Nat
  /-- The value field passes (R45). -/
  valueOk : Bool
  /-- The IPv4 header sum is 0xFFFF (R45). -/
  csumOk : Bool
  deriving DecidableEq, Repr

/-- The side entry of a frame descriptor that carries the packet from stage to stage. -/
structure Pkt where
  /-- 1 bit; R56. The packet is in flight: it has entered the parser and is not yet enqueued. -/
  live : Bool := true
  /-- 5 bits; R14, R17. Pipeline. -/
  pipe : Nat := 0
  /-- 4 bits; R42, R64, R461. Original parse profile: that of the port or of chain arrivals at the first pass. -/
  parse : Nat := 0
  /-- 16 headers; R31. Layer list. -/
  hdrs : List Hdr := []
  /-- 640 bits; R41. Parse vector with its metadata container. -/
  vec : Nat := 0
  /-- 12 bits; R204. Service ID. -/
  service : Nat := 0
  /-- 24 bits; R205. Subscriber ID. -/
  sub : Option Nat := none
  /-- 17 bits; R205. Subscriber meter. -/
  meter : Option Nat := none
  /-- 64 bits; R50. Action word. -/
  action : Nat := 0
  /-- 8 bits; R64, R72, R182. Flow profile. -/
  profile : Nat := 0
  /-- 7 bits; R213. Result of the L2 destination lookup: a port, 64 drop, 65 default. -/
  l2 : Nat := 65
  /-- 18 bits; R204. Default destination of the service: mode and value. -/
  dflt : Nat × Nat := (0, 0)
  /-- 48 B; R73. Canonical key. -/
  key : Bytes := []
  /-- 1 bit; R81. The flow of the packet is standard. -/
  std : Bool := true
  /-- 1 bit; R74. Reverse direction. -/
  rev : Bool := false
  /-- 8 bits; R84. TCP flags; none for a packet that is not TCP. -/
  tcp : Option Nat := none
  /-- 32 bits; R77. h_lo. -/
  hlo : Nat := 0
  /-- 32 bits; R77. h_hi. -/
  hhi : Nat := 0
  /-- 64 bits; R118. When the packet first reached the flow stage in this pass, in ns of the free-running counter. -/
  reached : Nat := 0
  /-- 30 bits; R118, R123, R311. The same in ns of the current second of the active time. -/
  reachedA : Nat := 0
  /-- 27 bits; R179, R180. Map entry found for an inbound packet. -/
  map : Option Nat := none
  /-- 22 bits; R85. Set and way of the standard hot entry that the pass used, with the number of its placement. -/
  loc : Option (Nat × Nat) := none
  /-- 64 bits; R127, R168. ACTION_DATA that the egress rewrite uses. -/
  ad : Option Nat := none
  /-- 2 bits; R189. Colour: 0 green, 1 yellow, 2 red. -/
  colour : Nat := 0
  /-- R122, R189. Meter colour counters that advance when the packet is released: meter key and colour. -/
  colours : List (Nat × Nat) := []
  /-- 1 bit; R120, R188. A meter drops the packet: it is discarded when it is released. -/
  metered : Bool := false
  /-- 16 bits; R128, R130. Undo log whose re-run this packet is. -/
  rerun : Option Nat := none
  /-- 1 bit; R122. Port, parse and rule counters have advanced for the packet. -/
  counted : Bool := false
  /-- 1 bit; R23, R487. The packet's entry in an admission queue or inbound list is uncorrectable. -/
  entryBad : Bool := false
  deriving DecidableEq, Repr

end Sys2Proof.Machine
end

