-- ==== Sys2Proof/Machine/BufState.lean ====
section
/-!
DEFINITION. The state of the shared buffer and the switch core (chapter 8): cells, pools, descriptors, queues, pause,
multicast, mirror sessions and parking.
-/
namespace Sys2Proof.Machine

/-- A cell header (R238), with what a read of the cell would find (R247). -/
structure CellHdr where
  /-- 19 bits; R238 (08). NEXT. -/
  next : Nat := 0x7FFFF
  /-- 1 bit; R238 (08). FREE. -/
  free : Bool := true
  /-- 3 bits; R238 (08). POOL. -/
  pool : Nat := 0
  /-- 5 bits; R238, R240 (08). OWNER. -/
  owner : Nat := 0
  /-- 8 bits; R238, R243 (08). REFCNT. -/
  refcnt : Nat := 0
  /-- 1 bit; R238 (08). LAST. -/
  last : Bool := false
  /-- 8 bits; R238 (08). FILL. -/
  fill : Nat := 0
  /-- 8 bits; R238 (08). ALLOC_T. -/
  allocT : Nat := 0
  /-- R247, R372. Bad symbols in the cell's data: 0 none, 1 correctable, more uncorrectable. -/
  dataBad : Nat := 0
  /-- R247. Bad symbols in the header. -/
  hdrBad : Nat := 0
  /-- R234, R254. Port × 8 + priority that the cell is charged to. -/
  charge : Nat := 0
  deriving DecidableEq, Repr

/-- A free list (R235, R241): buffers freed since reset, newest first, then the never-used ones from `lo` to `hi`. The NEXT field
of each buffer names the one after it (R238, R244). -/
structure FreeList where
  stack : List Nat := []
  lo : Nat := 0
  hi : Nat := 0
  deriving DecidableEq, Repr

/-- A pool record and the levels in force (R237, R245). -/
structure PoolRec where
  /-- 32 bits; R235, R237 (08). COUNT. -/
  count : Nat := 0
  /-- 32 bits; R237 (08); reset none: the default COUNT ÷ 4. WARN_FREE. -/
  warn : Option Nat := none
  /-- 32 bits; R237 (08); reset none: the default COUNT ÷ 8. PRESS_FREE. -/
  press : Option Nat := none
  /-- 32 bits; R237 (08); reset none: the default COUNT ÷ 32. SEV_FREE. -/
  sev : Option Nat := none
  /-- 32 bits; R237 (08); default 0. EXH_FREE. -/
  exh : Nat := 0
  /-- 32 bits; R237 (08); default 1,024. HYST. -/
  hyst : Nat := 1024
  /-- 4 bits; R245 (08); reset 0. Levels in force: bit 0 WARN, 1 PRESSURE, 2 SEVERE, 3 EXHAUSTED. -/
  levels : Nat := 0
  /-- R236 (08); reset 0. Cells the pool holds above its COUNT and still has to give up; negative: cells it still has to get. -/
  owes : Int := 0
  /-- R235 (08). The free list. -/
  free : FreeList := {}
  /-- 17 × 64 × 19 bits; R241 (08); reset empty: a pipeline fills its own at its first allocation. Prefetched free pointers of a
  cell pool, by pipeline. -/
  pre : Tbl (List Nat) := []
  deriving DecidableEq, Repr

/-- A frame or copy descriptor (R244) with the side entries the chapters hang on it. -/
structure Frame where
  /-- The frame's bytes from the destination address through the FCS (R233), as the cells hold them. -/
  data : Bytes := []
  /-- 32 bits; R244 (08). First cell, by index. -/
  head : Nat := 0x7FFFF
  /-- 3 bits; R242 (08). Pool of the first cell, as the frame's holder took it. -/
  cellPool : Nat := 0
  /-- 14 bits; R244 (08). LENGTH. -/
  len : Nat := 0
  /-- 4 bits; R244 (08). TC. -/
  tc : Nat := 0
  /-- FLAGS; R244 (08). -/
  held : Bool := false
  shortAge : Bool := false
  assured : Bool := false
  cut : Bool := false
  launch : Bool := false
  shared : Bool := false
  mirror : Bool := false
  /-- 64 bits; R244, R302. STAMP. -/
  stamp : Nat := 0
  /-- 18 bits; R244 (08). Queue number. -/
  queue : Nat := 0
  /-- 6 bits; R244 (08). Ingress port. -/
  inPort : Nat := 0
  /-- 3 bits; R244 (08). Ingress priority. -/
  inPrio : Nat := 0
  /-- R251 (08). Source: 0-63 port, 64 host injection, 65 recirculation, 66 and 67 chain. -/
  src : Nat := 0
  /-- 32 bits; R244 (08). FLOWREF. -/
  flowref : Nat := 0xFFFFFFFF
  /-- 4 bits; R244 (08). HDR.OWNER of the descriptor. -/
  owner : Nat := 0
  /-- 64 bits; R286 (09). Launch time. -/
  launchTime : Nat := 0
  /-- 32 bits; R377 (13). Payload CRC-32C of ingress, by the PAIR side entry. -/
  pairCrc : Nat := 0
  /-- 14 bits; R377 (13). Offset of the payload after the last accepted header. -/
  payOff : Nat := 0
  /-- 32 bits; R47, R261. The frame is still being received, and this many bytes have arrived. -/
  arrived : Option Nat := none
  /-- 1 bit; R261. An admission has held the frame, or it has been re-run: it is not cut through. -/
  waited : Bool := false
  /-- R262, R306. Egress timestamps of a frame that is cut through, taken as its head leaves: in the active time, and in domains 0
  and 1. -/
  sent : Option (Nat × Nat × Nat) := none
  /-- 1 + 16 bits; R503, R507. Bank and rule that the ingress pass selected; none for a profile default. -/
  rule : Option (Bool × Nat) := none
  /-- 1 bit; R56, R58. Bank bit of the packet. -/
  bank : Bool := false
  /-- 2 bits; R64. Passes made. -/
  pass : Nat := 0
  /-- R416. Host injection: TS_REQ, ONE_STEP and TAG. -/
  tsReq : Bool := false
  oneStep : Bool := false
  tag : Nat := 0
  /-- 192 bits; R303, R304. PTP record of a PTP event frame. -/
  ptp : Option Bytes := none
  /-- R168, R182, R185. What the egress rewrite replaces: offset and bytes. -/
  edits : List (Nat × Bytes) := []
  /-- 4 bits; R21, R260. Mirror session of a mirrored original. -/
  mirrorTo : Option Nat := none
  /-- 8 bits; R417. Punt code of a host copy. -/
  punt : Option Nat := none
  /-- 16 bits; R503. Parse flags. -/
  flags : Nat := 0
  /-- 2 bits; R189. Marked by the meters. -/
  marked : Bool := false
  /-- R247, R372. Bad symbols in the descriptor. -/
  bad : Nat := 0
  /-- R473. The frame's final egress is on another member: chain header bytes to send it with. -/
  chain : Option Bytes := none
  /-- R31–R191. The packet's side entry; none until the frame has entered the parser. -/
  pkt : Option Pkt := none
  deriving DecidableEq, Repr

/-- An output queue (R248–R251). -/
structure QueueSt where
  /-- R248 (08); reset empty. Descriptors, head first. -/
  list : List Nat := []
  /-- 19 bits; R248 (08); reset 0. Depth in cells. -/
  depth : Nat := 0
  /-- 1 bit; R250 (08); reset 0. Congested. -/
  congested : Bool := false
  /-- 68 bits; R251 (08); reset 0. Source map. -/
  srcMap : Nat := 0
  deriving DecidableEq, Repr

/-- A frame in the residue list (R259): its descriptor and the destinations that remain. -/
structure Residue where
  desc : Nat
  mask : BitVec 64
  deriving DecidableEq, Repr

/-- A frame on the wire: the MODEL's own record of what a port sent (log 9). -/
structure TxFrame where
  port : Nat
  data : Bytes
  stomped : Bool := false
  deriving DecidableEq, Repr

/-- A pause frame on the wire: the MODEL's own record of what a port sent (log 9). PRIO 8 is link-level pause. -/
structure PauseOut where
  port : Nat
  prio : Nat
  quanta : Nat
  deriving DecidableEq, Repr

/-- A frame waiting for the host punt DMA (R417). -/
structure PuntItem where
  data : Bytes
  port : Nat
  code : Nat
  kind : Nat
  reason : Nat
  stamp : Nat
  ptp : Option Bytes
  desc : Option Nat := none
  deriving DecidableEq, Repr

/-- A frame of which fewer than 64 bytes have arrived, as the MAC keeps it (R17, R304). -/
structure RxHead where
  data : Bytes
  total : Nat
  stamp : Nat
  ptp : Bytes
  deriving DecidableEq, Repr

/-- The buffer and the switch core. -/
structure BufState where
  /-- 393,216 headers; R233, R238 (08); reset free. Cells whose header is not that of a never-used free cell. -/
  cell : Tbl CellHdr := []
  /-- 6 pools; R235, R237 (08); reset by R235 and R237. Pools that differ from their reset record. -/
  pool : Tbl PoolRec := []
  /-- 458,752 descriptors; R239, R244 (08); reset free. Descriptors in use. -/
  frame : Tbl Frame := []
  /-- 132,096 queues; R248 (08). -/
  queue : Tbl QueueSt := []
  /-- 16 × 16 B; R249 (08); reset by R249. Class records. -/
  cls : Tbl Bytes := []
  /-- 64 × 24 B; R260 (08); reset by R260, other fields DESIGN CHOICE (log 15). Port buffer records. -/
  port : Tbl Bytes := []
  /-- 64 × 8 counts; R254 (08); reset 0. HEADROOM cells in use by port × 8 + priority. -/
  hrUse : Tbl Nat := []
  /-- 64 × 8 bits; R252 (08); reset 0. Priorities in XOFF. -/
  xoff : Tbl Nat := []
  /-- 64 bits; R253 (08); reset 0. Ports whose pending cells hold XOFF. -/
  pendXoff : BitVec 64 := 0
  /-- R17, R234 (01, 08); reset empty. Frames whose first 64 bytes are still arriving, by port. -/
  rxHead : Tbl RxHead := []
  /-- R253 (08); reset empty. Frames received and not yet taken by the parser, by port, oldest first. -/
  rxq : Tbl (List Nat) := []
  /-- 17 × 4 bits; R19 (01); reset 0. Port frames that an ingress half has taken since its last internal one, while both
  waited. -/
  granted : Tbl Nat := []
  /-- 64 × 8 × 16 bits; R255 (08); reset 0. Quanta of received pause still to run, by port × 8 + priority. -/
  rxPause : Tbl Nat := []
  /-- 16,384 × 16 B; R259 (08); reset DESIGN CHOICE 0 (VALID 0, log 15). Multicast groups. -/
  group : Tbl Bytes := []
  /-- 1 bit each; R259 (08); reset 0. Groups that have failed parity. -/
  groupBad : Tbl Nat := []
  /-- 16,384 frames; R259 (08); reset empty. Residue list. -/
  residue : List Residue := []
  /-- 16 × 8 B; R260, R411 (08, 14); reset DESIGN CHOICE 0 (log 15). Mirror sessions. -/
  session : Tbl Bytes := []
  /-- 64 bits; R263 (08); reset 0. Ports whose queues are parked. -/
  parked : BitVec 64 := 0
  /-- 64 × 2 counts; R263, R395 (08, 13); reset 0. The park timer of each parked port, in ticks: those counted, and all since the link
  went down. -/
  parkTicks : Tbl (Nat × Nat) := []
  /-- 64 bits; R264 (08); reset 0. Ports flushed and not yet up. -/
  flushed : BitVec 64 := 0
  /-- 64 bits; R487 (18); reset 0. Ports held by a pipeline swap. -/
  swapHeld : BitVec 64 := 0
  /-- R247 (08); reset none. Pools whose free list is being rebuilt, with the part of the list past the break. -/
  rebuild : Tbl FreeList := []
  /-- R417 (14); reset empty. Frames waiting for the punt DMA, by punt queue, oldest first. -/
  puntq : Tbl (List PuntItem) := []
  /-- R17 (01); reset 0. Egress sequence numbers by port. -/
  txSeq : Tbl Nat := []
  /-- The MODEL's own output: frames the ports have sent, oldest first (log 9); reset empty. -/
  tx : List TxFrame := []
  /-- The MODEL's own output: pause frames the ports have sent, oldest first (log 9); reset empty. -/
  pauseOut : List PauseOut := []
  /-- R262 (08); reset empty. Descriptor that a port is cutting through, by port. -/
  inTx : Tbl Nat := []
  deriving DecidableEq, Repr

end Sys2Proof.Machine
end

