-- ==== Sys2Proof/Machine/Counters.lean ====
section
/-!
DEFINITION. Every counter and gauge the chapters declare readable (R28, R71, R111, R131, R163, R201, R231, R267, R295,
R314, R339, R366, R397, R429, R451, R472, R493, R512), with the number of its instances (R499).
-/
namespace Sys2Proof.Machine

/-- A counter or gauge, under the name its chapter gives it. -/
inductive Ctr where
  | HOT_HIT
  | HOT_MISS
  | PARSE_DEPTH
  | MALFORMED
  | PARSE_PARITY
  | RECIRC_LIMIT
  | RULE_PKTS
  | RULE_BYTES
  | CLS_DEFAULT_PKTS
  | CLS_DEFAULT_BYTES
  | CLS_MISMATCH
  | CUT_STOMP
  | FLOW_NOKEY
  | HOT_SET_FULL
  | HOT_EVICT
  | HOT_WB
  | HIST_MISSED
  | HOT_CE
  | HOT_UE
  | HOT_META_PE
  | BULK_FALSE_FP
  | BULK_OVF_READ
  | BULK_OVF_INSERT
  | BULK_FULL
  | BULK_CE
  | IDX_UE
  | REC_UE
  | RING_UE
  | AGE_EXPIRED
  | SWEEP_LATE
  | MIG_MOVED
  | MIG_ORPHAN
  | MIG_DROP
  | ADM_START
  | ADM_CONFIRM
  | ADM_SQUASH
  | ADM_RERUN
  | ADM_DEFER
  | ADM_OVF_ORDER
  | HOLD_EXP_FLOWS
  | HOLD_EXP_PKTS
  | MISS_OVF
  | ADM_QWAIT_EXP
  | ADM_REJECT_PKTS
  | ADM_ABANDON
  | ADM_ABANDON_PKTS
  | ADM_EXP_CONFLICT
  | UNDO_APPLIED
  | UNDO_STALE
  | UNDO_LOST
  | HOLD_CELLS
  | TASK_READY
  | TASK_DISPATCH
  | SPILL_WRITE
  | SPILL_READ
  | BP_ENTER
  | SPILL_DEPTH
  | GRAPH_START
  | GRAPH_RETIRE
  | GRAPH_TIMEOUT
  | GRAPH_CANCEL
  | CTX_IN_USE
  | CANCEL_RACE
  | SPAWN_DROP
  | HOT_GONE
  | NODE_FAULT
  | TCP_SKIP
  | ENGINE_CYCLES
  | XLAT_NEW
  | XLAT_REUSE
  | XLAT_NOIDX
  | XLAT_NOPORT
  | XLAT_BLOCK_ALLOC
  | XLAT_BLOCK_FREE
  | XLAT_NOMAP
  | XLAT_FILTERED
  | XLAT_HAIRPIN
  | XLAT_ALIAS_MISS
  | LB_PICK
  | LB_NOBACKEND
  | LB_DOWN_DROP
  | METER_GREEN_PKTS
  | METER_GREEN_BYTES
  | METER_YELLOW_PKTS
  | METER_YELLOW_BYTES
  | METER_RED_PKTS
  | METER_RED_BYTES
  | FLOW_BLOCKED
  | XLAT_NOADDR
  | EXPORT_REC
  | EXPORT_DROP
  | XLAT_MAPFAIL
  | AUDIT_FIX
  | SVC_INVALID
  | SVC_PARITY
  | SUB_NONE
  | SUB_RANGE
  | L2_DST_MISS
  | L2_SAME_PORT
  | LEARN_NEW
  | LEARN_DUP
  | LEARN_DROP
  | LEARN_FULL
  | L2_MOVE_CAND
  | L2_MOVE
  | L2_STATIC_VIOL
  | L2_AGED
  | L2_PARITY
  | L2_BAD_SMAC
  | CAM_SEARCHES
  | CAM_HITS
  | TIE
  | CAM_PARITY
  | SUBCTX_UE
  | LINK_FLAP
  | TX_ABORT
  | PORT_DOWN_DROP
  | MIRROR_SKIP
  | PUNT_SKIP
  | POOL_CROSS
  | RX_OVERSIZE
  | MC_RESIDUE_AGED
  | PAUSE_TX
  | PAUSE_RX
  | RX_NOBUF
  | HR_OVERRUN
  | AGE_DROP
  | POOL_WARN
  | BUF_BAD_PTR
  | BUF_DOUBLE_FREE
  | BUF_WRONG_OWNER
  | BUF_RECLAIM
  | BUF_CE
  | BUF_UE
  | MC_BAD_GROUP
  | MC_FORCED
  | MC_REF_LIMIT
  | LAUNCH_LATE_SENT
  | LAUNCH_LATE_DROP
  | GATE_OVERSIZE
  | GATE_TIME_JUMP
  | SCHED_SELECT
  | SCHED_UNATTACHED
  | SAMPLE_DROP
  | SAMPLE_REC
  | SCHED_PARITY
  | SCHED_STATE_PE
  | PTP_RX_TS
  | PTP_TX_TS
  | PTP_ONESTEP
  | PTP_TC
  | TS_DROP
  | SYNC_TIMEOUT_CNT
  | TIME_STEP
  | TIME_SWITCH
  | TIME_NOSWITCH
  | PPS_IN_EDGES
  | REF10_LOSS
  | LANE_LOS
  | LANE_LOL
  | LANE_RETRAIN
  | LANE_DEGRADE
  | FEC_SYM_ERR
  | PRBS_BITS
  | PRBS_ERR
  | FEC_CW
  | FEC_CW_CORR
  | FEC_CW_UNCORR
  | RX_FCS_ERR
  | LINK_DOWN
  | LANE_SWAP
  | REMOTE_FAULT
  | SWAP_REFUSED
  | LINE_RD
  | LINE_WR
  | ROW_HIT
  | ROW_MISS
  | RAW_FWD
  | PANIC_ISSUE
  | REFRESH
  | HBM_CE
  | HBM_UE
  | LANE_REPAIR
  | SHARE_OPS
  | SHARE_BORROW
  | REQ_OPS
  | REQ_PANIC
  | PC_RETIRE
  | MEM_FREQ_CHANGE
  | FABRIC_CE
  | FABRIC_UE
  | INJECT_DONE
  | CVU_CHECKS
  | CVU_MISMATCH
  | SENTINEL_RUN
  | SENTINEL_FAIL
  | SAFE_ENTER
  | SAFE_ABORT
  | SAFE_DROP
  | ASSURED_UNCHECKED
  | EVENTS
  | MBX_CMDS
  | MBX_ERRORS
  | MBX_REPLAYS
  | INJ_FRAMES
  | INJ_ERRORS
  | PUNT_FRAMES
  | PUNT_DROP
  | EVR_DROP
  | SUMMARIES
  | CFG_COUNT
  | LPI_ENTER
  | LPI_WAKE
  | DOZE_ENTER
  | PIPE_CG
  | PIPE_PG
  | DOMAIN_ON
  | WARM_QUIESCE_LATE
  | STANDBY_ENTER
  | FLOW_FWD
  | RESULT_FWD
  | CHAIN_RX
  | CHAIN_RETX
  | CHAIN_NOT_JOINED
  | RING_WRAP
  | CHAIN_HOME_LOST
  | PL_SWAP_DROP
  | SPARE_SWAP
  | PROACTIVE_SWAP
  | OTP_LOG_BAD
  | IMP_DROP
  | IMP_CORRUPT
  | IMP_REORDER
  | ARMS
  | TRC_LOST
  deriving DecidableEq, Repr

/-- Part 0 of the counter table. -/
def ctrTable0 : List (Ctr × String × Nat × Bool) :=
  [(.HOT_HIT, "HOT_HIT", 17, false), (.HOT_MISS, "HOT_MISS", 17, false), (.PARSE_DEPTH, "PARSE_DEPTH", 64, false),
   (.MALFORMED, "MALFORMED", 1024, false), (.PARSE_PARITY, "PARSE_PARITY", 64, false), (.RECIRC_LIMIT, "RECIRC_LIMIT", 64, false),
   (.RULE_PKTS, "RULE_PKTS", 131072, false), (.RULE_BYTES, "RULE_BYTES", 131072, false), (.CLS_DEFAULT_PKTS, "CLS_DEFAULT_PKTS", 64, false),
   (.CLS_DEFAULT_BYTES, "CLS_DEFAULT_BYTES", 64, false), (.CLS_MISMATCH, "CLS_MISMATCH", 17, false), (.CUT_STOMP, "CUT_STOMP", 64, false),
   (.FLOW_NOKEY, "FLOW_NOKEY", 17, false), (.HOT_SET_FULL, "HOT_SET_FULL", 17, false), (.HOT_EVICT, "HOT_EVICT", 1, false),
   (.HOT_WB, "HOT_WB", 1, false), (.HIST_MISSED, "HIST_MISSED", 1, false), (.HOT_CE, "HOT_CE", 1, false),
   (.HOT_UE, "HOT_UE", 1, false), (.HOT_META_PE, "HOT_META_PE", 1, false), (.BULK_FALSE_FP, "BULK_FALSE_FP", 1, false),
   (.BULK_OVF_READ, "BULK_OVF_READ", 1, false), (.BULK_OVF_INSERT, "BULK_OVF_INSERT", 1, false), (.BULK_FULL, "BULK_FULL", 1, false)]

/-- Part 1 of the counter table. -/
def ctrTable1 : List (Ctr × String × Nat × Bool) :=
  [(.BULK_CE, "BULK_CE", 1, false), (.IDX_UE, "IDX_UE", 1, false), (.REC_UE, "REC_UE", 1, false),
   (.RING_UE, "RING_UE", 1, false), (.AGE_EXPIRED, "AGE_EXPIRED", 1, false), (.SWEEP_LATE, "SWEEP_LATE", 1, false),
   (.MIG_MOVED, "MIG_MOVED", 1, false), (.MIG_ORPHAN, "MIG_ORPHAN", 1, false), (.MIG_DROP, "MIG_DROP", 1, false),
   (.ADM_START, "ADM_START", 17, false), (.ADM_CONFIRM, "ADM_CONFIRM", 17, false), (.ADM_SQUASH, "ADM_SQUASH", 17, false),
   (.ADM_RERUN, "ADM_RERUN", 17, false), (.ADM_DEFER, "ADM_DEFER", 17, false), (.ADM_OVF_ORDER, "ADM_OVF_ORDER", 17, false),
   (.HOLD_EXP_FLOWS, "HOLD_EXP_FLOWS", 16, false), (.HOLD_EXP_PKTS, "HOLD_EXP_PKTS", 16, false), (.MISS_OVF, "MISS_OVF", 16, false),
   (.ADM_QWAIT_EXP, "ADM_QWAIT_EXP", 16, false), (.ADM_REJECT_PKTS, "ADM_REJECT_PKTS", 16, false), (.ADM_ABANDON, "ADM_ABANDON", 1, false), (.ADM_ABANDON_PKTS, "ADM_ABANDON_PKTS", 1, false),
   (.ADM_EXP_CONFLICT, "ADM_EXP_CONFLICT", 1, false), (.UNDO_APPLIED, "UNDO_APPLIED", 1, false), (.UNDO_STALE, "UNDO_STALE", 1, false)]

/-- Part 2 of the counter table. -/
def ctrTable2 : List (Ctr × String × Nat × Bool) :=
  [(.UNDO_LOST, "UNDO_LOST", 1, false), (.HOLD_CELLS, "HOLD_CELLS", 17, true), (.TASK_READY, "TASK_READY", 8, false),
   (.TASK_DISPATCH, "TASK_DISPATCH", 8, false), (.SPILL_WRITE, "SPILL_WRITE", 8, false), (.SPILL_READ, "SPILL_READ", 8, false),
   (.BP_ENTER, "BP_ENTER", 8, false), (.SPILL_DEPTH, "SPILL_DEPTH", 8, true), (.GRAPH_START, "GRAPH_START", 5, false),
   (.GRAPH_RETIRE, "GRAPH_RETIRE", 5, false), (.GRAPH_TIMEOUT, "GRAPH_TIMEOUT", 5, false), (.GRAPH_CANCEL, "GRAPH_CANCEL", 5, false),
   (.CTX_IN_USE, "CTX_IN_USE", 5, true), (.CANCEL_RACE, "CANCEL_RACE", 1, false), (.SPAWN_DROP, "SPAWN_DROP", 1, false),
   (.HOT_GONE, "HOT_GONE", 1, false), (.NODE_FAULT, "NODE_FAULT", 1, false), (.TCP_SKIP, "TCP_SKIP", 1, false),
   (.ENGINE_CYCLES, "ENGINE_CYCLES", 68, false), (.XLAT_NEW, "XLAT_NEW", 64, false), (.XLAT_REUSE, "XLAT_REUSE", 64, false),
   (.XLAT_NOIDX, "XLAT_NOIDX", 64, false), (.XLAT_NOPORT, "XLAT_NOPORT", 64, false), (.XLAT_BLOCK_ALLOC, "XLAT_BLOCK_ALLOC", 64, false)]

/-- Part 3 of the counter table. -/
def ctrTable3 : List (Ctr × String × Nat × Bool) :=
  [(.XLAT_BLOCK_FREE, "XLAT_BLOCK_FREE", 64, false), (.XLAT_NOMAP, "XLAT_NOMAP", 64, false), (.XLAT_FILTERED, "XLAT_FILTERED", 64, false),
   (.XLAT_HAIRPIN, "XLAT_HAIRPIN", 64, false), (.XLAT_ALIAS_MISS, "XLAT_ALIAS_MISS", 64, false), (.LB_PICK, "LB_PICK", 4096, false),
   (.LB_NOBACKEND, "LB_NOBACKEND", 4096, false), (.LB_DOWN_DROP, "LB_DOWN_DROP", 4096, false), (.METER_GREEN_PKTS, "METER_GREEN_PKTS", 135168, false),
   (.METER_GREEN_BYTES, "METER_GREEN_BYTES", 135168, false), (.METER_YELLOW_PKTS, "METER_YELLOW_PKTS", 135168, false), (.METER_YELLOW_BYTES, "METER_YELLOW_BYTES", 135168, false),
   (.METER_RED_PKTS, "METER_RED_PKTS", 135168, false), (.METER_RED_BYTES, "METER_RED_BYTES", 135168, false), (.FLOW_BLOCKED, "FLOW_BLOCKED", 17, false),
   (.XLAT_NOADDR, "XLAT_NOADDR", 17, false), (.EXPORT_REC, "EXPORT_REC", 16, false), (.EXPORT_DROP, "EXPORT_DROP", 16, false),
   (.XLAT_MAPFAIL, "XLAT_MAPFAIL", 1, false), (.AUDIT_FIX, "AUDIT_FIX", 1, false), (.SVC_INVALID, "SVC_INVALID", 64, false),
   (.SVC_PARITY, "SVC_PARITY", 64, false), (.SUB_NONE, "SUB_NONE", 64, false), (.SUB_RANGE, "SUB_RANGE", 64, false)]

/-- Part 4 of the counter table. -/
def ctrTable4 : List (Ctr × String × Nat × Bool) :=
  [(.L2_DST_MISS, "L2_DST_MISS", 17, false), (.L2_SAME_PORT, "L2_SAME_PORT", 17, false), (.LEARN_NEW, "LEARN_NEW", 1, false),
   (.LEARN_DUP, "LEARN_DUP", 1, false), (.LEARN_DROP, "LEARN_DROP", 1, false), (.LEARN_FULL, "LEARN_FULL", 1, false),
   (.L2_MOVE_CAND, "L2_MOVE_CAND", 1, false), (.L2_MOVE, "L2_MOVE", 1, false), (.L2_STATIC_VIOL, "L2_STATIC_VIOL", 1, false),
   (.L2_AGED, "L2_AGED", 1, false), (.L2_PARITY, "L2_PARITY", 1, false), (.L2_BAD_SMAC, "L2_BAD_SMAC", 1, false),
   (.CAM_SEARCHES, "CAM_SEARCHES", 16, false), (.CAM_HITS, "CAM_HITS", 16, false), (.TIE, "TIE", 16, false),
   (.CAM_PARITY, "CAM_PARITY", 1, false), (.SUBCTX_UE, "SUBCTX_UE", 1, false), (.LINK_FLAP, "LINK_FLAP", 64, false),
   (.TX_ABORT, "TX_ABORT", 64, false), (.PORT_DOWN_DROP, "PORT_DOWN_DROP", 64, false), (.MIRROR_SKIP, "MIRROR_SKIP", 64, false),
   (.PUNT_SKIP, "PUNT_SKIP", 64, false), (.POOL_CROSS, "POOL_CROSS", 64, false), (.RX_OVERSIZE, "RX_OVERSIZE", 64, false)]

/-- Part 5 of the counter table. -/
def ctrTable5 : List (Ctr × String × Nat × Bool) :=
  [(.MC_RESIDUE_AGED, "MC_RESIDUE_AGED", 64, false), (.PAUSE_TX, "PAUSE_TX", 512, false), (.PAUSE_RX, "PAUSE_RX", 512, false),
   (.RX_NOBUF, "RX_NOBUF", 512, false), (.HR_OVERRUN, "HR_OVERRUN", 512, false), (.AGE_DROP, "AGE_DROP", 1024, false),
   (.POOL_WARN, "POOL_WARN", 6, false), (.BUF_BAD_PTR, "BUF_BAD_PTR", 1, false), (.BUF_DOUBLE_FREE, "BUF_DOUBLE_FREE", 1, false),
   (.BUF_WRONG_OWNER, "BUF_WRONG_OWNER", 1, false), (.BUF_RECLAIM, "BUF_RECLAIM", 1, false), (.BUF_CE, "BUF_CE", 1, false),
   (.BUF_UE, "BUF_UE", 1, false), (.MC_BAD_GROUP, "MC_BAD_GROUP", 1, false), (.MC_FORCED, "MC_FORCED", 1, false),
   (.MC_REF_LIMIT, "MC_REF_LIMIT", 1, false), (.LAUNCH_LATE_SENT, "LAUNCH_LATE_SENT", 1024, false), (.LAUNCH_LATE_DROP, "LAUNCH_LATE_DROP", 1024, false),
   (.GATE_OVERSIZE, "GATE_OVERSIZE", 1024, false), (.GATE_TIME_JUMP, "GATE_TIME_JUMP", 64, false), (.SCHED_SELECT, "SCHED_SELECT", 64, false),
   (.SCHED_UNATTACHED, "SCHED_UNATTACHED", 17, false), (.SAMPLE_DROP, "SAMPLE_DROP", 8, false), (.SAMPLE_REC, "SAMPLE_REC", 8, false)]

/-- Part 6 of the counter table. -/
def ctrTable6 : List (Ctr × String × Nat × Bool) :=
  [(.SCHED_PARITY, "SCHED_PARITY", 1, false), (.SCHED_STATE_PE, "SCHED_STATE_PE", 1, false), (.PTP_RX_TS, "PTP_RX_TS", 64, false),
   (.PTP_TX_TS, "PTP_TX_TS", 64, false), (.PTP_ONESTEP, "PTP_ONESTEP", 64, false), (.PTP_TC, "PTP_TC", 64, false),
   (.TS_DROP, "TS_DROP", 64, false), (.SYNC_TIMEOUT_CNT, "SYNC_TIMEOUT_CNT", 2, false), (.TIME_STEP, "TIME_STEP", 2, false),
   (.TIME_SWITCH, "TIME_SWITCH", 1, false), (.TIME_NOSWITCH, "TIME_NOSWITCH", 1, false), (.PPS_IN_EDGES, "PPS_IN_EDGES", 1, false),
   (.REF10_LOSS, "REF10_LOSS", 1, false), (.LANE_LOS, "LANE_LOS", 90, false), (.LANE_LOL, "LANE_LOL", 90, false),
   (.LANE_RETRAIN, "LANE_RETRAIN", 90, false), (.LANE_DEGRADE, "LANE_DEGRADE", 90, false), (.FEC_SYM_ERR, "FEC_SYM_ERR", 90, false),
   (.PRBS_BITS, "PRBS_BITS", 90, false), (.PRBS_ERR, "PRBS_ERR", 90, false), (.FEC_CW, "FEC_CW", 64, false),
   (.FEC_CW_CORR, "FEC_CW_CORR", 64, false), (.FEC_CW_UNCORR, "FEC_CW_UNCORR", 64, false), (.RX_FCS_ERR, "RX_FCS_ERR", 64, false)]

/-- Part 7 of the counter table. -/
def ctrTable7 : List (Ctr × String × Nat × Bool) :=
  [(.LINK_DOWN, "LINK_DOWN", 64, false), (.LANE_SWAP, "LANE_SWAP", 64, false), (.REMOTE_FAULT, "REMOTE_FAULT", 64, false),
   (.SWAP_REFUSED, "SWAP_REFUSED", 10, false), (.LINE_RD, "LINE_RD", 128, false), (.LINE_WR, "LINE_WR", 128, false),
   (.ROW_HIT, "ROW_HIT", 128, false), (.ROW_MISS, "ROW_MISS", 128, false), (.RAW_FWD, "RAW_FWD", 128, false),
   (.PANIC_ISSUE, "PANIC_ISSUE", 128, false), (.REFRESH, "REFRESH", 128, false), (.HBM_CE, "HBM_CE", 128, false),
   (.HBM_UE, "HBM_UE", 128, false), (.LANE_REPAIR, "LANE_REPAIR", 128, false), (.SHARE_OPS, "SHARE_OPS", 3, false),
   (.SHARE_BORROW, "SHARE_BORROW", 3, false), (.REQ_OPS, "REQ_OPS", 12, false), (.REQ_PANIC, "REQ_PANIC", 12, false),
   (.PC_RETIRE, "PC_RETIRE", 1, false), (.MEM_FREQ_CHANGE, "MEM_FREQ_CHANGE", 1, false), (.FABRIC_CE, "FABRIC_CE", 1, false),
   (.FABRIC_UE, "FABRIC_UE", 1, false), (.INJECT_DONE, "INJECT_DONE", 1, false), (.CVU_CHECKS, "CVU_CHECKS", 32, false)]

/-- Part 8 of the counter table. -/
def ctrTable8 : List (Ctr × String × Nat × Bool) :=
  [(.CVU_MISMATCH, "CVU_MISMATCH", 32, false), (.SENTINEL_RUN, "SENTINEL_RUN", 17, false), (.SENTINEL_FAIL, "SENTINEL_FAIL", 17, false),
   (.SAFE_ENTER, "SAFE_ENTER", 64, false), (.SAFE_ABORT, "SAFE_ABORT", 64, false), (.SAFE_DROP, "SAFE_DROP", 64, false),
   (.ASSURED_UNCHECKED, "ASSURED_UNCHECKED", 8, false), (.EVENTS, "EVENTS", 256, false), (.MBX_CMDS, "MBX_CMDS", 8, false),
   (.MBX_ERRORS, "MBX_ERRORS", 8, false), (.MBX_REPLAYS, "MBX_REPLAYS", 8, false), (.INJ_FRAMES, "INJ_FRAMES", 8, false),
   (.INJ_ERRORS, "INJ_ERRORS", 8, false), (.PUNT_FRAMES, "PUNT_FRAMES", 8, false), (.PUNT_DROP, "PUNT_DROP", 8, false),
   (.EVR_DROP, "EVR_DROP", 1, false), (.SUMMARIES, "SUMMARIES", 1, false), (.CFG_COUNT, "CFG_COUNT", 1, false),
   (.LPI_ENTER, "LPI_ENTER", 64, false), (.LPI_WAKE, "LPI_WAKE", 64, false), (.DOZE_ENTER, "DOZE_ENTER", 64, false),
   (.PIPE_CG, "PIPE_CG", 17, false), (.PIPE_PG, "PIPE_PG", 17, false), (.DOMAIN_ON, "DOMAIN_ON", 24, false)]

/-- Part 9 of the counter table. -/
def ctrTable9 : List (Ctr × String × Nat × Bool) :=
  [(.WARM_QUIESCE_LATE, "WARM_QUIESCE_LATE", 1, false), (.STANDBY_ENTER, "STANDBY_ENTER", 1, false), (.FLOW_FWD, "FLOW_FWD", 2, false),
   (.RESULT_FWD, "RESULT_FWD", 2, false), (.CHAIN_RX, "CHAIN_RX", 2, false), (.CHAIN_RETX, "CHAIN_RETX", 2, false),
   (.CHAIN_NOT_JOINED, "CHAIN_NOT_JOINED", 2, false), (.RING_WRAP, "RING_WRAP", 1, false), (.CHAIN_HOME_LOST, "CHAIN_HOME_LOST", 1, false),
   (.PL_SWAP_DROP, "PL_SWAP_DROP", 17, false), (.SPARE_SWAP, "SPARE_SWAP", 8, false), (.PROACTIVE_SWAP, "PROACTIVE_SWAP", 8, false),
   (.OTP_LOG_BAD, "OTP_LOG_BAD", 1, false), (.IMP_DROP, "IMP_DROP", 64, false), (.IMP_CORRUPT, "IMP_CORRUPT", 64, false),
   (.IMP_REORDER, "IMP_REORDER", 64, false), (.ARMS, "ARMS", 64, false), (.TRC_LOST, "TRC_LOST", 1, false)]

/-- The counters with their upper-case names (R500), the number of their instances (the chapter's table of counters) and
whether they are gauges, which hold a level and are set, not advanced (R131, R163). The order is the model's. -/
def ctrTable : List (Ctr × String × Nat × Bool) :=
  ctrTable0 ++ ctrTable1 ++ ctrTable2 ++ ctrTable3 ++ ctrTable4 ++ ctrTable5 ++ ctrTable6 ++ ctrTable7 ++ ctrTable8 ++ ctrTable9

/-- How many instances a counter has. -/
def ctrInstances (c : Ctr) : Nat := ((ctrTable.find? fun r => r.1.ctorIdx == c.ctorIdx).map (·.2.2.1)).getD 0

/-- The instance key of a counter: CODE-independent, CODE being the firmware image's (R499). -/
def ctrKey (c : Ctr) (inst : Nat) : Nat := inst * 256 + c.ctorIdx

end Sys2Proof.Machine
end

