-- ==== Sys2Proof/Machine/EpochState.lean ====
section
/-!
DEFINITION. The two epoch banks and the commit machinery (chapter 2, R55–R67; chapter 17).
-/
namespace Sys2Proof.Machine

/-- The state of a bank (R55, R61). -/
inductive BankSt where
  | shadow | active | draining
  deriving DecidableEq, Repr

/-- The objects of one bank (R55, R57). A record that is not listed holds its reset value. -/
structure Bank where
  /-- 127 × 32 B; R34 (02); reset by R532. Header-graph nodes. -/
  nodes : Tbl Bytes := []
  /-- 1,024 × 8 B; R35 (02); reset by R533. Transition entries. -/
  trans : Tbl Bytes := []
  /-- 16 × 16 B; R42 (02); reset by R534. Parse profiles. -/
  profiles : Tbl Bytes := []
  /-- 768 × 8 B; R43 (02); reset by R534. Extraction instructions. -/
  extracts : Tbl Bytes := []
  /-- 64 × 16 B; R52 (02); reset 0. Classification profiles. -/
  cls : Tbl Bytes := []
  /-- 65,536 × 176 B; R48, R65, R411 (02, 14); reset 0 (VALID 0). TCAM entries: VALUE, MASK, action word, CTRL. -/
  rules : Tbl Bytes := []
  /-- 256 × 64 B; R59 (02), R72 (03); reset not loaded. Loaded flow profiles. -/
  flowProf : Tbl Bytes := []
  /-- 1,024 templates; R136–R138, R157 (05); reset by R157. Graph templates. -/
  templates : Tbl Bytes := []
  /-- 16 bits; R3 (00), R62 (02); reset 0. MODE word of the bank. -/
  mode : BitVec 16 := 0
  deriving DecidableEq, Repr

/-- A drained commit in progress (R62, R63, R481). -/
inductive CommitPhase where
  | none | waitRate | draining
  deriving DecidableEq, Repr

/-- The state of the duplicate TCAM half (R61, R67): `clearing` is the time after ASSURED in which the upper halves are
cleared. -/
inductive DupState where
  | off | pending | active | clearing
  deriving DecidableEq, Repr

/-- Epochs. -/
structure EpochState where
  /-- R55 (02). Bank 0. -/
  bank0 : Bank := {}
  /-- R55 (02). Bank 1. -/
  bank1 : Bank := {}
  /-- 32 bits; R55 (02); reset 0. ACTIVE_EPOCH. -/
  epoch : BitVec 32 := 0
  /-- 2 bits; R55, R61 (02); reset ACTIVE. State of bank 0. -/
  st0 : BankSt := .active
  /-- 2 bits; R55, R61 (02); reset SHADOW. State of bank 1. -/
  st1 : BankSt := .shadow
  /-- 2 bits; R59, R62 (02); reset none. Commit in progress. -/
  commit : CommitPhase := .none
  /-- 3 bits; R62, R413 (02, 14); reset none. Mailbox whose EPOCH_COMMIT waits for its boundary. -/
  commitMbx : Option (Fin 8) := none
  /-- 3 bits; R60, R413 (02, 14); reset none. Mailbox whose BANK_COPY runs. -/
  copyMbx : Option (Fin 8) := none
  /-- 20 bits; R60 (02); reset 0. AON ticks until the BANK_COPY completes (log 50). -/
  copyLeft : Nat := 0
  /-- 32 bits; R62, R63 (02); reset 20 µs. DRAIN_LIMIT of the commit in progress, in µs. -/
  drainLimit : Nat := 20
  /-- 32 bits; R61 (02); reset 0. LAST_EPOCH. -/
  lastEpoch : BitVec 32 := 0
  /-- 64 bits; R61 (02); reset 0. LAST_TIME (R302). -/
  lastTime : Nat := 0
  /-- 2 bits; R61, R67 (02); reset off. Duplicate classification. -/
  dup : DupState := .off
  /-- 2 × 65,536 bits; R53 (02); reset 0. TCAM entries marked by a parity failure, by bank × 65,536 + entry. -/
  tcamBad : Tbl Nat := []
  /-- R53 (02); reset empty. Parser tables marked by a parity failure, by (bank × 8 + table) × 4,096 + index; tables: 0 node, 1 transition, 2 parse profile, 3 extraction, 4 classification profile. -/
  parserBad : Tbl Nat := []
  deriving DecidableEq, Repr

/-- The number of the active bank: epoch AND 1 (R55). -/
def EpochState.activeNo (e : EpochState) : Bool := e.epoch.getLsbD 0

/-- The active bank (R55). -/
def EpochState.activeBank (e : EpochState) : Bank := if e.activeNo then e.bank1 else e.bank0

/-- The other bank. -/
def EpochState.shadowBank (e : EpochState) : Bank := if e.activeNo then e.bank0 else e.bank1

/-- A bank by its number. -/
def EpochState.bank (e : EpochState) (b : Bool) : Bank := if b then e.bank1 else e.bank0

/-- A bank replaced. -/
def EpochState.setBank (e : EpochState) (b : Bool) (k : Bank) : EpochState :=
  if b then { e with bank1 := k } else { e with bank0 := k }

end Sys2Proof.Machine
end

