-- ==== Sys2Proof/Machine/FlowState.lean ====
section
/-!
DEFINITION. The state of the hot tier, the bulk tier and optimistic admission (chapters 3 and 4). The index lines and the
records lie in HBM.
-/
namespace Sys2Proof.Machine

/-- What one place of the hot tier holds (R79, R80, R178): a 64-byte entry, or a pair of 128 bytes at its even way. -/
structure HotEntry where
  /-- 512 or 1,024 bits; R79, R80, R178 (03, 06). The image, hot-only bits included. -/
  img : Bytes
  /-- R103, R372. Bad symbols: 0 none, 1 correctable, more uncorrectable. -/
  bad : Nat := 0
  /-- R196 (06). Wraps of PKTS and BYTES counted while the flow is hot. -/
  wraps : Nat × Nat := (0, 0)
  /-- R85 (03). Number of the placement that brought the entry here, by which a sample tells it from one that follows. -/
  serial : Nat := 0
  deriving DecidableEq, Repr

/-- A ring of free record slots (R90). Its region of HBM holds the pointers at places `rd` to `wr`; the die holds up to 1,024 more,
of the line that a refill has read and of those that have been pushed (log 85). -/
structure SlotRing where
  /-- Place of the next pointer that a refill reads, counted from FLOW_TABLE_INIT. -/
  rd : Nat := 0
  /-- Place of the next pointer that a drain writes, counted in the same way. -/
  wr : Nat := 0
  /-- 16 × 32 bits. Pointers read and not yet popped, oldest first. -/
  front : List Nat := []
  /-- 1,008 × 32 bits. Pointers pushed and not yet written, oldest first. -/
  back : List Nat := []
  deriving DecidableEq, Repr

/-- A visit of the bulk sweep, or of a migration's copy, that holds its bucket (R92, R97, R105). -/
structure BucketWork where
  /-- 29 bits. The bucket, with its region in bit 28. -/
  key : Nat
  /-- 1 bit. The copy of a migration, else the sweep. -/
  copy : Bool
  /-- Records that the visit has not dealt with: slot and PAIR, in slot order. -/
  left : List (Nat × Bool)
  /-- 1 bit. Line 0 of the first of them has been read, and its removal waits for a context. -/
  read : Bool := false
  /-- 1 bit. Its line 1 has been read as well. -/
  line1 : Bool := false
  /-- 1 bit. Its flow was hot. -/
  hot : Bool := false
  /-- 1 bit. The cached line has changed and is written once as the visit ends (R100). -/
  dirty : Bool := false
  deriving DecidableEq, Repr

/-- STATE of an undo log (R123); a log that is FREE is not listed. -/
inductive LogSt where
  | pending | expFwd | expDrop | undoing | replay
  deriving DecidableEq, Repr

/-- Where the bulk side of an admission stands (R91, R93). -/
inductive BulkPhase where
  /-- The home or partner index line is being read. -/
  | index (partner : Bool)
  /-- Record lines are being read: the matches left, as pointer, PAIR and slot of the line. -/
  | record (partner : Bool) (left : List (Nat × Bool × Nat))
  /-- The subscriber context is being read. -/
  | subctx
  /-- The index slot has been claimed and the CONFIRM event has arrived. -/
  | claimed
  | done
  deriving DecidableEq, Repr

/-- Why a log is UNDOING (R103, R119, R445). -/
inductive UndoWhy where
  | squash | reject | filtered | abandon | conflict | hotUe | warm
  deriving DecidableEq, Repr

/-- An undo entry (R124); SEQ is its place in the list. -/
structure UndoEnt where
  /-- 8 bits; R124 (04). KIND. -/
  kind : Nat
  /-- 32 bits; R124 (04). OBJECT. -/
  obj : Nat
  /-- 64 bits; R124 (04). AMOUNT. -/
  amt : Nat
  /-- 1 bit; R145 (05). The entry has been filled. -/
  filled : Bool := true
  /-- 1 bit; R125 (04). Made by a packet, not by a SPEC node. -/
  byPkt : Bool := true
  deriving DecidableEq, Repr

/-- An undo log with its hold list (R118–R126). -/
structure UndoLog where
  /-- 36 bits; R368 (13); reset 0. Bad symbols of the log's unit under SC-256. -/
  bad : Nat := 0
  /-- 3 bits; R123 (04). STATE. -/
  st : LogSt := .pending
  /-- 8 entries; R124, R125 (04). Undo entries in order of SEQ. -/
  ents : List UndoEnt := []
  /-- 4 bits; R114, R123 (04). Admission class. -/
  cls : Nat := 0
  /-- 1 bit; R123 (04). Speculative part done. -/
  specDone : Bool := false
  /-- 1 bit; R123 (04). Bulk answer received. -/
  answered : Bool := false
  /-- 5 bits; R123 (04). PIPE. -/
  pipe : Nat := 0
  /-- 32 bits; R123 (04). DEADLINE. -/
  deadline : Nat := 0
  /-- 22 bits; R123 (04). HOT_LOC: set × 8 + first way. -/
  loc : Nat := 0
  /-- 7 bits; R113 (04). MAX_HELD. -/
  maxHeld : Nat := 64
  /-- 65,599 packets; R120, R121 (04). Hold list in order: descriptor and RESOLVED. -/
  hold : List (Nat × Bool) := []
  /-- 16 bits; R128, R130 (04). Re-runs that have not reached the entry. -/
  rerunsLeft : Nat := 0
  /-- R129 (04). Re-runs of REPLAY that have reached it: their counts fall as REPLAY ends. -/
  rerunsDone : Nat := 0
  /-- 7 bits; R129 (04). Packets among the re-runs of REPLAY that were RESOLVED. -/
  rerunsRes : Nat := 0
  /-- R118. Bank, flow profile, key, format and hashes of the flow. -/
  bank : Bool := false
  profile : Nat := 0
  key : Bytes := []
  std : Bool := true
  hlo : Nat := 0
  hhi : Nat := 0
  /-- R93, R131, R180. Subscriber of the creating packet, whether its frame is assured, and whether it came inbound. -/
  sub : Option Nat := none
  assured : Bool := false
  inbound : Option Nat := none
  /-- R169 (06). The creating packet is an ICMP echo whose identifier is in AUX. -/
  echo : Bool := false
  /-- 27 bits; R166, R175 (06). MAPPED or HOLD map entry that its reservation names. -/
  reuse : Option Nat := none
  /-- 16 bits; R118, R135 (05). Admission context. -/
  ctx : Option Nat := none
  /-- R91, R93. -/
  phase : BulkPhase := .index false
  /-- 2 × 29 bits; R92 (03). Buckets on which the admission's lookup has an operation, with the region in bit 28. -/
  lines : List Nat := []
  /-- R103, R119. -/
  why : UndoWhy := .squash
  /-- R128. The record image that waits for its place, with its slot's wrap counts. -/
  load : Option (Bytes × (Nat × Nat)) := none
  /-- 1 bit; R128 (04). Undo has been applied and the record waits for a place. -/
  waitPlace : Bool := false
  /-- R93. SLOT word that the confirmation writes: a slot number, or none for NOSLOT. -/
  slot : Option Nat := none
  deriving DecidableEq, Repr

/-- A migration (R104–R109). -/
structure Migration where
  /-- 1 bit; R105, R108 (03). The COPY phase, else FLUSH. -/
  copy : Bool := false
  /-- 1 bit; R109 (03). Held after a warm reset until RESUME. -/
  held : Bool := false
  oldB : Nat
  newB : Nat
  oldSeed : Nat
  newSeed : Nat
  /-- 32 bits; R105 (03). Old buckets below it are copied. -/
  cursor : Nat := 0
  moved : Nat := 0
  orphans : Nat := 0
  dropped : Nat := 0
  deriving DecidableEq, Repr

/-- A set copy of a retiring hot block (R88). -/
structure BlockMove where
  logical : Nat
  target : Nat
  next : Nat := 0
  deriving DecidableEq, Repr

/-- Flow state. -/
structure FlowState where
  /-- 4,067,328 × 64 B; R82, R83 (03); reset empty. Hot entries by set × 8 + way. -/
  hot : Tbl HotEntry := []
  /-- 508,416 × 7 bits; R86 (03); reset 0. Pseudo-LRU state by set: [0] root, [2:1] pairs of a half, [6:3] ways of a pair. -/
  lru : Tbl Nat := []
  /-- R85 (03); reset 0 (DESIGN CHOICE, log 35). Placements made so far (the model's own count). -/
  placed : Nat := 0
  /-- 993 × 10 bits; R82 (03); reset identity. Physical block of a logical block. -/
  remap : Tbl Nat := []
  /-- 31 × 10 bits; R82, R88 (03); reset 993–1,023. Reserve blocks left, lowest first. -/
  reserve : List Nat := (List.range 31).map (993 + ·)
  /-- R88 (03); reset none. Block being retired. -/
  moving : Option BlockMove := none
  /-- 5 bits; R77 (03); reset 28. BUCKET_BITS. -/
  bucketBits : Nat := 28
  /-- 64 bits; R77 (03); reset DESIGN CHOICE 0 (log 35). HASH_SEED. -/
  hashSeed : Nat := 0
  /-- R83, R105 (03); reset none. Earlier HASH_SEEDs under which entries of the hot tier may have been placed (log 59). -/
  seeds : List Nat := []
  /-- 64 bits; R76 (03); reset DESIGN CHOICE 0 (log 35). FP_SEED. -/
  fpSeed : Nat := 0
  /-- 1 bit; R102, R105 (03); reset 0 (IDX0). Active index region. -/
  idx1 : Bool := false
  /-- 2^29 slots; R90 (03); reset DESIGN CHOICE empty until start-up initialises the tables (log 35). Pair ring. -/
  pairs : SlotRing := {}
  /-- 2^30 slots; R90 (03); reset empty. Single ring. -/
  singles : SlotRing := {}
  /-- 65,536 × 64 B; R92 (03); reset empty. The bucket cache: index lines by bucket, with the region in bit 28; none while a line is being read. -/
  bucket : Tbl (Option Bytes) := []
  /-- R92, R97, R105 (03); reset none. The visit of a sweep or copy that holds its bucket. -/
  work : Option BucketWork := none
  /-- 32 bits; R97 (03); reset 30 s. Ageing period. -/
  period : Nat := 30
  /-- 28 bits; R97 (03); reset 0. Bucket that the bulk sweep visits next. -/
  sweepAt : Nat := 0
  /-- 32 bits; R100 (03); reset 0. When the present pass began, in the ageing time base. -/
  sweepBegan : Nat := 0
  /-- 19 bits; R98 (03); reset 0. Set that the hot sweep visits next. -/
  hotAt : Nat := 0
  /-- R104–R109 (03); reset none. The migration that exists. -/
  mig : Option Migration := none
  /-- 32 bits; R104 (03); reset 24. MIG_RATE ÷ 10^6. -/
  migRate : Nat := 24
  /-- 32 bits; R108 (03); reset 0. MIG_ID of the last migration. -/
  migId : Nat := 0
  /-- 32 bits; R108 (03); reset 0. SEQ of the last journal write. -/
  journalSeq : Nat := 0
  /-- R196 (06); reset 0. Wraps of PKTS and BYTES of the flows that are not hot, by record slot. -/
  wraps : Tbl (Nat × Nat) := []
  /-- 16 × 4 B; R114 (04); reset 0. Admission classes. -/
  cls : Tbl Bytes := []
  /-- 65,536 × 144 B; R119, R123 (04); reset FREE. Undo logs in use. -/
  log : Tbl UndoLog := []
  /-- 17 × 4,096 packets; R116 (04); reset empty. Admission queues by pipeline, head first. -/
  admq : Tbl (List Nat) := []
  /-- 17 × 2,048 packets; R179 (06); reset empty. Inbound lists by pipeline, with the map entry that each packet reads. -/
  inbound : Tbl (List (Nat × Nat)) := []
  /-- R20, R128, R130 (01, 04); reset empty. Re-runs waiting for the parser, by pipeline. -/
  rerunq : Tbl (List Nat) := []
  /-- R20, R64, R182 (01, 02, 06); reset empty. Recirculated packets waiting for the parser, by pipeline. -/
  recircq : Tbl (List Nat) := []
  /-- 19 bits; R103 (03); reset 0 (DESIGN CHOICE, log 35). Hot set that the scrub reads next. -/
  scrubAt : Nat := 0
  deriving DecidableEq, Repr

end Sys2Proof.Machine
end

