-- ==== Sys2Proof/Machine/HbmState.lean ====
section
/-!
DEFINITION. The state of the HBM subsystem (chapter 12): contents, controllers, refresh, training, repair and retirement.
Physical PCs are numbered stack × 32 + channel × 2 + PC.
-/
namespace Sys2Proof.Machine

/-- A line request at a PC controller (R352–R357). -/
structure HbmReq where
  /-- 4 bits; R352 (12). Requester. -/
  req : Nat
  /-- 31 bits; R342 (12). Line number. -/
  line : Nat
  /-- 1 bit; R357 (12). A write. -/
  write : Bool
  /-- 64 bits; R355 (12). Free-running counter at its arrival. -/
  at_ : Nat := 0
  /-- 2 bits; R361 (12). Re-reads made. -/
  tries : Nat := 0
  deriving DecidableEq, Repr

/-- MEM_STATUS state of a PC (R363). -/
inductive PcState where
  | active | spare | migrating | retired | failed
  deriving DecidableEq, Repr

/-- A physical PC and its controller. -/
structure Pc where
  /-- 3 bits; R341, R363 (12); reset ACTIVE, SPARE for PC 31 of each stack. -/
  st : PcState := .active
  /-- 64 tags; R357 (12); reset empty. Reads waiting for issue, oldest first. -/
  reads : List HbmReq := []
  /-- 64 lines; R357 (12); reset empty. Write queue, oldest first. -/
  wq : List HbmReq := []
  /-- R357 (12); reset empty. Writes that wait at their requester, oldest first. -/
  waitW : List HbmReq := []
  /-- R30, R356, R357 (01, 12); reset empty. Reads that wait at their requester, oldest first: for a request tag, or behind a write of
  their line that waits too. -/
  waitR : List HbmReq := []
  /-- R357, R361 (12); reset empty. Reads issued whose data have not returned. -/
  issued : List HbmReq := []
  /-- R361 (12); reset empty. Reads that found an uncorrectable line and are read again. -/
  retry : List HbmReq := []
  /-- 1 bit; R357 (12); reset 0. The write queue reached 48 and drains first. -/
  drain : Bool := false
  /-- 48 × 17 bits; R348 (12); reset none. Open row of each bank. -/
  open_ : Tbl Nat := []
  /-- 48 × 64 bits; R348 (12); reset none. When each bank was last accessed, in ns of the free-running counter: its idle timer. -/
  last : Tbl Nat := []
  /-- 8 bits; R348 (12); reset 24. IDLE_CLK. -/
  idleClk : Nat := 24
  /-- 4 bits; R349 (12); reset 0. Refreshes postponed. -/
  owed : Nat := 0
  /-- 6 bits; R349 (12); reset 0. Bank of the next refresh. -/
  refBank : Nat := 0
  /-- R351, R356 (12); reset 0. The 1 µs window and the slots each share has used in it. -/
  win : Nat := 0
  used : List Nat := [0, 0, 0]
  /-- 2 × 6 bits; R359, R362 (12); reset none. Lanes repaired onto the spares: recorded in the stack, kept through every reset. -/
  repairs : List Nat := []
  /-- 38 × 8 bits; R358 (12); reset DESIGN CHOICE empty (log 27). Eye margins in 1 % of the unit interval. -/
  margins : Bytes := []
  /-- 38 × 2 bits; R358 (12); reset 0. Consecutive visits below MARGIN_FLOOR by lane. -/
  low : Tbl Nat := []
  /-- 36 × 256 × 64 bits; R362 (12); reset none. When the corrected symbols of the last second were charged to each lane, newest
  first. -/
  charge : Tbl (List Nat) := []
  /-- 38 × 2 signed; R358, R359 (12); reset DESIGN CHOICE empty (log 27). Read and write strobe delays by lane, in steps. -/
  delay : List (Int × Int) := []
  /-- 38 × 2 signed; R358 (12); reset DESIGN CHOICE empty (log 27). The last delays whose margin met MARGIN_FLOOR, by lane. -/
  good : List (Int × Int) := []
  deriving DecidableEq, Repr

/-- A stack. -/
structure HbmStack where
  /-- R350 (12); reset DESIGN CHOICE 0 (log 27). Last temperature reading in 0.1 °C. -/
  temp : Int := 0
  /-- 1 bit; R350 (12); reset 0. Doubled refresh. -/
  doubled : Bool := false
  /-- 2 bits; R350 (12); reset 0. Consecutive readings that failed. -/
  fails : Nat := 0
  /-- R363 (12); reset none. Retirement in progress: logical PC and copy cursor. -/
  retire : Option (Nat × Nat) := none
  deriving DecidableEq, Repr

/-- HBM. -/
structure HbmState where
  /-- 139,500,000,000 B; R102 (03), R342 (12); reset DESIGN CHOICE 0 in every byte (log 3). Contents by device address, writes still queued included (R357). -/
  mem : Tbl Byte := []
  /-- 36 bits per unit; R361, R372 (12, 13); reset 0. Bad symbols by 32-byte unit number. -/
  bad : Tbl Nat := []
  /-- 128 PCs; R341 (12). -/
  pc : Tbl Pc := []
  /-- 4 stacks; R341, R350 (12). -/
  stack : Tbl HbmStack := []
  /-- 124 × 5 bits; R341, R363 (12); reset identity. Physical PC of logical PC p of a stack, by stack × 32 + p. -/
  remap : Tbl Nat := []
  /-- 2 bits; R345 (12); reset 0 (RBC). Order of the HOST region. -/
  hostOrder : Nat := 0
  /-- 1 bit; R345 (12); reset 0. A write has reached HOST since the last cold reset. -/
  hostWritten : Bool := false
  /-- 12 × 8 B; R353 (12); reset by R353. QoS records. -/
  qos : Tbl Bytes := []
  /-- 12 counts; R354 (12); reset 0. Requests not completed, by requester. -/
  outst : Tbl Nat := []
  /-- 12 bits; R354 (12); reset 0. Requesters with PANIC raised. -/
  panic : Tbl Nat := []
  /-- 6 bits; R358 (12); reset 15 %. MARGIN_FLOOR. -/
  floor : Nat := 15
  /-- 2 bits; R360, R413 (12, 14); reset 0 (9.6 Gb/s). Data rate in force. -/
  rate : Nat := 0
  /-- 2 bits; R360 (12); reset 0. Rate set by MEM_FREQ_SET. -/
  setRate : Nat := 0
  /-- R360 (12); reset none. Rate that a change in progress, or held, goes to. -/
  target : Option Nat := none
  /-- R360, R413 (12); reset empty. Mailboxes whose MEM_FREQ_SET waits for T5. -/
  waiting : List (Fin 8) := []
  /-- 8 bits; R361 (12); reset 24 h. SCRUB_PERIOD. -/
  scrubHours : Nat := 24
  /-- 31 bits; R361 (12); reset 0. Line that patrol scrub reads next. -/
  scrubLine : Nat := 0
  /-- 1 bit; R359, R442, R445 (12, 15); reset 1. No request is issued: self-refresh or full training. -/
  stopped : Bool := true
  deriving DecidableEq, Repr

end Sys2Proof.Machine
end

