-- ==== Sys2Proof/Machine/HostState.lean ====
section
/-!
DEFINITION. The state of the host interface and of the firmware (chapter 14): direct registers, mailboxes, event ring,
DMA queues, flash, OTP and measurements.
-/
namespace Sys2Proof.Machine

/-- One mailbox (R403–R407). -/
structure Mailbox where
  /-- 32 bits; R405 (14); reset 0. LAST_SEQ. -/
  lastSeq : BitVec 32 := 0
  /-- 16 bits; R405 (14); reset 0. OPCODE of the last completed command. -/
  lastOp : Nat := 0
  /-- 16 bits; R405 (14); reset 0. STATUS of the last completed command. -/
  lastStatus : Nat := 0
  /-- 4,064 B; R405 (14); reset empty. Body of the stored response. -/
  stored : Bytes := []
  /-- 32 bits; R405, R407 (14); reset 0. DETAIL of the stored response. -/
  lastDetail : Nat := 0
  /-- 1 bit; R407, R409 (14); reset 0. MORE of the stored response. -/
  lastMore : Bool := false
  /-- 32 bits; R405, R407 (14); reset 0. Active epoch at the completion of the stored response. -/
  lastEpoch : BitVec 32 := 0
  /-- 1 bit; R401 (14); reset 0. MBX_STATUS.BUSY. -/
  busy : Bool := false
  /-- 1 bit; R401 (14); reset 0. MBX_STATUS.DONE. -/
  done : Bool := false
  /-- 1 bit; R401 (14); reset 0. MBX_STATUS.OVR. -/
  ovr : Bool := false
  /-- 4,096 B; R403 (14); reset empty (all bytes read 0, DESIGN CHOICE log 6). What the mailbox holds. -/
  buf : Bytes := []
  /-- R404, R413 (14); reset none. The request that is still executing, with its opcode. -/
  running : Option (Nat × YcpReq) := none
  /-- 1 bit; R402 (14); reset 0. The response of the command that is executing will be discarded. -/
  lost : Bool := false
  deriving DecidableEq, Repr

/-- One inject or punt DMA queue (R416, R417). -/
structure DmaQueue where
  /-- 1 bit; R413, R538 (14); reset 0. Enabled. -/
  enabled : Bool := false
  /-- 8 bits; R413 (14); reset DESIGN CHOICE 0 (log 6). LOG2. -/
  log2 : Nat := 0
  /-- 32 bits; R413 (14); reset DESIGN CHOICE 0 (log 6). BUF_LEN of a punt queue. -/
  bufLen : Nat := 0
  /-- 64 bits; R413 (14); reset DESIGN CHOICE 0 (log 6). BASE. -/
  base : Nat := 0
  /-- 32 bits; R416 (14); reset DESIGN CHOICE 0 (log 6). INJ_HEAD or PUNT_HEAD. -/
  head : BitVec 32 := 0
  /-- 32 bits; R416 (14); reset DESIGN CHOICE 0 (log 6). INJ_TAIL or PUNT_TAIL. -/
  tail : BitVec 32 := 0
  /-- 1 bit; R417 (14); reset 0. A DMA fault has stopped the queue. -/
  stopped : Bool := false
  /-- 5 bits; R19, R20 (01); reset none. The head frame of an inject queue is read and waits for this pipeline's ingress
  half, with its place in the order of arrival. -/
  waits : Option (Nat × Nat) := none
  deriving DecidableEq, Repr

/-- One entry waiting for the event ring (R414): TYPE and the 28 payload bytes. -/
structure EvEntry where
  type : Nat
  payload : Bytes
  deriving DecidableEq, Repr

/-- One entry of the MSI-X table (R400). -/
structure MsixEntry where
  /-- 64 bits; R400 (14); reset PRESUMED 0 (PCI Express, log 7). Message address. -/
  addr : Nat := 0
  /-- 32 bits; R400 (14); reset PRESUMED 0 (PCI Express, log 7). Message data. -/
  data : Nat := 0
  /-- 1 bit; R400 (14); reset PRESUMED 1 (PCI Express, log 7). Vector mask. -/
  masked : Bool := true
  deriving DecidableEq, Repr

/-- A write by the device into host memory. -/
structure DmaWrite where
  addr : Nat
  data : Bytes
  deriving DecidableEq, Repr

/-- The HOST domain and what Clove keeps for it. -/
structure HostState where
  /-- 2 bits; R401 (14); strap, sampled at AON power good (R523); DESIGN CHOICE 0 at State.reset (log 8). ID_DEVICE.DEVID. -/
  devid : Nat := 0
  /-- 4 bits; R401 (14); reset 0, the STAGE code. DEV_STATUS.STAGE. -/
  stage : Nat := 0
  /-- 1 bit; R401 (14); reset 0. DEV_STATUS.MIG_RESUMABLE. -/
  migResumable : Bool := false
  /-- 1 bit; R401 (14); reset 0. DEV_STATUS.FLR_SEEN. -/
  flrSeen : Bool := false
  /-- 32 bits; R401 (14); reset 0. DEV_HEARTBEAT. -/
  heartbeat : BitVec 32 := 0
  /-- 8 mailboxes; R400, R403 (14). -/
  mbx : Tbl Mailbox := []
  /-- 8 requests; R404 (14); reset empty. Requests that Clove has not taken while four commands execute, with their opcodes, in
  the order of their doorbells. -/
  waiting : List (Nat × YcpReq) := []
  /-- 64 bits; R401 (14); reset 0. EVR_BASE. -/
  evrBase : Nat := 0
  /-- 32 bits; R12, R401 (14); reset 0. Upper half staged for EVR_BASE. -/
  evrBaseHi : Nat := 0
  /-- 5 bits; R401 (14); reset 6. EVR_SIZE.LOG2. -/
  evrLog2 : Nat := 6
  /-- 1 bit; R401 (14); reset 0. EVR_CTRL.ENABLE. -/
  evrEnable : Bool := false
  /-- 8 bits; R401 (14); reset 0. EVR_CTRL.MODERATE in µs. -/
  evrModerate : Nat := 0
  /-- 32 bits; R401 (14); reset 0. EVR_PROD. -/
  evrProd : BitVec 32 := 0
  /-- 32 bits; R401 (14); reset 0. EVR_CONS. -/
  evrCons : BitVec 32 := 0
  /-- 4,096 entries; R414 (14); reset empty. Backlog, oldest first. -/
  backlog : List EvEntry := []
  /-- 64 bits; R414 (14); reset 0. Events dropped since the last OVERFLOW entry was placed; 0 when none is pending. -/
  ovfDropped : Nat := 0
  /-- R446 (15); reset none. RESET event waiting for the ring to be enabled. -/
  resetEvent : Option EvEntry := none
  /-- 1 bit; R401 (14); reset 0. The MODERATE interval of vector 0 is running. -/
  modRunning : Bool := false
  /-- 1 bit; R401 (14); reset 0. An interrupt of vector 0 waits for the interval to end. -/
  modPending : Bool := false
  /-- 32 entries; R400 (14). MSI-X table. -/
  msix : Tbl MsixEntry := []
  /-- 32 bits; R400 (14); reset PRESUMED 0 (log 7). MSI-X pending bits. -/
  pba : Nat := 0
  /-- 64 bits; R401 (14); reset 0. SUM_PTR. -/
  sumPtr : Nat := 0
  /-- 32 bits; R12 (00), R401 (14); reset 0. Upper half staged for SUM_PTR. -/
  sumPtrHi : Nat := 0
  /-- 32 bits; R401 (14); reset 0. SUM_LEN. -/
  sumLen : Nat := 0
  /-- 1 bit; R401 (14); reset 0. SUM_CTRL.BUSY. -/
  sumBusy : Bool := false
  /-- 1 bit; R401 (14); reset 0. SUM_CTRL.DONE. -/
  sumDone : Bool := false
  /-- 1 bit; R401 (14); reset 0. SUM_CTRL.ERR. -/
  sumErr : Bool := false
  /-- 1 bit; R401 (14); reset 0. SUM_CTRL.AUTO. -/
  sumAuto : Bool := false
  /-- 16 bits; R401 (14); reset 0. SUM_CTRL.SNAP_ID. -/
  sumSnapId : Nat := 0
  /-- 32 bits; R418 (14); reset DESIGN CHOICE 0 (log 6). SNAP_ID of the last snapshot begun. -/
  snapId : Nat := 0
  /-- 32 bits; R420, R427 (14); reset 0. SNAP_ID of the snapshot that the SUMMARY DMA is to write. -/
  sumId : Nat := 0
  /-- 32 bits; R420 (14); reset 0. SNAP_ID of the snapshot that is kept. -/
  keptId : Nat := 0
  /-- 262,144 B; R418, R420 (14); reset empty. The last snapshot. -/
  snap : Bytes := []
  /-- 16 queues: 0-7 inject, 8-15 punt; R416 (14). -/
  dmaq : Tbl DmaQueue := []
  /-- 64 × 3 bits; R417 (14); reset DESIGN CHOICE 0 (log 6). PUNT_MAP. -/
  puntMap : Tbl Nat := []
  /-- R402, R517 (14, 20); reset false. The PCIe link is up. -/
  linkUp : Bool := false
  /-- 4 bits; R399 (14); reset 0. Lanes of the trained PCIe link: 8, 4, 2 or 1; 0 while it is down. -/
  pcieLanes : Nat := 0
  /-- 9 bits; R399 (14); reset 0. Rate of the trained PCIe link in tenths of GT/s; 0 while it is down. -/
  pcieGtps : Nat := 0
  /-- 11 × 32 bits; R224 (07). TCW_CMD, TCW_ADDR and TCW_DATA0-7 by word offset; reset 0. -/
  tcw : Tbl Nat := []
  /-- 32 bits; R224 (07); reset 0. TCW_STATUS. -/
  tcwStatus : Nat := 0
  /-- 2 bits; R224, R226 (07); reset 0. AON ticks for which the window stays BUSY. -/
  tcwLeft : Nat := 0
  /-- R12 (00); reset 0. Upper halves latched by a read of a _LO register, by offset. -/
  hiLatch : Tbl Nat := []
  /-- The MODEL's own output: what the device has written into host memory by DMA, oldest first (log 9); reset empty. -/
  dmaOut : List DmaWrite := []
  deriving DecidableEq, Repr

/-- Flash, OTP, boot and the measurements (R421–R425). -/
structure FwState where
  /-- 32 MiB; R421 (14); reset DESIGN CHOICE 0 in every byte (log 3). SPI NOR flash, kept through every reset. -/
  flash : Tbl Byte := []
  /-- 1 bit; R401, R422 (14); reset 0. Running image: slot B. -/
  slot : Bool := false
  /-- 1 bit; R401 (14); reset 0. The running image was booted on trial. -/
  trial : Bool := false
  /-- 32 bits; R401 (14); reset 0. FW_VERSION of the running image, 0 while the ROM runs (ID_FW). -/
  fwVersion : Nat := 0
  /-- 8 bits; R421 (14); reset 0. ROLLBACK of the running image. -/
  imgRollback : Nat := 0
  /-- 4 × 32 B; R422 (14); reset DESIGN CHOICE empty (log 8). Programmed OTP key hashes by slot. -/
  otpKeys : Tbl Bytes := []
  /-- 4 bits; R422 (14); reset DESIGN CHOICE 0 (log 8). Revoked OTP key slots. -/
  otpRevoked : Nat := 0
  /-- 6 bits; R422 (14); reset DESIGN CHOICE 0 (log 8). Blown anti-rollback steps, 0-32. -/
  rollback : Nat := 0
  /-- 32 B; R423 (14); reset DESIGN CHOICE zero (log 8) until the ROM computes it. ROM_HASH. -/
  romHash : Bytes := []
  /-- 32 B; R423 (14); reset DESIGN CHOICE zero (log 8) until an image runs. FW_HASH. -/
  fwHash : Bytes := []
  /-- 32 B; R423 (14); reset 32 zero bytes. CFG_HASH. -/
  cfgHash : Bytes := List.replicate 32 0
  /-- 1 bit; R422 (14); reset 0. The pending trial has already been tried at a boot. -/
  trialTried : Bool := false
  /-- 1 bit; R428 (14); reset 0. Clove is halted by a firmware assertion. -/
  halted : Bool := false
  deriving DecidableEq, Repr

end Sys2Proof.Machine
end

