-- ==== Sys2Proof/Machine/JoinState.lean ====
section
/-!
DEFINITION. The state of the joined ring (chapter 16).
-/
namespace Sys2Proof.Machine

/-- A chain group (R456, R457, R466). -/
structure ChainGroup where
  /-- 12 bits; R456 (16); reset 0. SEQ of the next block to send. -/
  txSeq : Nat := 0
  /-- 12 bits; R456 (16); reset 0xFFF (none). Last block received in order. -/
  rxSeq : Nat := 0xFFF
  /-- 64 blocks; R456 (16); reset empty. Blocks sent and not acknowledged, oldest first, with their SEQ. -/
  unacked : List (Nat × Bytes) := []
  /-- 2 bits; R456 (16); reset 0. Retransmits of the oldest block. -/
  retries : Nat := 0
  /-- 15 bits each; R456 (16); reset 1,024 and 3,072 units (64 KiB and 192 KiB). Credits held towards the neighbour: fast, normal. -/
  creditFast : Nat := 1024
  creditNorm : Nat := 3072
  /-- 15 bits each; R456 (16); reset 0. Credits to be returned. -/
  owedFast : Nat := 0
  owedNorm : Nat := 0
  /-- 64 KiB and 192 KiB; R456, R463 (16); reset empty. Receive FIFOs of the fast and the normal classes: chain frames not yet taken, oldest first. -/
  fifoFast : List Bytes := []
  fifoNorm : List Bytes := []
  /-- R457 (16); reset empty. CONTROL frames received and not yet checked, oldest first. -/
  ctl : List Bytes := []
  /-- R457 (16); reset empty. Bytes of a chain frame whose rest stands in later blocks. -/
  part : Bytes := []
  /-- R460 (16); reset empty. Fast and normal chain queues: descriptors, head first. -/
  fastq : List Nat := []
  normq : List Nat := []
  /-- 1 bit; R466 (16); reset 0. The wrap timer has expired and the link is not yet unwrapped. -/
  wrapped : Bool := false
  /-- 2 counts; R395, R466 (13, 16); reset 0. The wrap timer, in ticks: those counted, and all since the link went down. -/
  wrapTicks : Nat × Nat := (0, 0)
  /-- 1 bit; R457 (16); reset 0. Held down by a CONTROL frame that names the wrong neighbour. -/
  held : Bool := false
  deriving DecidableEq, Repr

structure JoinState where
  /-- 1 bit; R475 (17); reset 0. JOIN_CONFIG has been written since the last cold reset. -/
  configured : Bool := false
  /-- 4 bits; R454 (16); reset DESIGN CHOICE 0 (log 32). MEMBERS. -/
  members : Nat := 0
  /-- 4 bits; R454 (16); reset DESIGN CHOICE 0 (log 32). CHAIN_PARSE. -/
  chainParse : Nat := 0
  /-- 16 bits; R454 (16); reset DESIGN CHOICE 0 (log 32). FAST_CLASSES. -/
  fastClasses : Nat := 0
  /-- 32 bits; R454 (16); reset 200 µs. WRAP_TIMEOUT. -/
  wrapTimeout : Nat := 200
  /-- 32 bits; R454 (16); reset 1,000 µs. MEMBER_TIMEOUT. -/
  memberTimeout : Nat := 1000
  /-- 64 B; R454 (16); reset DESIGN CHOICE 0xFF, none (log 32). FALLBACK. -/
  fallback : Bytes := List.replicate 64 0xFF
  /-- 4 bits; R467 (16); reset 0. PRESENT. -/
  present : Nat := 0
  /-- 16 × 2 bits; R458, R467 (16); reset empty: every flow is homed locally. HOME_MAP. -/
  homeMap : List Nat := []
  /-- 16 indices; R469 (16); reset empty. Indices that moved at a loss and whose subscribers firmware has not yet rebound. -/
  moved : List Nat := []
  /-- 4 × 2 bits; R457, R466 (16); reset 3 (up). LINKS of the other members' last CONTROL frames. -/
  links : Tbl Nat := []
  /-- 4 × 4 bits; R457, R467 (16); reset 0. PRESENT of the other members' last CONTROL frames. -/
  theirs : Tbl Nat := []
  /-- 2 groups; R456, R466 (16). LG8 is 0 and LG9 is 1. -/
  group : Tbl ChainGroup := []
  /-- The MODEL's own output: what the chain groups have sent, oldest first, by group (log 9); reset empty. -/
  out : List (Nat × Bytes) := []
  deriving DecidableEq, Repr

end Sys2Proof.Machine
end

