-- ==== Sys2Proof/Machine/LaneState.lean ====
section
/-!
DEFINITION. The state of the serial lanes, the lane maps, the spares and the ports (chapter 11).
Physical lanes are numbered group × 9 + index; links are the ports 0–63, and 64 and 65 for the chain groups LG8 and LG9.
-/
namespace Sys2Proof.Machine

/-- Where a link stands (R323, R326, R330). -/
inductive LinkPhase where
  | off | bringUp | up | gap | retrain | swap | test
  deriving DecidableEq, Repr

/-- A physical lane (R323, R336). -/
structure Lane where
  /-- 4 bits; R323 (11); reset 0 (OFF). STATE. -/
  st : Nat := 0
  /-- 1 bit; R336 (11); reset DESIGN CHOICE 0 (log 20). Signal. -/
  signal : Bool := false
  /-- 1 bit; R336 (11); reset DESIGN CHOICE 0 (log 20). CDR lock. -/
  cdr : Bool := false
  /-- 1 bit; R323, R336 (11); reset 0. RX inverted. -/
  rxInv : Bool := false
  /-- 1 bit; R328 (11); reset 0. DEGRADED. -/
  degraded : Bool := false
  /-- 8 bits; R322 (11); reset 0x20. The CTRL byte in effect. -/
  ctrl : Nat := 0x20
  /-- 5 bits; R336 (11); reset DESIGN CHOICE 12 (log 20). CTLE_NOW. -/
  ctle : Nat := 12
  /-- 8 bits signed; R336 (11); reset DESIGN CHOICE 0 (log 20). DFE_TAP. -/
  dfe : Byte := 0
  /-- 24 × 8 bits signed; R336 (11); reset DESIGN CHOICE 0 (log 20). FFE. -/
  ffe : Bytes := List.replicate 24 0
  /-- 16 bits; R327 (11); reset DESIGN CHOICE 0 (log 20). MARGIN in 0.1 dB. -/
  margin : Nat := 0
  /-- 4 bits; R328 (11); reset 0. Consecutive measurements below the floor. -/
  below : Nat := 0
  /-- 4 bits; R328 (11); reset 0. Consecutive measurements above the floor. -/
  above : Nat := 0
  /-- R328 (11); reset 0. Measurements, corrected symbols and symbols of the 10 ms window. -/
  winN : Nat := 0
  winErr : Nat := 0
  winSym : Nat := 0
  /-- 1 bit; R328 (11); reset 1. The last full window was below the rate. -/
  winOk : Bool := true
  /-- 1 bit; R328 (11); reset 0. The last full window was above the rate. -/
  winOver : Bool := false
  /-- 5 × 8 bits signed; R322 (11); reset 0, 0, −4, 56, −4. The transmitter's taps in use. -/
  txFfe : Bytes := [0, 0, 0xFC, 56, 0xFC]
  /-- R323, R326 (11); reset none. Saved RX inversion, CTLE, DFE and FFE. -/
  saved : Option (Bool × Nat × Byte × Bytes) := none
  /-- 2 bits; R334 (11); reset 0. Loop: 0 none, 1 near-end serial, 2 near-end parallel, 3 far-end. -/
  loop : Nat := 0
  /-- 12 B; R332 (11); reset none. Running pattern, by its parameters. -/
  pattern : Option Bytes := none
  /-- 1 bit; R332 (11); reset 0. The checker is locked. -/
  checker : Bool := false
  /-- 16 B; R333 (11); reset none. Error injection in force. -/
  inject : Option Bytes := none
  /-- 1 bit; R321 (11); reset DESIGN CHOICE 0 (log 86). The precoding that the partner asked for in link training. -/
  reqPre : Bool := false
  /-- R332, R333 (11); reset 0. The free-running count at the start of the pattern and of the injection, and at the checker's
  lock. -/
  patAt : Nat := 0
  injAt : Nat := 0
  lockAt : Nat := 0
  /-- R332 (11); reset 0. PRBS_ERR counted since the checker's lock. -/
  prbsErr : Nat := 0
  deriving DecidableEq, Repr

/-- The pattern checker judges the lane: SQ_MODE 1, in TEST only (R327). -/
def Lane.judged (l : Lane) : Bool := l.st == 12 && l.ctrl / 64 % 2 == 1

/-- The lane counts as locked: by its CDR detector, or by its checker (R327). -/
def Lane.locked (l : Lane) : Bool := if l.judged then l.checker else l.cdr

/-- A link: a port, or a chain link. -/
structure Link where
  /-- 3 bits; R323, R326 (11); reset off. -/
  phase : LinkPhase := .off
  /-- 4 bits; R326 (11); reset 0. Fast retrain attempts made since the link went down. -/
  attempts : Nat := 0
  /-- 4 bits; R326 (11); reset none. Logical lane that first raised its fault. -/
  first : Option Nat := none
  /-- 8 × 4 bits; R323 (11); reset empty. Saved lane-order permutation. -/
  perm : Bytes := []
  /-- 1 bit; R325 (11); reset 0. The port is down by remote-fault ordered sets, its receive side up: it sends idles. -/
  rf : Bool := false
  deriving DecidableEq, Repr

/-- A swap in progress (R330): the logical lane and how far it has come. -/
structure Swap where
  /-- 3 bits; R330 (11). Logical lane that is swapped. -/
  lane : Nat
  /-- 4 bits; R330 (11). Physical lane it leaves. -/
  old : Nat
  /-- 2 bits; R330 (11). 0 waiting for ACK, 1 acknowledged, 2 remapped. -/
  step : Nat
  /-- 3 bits; R330 (11); reset 0. Steering block boundaries to come before the spare carries the lane's data. -/
  wait : Nat := 0
  deriving DecidableEq, Repr

/-- The spare and the steering stream of a group (R329). -/
structure LaneGroup where
  /-- 1 bit; R329 (11); reset 0. The partner's READY, received stable. -/
  partnerReady : Bool := false
  /-- 4 bits; R329 (11); reset 15. REQ received stable. -/
  rxReq : Nat := 15
  /-- 4 bits; R329 (11); reset 15. ACK received stable. -/
  rxAck : Nat := 15
  /-- R329 (11); reset empty. REQ, ACK and READY of the last valid consecutive blocks, newest first, at most 3. -/
  hist : List (Nat × Nat × Bool) := []
  /-- 4 bits; R329 (11); reset 15. REQ sent. -/
  txReq : Nat := 15
  /-- 4 bits; R329 (11); reset 15. ACK sent. -/
  txAck : Nat := 15
  /-- 8 bits; R329 (11); reset DESIGN CHOICE 0 (log 87). SEQ of the steering block sent next. -/
  seq : Nat := 0
  /-- 18 bits; R329 (11); reset DESIGN CHOICE 0 (log 87). Half bits sent since the last steering block. -/
  seqBits : Nat := 0
  /-- R330 (11); reset none. Swap in progress. -/
  swap : Option Swap := none
  deriving DecidableEq, Repr

/-- Lanes and ports. -/
structure LaneState where
  /-- 64 × 16 B; R319 (11); reset by R319: ENABLE 0 and the defaults. Port records. -/
  port : Tbl Bytes := []
  /-- 160 × 16 B; R322 (11); reset by R322. Lane records by group × 16 + lane. -/
  laneRec : Tbl Bytes := []
  /-- 80 × 4 bits; R316 (11); reset logical i to physical i. Lane maps by group × 8 + logical lane. -/
  map : Tbl Nat := []
  /-- 90 lanes; R323 (11). -/
  lane : Tbl Lane := []
  /-- 66 links; R323, R326 (11). -/
  link : Tbl Link := []
  /-- 10 groups; R329 (11). -/
  group : Tbl LaneGroup := []
  deriving DecidableEq, Repr

end Sys2Proof.Machine
end

