-- ==== Sys2Proof/Machine/LookupState.lean ====
section
/-!
DEFINITION. The state of the lookup tables (chapter 7): service table, learned L2 table, key-search CAM.
-/
namespace Sys2Proof.Machine

/-- A learn request (R213, R214). -/
structure LearnReq where
  fid : Nat
  mac : Bytes
  port : Nat
  /-- The ageing time base at the source lookup. -/
  time : Nat
  deriving DecidableEq, Repr

structure LookupState where
  /-- 262,144 × 24 B; R203, R204 (07); reset DESIGN CHOICE 0 (VALID 0, log 34). Service entries by port × 4,096 + VLAN. -/
  svc : Tbl Bytes := []
  /-- 1 bit each; R207 (07); reset 0. Service entries that have failed parity. -/
  svcBad : Tbl Nat := []
  /-- 262,144 × 16 B; R212 (07); reset DESIGN CHOICE 0 (empty, log 34). L2 entries by set × 8 + way. -/
  l2 : Tbl Bytes := []
  /-- 1 bit each; R218 (07); reset 0. L2 entries that fail parity. -/
  l2Bad : Tbl Nat := []
  /-- 4,096 requests; R214 (07); reset empty. Learn queue, oldest first. -/
  learnq : List LearnReq := []
  /-- 18 bits; R207 (07); reset 0 (DESIGN CHOICE, log 34). Service entry that the scrub reads next. -/
  scrubSvc : Nat := 0
  /-- 18 bits; R218 (07); reset 0 (DESIGN CHOICE, log 34). L2 entry that the scrub reads next. -/
  scrubL2 : Nat := 0
  /-- 15 bits; R223 (07); reset 0 (DESIGN CHOICE, log 34). CAM entry that the scrub reads next. -/
  scrubCam : Nat := 0
  /-- 32 bits; R215 (07); reset 1 ms. HOLD. -/
  hold : Nat := 1
  /-- 32 bits; R216 (07); reset 300 s. L2_AGE. -/
  l2Age : Nat := 300
  /-- 32 bits; R212 (07); reset DESIGN CHOICE 0 (log 34). L2_SEED. -/
  l2Seed : Nat := 0
  /-- 32,768 × 32 B; R219 (07); reset DESIGN CHOICE 0 (VALID 0, log 34). CAM entries. -/
  cam : Tbl Bytes := []
  /-- 2 bits each; R223 (07); reset 0. CAM entries that fail parity: 1, and 2 once a search or the scrub has found it. -/
  camBad : Tbl Nat := []
  /-- 16 × 32 B; R220 (07); reset DESIGN CHOICE 0 (BANKS 0, log 34). CAM profiles. -/
  camProf : Tbl Bytes := []
  /-- R221, R222 (07); reset empty. Profiles of CAM_SEARCH nodes in flight. -/
  camFlight : List Nat := []
  deriving DecidableEq, Repr

end Sys2Proof.Machine
end

