-- ==== Sys2Proof/Machine/MaceState.lean ====
section
/-!
DEFINITION. The state of the fault hub, the safe state, the check-value units and SC-256 injection (chapter 13).
-/
namespace Sys2Proof.Machine

/-- A fault event on its way to Mace (R378): source, the object named, and the ports the event names. -/
structure FaultEv where
  src : Nat
  inst : Nat
  ports : BitVec 64
  deriving DecidableEq, Repr

/-- One sub-window of a source (R379, R380): its count and the union of the scopes of its events. -/
structure SubWin where
  count : Nat := 0
  scope : BitVec 64 := 0
  deriving DecidableEq, Repr

/-- What Mace keeps of one source (R379–R382). -/
structure MaceSource where
  /-- 2 bits; R381, R385 (13); reset by the source table. REACTION. -/
  reaction : Nat
  /-- 2 bits; R381, R385 (13); reset by the source table. ARX. -/
  arx : Nat
  /-- 1 bit; R382 (13); reset DESIGN CHOICE 0 (log 10). EVENT_RING. -/
  eventRing : Bool := false
  /-- 16 bits; R379, R385 (13); reset by the source table. N. -/
  n : Nat
  /-- 32 bits; R379, R385 (13); reset by the source table. W in µs. -/
  w : Nat
  /-- 1 bit; R378, R383 (13); reset 0. STICKY. -/
  sticky : Bool := false
  /-- 1 bit; R379, R383 (13); reset 0. SEVERE. -/
  severe : Bool := false
  /-- 16 sub-windows; R379 (13); reset empty. Current sub-window first. -/
  win : List SubWin := []
  /-- 32 bits; R382 (13); reset 0. LAST_INST. -/
  lastInst : Nat := 0
  /-- 64 bits; R378, R382 (13); reset 0. EVENTS, kept by every reset but power-on (R384). -/
  events : BitVec 64 := 0
  /-- 64 bits; R382 (13); reset 0. SCOPE. -/
  scope : BitVec 64 := 0
  deriving DecidableEq, Repr

/-- One check-value unit (R376). -/
structure CvuUnit where
  /-- 1 bit; R376 (13); reset 0. CVU_CTRL.ENABLE. -/
  enable : Bool := false
  /-- 2 bits; R376 (13); reset 0. CVU_CTRL.MODE. -/
  mode : Nat := 0
  /-- 7 bits; R376 (13); reset 32. CVU_CTRL.WIDTH. -/
  width : Nat := 32
  /-- 1 bit; R376 (13); reset 1. CVU_CTRL.REFIN. -/
  refin : Bool := true
  /-- 1 bit; R376 (13); reset 1. CVU_CTRL.REFOUT. -/
  refout : Bool := true
  /-- 3 bits; R376 (13); reset 0. CVU_SRC.STREAM. -/
  stream : Nat := 0
  /-- 6 bits; R376 (13); reset 0. CVU_SRC.SEL. -/
  sel : Nat := 0
  /-- 14 bits; R376 (13); reset 0. CVU_OFFSET. -/
  offset : Nat := 0
  /-- 32 bits; R376 (13); reset 0. CVU_WINDOW. -/
  window : Nat := 0
  /-- 64 bits; R376 (13); reset 0x04C11DB7. CVU_POLY. -/
  poly : Nat := 0x04C11DB7
  /-- 64 bits; R376 (13); reset 0xFFFFFFFF. CVU_INIT. -/
  init : Nat := 0xFFFFFFFF
  /-- 64 bits; R376 (13); reset 0xFFFFFFFF. CVU_XOROUT. -/
  xorout : Nat := 0xFFFFFFFF
  /-- 64 bits; R376 (13); reset 0. CVU_EXPECT. -/
  expect : Nat := 0
  /-- 64 bits; R376 (13); reset 0. CVU_RESULT. -/
  result : Nat := 0
  /-- 1 bit; R376 (13); reset 0. CVU_STATUS.BUSY. -/
  busy : Bool := false
  /-- 1 bit; R376 (13); reset 0. CVU_STATUS.DONE. -/
  done : Bool := false
  /-- 1 bit; R376 (13); reset 0. CVU_STATUS.MISMATCH. -/
  mismatch : Bool := false
  /-- 1 bit; R376, R374 (13); reset 0. A PRESET of 5-7 has been written and no usable one since. -/
  badPreset : Bool := false
  /-- 4 × 32 bits; R12, R376 (13); reset 0. Upper halves staged for POLY, INIT, XOROUT and EXPECT. -/
  staged : Tbl Nat := []
  /-- Up to WINDOW bytes; R375 (13); reset empty. The bytes of a STREAM window of streams 0–3 since START. -/
  acc : Bytes := []
  deriving DecidableEq, Repr

/-- A pending SC-256 injection (R372). -/
structure Injection where
  struct : Nat
  whereAt : Nat
  symbols : Nat
  deriving DecidableEq, Repr

/-- Mace, the check-value units and injection. -/
structure MaceState where
  /-- 256 records; R378–R385 (13); reset by the source table. An unlisted source stands at its default. -/
  src : Tbl MaceSource := []
  /-- 64 bits; R383, R388 (13); reset 0. Ports in the safe state. -/
  safe : BitVec 64 := 0
  /-- R378 (13); reset empty. Events delivered by blocks and not yet counted, oldest first. -/
  inflight : List FaultEv := []
  /-- 32 units; R373–R376 (13). -/
  cvu : Tbl CvuUnit := []
  /-- 5 × 32 bits a unit; R12, R376 (13); reset none. Upper halves latched by a read of the _LO register, by word. -/
  cvuLatch : Tbl Nat := []
  /-- R372 (13); reset none. Armed injection. -/
  injection : Option Injection := none
  /-- 34 × 1 bit; R393, SAFETY_STATUS (13); reset DESIGN CHOICE 0 (log 10). 1 when the last sentinel run of a half passed, by
  pipeline × 2 + half. -/
  sentinel : Tbl Nat := []
  /-- 34 × 1 bit; R393 (13); reset 0. A sentinel run that a half owes before it takes its next packet, by pipeline × 2 + half. -/
  sentinelOwed : Tbl Nat := []
  /-- 34 × 64 bits; R393 (13); reset DESIGN CHOICE 0 (log 10). Signature of the last sentinel run of a half, by pipeline × 2 +
  half. -/
  sentinelSig : Tbl (BitVec 64) := []
  /-- 34 × 1 bit; R391, R393 (13); reset 0. A stage parity error that the next packet of a half meets, by pipeline × 2 + half. -/
  stageBad : Tbl Nat := []
  deriving DecidableEq, Repr

end Sys2Proof.Machine
end

