-- ==== Sys2Proof/Machine/ObsState.lean ====
section
/-!
DEFINITION. The state of the observation port, the trace buffer and the impairment units (chapter 19).
-/
namespace Sys2Proof.Machine

/-- TRC_STATE.STATE (R503). -/
inductive TrcState where
  | idle | running | stopped | frozen
  deriving DecidableEq, Repr

/-- A record on its way to the trace buffer (R501): TYPE, SUB, TIME and the payload from offset 16. -/
structure TraceRec where
  type : Nat
  sub : Nat
  time : Nat
  payload : Bytes
  deriving DecidableEq, Repr

/-- One impairment unit (R506–R508). -/
structure ImpUnit where
  /-- 32 B; R506 (19); reset DESIGN CHOICE 0 but REORDER_WAIT 100 (log 11). The record. -/
  record : Bytes
  /-- 1 bit; R509 (19); reset 0. Armed. -/
  armed : Bool := false
  /-- 32 bits; R507 (19); reset 0. LFSR. -/
  lfsr : Nat := 0
  /-- R507 (19); reset 0. Eligible frames since arming. -/
  seen : Nat := 0
  /-- R508 (19); reset none. The held frame's descriptor number. -/
  held : Option Nat := none
  /-- R508 (19); reset 0. Frames still to be sent before the held one. -/
  heldLeft : Nat := 0
  /-- 64 bits; R510 (19); reset 0. The free-running counter at CONFIRM, from which ARM_LEFT is counted. -/
  armedAt : Nat := 0
  deriving DecidableEq, Repr

/-- An arming token (R509). -/
structure ImpToken where
  token : Nat
  mbx : Nat
  ports : BitVec 64
  deriving DecidableEq, Repr

/-- Observation, trace and impairment. -/
structure ObsState where
  /-- 1 bit; R497 (19); reset 0. OBS_STATUS.NOT_READY. -/
  notReady : Bool := false
  /-- 1 bit; R497 (19); reset 0. OBS_STATUS.UE. -/
  ue : Bool := false
  /-- 1 bit; R497 (19); reset 0. OBS_STATUS.MAP. -/
  map : Bool := false
  /-- 1 bit; R497 (19); reset 0. OBS_STATUS.BAD_CMD. -/
  badCmd : Bool := false
  /-- 24 bits; R497 (19); reset 0. OBS_STATUS.WORDS. -/
  words : Nat := 0
  /-- The MODEL's own output: what the last transaction drove on OBS_SDO (log 9); reset empty. -/
  sdo : Bytes := []
  /-- 8 bits; R503 (19); reset DESIGN CHOICE 1 (log 11). Trace MODE. -/
  trcMode : Nat := 1
  /-- 16 bits; R503 (19); reset DESIGN CHOICE 0 (log 11). TYPES. -/
  trcTypes : Nat := 0
  /-- 16 bits; R503 (19); reset DESIGN CHOICE 0xFFFF (log 11). STOP_SRC. -/
  stopSrc : Nat := 0xFFFF
  /-- 32 bits; R503 (19); reset DESIGN CHOICE 0 (log 11). POST. -/
  post : Nat := 0
  /-- 64 bits; R503 (19); reset DESIGN CHOICE 0 (log 11). GATE_PORTS. -/
  gatePorts : BitVec 64 := 0
  /-- 8 × 16 B; R503 (19); reset DESIGN CHOICE 0 (log 11). FILTER0-7. -/
  filters : Tbl Bytes := []
  /-- 8 × 64 bits; R503 (19); reset 0. Matches of each filter. -/
  filterHits : Tbl Nat := []
  /-- 2 bits; R503 (19); reset idle. TRC_STATE.STATE. -/
  trc : TrcState := .idle
  /-- 1 bit; R503 (19); reset 0. TRC_STATE.WRAPPED. -/
  wrapped : Bool := false
  /-- 18 bits; R503 (19); reset 0. TRC_WR. -/
  trcWr : Nat := 0
  /-- 32 bits; R503 (19); reset 0. TRC_SEQ. -/
  trcSeq : BitVec 32 := 0
  /-- 1 + 18 bits; R504 (19); reset none. Records still to be written after the trigger. -/
  postLeft : Option Nat := none
  /-- 8 MiB; R501 (19); reset empty. Trace buffer, 32-byte slots. -/
  slots : Tbl Bytes := []
  /-- 262,144 × 1 bit; R497, R501 (19); reset 0. Slots of the trace buffer that hold an uncorrectable unit. -/
  slotBad : Tbl Nat := []
  /-- 64 entries per source; R504 (19); reset empty. Records in the trace FIFOs, oldest first. -/
  fifo : List TraceRec := []
  /-- 1 bit; R504 (19); reset 0. A loss event has been posted in the current millisecond. -/
  lossPosted : Bool := false
  /-- 64 units; R506 (19). -/
  imp : Tbl ImpUnit := []
  /-- R509 (19); reset none. The valid token. -/
  token : Option ImpToken := none
  /-- R509 (19); reset none. The last token that passed its 10 s. -/
  expired : Option ImpToken := none
  deriving DecidableEq, Repr

end Sys2Proof.Machine
end

