-- ==== Sys2Proof/Machine/PowerState.lean ====
section
/-!
DEFINITION. The state of power domains, sleep, standby, resets and start-up (chapter 15) and of the slow pins
(chapter 20).
-/
namespace Sys2Proof.Machine

/-- The state of a power domain (R431, R432). -/
inductive DomainPower where
  | off | waking | on | failed | retention
  deriving DecidableEq, Repr

/-- The sleep depth of a lane or pipeline half (R435). -/
inductive Depth where
  | active | quiet | doze | off | gated | powerGated
  deriving DecidableEq, Repr

/-- Standby (R442). -/
inductive Standby where
  | no | entering | inStandby | leaving
  deriving DecidableEq, Repr

/-- The kind of a device reset (R443). -/
inductive ResetKind where
  | powerOn | cold | warm
  deriving DecidableEq, Repr

/-- A warm reset in its quiesce (R445). -/
inductive WarmPhase where
  | none | quiescing | held
  deriving DecidableEq, Repr

/-- Power, clocks, reset and start-up. -/
structure PowerState where
  /-- 24 × 3 bits; R431, R432 (15); reset off, AON excepted. State of the domains other than AON that are not off. -/
  domain : Tbl DomainPower := []
  /-- 90 × 2 bits; R435 (15); reset active. Sleep depth of the lanes that sleep, by group × 9 + lane. -/
  laneDepth : Tbl Depth := []
  /-- 17 × 2 × 2 bits; R435, R438 (15); reset active. Sleep depth of the pipeline halves that sleep, by pipeline × 2 + half. -/
  pipeDepth : Tbl Depth := []
  /-- 64 × 8 B; R436 (15); reset by R436 (QUIET_IDLE 10, DOZE_IDLE 60,000, both enables 0). Sleep records. -/
  sleepRec : Tbl Bytes := []
  /-- 64 × 2 bits; R437 (15); reset active. Sleep depth of the ports that sleep. -/
  portDepth : Tbl Depth := []
  /-- 64 bits; R437 (15); reset 0. Ports that are waking from doze. -/
  waking : BitVec 64 := 0
  /-- 32 bits; R438 (15); reset 2,000 ns. CG_IDLE in ns. -/
  cgIdle : Nat := 2000
  /-- 2 bits; R442 (15); reset no. Standby. -/
  standby : Standby := .no
  /-- 8 bits; R442 (15); reset 10 ms. STANDBY_DRAIN in ms. -/
  standbyDrain : Nat := 10
  /-- 3 bits; R442, R404 (15, 14); reset none. Mailbox whose POWER_STANDBY is executing. -/
  standbyMbx : Option (Fin 8) := none
  /-- 2 bits; R445 (15); reset none. Where a warm reset stands. -/
  warm : WarmPhase := .none
  /-- 2 bits; R446, R443 (15); reset 0. CAUSE of the reset in progress. -/
  cause : Nat := 0
  /-- 1 bit; R446, R444 (15); reset power-on. Kind of the last reset. -/
  lastReset : ResetKind := .powerOn
  /-- 1 bit; R197 (06), R445 (15); reset 0. Firmware owes a POOL_AUDIT. -/
  auditDue : Bool := false
  /-- 1 bit; R450, R448 (15); reset 0. Full training of step 5 has ended since HBM contents were last lost. -/
  trained : Bool := false
  /-- 1 bit; R434, R443 (15); reset 0. A clock failure stands: the last check of the clock monitors found one. -/
  clockFails : Bool := false
  /-- 1 bit; R443 (15), R520 (20); reset 0. A supply failure stands. -/
  supplyFails : Bool := false
  /-- 1 bit; R443 (15); reset 0. A WARM reaction has run since the last cold reset. -/
  warmReacted : Bool := false
  /-- 1 bit; R447 (15); reset 0. Start-up in progress restarts Clove alone (block reset of MGMT). -/
  mgmtOnly : Bool := false
  /-- 1 bit; R448 (15); reset 0. Step 4 has ended since the last cold reset: maps and templates are loaded. -/
  loaded : Bool := false
  /-- 1 bit; R442 (15); reset 0. Ingress is stopped by standby or a warm quiesce. -/
  ingressStopped : Bool := false
  deriving DecidableEq, Repr

/-- The slow pins and straps (R517). -/
structure PinState where
  /-- 1 bit; R517 (20); reset DESIGN CHOICE high (log 8). RST_N. -/
  rstN : Bool := true
  /-- 1 bit; R517 (20); reset DESIGN CHOICE high (log 8). WRST_N. -/
  wrstN : Bool := true
  /-- 1 bit; R517, R521 (20); reset low. MAIN_PG. -/
  mainPg : Bool := false
  /-- 1 bit; R517 (20); reset DESIGN CHOICE high (log 8). PERST_N. -/
  perstN : Bool := true
  /-- 1 bit; R384 (13), R517 (20); reset high. FAULT_N. -/
  faultN : Bool := true
  /-- 1 bit; R384 (13), R517 (20); reset high. SAFE_N. -/
  safeN : Bool := true
  /-- 1 bit; R517, R528 (20); reset high. TALERT_N. -/
  talertN : Bool := true
  /-- 1 bit; R523 (20); strap, DESIGN CHOICE 1 at State.reset (log 8). SPI_QUAD. -/
  spiQuad : Bool := true
  /-- 1 bit; R523 (20); strap, DESIGN CHOICE 1 at State.reset (log 8). TEST_N. -/
  testN : Bool := true
  /-- 16 bits; R528 (20); reset DESIGN CHOICE 0 (log 8). Last reading of the hottest on-die sensor, in 0.1 °C. -/
  tj : Int := 0
  /-- 8 bits; R527 (20); reset PRESUMED BYPASS (IEEE 1149.1, log 7). The JTAG instruction that acts. -/
  jtag : Nat := 0
  deriving DecidableEq, Repr

end Sys2Proof.Machine
end

