-- ==== Sys2Proof/Machine/SchedState.lean ====
section
/-!
DEFINITION. The state of the scheduler, the shapers, the gates, the launch records and the samplers (chapter 9).
-/
namespace Sys2Proof.Machine

/-- The token count of a shaper (R275), in units of 1/8,000,000 byte, as of a reading of the free-running counter. -/
structure Tokens where
  tok : Int := 0
  at_ : Nat := 0
  deriving DecidableEq, Repr

/-- A gate-list buffer (R279, R280). -/
structure GateList where
  /-- 1,024 × 8 B; R280 (09); reset DESIGN CHOICE 0 (log 14). Entries by number. -/
  entries : Tbl Bytes := []
  /-- 48 bits; R280 (09); reset DESIGN CHOICE 0 (log 14). BASE_TIME seconds. -/
  baseSec : Nat := 0
  /-- 30 bits; R280 (09); reset DESIGN CHOICE 0 (log 14). BASE_TIME nanoseconds. -/
  baseNsec : Nat := 0
  /-- 32 bits; R280 (09); reset DESIGN CHOICE 0 (log 14). CYCLE_TIME in ns. -/
  cycle : Nat := 0
  /-- 16 bits; R280 (09); reset DESIGN CHOICE 0 (log 14). COUNT. -/
  count : Nat := 0
  /-- 78 bits; R281, R284 (09); reset DESIGN CHOICE 0 (log 14). START, in ns of active time. -/
  start : Nat := 0
  /-- 1,024 × 1 bit; R292 (09); reset 0. Entries that have failed parity. -/
  bad : List Nat := []
  deriving DecidableEq, Repr

/-- A sampler entry and what it has gathered since its last sample (R289, R290). -/
structure Sampler where
  /-- 16 B; R411 (14); reset DESIGN CHOICE 0 (log 14). The record. -/
  record : Bytes := List.replicate 16 0
  /-- 32 bits; R290 (09); reset 0. DEPTH_MAX. -/
  depthMax : Nat := 0
  /-- 32 bits; R290 (09); reset 0. DELAY of the last frame dequeued. -/
  delay : Nat := 0
  /-- 32 bits; R290 (09); reset 0. DELAY_MAX. -/
  delayMax : Nat := 0
  /-- 16 bits; R290 (09); reset 0. DEQ, saturating. -/
  deq : Nat := 0
  deriving DecidableEq, Repr

/-- A sample or export ring in TELEMETRY (R195, R291). -/
structure Ring where
  /-- 1 bit; R195, R291 (06, 09); reset 0. The ring has been set. -/
  valid : Bool := false
  /-- 64 bits; R195, R291 (06, 09); reset DESIGN CHOICE 0 (log 14). Base. -/
  base : Nat := 0
  /-- 8 bits; R195, R291 (06, 09); reset DESIGN CHOICE 0 (log 14). SIZE_LOG2. -/
  log2 : Nat := 0
  /-- 8 bits; R195, R291 (06, 09); reset DESIGN CHOICE 0 (log 14). FLAGS. -/
  flags : Nat := 0
  /-- 32 bits; R195, R291 (06, 09); reset 0. PROD. -/
  prod : Nat := 0
  /-- 25 bits; R195, R291 (06, 09); reset 0. Unit of the ring that the next record takes (log 26). -/
  pos : Nat := 0
  /-- 32 bits; R195, R291 (06, 09); reset 0. CONS. -/
  cons : Nat := 0
  /-- 64 bits; R195, R291 (06, 09); reset 0. DROPS. -/
  drops : Nat := 0
  deriving DecidableEq, Repr

/-- Scheduling. Elements are numbered level × 2^18 + number (R411). -/
structure SchedState where
  /-- 1,024 + 131,072 + 32,768 + 4,096 × 16 B; R269, R270 (09); reset by R270; SHAPER of a port-class queue DESIGN CHOICE 0xFFFF (log 14). Element records. -/
  elem : Tbl Bytes := []
  /-- 48 bits each; R273 (09); reset DESIGN CHOICE 0 (log 14). Tags S by element. -/
  tag : Tbl Nat := []
  /-- 48 bits each; R273 (09); reset DESIGN CHOICE 0 (log 14). Virtual times V by node × 8 + band. -/
  vt : Tbl Nat := []
  /-- 1 bit each; R273 (09); reset 0. Elements that were eligible when last looked at. -/
  elig : Tbl Nat := []
  /-- 65,535 × 16 B; R274 (09); reset DESIGN CHOICE 0 (unshaped, log 14). Shapers. -/
  shaper : Tbl Bytes := []
  /-- R275 (09); reset DESIGN CHOICE 0 (log 14). Token counts. -/
  tokens : Tbl Tokens := []
  /-- 64 × 16 B; R277 (09); reset by R277; SHAPER DESIGN CHOICE 0xFFFF (log 14). Port scheduling records. -/
  port : Tbl Bytes := []
  /-- 64 buffers; R279 (09); reset none. Operational lists. -/
  gateOp : Tbl GateList := []
  /-- 64 buffers; R279 (09). Pending buffers. -/
  gatePend : Tbl GateList := []
  /-- 64 bits; R284 (09); reset 0. Ports with a commit pending. -/
  gateCommit : BitVec 64 := 0
  /-- 64 × 11 bits; R281 (09); reset 0. Entry in force by port. -/
  gateEntry : Tbl Nat := []
  /-- 16 × 16 B; R287 (09); reset by R287, other fields DESIGN CHOICE 0 (log 14). Launch records. -/
  launch : Tbl Bytes := []
  /-- 8,192 entries; R289 (09). Samplers. -/
  sampler : Tbl Sampler := []
  /-- 8 rings; R291 (09). Sample rings. -/
  ring : Tbl Ring := []
  /-- 1 bit each; R292 (09); reset 0. Records that have failed parity: element by number, 2^21 + shaper, 2^22 + port, 2^23 + launch class. -/
  bad : Tbl Nat := []
  deriving DecidableEq, Repr

end Sys2Proof.Machine
end

