-- ==== Sys2Proof/Machine/SpareState.lean ====
section
/-!
DEFINITION. The state of the spares and of service life (chapter 18).
-/
namespace Sys2Proof.Machine

/-- A pipeline swap between its decision and step P7 (R487). -/
structure PipeSwap where
  old : Nat
  new : Nat
  block : Nat
  proactive : Bool := false
  deriving DecidableEq, Repr

/-- The swap policy record at reset (R490). -/
def policyDefault : Bytes :=
  [7, 0, 60, 0, 0x30, 0x2A, 0, 0, 0xC2, 1, 30, 0, 10, 0, 5, 3, 16, 0, 2, 0, 64, 0, 0, 0, 0, 0, 0, 0, 0, 0, 0, 0]

structure SpareState where
  /-- 16 × 5 bits; R15 (01), R18 (01); reset lane block b to PLb. Pipeline serving each lane block. -/
  pipeMap : Tbl Nat := []
  /-- 17 × 2 bits; R486, R492 (18); reset 0. Pipelines that are out of service: 2 spare AGED, 3 FAILED or not yet judged. -/
  pipeMark : Tbl Nat := []
  /-- 17 × 2 bits; R486 (18); reset none. Sentinel runs that a replaced pipeline has passed since its block reset. -/
  pipeJudge : Tbl Nat := []
  /-- R487 (18); reset none. Pipeline swap in progress. -/
  swap : Option PipeSwap := none
  /-- R494 (18); reset empty. Pipelines whose swap after a fault follows the one in progress. -/
  pipeWait : List Nat := []
  /-- 68 bits; R486 (18); reset empty. Engines marked AGED. -/
  agedEngines : List Nat := []
  /-- 90 bits; R486 (18); reset empty. Lanes marked AGED, by group × 9 + lane. -/
  agedLanes : List Nat := []
  /-- 68 × 5 bits; R486 (18); reset none. Self-tests that a replaced engine has passed. -/
  engineJudge : Tbl Nat := []
  /-- R159 (05), R488 (18); reset empty. Engines replaced whose spare has not yet joined, oldest first. -/
  engineOut : List Nat := []
  /-- 512 × 64 bits; R488 (18); reset DESIGN CHOICE empty (log 8). The spare record, an OTP log kept through every reset. -/
  otpLog : List Nat := []
  /-- 32 × 6 bits; R387 (13), R485 (18); reset identity. Physical TCAM block of a logical one (bank × 16 + block). -/
  tcamMap : Tbl Nat := []
  /-- 2 blocks; R387 (13), R485 (18); reset 32 and 33. TCAM blocks left. -/
  tcamFree : List Nat := [32, 33]
  /-- R387 (13); reset empty. TCAM blocks being copied, each with the block that replaces it, oldest first. -/
  tcamCopy : List (Nat × Nat) := []
  /-- 4 rows per macro; R387 (13), R485 (18); reset 0. Spare rows used, by macro. -/
  rowsUsed : Tbl Nat := []
  /-- R387 (13); reset empty. Rows being replaced, oldest first: macro × 1,024 + row. -/
  rowPend : List Nat := []
  /-- 32 B; R490 (18); reset by R490. Policy record. -/
  policy : Bytes := policyDefault
  /-- 130 × 16 bits; R489 (18); reset 0. Last RO_SHIFT reading of a sensor in 0.01 %. -/
  roShift : Tbl Nat := []
  /-- R489 (18); reset empty. Day of the sums below, in days of the free-running counter. -/
  wearDay : Nat := 0
  /-- R489 (18); reset empty. Sum and count of the day by monitor: 0–129 sensors, 130–219 lane margins, 220–347 PC margins. -/
  wearSum : Tbl (Nat × Nat) := []
  /-- 60 days; R489 (18); reset empty. Daily means in thousandths of the monitor's unit, latest first. -/
  wearMean : Tbl (List Nat) := []
  /-- 90 × 2 counts; R489 (18); reset 0. Corrected symbols and symbols of the day by physical lane. -/
  laneSym : Tbl (Nat × Nat) := []
  /-- 90 × 2 counts; R489 (18); reset 0. Those of the last whole day. -/
  laneSymDay : Tbl (Nat × Nat) := []
  /-- R489 (18); reset 0. Corrected and parity errors of the day by kind × 2^24 + unit: 4 PC, 5 TCAM block, 6 hot block, 7 SRAM row. -/
  errDay : Tbl Nat := []
  /-- R491 (18); reset none. Pre-emptive swap in progress: kind by the order of R491 (1 lane, 2 pipeline, 3 engine, 4 PC, 5 TCAM block, 6 hot block, 7 SRAM row) and unit. -/
  running : Option (Nat × Nat) := none
  /-- R491, R492 (18); reset none. PENDING: pre-emptive swap waiting for the window. -/
  waiting : Option (Nat × Nat) := none
  deriving DecidableEq, Repr

/-- The pipeline that serves a lane block (R15, R18). -/
def SpareState.pipeOf (x : SpareState) (b : Nat) : Nat := ((x.pipeMap.find? fun p => p.1 == b).map (·.2)).getD b

end Sys2Proof.Machine
end

