-- ==== Sys2Proof/Machine/SvcState.lean ====
section
/-!
DEFINITION. The state of the flow services on die (chapter 6). Pools, addresses, blocks, bitmaps, the directory, map entries
and backend slots lie in HBM.
-/
namespace Sys2Proof.Machine

/-- A meter (R188): its record and its two buckets in units of 1/8,000,000 byte, as of a reading of the free-running
counter. -/
structure Meter where
  /-- 16 B; R188 (06); reset DESIGN CHOICE 0 (ENABLE 0, log 37). Parameters. -/
  record : Bytes := List.replicate 16 0
  /-- 24 bits; R188 (06); reset DESIGN CHOICE 0 (log 37). C tokens. -/
  c : Nat := 0
  /-- 24 bits; R188 (06); reset DESIGN CHOICE 0 (log 37). P tokens. -/
  p : Nat := 0
  /-- 64 bits; R188 (06); reset DESIGN CHOICE 0 (log 37). Time of the last refill. -/
  at_ : Nat := 0
  /-- 1 bit; R197 (06); reset 0. Failed parity. -/
  bad : Bool := false
  deriving DecidableEq, Repr

/-- A PENDING map entry, which exists on die only (R166, R173, R174). -/
structure PendMap where
  sub : Nat
  proto : Nat
  addr : Bytes
  port : Bytes
  noidx : Bool
  /-- Reservations that name it and have not been undone. -/
  count : Nat := 1
  /-- A MAP_INSERT has written the entry, and its write is not yet accepted (R177, R199). -/
  wait : Bool := false
  deriving DecidableEq, Repr

/-- The three service caches (R166). -/
inductive SvcCache where
  /-- Line 0 of subscriber contexts, by subscriber. -/
  | ctx
  /-- Directory entries and block bitmaps, by subscriber. -/
  | port
  /-- Map entries, by their number. -/
  | map
  deriving DecidableEq, Repr

/-- A line that a service cache holds (R166). -/
structure CacheLine where
  cache : SvcCache
  /-- The object that it belongs to: a subscriber or a map entry. -/
  obj : Nat
  data : Bytes
  /-- It differs from HBM and is written back when it leaves. -/
  dirty : Bool := false
  deriving DecidableEq, Repr

/-- A pool's free-block ring (R171, R176): its lines lie in HBM between the two places, and the die holds the pointers of the line
that is being popped and those of the line that is being pushed (log 69). -/
structure BlockRing where
  /-- Places read from the ring, and written to it. -/
  rd : Nat := 0
  wr : Nat := 0
  /-- At most 16 pointers. The line read last. -/
  front : List Nat := []
  /-- At most 15 pointers. The line that is being filled. -/
  back : List Nat := []
  /-- R459 (16). Free blocks of addresses from which another member allocates. -/
  aside : List Nat := []
  deriving DecidableEq, Repr

/-- A pool audit (R197). -/
structure Audit where
  /-- Next hot place. -/
  hotAt : Nat := 0
  /-- Next record slot. -/
  slotAt : Nat := 0
  /-- Shadow FLOWS by map entry. -/
  flows : Tbl Nat := []
  /-- Shadow ACTIVE by backend. -/
  active : Tbl Nat := []
  /-- Compact keys of the flows that stand in the shadow FLOWS, and of those that stand in the shadow ACTIVE (log 42). -/
  mapped : List Bytes := []
  picked : List Bytes := []
  deriving DecidableEq, Repr

/-- Flow services. -/
structure SvcState where
  /-- 256 × 8 B; R167 (06); reset DESIGN CHOICE 0 (log 37). Service profiles by flow profile. -/
  prof : Tbl Bytes := []
  /-- 65,536 × 16 B; R185 (06); reset DESIGN CHOICE 0 (DOWN, log 37). Backends. -/
  backend : Tbl Bytes := []
  /-- 1 bit each; R197 (06); reset 0. Backends that have failed parity. -/
  backendBad : Tbl Nat := []
  /-- 135,168 meters; R188 (06). Rule, subscriber and service meters by scope × 65,536 + meter. -/
  meter : Tbl Meter := []
  /-- 15 × 16 B; R188 (06); reset DESIGN CHOICE 0 (log 37). Flow meter profiles 1–15. -/
  flowMeter : Tbl Bytes := []
  /-- 1 bit each; R197 (06); reset 0. Flow meter profiles that have failed parity. -/
  flowMeterBad : Tbl Nat := []
  /-- R173, R174 (06); reset empty. PENDING map entries by number. -/
  pend : Tbl PendMap := []
  /-- Lines of 64 B (directory entries 32 B); R166 (06); reset empty. Lines held by the service caches, by device address. -/
  cache : Tbl CacheLine := []
  /-- 16,384 subscribers; R166 (06); reset empty. The subscriber-context cache, least recently used first. -/
  ctxLru : List Nat := []
  /-- 16,384 subscribers; R166 (06); reset empty. The port cache, least recently used first. -/
  portLru : List Nat := []
  /-- 65,536 entries; R166 (06); reset empty. The map cache, PENDING entries included, least recently used first. -/
  mapLru : List Nat := []
  /-- 64 × 2^21 blocks; R171, R176 (06); reset empty. Free-block rings by pool. -/
  blocks : Tbl BlockRing := []
  /-- 2^21 bits; R459 (16); reset empty. HOME_MAP under which the free-block rings were last filled; empty for a lone device. -/
  blockMap : List Nat := []
  /-- 1,048,576 × 2; R193 (06); reset 0. On-die accumulators: packets and bytes. -/
  acc : Tbl (Int × Int) := []
  /-- 32 bits; R176 (06); reset 300 s. MAP_SWEEP. -/
  mapSweep : Nat := 300
  /-- 21 bits; R176 (06); reset 0. Block that the map sweep visits next. -/
  sweepAt : Nat := 0
  /-- 16 × 32 bits; R196 (06); reset 0. SEQ of the export rings. -/
  seq : Tbl Nat := []
  /-- 32 bits; R197 (06); reset 16. AUDIT_RATE ÷ 10^6. -/
  auditRate : Nat := 16
  /-- R197 (06); reset none. Audit in progress. -/
  audit : Option Audit := none
  /-- R197 (06); reset empty. Map entries and subscribers treated as taken or full until the audit. -/
  mapLost : Tbl Nat := []
  subLost : Tbl Nat := []
  deriving DecidableEq, Repr

end Sys2Proof.Machine
end

