-- ==== Sys2Proof/Machine/TaskState.lean ====
section
/-!
DEFINITION. The state of the action engines, the contexts and the task scheduler (chapter 5).
-/
namespace Sys2Proof.Machine

/-- STATE of a context (R135); a context that is FREE is not listed. -/
inductive CtxSt where
  | starting | running | frozen | closing
  deriving DecidableEq, Repr

/-- The pool that a context was taken from (R134). -/
inductive CtxPool where
  | eviction | admission | shared
  deriving DecidableEq, Repr

/-- What an HBM or service operation brings when it returns (R141, R145). -/
structure NodeRet where
  /-- What DST takes; none where the operation has no DST. -/
  val : Option Nat := none
  /-- Bytes for IMAGE, and where they go. -/
  data : Bytes := []
  at_ : Nat := 0
  /-- SEQ of the claimed undo entry that the return fills, and its AMOUNT. -/
  fill : Option (Nat × Nat) := none
  /-- Lines whose data the operation waits for, and lines whose writes have to be accepted. -/
  reads : List Nat := []
  writes : List Nat := []
  /-- Object of a service cache that the operation keeps pinned (R166). -/
  pin : Option (SvcCache × Nat) := none
  deriving DecidableEq, Repr

/-- An action context (R135) and what the device keeps beside it. -/
structure Ctx where
  /-- 3 bits; R135 (05). STATE. -/
  st : CtxSt := .starting
  /-- 2 bits; R134 (05). Pool. -/
  pool : CtxPool := .shared
  /-- 10 bits; R135 (05). TEMPLATE. -/
  tpl : Nat := 0
  /-- 1 bit; R135 (05). Bank bit. -/
  bank : Bool := false
  /-- 3 bits; R135 (05). KIND. -/
  kind : Nat := 0
  /-- 3 bits; R135 (05). LEVEL. -/
  level : Nat := 0
  /-- 8 bits; R135 (05). PROFILE. -/
  profile : Nat := 0
  /-- 32 bits; R135 (05). DONE. -/
  doneM : Nat := 0
  /-- 32 bits; R135 (05). ISSUED. -/
  issued : Nat := 0
  /-- 16 bits; R135 (05). OUTSTANDING, as the nodes whose operations have not returned; 32 stands for the start task's read of line 1. -/
  outst : List Nat := []
  /-- R141, R145 (05). What the outstanding operations bring, by node. -/
  ret : Tbl NodeRet := []
  /-- 32 × 64 bits; R141 (05). When the WAIT_EVENT TIMER nodes became ready, in ns of the free-running counter. -/
  readyAt : Tbl Nat := []
  /-- 32 × 64 bits; R141 (05). WAIT_EVENT TIMER nodes that are running, with the free-running time at which they complete. -/
  timers : Tbl Nat := []
  /-- 16 bits; R135 (05). LOG. -/
  log : Option Nat := none
  /-- 1 bit; R144 (05). The CONFIRM event has arrived. -/
  event : Bool := false
  /-- 1 + 8 + 1 bits; R147, R156 (05). Of the packet that started the instance: TCP flags, none when it is not TCP, and reverse. -/
  first : Option Nat × Bool := (none, false)
  /-- 10 + 8 bits; R135, R141 (05). Chain pending: IMM of the CHAIN node. -/
  chain : Option Nat := none
  /-- 32 bits; R135, R155 (05). When the context was allocated, in ns of the free-running counter: ELAPSED counts from it. -/
  since : Nat := 0
  /-- 32 bits; R135, R155 (05). ns for which the timer has been paused. -/
  pausedNs : Nat := 0
  /-- 1 bit; R135, R155 (05). Timer paused (FLAGS[0]): since when, in ns of the free-running counter. -/
  pausedAt : Option Nat := none
  /-- 1 bit; R135, R153 (05). Cancel requested (FLAGS[1]): the instance has been cancelled. -/
  cancelReq : Bool := false
  /-- 1 bit; R143 (05). The graph was started by SPAWN or by the host. -/
  spawned : Bool := false
  /-- 32 bits; R135 (05). RUN_ID. -/
  runId : Nat := 0
  /-- 12 × 64 bits; R135 (05). V0–V11. -/
  v : List Nat := List.replicate 12 0
  /-- 128 B; R135 (05). IMAGE. -/
  img : Bytes := List.replicate 128 0
  /-- 31 bits; R87 (03). Record slot whose data a bulk lookup takes from this context while the write-back is not complete. -/
  evictSlot : Option Nat := none
  /-- 31 + 1 bits; R97, R105 (03). Record slot pushed at retire, and PAIR. -/
  pushSlot : Option (Nat × Bool) := none
  /-- 31 bits; R147 (05). Standard record whose line 1 the start task reads. -/
  line1 : Option Nat := none
  /-- R196 (06). Wrap counts of the flow whose image the context holds. -/
  wraps : Nat × Nat := (0, 0)
  /-- 1 bit; R195 (06). The image is that of a compact record. -/
  compact : Bool := false
  /-- 384 bits; R141 (05). Key of the flow that the instance was started for, as its format stores it; empty for a host run. -/
  key : Bytes := []
  /-- R156 (05). Place of the instance in the order of the starts: its packet's place in the flow stage. -/
  seq : Nat := 0
  /-- 22 bits; R147 (05). Set × 8 + way that a running admission or tracking instance names; R161. -/
  loc : Nat := 0
  /-- COPY_OUT bytes of a host run (R141, R413). -/
  out : Bytes := []
  /-- R159, R372. Bad symbols in the context. -/
  bad : Nat := 0
  deriving DecidableEq, Repr

/-- TYPE of a task (R149). -/
inductive TaskTy where
  | node | start | retire
  deriving DecidableEq, Repr

/-- A task (R149). -/
structure Task where
  ty : TaskTy
  level : Nat
  node : Nat := 0
  gen : Nat := 0
  bank : Bool := false
  ctx : Nat := 0
  tpl : Nat := 0
  /-- 48 bits; R148. -/
  stamp : Nat := 0
  arg0 : Nat := 0
  arg1 : Nat := 0
  /-- RUN_ID of a host start task; its V slots stand in the run table (R149). -/
  runId : Nat := 0
  /-- 1 bit; R134. A start task whose context has been allocated. -/
  pre : Bool := false
  /-- 36 bits; R368 (13); reset 0. Bad symbols of its slot under SC-256. -/
  bad : Nat := 0
  deriving DecidableEq, Repr

/-- A priority level (R148–R152). -/
structure LevelSt where
  /-- 16,384 × 32 B; R150 (05); reset empty. On-die task slots, in stamp order. -/
  slots : List Task := []
  /-- 4,194,304 × 32 B; R150 (05); reset empty. Spill ring, head first. -/
  ring : List Task := []
  /-- R150 (05); reset 0. Descriptors read from the ring since reset. -/
  ringRead : Nat := 0
  /-- 32 bits; R152 (05); reset 1,048,576. SPILL_BP. -/
  spillBp : Nat := 1048576
  /-- 1 bit; R152 (05); reset 0. In back-pressure. -/
  bp : Bool := false
  deriving DecidableEq, Repr

/-- A host run (R147, R149, R413): the run table. -/
structure HostRun where
  tpl : Nat
  bank : Bool
  v : List Nat
  /-- Mailbox of a GRAPH_RUN with WAIT. -/
  mbx : Option (Fin 8) := none
  ctx : Option Nat := none
  deriving DecidableEq, Repr

/-- An action engine (R133, R159, R160). -/
inductive EngineSt where
  | working | gated | failed | spare
  deriving DecidableEq, Repr

/-- Tasks. -/
structure TaskState where
  /-- 65,536 × 256 B; R134, R135 (05); reset FREE. Contexts in use. -/
  ctx : Tbl Ctx := []
  /-- 65,536 × 8 bits; R135 (05); reset 0. GEN by context. -/
  gen : Tbl Nat := []
  /-- 8 levels; R148–R152 (05). -/
  level : Tbl LevelSt := []
  /-- 16 bits; R134 (05); reset 16,384. ADMIT_RESERVE. -/
  admitReserve : Nat := 16384
  /-- 48 bits; R148 (05); reset 0. The scheduler's clock: one more at every TASK_DISPATCH (log 36). -/
  clk : Nat := 0
  /-- R156 (05); reset 0. Instances started. -/
  starts : Nat := 0
  /-- R147, R413 (05, 14); reset empty. Host runs by RUN_ID. -/
  run : Tbl HostRun := []
  /-- 32 bits; R412 (14); reset 0. The last RUN_ID given. -/
  lastRun : Nat := 0
  /-- 68 × 2 bits; R133, R159 (05); reset working 0–63, spare 64–67. Engines that are not as at reset. -/
  engine : Tbl EngineSt := []
  /-- 68 × 2 bits; R159 (05); reset 0. Engines that have a fault: 1, and 2 once a residue check has met it; such an engine takes no task. -/
  suspect : Tbl Nat := []
  /-- 7 bits; R159 (05); reset 0. Spare engines that are to join the working set. -/
  joining : Nat := 0
  deriving DecidableEq, Repr

end Sys2Proof.Machine
end

