-- ==== Sys2Proof/Machine/TimeState.lean ====
section
/-!
DEFINITION. The state of Saffron (chapter 10): two time domains, the residual, the registers and the reference signals.
Domain values and the residual are held in units of 2^-48 ns (R298).
-/
namespace Sys2Proof.Machine

/-- The state of a time domain (R300). -/
inductive DomState where
  | freeRun | acquiring | locked | holdover
  deriving DecidableEq, Repr

/-- One time domain. -/
structure TimeDomain where
  /-- 48 + 30 + 48 bits; R297, R298 (10); reset 0. SEC, NSEC and the fraction, as one count of 2^-48 ns. -/
  val : Nat := 0
  /-- as val; R298 (10); reset 0. The second copy of the domain. -/
  copy : Nat := 0
  /-- 32 bits signed; R298, R301 (10); reset 0. FREQ_ADJ in 2^-10 ppb. -/
  freqAdj : BitVec 32 := 0
  /-- 32 bits; R301 (10); reset 0. LAST_SYNC, ticks since the last accepted Sync, saturating. -/
  lastSync : Nat := 0
  /-- 2 bits; R300 (10); reset FREE_RUN. -/
  st : DomState := .freeRun
  /-- 8 bits; R307, R537 (10); reset 0 (NONE). SOURCE. -/
  source : Nat := 0
  /-- 8 bits; R307, R537 (10); reset n for domain n. PTP_DOMNUM. -/
  domNum : Nat := 0
  /-- 8 bits; R307, R537 (10); reset 0. OWNER: 0 firmware servo, 1 host servo. -/
  owner : Nat := 0
  /-- 32 bits; R307, R537 (10); reset 200 ms. SYNC_TIMEOUT in ms. -/
  syncTimeout : Nat := 200
  /-- 32 bits; R307, R537 (10); reset 100 ns. QUAL_NS. -/
  qualNs : Nat := 100
  /-- 5 bits; R300, R536 (10); reset 0. Consecutive updates within QUAL_NS. -/
  qual : Nat := 0
  /-- 32 bits; R307, R537 (10); reset 0. Ticks of the watchdog of SOURCE 2: since the last PPS_IN edge or its restart. -/
  wd : Nat := 0
  /-- 1 bit; R307 (10); reset 0. The watchdog has expired and no Sync has come since. -/
  wdExpired : Bool := false
  /-- 64 bits signed; R307 (10); reset 0. What a SLEW still has to apply, in 2^-48 ns. -/
  slewLeft : Int := 0
  /-- 64 bits signed; TIME_STATUS (10); reset 0. Last offset from the master, in ns. -/
  offset : Int := 0
  deriving DecidableEq, Repr

/-- One recovered-clock output (R310). -/
structure RclkOut where
  /-- 16 bits; R310 (10); reset DESIGN CHOICE 0 (log 5). Selected lane. -/
  lane : Nat := 0
  /-- 16 bits; R310 (10); reset DESIGN CHOICE 16 (log 5), the lowest legal divider. DIV. -/
  div : Nat := 16
  /-- 1 bit; R310 (10); reset DESIGN CHOICE 1 (log 5): no lane has lock. The output is held low. -/
  squelched : Bool := true
  deriving DecidableEq, Repr

/-- Saffron. -/
structure TimeState where
  /-- R297 (10). Domain 0. -/
  d0 : TimeDomain := {}
  /-- R297 (10). Domain 1; PTP_DOMNUM 1 at reset (R537). -/
  d1 : TimeDomain := { domNum := 1 }
  /-- 1 bit; R301 (10); reset 0. ACTIVE: domain 1 is active. -/
  active : Bool := false
  /-- 1 bit; R301 (10); reset 1. TIME_CTRL.AUTO_SWITCH. -/
  autoSwitch : Bool := true
  /-- 1 bit; R301 (10); reset 0. TIME_CTRL.REVERT. -/
  revert : Bool := false
  /-- 1 bit; R301 (10); reset 0. TIME_CTRL.ALLOW_LARGE. -/
  allowLarge : Bool := false
  /-- 8 bits; R301 (10); reset 10. TIME_CTRL.SLEW_RATE in ppm. -/
  slewRate : Nat := 10
  /-- 16 bits; R301 (10); reset 100. TIME_CTRL.SLEW_MAX in units of 10 ns. -/
  slewMax : Nat := 100
  /-- 1 bit; R301 (10); reset 0. TIME_STATUS.PPS_SEEN. -/
  ppsSeen : Bool := false
  /-- 1 bit; R301 (10); reset 0. TIME_STATUS.SWITCHED. -/
  switched : Bool := false
  /-- 1 bit; R301, R310 (10); reset 0. TIME_STATUS.REF10_OK. -/
  ref10Ok : Bool := false
  /-- 64 bits; R301 (10); reset 0. SNAP_FREE. -/
  snapFree : Nat := 0
  /-- 94 bits; R301 (10); reset 0. SNAP_ACT_SEC, NSEC and FRAC, as a value in 2^-48 ns. -/
  snapAct : Nat := 0
  /-- 94 bits; R301 (10); reset 0. D0_SEC, NSEC and FRAC as latched by SNAP. -/
  snapD0 : Nat := 0
  /-- 94 bits; R301 (10); reset 0. D1_SEC, NSEC and FRAC as latched by SNAP. -/
  snapD1 : Nat := 0
  /-- 32 bits signed; R299, R309 (10); reset 0. RESID, in 2^-48 ns. -/
  resid : Int := 0
  /-- 32 bits signed; R301, R312 (10); reset 0. RESID as latched by SNAP, in 2^-48 ns. -/
  snapResid : Int := 0
  /-- 7 bits; R298, R315 (10); the model's own (log 76): whole ns since the last tick by the blocks' fast clocks; reset DESIGN
  CHOICE 0. -/
  phase : Nat := 0
  /-- R12, R301 (10); reset none. Upper halves latched by a read of the _LO register, by word. -/
  hiLatch : Tbl Nat := []
  /-- 64 bits; R238 (08), R311 (10); reset 0. Free-running nanosecond counter. -/
  free : Nat := 0
  /-- 32 bits; R301, R537 (10); reset 60 s. REVERT_S. -/
  revertS : Nat := 60
  /-- 1 + 1 bits; R301, R308 (10); reset none. The former active domain, to which REVERT may return. -/
  former : Option Bool := none
  /-- R301 (10); reset 0. Ticks for which the former active domain has been LOCKED again. -/
  formerTicks : Nat := 0
  /-- R308 (10); reset none. Ticks since the last switchover, none before the first. -/
  sinceSwitch : Option Nat := none
  /-- 1 bit; R309 (10); reset 0. A switchover has been triggered and runs on the next tick. -/
  pendSwitch : Bool := false
  /-- R309, TIME_STATUS (10); reset none. Old domain, D in ns and stepped, of the last switchover. -/
  lastSwitch : Option (Bool × Int × Bool) := none
  /-- 2 bits; R310 (10); reset DESIGN CHOICE 0 (log 5). PPS_SEL. -/
  ppsSel : Nat := 0
  /-- 32 bits signed; R310 (10); reset DESIGN CHOICE 0 (log 5). PPS_OFFSET in ns. -/
  ppsOffset : Int := 0
  /-- 32 bits; R310 (10); reset 100 ms. PPS_WIDTH in ns. -/
  ppsWidth : Nat := 100000000
  /-- 1 bit; R310 (10); reset 0. The PPS_OUT pin. -/
  ppsOut : Bool := false
  /-- 1 bit; R310 (10); reset 0. A tick has carried SEC of the value PPS_OUT follows, and no edge has been given for it. -/
  ppsCarry : Bool := false
  /-- R310 (10); reset none. Ticks since the last stamped PPS_IN edge. -/
  sincePps : Option Nat := none
  /-- R310 (10). RCLK_OUT0. -/
  rclk0 : RclkOut := {}
  /-- R310 (10). RCLK_OUT1. -/
  rclk1 : RclkOut := {}
  /-- 64 × 16 B; R306, R411 (10, 14); reset DESIGN CHOICE 0 (log 5). CTRL, RX_LAT, TX_LAT and ASYM per port. -/
  ptpPort : Tbl Bytes := []
  deriving DecidableEq, Repr

end Sys2Proof.Machine
end

