-- ==== Sys2Proof/Machine/State.lean ====
section
/-!
DEFINITION. The state of the block: everything the chapters give it, and the queue of commands that wait.
-/
namespace Sys2Proof.Machine

/-- The device. Each field is the part of one chapter; `pending` is the queue of commands, first in, first out. -/
structure State where
  pending : List Instr
  host : HostState
  fw : FwState
  ep : EpochState
  time : TimeState
  mace : MaceState
  pwr : PowerState
  pins : PinState
  obs : ObsState
  sched : SchedState
  buf : BufState
  lanes : LaneState
  spare : SpareState
  hbm : HbmState
  join : JoinState
  look : LookupState
  flow : FlowState
  task : TaskState
  svc : SvcState
  /-- 64 bits each; R8 (00), R499 (19); reset 0. Every counter and gauge, by its key. -/
  ctr : Tbl Nat
  /-- The MODEL's own field: numbers the free values that steps take (log 2). No statement rests on it. -/
  fresh : Nat
  deriving DecidableEq, Repr

/-- The block stops with no fault of its own: every command of the table has an effect in every state. -/
inductive Fault where
  /-- Raised by no meaning; the type must not be empty of constructors for a reader to name one. Safe. -/
  | none
  deriving DecidableEq, Repr

/-- Why a command is refused. -/
inductive Refusal where
  /-- The dispatch, for a command that has no meaning yet, by its mnemonic. Safe. -/
  | notModelled (mnemonic : String)
  deriving DecidableEq, Repr

/-- The machine right after power-on reset: every field at the value its docstring names. -/
def State.reset : State where
  pending := []
  host := {}
  fw := {}
  ep := {}
  time := {}
  mace := {}
  pwr := {}
  pins := {}
  obs := {}
  sched := {}
  buf := {}
  lanes := {}
  spare := {}
  hbm := {}
  join := {}
  look := {}
  flow := {}
  task := {}
  svc := {}
  ctr := []
  fresh := 0

end Sys2Proof.Machine
end

