-- ==== Sys2Proof/Machine/Ops.lean ====
section
/-!
DEFINITION. The operations every meaning shares: modes, counters, fault events, time values, interrupts, the event ring,
trace records and free values.
-/
namespace Sys2Proof.Machine

/-! The MODE word (R3). -/

def mDENSE : Nat := 0
def mTIMED : Nat := 1
def mASSURED : Nat := 2
def mFRUGAL : Nat := 3
def mJOINED : Nat := 4
def mCOMPAT : Nat := 5

/-- The active MODE word (R3, R61). -/
def activeMode (s : State) : BitVec 16 := s.ep.activeBank.mode

/-- The mode bit is in force. -/
def inMode (n : Nat) (s : State) : Bool := (activeMode s).getLsbD n

/-! Counters (R8). -/

/-- The value of a counter or gauge. -/
def getCtr (c : Ctr) (i : Nat) (s : State) : Nat := tget 0 s.ctr (ctrKey c i)

/-- A counter advanced by `n`, wrapping at 2^64 (R8). -/
def addCtr (c : Ctr) (i n : Nat) (s : State) : State :=
  { s with ctr := tset 0 s.ctr (ctrKey c i) ((getCtr c i s + n) % 2 ^ 64) }

/-- A counter advanced by 1. -/
def bump (c : Ctr) (i : Nat) (s : State) : State := addCtr c i 1 s

/-- A gauge set to a level. -/
def setGauge (c : Ctr) (i v : Nat) (s : State) : State :=
  { s with ctr := tset 0 s.ctr (ctrKey c i) v }

/-! Free values (log 2). -/

/-- The free value of this step. -/
def freeVal (s : State) : Nat := Config.free s.fresh

/-- The free value has been taken. -/
def tookFree (s : State) : State := { s with fresh := s.fresh + 1 }

/-! Fault events (R378). -/

/-- One port as a mask. -/
def portMask (p : Nat) : BitVec 64 := 1#64 <<< p

/-- Every port. -/
def allPorts : BitVec 64 := BitVec.allOnes 64

/-- A block delivers an event to Mace, naming its source, its object and the ports it names (R378).  After F025, F027 or
F049 firmware owes a pool audit (R197). -/
def raise (src inst : Nat) (ports : BitVec 64) (s : State) : State :=
  { s with mace := { s.mace with inflight := s.mace.inflight ++ [⟨src, inst, ports⟩] }
           pwr := { s.pwr with auditDue := s.pwr.auditDue || src == 25 || src == 27 || src == 49 } }

/-! Time values (R297–R302), in units of 2^-48 ns. -/

/-- 1 ns. -/
def uNs : Nat := 2 ^ 48
/-- 1 s. -/
def uSec : Nat := 10 ^ 9 * uNs
/-- SEC wraps at 2^48 (R297). -/
def uWrap : Nat := 2 ^ 48 * uSec

/-- A value brought into range (R297). -/
def timeNorm (v : Int) : Nat := (v % (uWrap : Int)).toNat

def secOf (v : Nat) : Nat := v / uSec
def nsecOf (v : Nat) : Nat := (v % uSec) / uNs
def fracOf (v : Nat) : Nat := (v % uNs) / 2 ^ 32

/-- A value from its three fields. -/
def timeOf (sec nsec frac : Nat) : Nat := sec * uSec + nsec * uNs + frac * 2 ^ 32

/-- A domain by its number. -/
def TimeState.dom (t : TimeState) (d : Bool) : TimeDomain := if d then t.d1 else t.d0

/-- A domain replaced. -/
def TimeState.setDom (t : TimeState) (d : Bool) (x : TimeDomain) : TimeState :=
  if d then { t with d1 := x } else { t with d0 := x }

/-- The active time A = D_act + RESID at the last tick (R299): what Saffron itself computes with (R301, R309). -/
def activeTick (s : State) : Nat := timeNorm ((s.time.dom s.time.active).val + s.time.resid)

/-- A as a block stamps or compares it, interpolated since the last tick to 1 ns plus FRAC (R298; log 76). -/
def activeTime (s : State) : Nat := timeNorm ((activeTick s : Int) + s.time.phase * uNs)

/-- The value of a domain, interpolated in the same way (R298; log 76). -/
def domTime (d : Bool) (s : State) : Nat := timeNorm (((s.time.dom d).val : Int) + s.time.phase * uNs)

/-- A block reads its fast clock (R298): it stands a free number of ns after its last reading, still before the next tick
(log 76). -/
def fastClock (s : State) : State :=
  { tookFree s with time := { s.time with phase := min 79 (s.time.phase + freeVal s % (80 - s.time.phase)) } }

/-- The descriptor timestamp format of R302. -/
def stamp302 (dom : Bool) (v : Nat) : Nat :=
  nsecOf v + (secOf v % 2 ^ 32) <<< 30 + b2n dom <<< 62

/-- The present active time in the format of R302. -/
def now302 (s : State) : Nat := stamp302 s.time.active (activeTime s)

/-- The PTP record of R303 for two domain values. -/
def ptpRecord (v0 v1 : Nat) : Bytes :=
  leBytes 6 (secOf v0) ++ leBytes 4 (nsecOf v0) ++ leBytes 2 (fracOf v0) ++
  leBytes 6 (secOf v1) ++ leBytes 4 (nsecOf v1) ++ leBytes 2 (fracOf v1)

/-! Interrupts and DMA (R400). -/

/-- A write of the device into host memory. -/
def dmaWrite (addr : Nat) (data : Bytes) (s : State) : State :=
  { s with host := { s.host with dmaOut := s.host.dmaOut ++ [⟨addr % 2 ^ 64, data⟩] } }

/-- A vector is raised: its message is written, or it is held pending while masked (R400). -/
def interrupt (v : Nat) (s : State) : State :=
  let e := tget {} s.host.msix v
  if e.masked then { s with host := { s.host with pba := s.host.pba ||| 2 ^ v } }
  else dmaWrite e.addr (leBytes 4 e.data) s

/-- Vector 0 under EVR_CTRL.MODERATE (R401). -/
def evrInterrupt (s : State) : State :=
  if s.host.evrModerate = 0 then interrupt 0 s
  else if s.host.modRunning then { s with host := { s.host with modPending := true } }
  else let s := interrupt 0 s; { s with host := { s.host with modRunning := true } }

/-! The event ring (R414). -/

/-- (PROD - CONS) mod 2^32 is below 2^LOG2, and the ring is enabled with a legal size (R401, R414). -/
def evrRoom (h : HostState) : Bool :=
  h.evrEnable && decide (6 ≤ h.evrLog2 ∧ h.evrLog2 ≤ 20) &&
    decide ((h.evrProd - h.evrCons).toNat < 2 ^ h.evrLog2)

/-- The 32 bytes of an entry (R414). -/
def evrBytes (h : HostState) (e : EvEntry) : Bytes :=
  let phase := b2n (!(bit h.evrProd.toNat h.evrLog2))
  leBytes 2 e.type ++ leBytes 1 phase ++ [0] ++ fit 28 e.payload

/-- An entry written to the ring at PROD (R414). -/
def evrWrite (e : EvEntry) (s : State) : State :=
  let h := s.host
  let a := h.evrBase + 32 * (h.evrProd.toNat % 2 ^ h.evrLog2)
  let s := dmaWrite a (evrBytes h e) s
  evrInterrupt { s with host := { s.host with evrProd := s.host.evrProd + 1 } }

/-- An entry at the tail of the backlog, or dropped (R414). -/
def evrBacklog (e : EvEntry) (s : State) : State :=
  if s.host.backlog.length < 4096 then
    { s with host := { s.host with backlog := s.host.backlog ++ [e] } }
  else
    raise 195 0 0 (bump .EVR_DROP 0
      { s with host := { s.host with ovfDropped := s.host.ovfDropped + 1 } })

/-- The ring has room and nothing waits before a new event. -/
def evrPasses (s : State) : Bool :=
  evrRoom s.host && s.host.backlog.isEmpty && s.host.ovfDropped == 0 && s.host.resetEvent.isNone

/-- An event that is posted is dropped (R414). -/
def evrLoses (s : State) : Bool := !evrPasses s && decide (4096 ≤ s.host.backlog.length)

/-- An event is posted: to the ring while it has room and nothing waits before it, else to the backlog (R414). -/
def postEvent (type : Nat) (payload : Bytes) (s : State) : State :=
  let e : EvEntry := ⟨type, fit 28 payload⟩
  if evrPasses s then evrWrite e s else evrBacklog e s

/-- A pending OVERFLOW entry goes to the tail of the backlog as soon as it has room (R414). -/
def placeOverflow (s : State) : State :=
  if s.host.ovfDropped ≠ 0 ∧ s.host.backlog.length < 4096 then
    { s with host := { s.host with
        backlog := s.host.backlog ++ [⟨2, fit 28 (leBytes 8 s.host.ovfDropped)⟩], ovfDropped := 0 } }
  else s

/-- The oldest waiting event is written to the ring when it has room (R414); a RESET event goes first (R446). -/
def evrDrainOne (s : State) : State :=
  if evrRoom s.host then
    match s.host.resetEvent with
    | some e => evrWrite e { s with host := { s.host with resetEvent := none } }
    | none =>
      match s.host.backlog with
      | [] => s
      | e :: rest => placeOverflow (evrWrite e { s with host := { s.host with backlog := rest } })
  else s

/-! Trace records (R501–R504). -/

/-- A record of type `t` is offered to its trace FIFO of 64 entries (R504). -/
def traceRec (t sub : Nat) (payload : Bytes) (s : State) : State :=
  if s.obs.trc = .running ∧ bit s.obs.trcTypes t then
    if (s.obs.fifo.filter fun r => r.type == t).length < 64 then
      { s with obs := { s.obs with fifo := s.obs.fifo ++ [⟨t, sub, now302 s, payload⟩] } }
    else
      let s := raise 234 0 0 (bump .TRC_LOST 0 s)
      if s.obs.lossPosted then s
      else
        postEvent 20 ([2, 0, 0, 0] ++ leBytes 4 s.obs.trcSeq.toNat ++ leBytes 8 (now302 s))
          { s with obs := { s.obs with lossPosted := true } }
  else s

/-! The spare record (R488). -/

def setSpare (x : SpareState) (s : State) : State := { s with spare := x }

/-- An entry of the spare record, bits 55–0 and their CRC-8 (over the seven bytes, lowest first: DEDUCED, log 48). -/
def otpEntry (kind unit old new : Nat) : Nat :=
  let v := kind % 16 + unit % 65536 * 2 ^ 8 + old % 65536 * 2 ^ 24 + new % 65536 * 2 ^ 40
  v + crc8 (leBytes 7 v) * 2 ^ 56

/-- A completed swap is recorded while the log has room (R488). -/
def otpAppend (kind unit old new : Nat) (s : State) : State :=
  if s.spare.otpLog.length < 512 then
    setSpare { s.spare with otpLog := s.spare.otpLog ++ [otpEntry kind unit old new] } s
  else s

/-- A swap of a kind of R491 ends: SPARE_SWAP in the order of R485, and PROACTIVE_SWAP when the policy started it (R490,
R493). -/
def spareDone (kind unit : Nat) (s : State) : State :=
  let c := [0, 0, 1, 2, 3, 5, 7, 6].getD kind 0
  let s := bump .SPARE_SWAP c s
  if s.spare.running = some (kind, unit) then
    bump .PROACTIVE_SWAP c (setSpare { s.spare with running := none } s)
  else s

/-- The swap of a kind and unit is one that the policy started. -/
def isProactive (kind unit : Nat) (s : State) : Bool := s.spare.running == some (kind, unit)

/-- A swap that the policy started has been refused or abandoned (R494). -/
def spareDropped (kind unit : Nat) (s : State) : State :=
  if isProactive kind unit s then setSpare { s.spare with running := none } s else s

/-! Ports as sets. -/

/-- Port `p` is in a mask. -/
def inMask (m : BitVec 64) (p : Nat) : Bool := m.getLsbD p

/-- The ports of a mask, rising. -/
def maskPorts (m : BitVec 64) : List Nat := (List.range 64).filter (inMask m)

/-- A mask of ports. -/
def portsMask (ps : List Nat) : BitVec 64 := ps.foldl (fun a p => a ||| portMask p) 0

/-- Fold a state operation over a list. -/
def forEach {α : Type} (l : List α) (f : α → State → State) (s : State) : State :=
  l.foldl (fun a x => f x a) s

end Sys2Proof.Machine
end

