-- ==== Sys2Proof/Machine/Ycp.lean ====
section
/-!
DEFINITION. The Yoximar Command Protocol: status codes (R408), the mailbox layer (R403–R407), the body forms (R409) and
property lists (R410).
-/
namespace Sys2Proof.Machine

/-! Status codes (R408). -/
def stOK : Nat := 0x0000
def stBUSY : Nat := 0x0001
def stINVALID : Nat := 0x0002
def stRANGE : Nat := 0x0003
def stDENIED : Nat := 0x0004
def stTIMEOUT : Nat := 0x0005
def stNOSPACE : Nat := 0x0006
def stSTALE_EPOCH : Nat := 0x0007
def stFAULTED : Nat := 0x0008
def stUNKNOWN_OP : Nat := 0x0009
def stLENGTH : Nat := 0x000A
def stNOT_FOUND : Nat := 0x000B
def stSIGNATURE : Nat := 0x000C
def stROLLBACK : Nat := 0x000D
def stTOKEN : Nat := 0x000E
def stFLASH : Nat := 0x000F
def stSTALE_SNAPSHOT : Nat := 0x0010

/-- A status that a command's own rule gives against stored objects, after acceptance: it is checked at order 10 whatever
its code (R408). -/
def late (st : Nat) : Nat := if st = stOK then stOK else st + 65536

/-- The order in which the conditions are checked (R408). -/
def stOrder (st : Nat) : Nat :=
  if 65536 ≤ st then 10 else if st = stUNKNOWN_OP then 1 else if st = stINVALID then 2 else if st = stLENGTH then 3
  else if st = stSTALE_EPOCH then 4 else if st = stDENIED then 5 else if st = stRANGE then 6
  else if st = stBUSY then 7 else if st = stNOSPACE then 8 else if st = stNOT_FOUND then 9
  else if st = stOK then 11 else 10

/-- What a command answers: status, DETAIL, response body, MORE, the state it leaves, whether it extends CFG_HASH (R423),
whether it is still executing, and what happens after its response is sent. -/
structure YRes where
  status : Nat
  detail : Nat := 0
  body : Bytes := []
  more : Bool := false
  st : State
  cfg : Bool := false
  wait : Bool := false
  after : State → State := fun s => s

/-- A command that fails changes nothing (R408). -/
def yFail (st : Nat) (s : State) : YRes := { status := st, st := s }

/-- A command that fails at a record of its list. -/
def yFailAt (st i : Nat) (s : State) : YRes := { status := st, detail := i, st := s }

/-- A configuration command that completes OK (R423). -/
def yOk (body : Bytes) (s : State) : YRes := { status := stOK, body := body, st := s, cfg := true }

/-- A read or status command that completes OK: it does not extend CFG_HASH (R423). -/
def yRead (body : Bytes) (s : State) : YRes := { status := stOK, body := body, st := s }

/-- The next check in the order of R408. -/
def need (c : Bool) (st : Nat) (s : State) (k : YRes) : YRes := if c then k else yFail st s

/-- A condition of every record of a body, or a failure whose DETAIL is the first record that breaks it (R407). -/
def needAll {α : Type} (l : List α) (c : α → Bool) (st : Nat) (s : State) (k : YRes) : YRes :=
  if l.all c then k else yFailAt st (l.findIdx fun x => !c x) s

/-- A handler: request, request body, bytes of response room, state. -/
abbrev YHandler := YcpReq → Bytes → Nat → State → YRes

/-! The mailbox layer. -/

def getMbx (m : Fin 8) (s : State) : Mailbox := tget {} s.host.mbx m.val

def setMbx (m : Fin 8) (b : Mailbox) (s : State) : State :=
  { s with host := { s.host with mbx := tset {} s.host.mbx m.val b } }

/-- The request header bytes 0–19 (R407, R423). -/
def reqHeader20 (op : Nat) (r : YcpReq) : Bytes :=
  leBytes 2 op ++ leBytes 2 r.tag.toNat ++ leBytes 2 r.flags.toNat ++ leBytes 2 r.rsv6.toNat ++
  leBytes 4 r.length.toNat ++ leBytes 4 r.epoch.toNat ++ leBytes 4 r.seq.toNat

/-- The response header (R407); `epoch` is the active epoch at the command's completion. -/
def respHeader (op : Nat) (r : YcpReq) (status len detail : Nat) (replay more : Bool) (epoch : BitVec 32) : Bytes :=
  leBytes 2 op ++ leBytes 2 r.tag.toNat ++ leBytes 2 status ++ leBytes 2 (b2n replay + 2 * b2n more) ++
  leBytes 4 len ++ leBytes 4 epoch.toNat ++ leBytes 4 r.seq.toNat ++ leBytes 4 detail ++ zeros 8

def isDma (r : YcpReq) : Bool := r.flags.getLsbD 0
def reqLen (r : YcpReq) : Nat := fld r.body 8 4
def rspMax (r : YcpReq) : Nat := fld r.body 12 4
def rspAddr (r : YcpReq) : Nat := fld r.body 16 8

/-- The response room (R407, R409). -/
def room (r : YcpReq) : Nat := if isDma r then rspMax r else 4064

/-- The request body: the first LENGTH bytes of the mailbox body, or what the DMA read gave (R407). -/
def reqBody (r : YcpReq) : Bytes :=
  if isDma r then fit (reqLen r) (r.dmaData.getD []) else fit r.length.toNat r.body

/-- Response header and body are written over the request, and DONE is set (R403); the response of a command that was
executing at a function-level reset is discarded (R402). -/
def respond (op : Nat) (r : YcpReq) (status detail : Nat) (body : Bytes) (replay more : Bool) (epoch : BitVec 32) (s : State) :
    State :=
  let hdr := respHeader op r status body.length detail replay more epoch
  let mb := getMbx r.mbx s
  if mb.lost then setMbx r.mbx { mb with busy := false, running := none, lost := false } s
  else
    let s := if isDma r && !body.isEmpty then dmaWrite (rspAddr r) body s else s
    let s := setMbx r.mbx { mb with busy := false, done := true, running := none, buf := if isDma r then hdr else hdr ++ body } s
    interrupt (1 + r.mbx.val) s

/-- CFG_HASH is replaced and CFG_COUNT advances (R423). -/
def cfgExtend (op : Nat) (r : YcpReq) (s : State) : State :=
  bump .CFG_COUNT 0
    { s with fw := { s.fw with cfgHash := sha256 (s.fw.cfgHash ++ reqHeader20 op r ++ reqBody r) } }

/-- A command completes: its effect and LAST_SEQ are committed in one step (R405, R406). -/
def complete (op : Nat) (r : YcpReq) (x : YRes) : State :=
  let s := if x.status = stOK && x.cfg then cfgExtend op r x.st else x.st
  let mb := getMbx r.mbx s
  let s := setMbx r.mbx { mb with lastSeq := r.seq, lastOp := op, lastStatus := x.status, stored := x.body,
                                  lastDetail := x.detail, lastMore := x.more, lastEpoch := s.ep.epoch } s
  let s := bump .MBX_CMDS r.mbx.val s
  let s := if x.status = stOK then s else bump .MBX_ERRORS r.mbx.val s
  let s := respond op r x.status x.detail x.body false x.more s.ep.epoch s
  let s := if r.flags.getLsbD 1 then
      postEvent 1 (leBytes 1 r.mbx.val ++ zeros 3 ++ leBytes 4 r.seq.toNat ++ leBytes 2 x.status ++ leBytes 2 op) s
    else s
  let s := traceRec 8 0 (leBytes 1 r.mbx.val ++ [0] ++ leBytes 2 op ++ leBytes 2 x.status ++ zeros 2 ++
      leBytes 4 r.seq.toNat ++ zeros 4) s
  x.after s

/-- The result of a handler, held to the room of the response: a response that does not fit, or whose DMA write fails,
fails the command, and a command that fails changes nothing (R407, R408). -/
def fitted (r : YcpReq) (s : State) (x : YRes) : YRes :=
  if x.wait || x.status ≠ stOK then x
  else if room r < x.body.length then yFail stLENGTH s
  else if isDma r && !x.body.isEmpty && !r.dmaWriteOk then yFail stFAULTED (raise 196 0 0 s)
  else x

/-- The header checks of R407 and R408, then the command. -/
def execute (r : YcpReq) (h : YHandler) (s : State) : YRes :=
  need (r.flags.toNat < 4 && r.rsv6 == 0 && r.rsv20 == 0 && r.rsv24 == 0) stINVALID s <|
  need (!isDma r || (slice r.body 24 8).all (· == 0)) stINVALID s <|
  need (if isDma r then r.length == 32 && decide (reqLen r ≤ 16777216) else decide (r.length.toNat ≤ 4064)) stLENGTH s <|
  if isDma r && r.dmaData.isNone then yFail stFAULTED (raise 196 0 0 s)
  else fitted r s (h r (reqBody r) (room r) s)

/-- Opcodes that the boot ROM serves in RECOVERY, on mailbox 0 (R422): NOP, DEV_INFO, FW_STATUS, FW_WRITE, FW_ACTIVATE,
RESET. -/
def romOps : List Nat := [0x0100, 0x0104, 0x0C03, 0x0C04, 0x0C06, 0x0105]

/-- STAGE codes (R401). -/
def stageROM : Nat := 0
def stageLOAD : Nat := 1
def stageVERIFY : Nat := 2
def stageFW_INIT : Nat := 3
def stageMEMORY : Nat := 4
def stageLANES : Nat := 5
def stageREADY : Nat := 6
def stageRECOVERY : Nat := 14
def stageHALTED : Nat := 15

/-- Clove serves mailboxes while an image runs (R422); the ROM serves mailbox 0 in RECOVERY.  DESIGN CHOICE (log 12). -/
def served (r : YcpReq) (s : State) : Bool :=
  (decide (stageFW_INIT ≤ s.host.stage ∧ s.host.stage ≤ stageREADY) && !s.fw.halted) ||
    (s.host.stage == stageRECOVERY && r.mbx == 0)

/-- A doorbell or mailbox write that finds the mailbox BUSY (R403, R427). -/
def busyHit (m : Fin 8) (s : State) : State :=
  raise 194 m.val 0 (setMbx m { getMbx m s with ovr := true } s)

/-- A replay: the stored response is rewritten with flag REPLAY, with the epoch at its completion (R405, R407); one that the room
of this request does not hold, or whose DMA write fails, is answered as a command's is, and the stored one stands. -/
def replay (r : YcpReq) (s : State) : State :=
  let mb := getMbx r.mbx s
  let x := fitted r s { status := mb.lastStatus, detail := mb.lastDetail, body := mb.stored, more := mb.lastMore, st := s }
  respond mb.lastOp r x.status x.detail x.body true x.more mb.lastEpoch x.st

/-- How many commands execute (R404). -/
def executing (s : State) : Nat := ((List.finRange 8).filter fun m => (getMbx m s).running.isSome).length

/-- Clove takes the request now: fewer than four commands execute, and no request that came before it waits (R404). -/
def takesNow (op : Nat) (r : YcpReq) (s : State) : Bool :=
  decide (executing s < 4) && (s.host.waiting.isEmpty || s.host.waiting.head? == some (op, r))

/-- The request waits its turn; its mailbox is BUSY (R404). -/
def waitTurn (op : Nat) (r : YcpReq) (s : State) : State :=
  let s := setMbx r.mbx { getMbx r.mbx s with busy := true } s
  { s with host := { s.host with waiting := s.host.waiting ++ [(op, r)] } }

/-- The request leaves the list of those that wait. -/
def turnTaken (op : Nat) (r : YcpReq) (s : State) : State :=
  if s.host.waiting.head? = some (op, r) then { s with host := { s.host with waiting := s.host.waiting.tail } } else s

/-- A doorbell is rung (R403–R405): not served, BUSY, a wrong SEQ or a replay end it; else the request goes on to `k`. -/
def ycpGate (op : Nat) (r : YcpReq) (k : State → State) (s : State) : State :=
  if !served r s then s
  else if (getMbx r.mbx s).busy then busyHit r.mbx s
  else if r.doorbell ≠ r.seq then
    respond op r stINVALID 0 [] false false s.ep.epoch (raise 194 r.mbx.val 0 s)
  else if r.seq = (getMbx r.mbx s).lastSeq then replay r (bump .MBX_REPLAYS r.mbx.val s)
  else k s

/-- The request is run once Clove takes it; a command that waits for its end leaves its mailbox BUSY (R404). -/
def ycpTake (op : Nat) (r : YcpReq) (h : YHandler) (s : State) : State :=
  if s.host.stage == stageRECOVERY && !(romOps.contains op) then complete op r (yFail stUNKNOWN_OP (turnTaken op r s))
  else if !takesNow op r s then waitTurn op r s
  else
    let s := turnTaken op r s
    let x := execute r h s
    if x.wait then
      setMbx r.mbx { getMbx r.mbx x.st with busy := true, running := some (op, r) } x.st
    else complete op r x

/-- A doorbell is taken and its request run (R403–R408). -/
def ycpRun (op : Nat) (r : YcpReq) (h : YHandler) (s : State) : State := ycpGate op r (ycpTake op r h) s

/-- The step of a YCP command. -/
def ycp (op : Nat) (r : YcpReq) (h : YHandler) (s : State) : Host.Outcome State Fault Refusal :=
  .next (ycpRun op r h s)

/-- A command that was still executing on a mailbox completes (R404). -/
def finishRunning (m : Fin 8) (mk : State → YRes) (s : State) : State :=
  match (getMbx m s).running with
  | some (op, r) => complete op r (fitted r s (mk s))
  | none => s

/-! Body forms (R409). -/

/-- The items of a form-L body, `fuel` at most: INDEX and record, each record of the size its INDEX selects. -/
def parseItems (size : Nat → Nat) : Nat → Bytes → Option (List (Nat × Bytes))
  | _, [] => some []
  | 0, _ => none
  | fuel + 1, b =>
    let i := fld b 0 4
    let n := size i
    if b.length < 4 + n then none
    else (parseItems size fuel (b.drop (4 + n))).map ((i, slice b 4 n) :: ·)

/-- The whole items that a form-L body begins with. -/
def wholeItems (size : Nat → Nat) : Nat → Bytes → List (Nat × Bytes)
  | 0, _ => []
  | fuel + 1, b =>
    let i := fld b 0 4
    let n := size i
    if b.length < 4 + n then [] else (i, slice b 4 n) :: wholeItems size fuel (b.drop (4 + n))

/-- A form-L body that its LENGTH or COUNT does not fit: a bad encoding in a whole record of the list comes first (R408). -/
def formLMisfit (size : Nat → Nat) (chk : State → Nat → Bytes → Nat) (b : Bytes) (s : State) : YRes :=
  match ((wholeItems size b.length (b.drop 8)).take (fld b 0 4)).findIdx? fun p => chk s p.1 p.2 == stINVALID with
  | some i => yFailAt stINVALID i s
  | none => yFail stLENGTH s

/-- The first record that fails, by the order of R408: its status and its position. -/
def firstFail (chk : Nat → Bytes → Nat) (items : List (Nat × Bytes)) : Option (Nat × Nat) :=
  let sts := items.zipIdx.map fun p => (chk p.1.1 p.1.2, p.2)
  let bad := sts.filter fun p => p.1 ≠ stOK
  bad.foldl (fun best p =>
    match best with
    | none => some p
    | some q => if stOrder p.1 < stOrder q.1 then some p else some q) none

/-- A form-L command: checked whole, then applied in list order as one unit (R409). -/
def formL (size : Nat → Nat) (chk : State → Nat → Bytes → Nat) (app : Nat → Bytes → State → State) : YHandler :=
  fun _ b _ s =>
    need (decide (b.length < 8) || fld b 4 4 == 0) stINVALID s <|
    need (decide (8 ≤ b.length)) stLENGTH s <|
    match parseItems size b.length (b.drop 8) with
    | none => formLMisfit size chk b s
    | some items =>
      if items.length ≠ fld b 0 4 then formLMisfit size chk b s else
      match firstFail (chk s) items with
      | some (st, i) => yFailAt (st % 65536) i s
      | none => yOk [] (items.foldl (fun a p => app p.1 p.2 a) s)

/-- A form-L command whose result is also held to a condition over the whole list (R408, order 10). -/
def formLX (size : Nat → Nat) (chk : State → Nat → Bytes → Nat) (app : Nat → Bytes → State → State)
    (post : State → State → Nat) : YHandler := fun r b rm s =>
  let x := formL size chk app r b rm s
  if x.status = stOK ∧ post s x.st ≠ stOK then yFail (post s x.st) s else x

/-- Records of form S followed by a property list over the records returned (R412, PORT_STATUS). -/
def formSP (total size : Nat) (rec : State → Nat → Bytes) (props : State → Nat → Nat → Bytes) : YHandler := fun _ b rm s =>
  need (decide (b.length ≠ 16) || fld b 8 8 == 0) stINVALID s <|
  need (b.length == 16) stLENGTH s <|
  let first := fld b 0 4
  let count := fld b 4 4
  let most := min count (total - first)
  let fits (n : Nat) : Bool := decide (8 + n * size + (props s first n).length ≤ rm)
  need (fits 1) stLENGTH s <|
  need (decide (first < total)) stRANGE s <|
  let n := (((List.range (most + 1)).reverse.find? fits).getD 0)
  { yRead (leBytes 4 n ++ zeros 4 ++ ((List.range n).map fun k => fit size (rec s (first + k))).flatten ++ props s first n) s with
    more := decide (n < count ∧ first + n < total) }

/-- The SEL field of a form-S request. -/
def selOf (b : Bytes) : Nat := fld b 8 4

/-- A form-S command whose SEL is below `sels`, over `total` records of `size` bytes (R409). -/
def formSel (sels total size : Nat) (rec : State → Nat → Nat → Bytes) : YHandler :=
  fun _ b rm s =>
    need (decide (b.length ≠ 16) || (fld b 12 4 == 0 && (sels != 1 || selOf b == 0))) stINVALID s <|
    need (b.length == 16) stLENGTH s <|
    need (decide (8 + size ≤ rm)) stLENGTH s <|
    let first := fld b 0 4
    let count := fld b 4 4
    need (decide (first < total ∧ selOf b < sels)) stRANGE s <|
    let n := min (min count (total - first)) ((rm - 8) / size)
    { yRead (leBytes 4 n ++ zeros 4 ++ ((List.range n).map fun k => fit size (rec s (selOf b) (first + k))).flatten) s with
      more := decide (n < count ∧ first + n < total) }

/-- A form-S command with no selector: SEL is 0 (R409). -/
def formS (total size : Nat) (rec : State → Nat → Bytes) : YHandler := formSel 1 total size fun s _ k => rec s k

/-- The upper halves that a read of the registers `first` to `first + n - 1` leaves latched (R12): a _LO read latches the
present value of its _HI, and a _HI read uses its latch up. -/
def latchAfter (isLo : Nat → Bool) (val : Nat → Nat) (first n : Nat) (latch : Tbl Nat) : Tbl Nat :=
  (List.range n).foldl (fun l i =>
    let k := first + i
    if isLo k then tput l (k + 1) (val (k + 1)) else tdel l k) latch

/-- What a read that begins at register `first` answers for register `k`: the latched half of a _HI whose _LO was read by an
earlier command (R12), else the present value. -/
def latchedReg (latch : Tbl Nat) (val : Nat → Nat) (first k : Nat) : Nat :=
  if k = first then (tget? latch k).getD (val k) else val k

/-- A form-S read of 32-bit registers whose 64-bit values follow R12: `val` is a register, `isLo` the words that latch, and
`latch` and `keep` read and store the latched halves. -/
def formRegs (total : Nat) (val : State → Nat → Nat) (isLo : Nat → Bool) (latch : State → Tbl Nat)
    (keep : Tbl Nat → State → State) : YHandler := fun r b rm s =>
  let first := fld b 0 4
  let x := formS total 4 (fun s k => leBytes 4 (latchedReg (latch s) (val s) first k)) r b rm s
  if x.status = stOK then { x with st := keep (latchAfter isLo (val s) first (fld x.body 0 4) (latch s)) s } else x

/-- A command with an empty body. -/
def emptyBody (k : State → YRes) : YHandler := fun _ b _ s => need b.isEmpty stLENGTH s (k s)

/-- A form-O command of `n` request bytes whose bytes at the listed (offset, size) are reserved (R11), and whose fields hold the
listed encodings, each given with the end of its field: a field that the request holds is judged before its LENGTH (R408). -/
def formE (n : Nat) (resv : List (Nat × Nat)) (enc : List (Nat × (Bytes → State → Bool))) (k : Bytes → State → YRes) :
    YHandler := fun _ b _ s =>
  need ((resv.all fun p => fld b p.1 p.2 == 0) && enc.all fun e => decide (b.length < e.1) || e.2 b s) stINVALID s <|
  need (b.length == n) stLENGTH s (k b s)

/-- The encodings of an operation field OP (4) at offset 0. -/
def opIn (lo hi : Nat) (b : Bytes) (_ : State) : Bool := decide (lo ≤ fld b 0 4 ∧ fld b 0 4 ≤ hi)

/-- A form-O command with no encoding of its own. -/
def formO (n : Nat) (resv : List (Nat × Nat)) (k : Bytes → State → YRes) : YHandler := formE n resv [] k

/-! Property lists (R410). -/

/-- One property: NAME, TYPE, ELEM and the value. -/
def property (name : String) (type elem : Nat) (value : Bytes) : Bytes :=
  let nm := ascii name
  let raw := leBytes 1 nm.length ++ leBytes 1 type ++ leBytes 1 elem ++ [0] ++ leBytes 4 value.length ++ nm ++ value
  raw ++ zeros ((8 - raw.length % 8) % 8)

/-- An unsigned property of `elem` bytes. -/
def pNum (name : String) (elem v : Nat) : Bytes := property name 0 elem (leBytes elem v)

/-- A signed property of `elem` bytes. -/
def pInt (name : String) (elem : Nat) (v : Int) : Bytes :=
  property name 1 elem (leBytes elem (v % (2 ^ (8 * elem) : Nat)).toNat)

/-- A byte-string property. -/
def pStr (name : String) (v : Bytes) : Bytes := property name 2 0 v

/-- An array of unsigned values. -/
def pArr (name : String) (elem : Nat) (vs : List Nat) : Bytes := property name 3 elem (vs.map (leBytes elem)).flatten

/-- One more than the last instance below `n` whose value is not 0: a per-instance array ends there (log 42). -/
def lastUsed (n : Nat) (f : Nat → Nat) : Nat := ((List.range n).reverse.find? fun i => f i != 0).elim 0 (· + 1)

/-- A property list (R410). -/
def propList (ps : List Bytes) : Bytes := leBytes 4 ps.length ++ zeros 4 ++ ps.flatten

/-- A counter or gauge of one instance as a property (ELEM 8). -/
def pCtr (c : Ctr) (s : State) : Bytes :=
  let n := ctrInstances c
  let nm := ((ctrTable.find? fun r => r.1.ctorIdx == c.ctorIdx).map (·.2.1)).getD ""
  if n = 1 then pNum nm 8 (getCtr c 0 s) else pArr nm 8 ((List.range n).map fun i => getCtr c i s)

end Sys2Proof.Machine
end

