-- ==== Sys2Proof/Machine/Time.lean ====
section
/-!
DEFINITION. Saffron (chapter 10): the tick, the registers, disciplining, switchover, the reference signals and the commands
of group 0x07.
-/
namespace Sys2Proof.Machine

def setTime (t : TimeState) (s : State) : State := { s with time := t }

/-- A domain changed. -/
def modDom (d : Bool) (f : TimeDomain → TimeDomain) (s : State) : State :=
  setTime (s.time.setDom d (f (s.time.dom d))) s

/-- Code of a domain state (R300). -/
def domCode : DomState → Nat
  | .freeRun => 0
  | .acquiring => 1
  | .locked => 2
  | .holdover => 3

/-- FREQ_ADJ clamped to ±1,000 ppm (R298), in units of 2^-10 ppb. -/
def clampAdj (v : Int) : Int := max (-1024000000) (min 1024000000 v)

/-- What a tick adds to a domain: 80 ns × (1 + FREQ_ADJ) in units of 2^-48 ns (R298), rounded down (log 16). -/
def tickAdvance (adj : BitVec 32) : Int :=
  80 * (uNs : Int) + (80 * (uNs : Int) * clampAdj adj.toInt) / (1024 * 1000000000)

/-- What the rate against REF10_IN adds to a tick, in units of 2^-48 ns (R300), for a difference in 2^-10 ppb. -/
def driftAdvance (drift : Int) : Int := 80 * (uNs : Int) * drift / (1024 * 1000000000)

/-- The domain's rate is kept against REF10_IN: HOLDOVER with REF10_IN qualified (R300). -/
def onRef10 (d : Bool) (t : TimeState) : Bool := (t.dom d).st == .holdover && t.ref10Ok

/-- The difference of REF25 from REF10_IN that a tick makes good in a domain: a free value within the ±20 ppm in which REF10_IN
stays qualified (R300, R310; log 77). -/
def refDrift (d : Bool) (s : State) : Int :=
  if onRef10 d s.time then max (-20480000) (min 20480000 (Config.refDrift s.fresh (b2n d))) else 0

/-- What a slew moves in one tick: SLEW_RATE ppm of 80 ns (R309). -/
def slewStep (rate : Nat) : Nat := 80 * uNs * rate / 1000000

/-- A residue moved towards 0 by `step`, reaching 0 exactly (R309). -/
def towardZero (v : Int) (step : Nat) : Int :=
  if v.natAbs ≤ step then 0 else if 0 < v then v - step else v + step

/-- One tick of a domain (R298, R300, R307). -/
def tickDomain (rate : Nat) (drift : Int) (x : TimeDomain) : TimeDomain :=
  let left := towardZero x.slewLeft (slewStep rate)
  let v := timeNorm (x.val + tickAdvance x.freqAdj + driftAdvance drift + (x.slewLeft - left))
  { x with val := v, copy := v, slewLeft := left, lastSync := min (x.lastSync + 1) 4294967295,
           wd := min (x.wd + 1) 4294967295 }

/-- The value that PPS_OUT follows, at the last tick (R310). -/
def ppsValue (s : State) : Nat :=
  let v := if s.time.ppsSel = 0 then activeTick s else (s.time.dom (s.time.ppsSel == 2)).val
  timeNorm ((v : Int) - s.time.ppsOffset * uNs)

/-- The counters of a tick (R298, R299, R308, R309): both domains, RESID, the free-running counter and the elapsed times. -/
def tickTime (s : State) : TimeState :=
  let t := s.time
  let back : Bool := match t.former with
    | some f => (t.dom f).st == .locked && f != t.active
    | none => false
  { t with
    d0 := tickDomain t.slewRate (refDrift false s) t.d0, d1 := tickDomain t.slewRate (refDrift true s) t.d1,
    resid := towardZero t.resid (slewStep t.slewRate),
    free := (t.free + 80) % 2 ^ 64, phase := 0,
    sinceSwitch := t.sinceSwitch.map (· + 1), sincePps := t.sincePps.map (· + 1),
    formerTicks := if back then t.formerTicks + 1 else 0 }

/-- An AON tick (R298, R309, R310, R384): time advances, a carry of the value that PPS_OUT follows is noted, and the copies are
compared; a copy upset since the last tick is reloaded from the good one and raises its source. -/
def aonTick (domUpset : Option (Nat × Nat)) (maceUpset : Bool) (s : State) : State :=
  let t := tickTime s
  let s' := if onRef10 false s.time || onRef10 true s.time then tookFree s else s
  let carry := secOf (ppsValue (setTime t s)) != secOf (ppsValue s)
  let s := setTime { t with ppsCarry := t.ppsCarry || carry } s'
  let s := match domUpset with
    | some (d, _) => raise 78 d 0 s
    | none => s
  if maceUpset then raise 0 0 0 s else s

/-! Steps of the active time (R285). -/

/-- A change of the active time of more than 100 ns under operational lists (R285). -/
def timeJump (d : Int) (s : State) : State :=
  if d.natAbs ≤ 100 * uNs then s
  else forEach (s.sched.gateOp.map (·.1)) (fun p s => raise 69 p (portMask p) (bump .GATE_TIME_JUMP p s)) s

/-- A domain moved by `delta` (R307). -/
def stepDomain (d : Bool) (delta : Int) (s : State) : State :=
  let v := timeNorm ((s.time.dom d).val + delta)
  let s := bump .TIME_STEP (b2n d) (modDom d (fun x => { x with val := v, copy := v }) s)
  if d = s.time.active then timeJump delta s else s

/-- Moves the active domain by more than 1 s (R307). -/
def bigMove (d : Bool) (delta : Int) (s : State) : Bool :=
  d == s.time.active && decide (uSec < delta.natAbs) && !s.time.allowLarge

/-! Switchover (R308, R309). -/

/-- The signed difference of two values, through the wrap of SEC. -/
def timeDiff (a b : Nat) : Int :=
  let d : Int := (timeNorm ((a : Int) - b) : Nat)
  if 2 * d < uWrap then d else d - uWrap

/-- A switchover is requested: it is pending for the next tick, or it is refused with F075 (R308). The reason codes are the
model's (log 16): 0 the other domain is not LOCKED, 1 it differs by more than 1 s, 2 too soon. -/
def triggerSwitch (auto : Bool) (s : State) : State :=
  let t := s.time
  let o := t.dom (!t.active)
  let refuse (k : Nat) := raise 75 k 0 (bump .TIME_NOSWITCH 0 s)
  if o.st ≠ .locked then refuse 0
  else if uSec < (timeDiff o.val (activeTick s)).natAbs ∧ !t.allowLarge then refuse 1
  else if auto && (match t.sinceSwitch with
      | some k => decide (k * 80 < max t.d0.syncTimeout t.d1.syncTimeout * 1000000)
      | none => false) then refuse 2
  else setTime { t with pendSwitch := true } s

/-- On the first tick after the trigger the active domain changes, by slew or by step (R309). -/
def switchover (s : State) : State :=
  let t := s.time
  if !t.pendSwitch then s else
  let d := timeDiff (t.dom (!t.active)).val (activeTick s)
  let slew := decide (d.natAbs ≤ 10 * uNs * t.slewMax)
  let dns := d / (uNs : Int)
  let s := setTime { t with
    active := !t.active, resid := if slew then -d else 0, pendSwitch := false, switched := true,
    sinceSwitch := some 0, former := some t.active, formerTicks := 0, lastSwitch := some (t.active, dns, !slew) } s
  let s := postEvent 9 (leBytes 1 (b2n t.active) ++ leBytes 1 (b2n (!t.active)) ++ leBytes 1 (b2n (!slew)) ++ [0] ++
    leBytes 8 (dns % (2 ^ 64 : Nat)).toNat) s
  let s := raise 74 0 0 (bump .TIME_SWITCH 0 s)
  if slew then s else timeJump d s

def execSwitchover (s : State) : Host.Outcome State Fault Refusal := .next (switchover s)

/-- RESID is within one tick's slew of 0: it reaches 0 exactly and SLEWING clears (R309). -/
def execSlewComplete (s : State) : Host.Outcome State Fault Refusal :=
  .next (if s.time.resid.natAbs ≤ slewStep s.time.slewRate then setTime { s.time with resid := 0 } s else s)

/-- The former active domain has been LOCKED for REVERT_S (R301, R308). -/
def execRevertTimer (s : State) : Host.Outcome State Fault Refusal :=
  .next <|
    match s.time.former with
    | some f =>
      if s.time.revert && f != s.time.active && decide (s.time.revertS * 1000000000 ≤ s.time.formerTicks * 80) then
        triggerSwitch true s
      else s
    | none => s

/-! Disciplining (R300, R307, R536). -/

/-- An offset, in units of 2^-48 ns, counted towards LOCKED (R300, R536); TIME_STATUS shows its whole ns. -/
def countUpdate (off : Int) (x : TimeDomain) : TimeDomain :=
  let y := { x with offset := off / (uNs : Int) }
  if off.natAbs ≤ x.qualNs * uNs then
    if x.st = .acquiring ∧ 16 ≤ x.qual + 1 then { y with qual := 16, st := .locked }
    else { y with qual := min (x.qual + 1) 16 }
  else { y with qual := 0 }

/-- The reference resumes: the watchdog runs again, and HOLDOVER becomes ACQUIRING (R300, R307). -/
def resumed (x : TimeDomain) : TimeDomain :=
  { x with wdExpired := false,
           st := if x.st = .holdover then .acquiring else x.st,
           qual := if x.st = .holdover then 0 else x.qual }

/-- An accepted Sync resets LAST_SYNC (R536). -/
def acceptSync (x : TimeDomain) : TimeDomain := { resumed x with lastSync := 0 }

/-- FREQ_ADJ as the firmware servo sets it after an offset, in units of 2^-48 ns: a law that the spec does not state (R536,
log 2). -/
def servoFreq (d : Bool) (off : Int) (s : State) : State :=
  modDom d (fun x => { x with
    freqAdj := BitVec.ofInt 32 (clampAdj (Config.servoFreq (b2n d) off x.freqAdj s.time.ref10Ok).toInt) }) s

/-- The firmware servo's correction (R536): a STEP beyond ±1 µs while ACQUIRING, subject to the guard of R307; else
FREQ_ADJ, by a law the spec does not state (log 2). -/
def servoCorrect (d : Bool) (off : Int) (s : State) : State :=
  let x := s.time.dom d
  if x.st = .acquiring ∧ 1000 * uNs < off.natAbs then
    if bigMove d (-off) s then s else stepDomain d (-off) s
  else servoFreq d off s

/-- One update of a domain (R536), `ref` what its reference's arrival does: with OWNER 0 the offset the servo measured, in
units of 2^-48 ns; with OWNER 1 the arrival alone. -/
def servoUpdate (ref : TimeDomain → TimeDomain) (d : Bool) (off : Int) (s : State) : State :=
  let x := s.time.dom d
  if x.owner = 1 then modDom d ref s
  else
    let s := modDom d (fun x => countUpdate off (ref x)) s
    if x.st = .locked then servoFreq d off s else servoCorrect d off s

/-- SERVO_UPDATE: an accepted Sync of a domain with SOURCE 1 (R536); a domain of another source has none. -/
def execServoUpdate (d : Nat) (offset : Int) (s : State) : Host.Outcome State Fault Refusal :=
  .next (if (s.time.dom (d == 1)).source = 1 then servoUpdate acceptSync (d == 1) (offset * uNs) s else s)

/-- Ticks that the watchdog compares with SYNC_TIMEOUT (R307): LAST_SYNC, or for SOURCE 2 those since the last PPS_IN edge or
the restart of the watchdog (R537). -/
def wdTicks (d : Bool) (s : State) : Nat :=
  let x := s.time.dom d
  if x.source = 2 then x.wd else x.lastSync

/-- The Sync watchdog of a domain expires: HOLDOVER, whatever state the domain had (R300, R307, R308). -/
def watchdogExpiry (d : Bool) (s : State) : State :=
  let x := s.time.dom d
  if x.source ≠ 0 ∧ !x.wdExpired ∧ x.syncTimeout * 1000000 ≤ wdTicks d s * 80 then
    let s := modDom d (fun x => { x with wdExpired := true, st := .holdover }) s
    let s := bump .SYNC_TIMEOUT_CNT (b2n d) s
    let s := raise (if d = s.time.active then 72 else 73) (b2n d) 0 s
    if d = s.time.active ∧ s.time.autoSwitch then triggerSwitch true s else s
  else s

def execSyncWatchdogExpiry (d : Nat) (s : State) : Host.Outcome State Fault Refusal := .next (watchdogExpiry (d == 1) s)

/-- A master change seen in a domain (R300, R308). -/
def execPtpMasterChange (d : Nat) (s : State) : Host.Outcome State Fault Refusal :=
  let b := d == 1
  .next <|
    if (s.time.dom b).source = 0 then s
    else
      let s := modDom b (fun x => { x with st := .acquiring, qual := 0 }) s
      if b = s.time.active ∧ s.time.autoSwitch then triggerSwitch true s else s

/-! Registers (R301). -/

def timeCtrl (t : TimeState) : Nat :=
  b2n t.autoSwitch + 2 * b2n t.revert + 4 * b2n t.allowLarge + 256 * t.slewRate + 65536 * t.slewMax

def timeStatusReg (t : TimeState) : Nat :=
  b2n t.active + 2 * b2n (t.resid != 0) + 4 * domCode t.d0.st + 32 * domCode t.d1.st + 256 * b2n t.ref10Ok +
  512 * b2n t.ppsSeen + 1024 * b2n t.switched

/-- A residual in whole ns, towards 0, as 32 bits. -/
def residNs (v : Int) : Nat := ((v.tdiv (uNs : Int)) % (2 ^ 32 : Nat)).toNat

/-- RESID at the last tick. -/
def residReg (t : TimeState) : Nat := residNs t.resid

/-- A Saffron register by byte offset (R301); none outside the map. -/
def timeReg (t : TimeState) (off : Nat) : Option Nat :=
  match off with
  | 0x000 => some (timeCtrl t)
  | 0x004 => some (timeStatusReg t)
  | 0x008 => some 0
  | 0x010 => some (t.snapFree % 2 ^ 32)
  | 0x014 => some (t.snapFree / 2 ^ 32)
  | 0x020 => some (secOf t.snapAct % 2 ^ 32)
  | 0x024 => some (secOf t.snapAct / 2 ^ 32)
  | 0x028 => some (nsecOf t.snapAct)
  | 0x02C => some (fracOf t.snapAct)
  | 0x030 => some (residNs t.snapResid)
  | 0x100 => some (secOf t.snapD0 % 2 ^ 32)
  | 0x104 => some (secOf t.snapD0 / 2 ^ 32)
  | 0x108 => some (nsecOf t.snapD0)
  | 0x10C => some (fracOf t.snapD0)
  | 0x110 => some t.d0.freqAdj.toNat
  | 0x114 => some t.d0.lastSync
  | 0x140 => some (secOf t.snapD1 % 2 ^ 32)
  | 0x144 => some (secOf t.snapD1 / 2 ^ 32)
  | 0x148 => some (nsecOf t.snapD1)
  | 0x14C => some (fracOf t.snapD1)
  | 0x150 => some t.d1.freqAdj.toNat
  | 0x154 => some t.d1.lastSync
  | _ => none

/-- A Saffron register by its word; words outside the map read 0. -/
def timeWord (s : State) (k : Nat) : Nat := (timeReg s.time (4 * k)).getD 0

/-- The words that hold a _LO half: SNAP_FREE, SNAP_ACT_SEC, D0_SEC and D1_SEC (R301). -/
def timeIsLo (k : Nat) : Bool := [4, 8, 64, 80].contains k

/-- TIME_REG_READ (0x0701) by 32-bit word (R412); 64-bit values follow R12. -/
def timeRegReadH : YHandler :=
  formRegs 96 timeWord timeIsLo (·.time.hiLatch) fun l s => setTime { s.time with hiLatch := l } s

def execTimeRegRead (r : YcpReq) (s : State) : Host.Outcome State Fault Refusal := ycp 0x0701 r timeRegReadH s

/-- SNAP latches every value on one tick (R301, R312). -/
def timeSnap (s : State) : State :=
  setTime { s.time with snapFree := s.time.free, snapAct := activeTick s, snapResid := s.time.resid,
                        snapD0 := s.time.d0.val, snapD1 := s.time.d1.val } s

/-- A write of a Saffron register under its access code (R9, R301). -/
def timeRegWrite (off v : Nat) (s : State) : State :=
  match off with
  | 0x000 => setTime { s.time with autoSwitch := bit v 0, revert := bit v 1, allowLarge := bit v 2,
                                   slewRate := bits v 8 8, slewMax := bits v 16 16 } s
  | 0x004 => setTime { s.time with ppsSeen := s.time.ppsSeen && !bit v 9, switched := s.time.switched && !bit v 10 } s
  | 0x008 => if bit v 0 then timeSnap s else s
  | 0x110 => modDom false (fun x => { x with freqAdj := BitVec.ofInt 32 (clampAdj (BitVec.ofNat 32 v).toInt) }) s
  | 0x150 => modDom true (fun x => { x with freqAdj := BitVec.ofInt 32 (clampAdj (BitVec.ofNat 32 v).toInt) }) s
  | _ => s

/-- Bits of a register that must be written 0 (R301). -/
def timeRegResv (off v : Nat) : Bool :=
  match off with
  | 0x000 => decide (bits v 3 5 ≠ 0)
  | 0x004 => decide (bits v 11 21 ≠ 0)
  | 0x008 => decide (bits v 1 31 ≠ 0)
  | _ => false

/-- TIME_REG_WRITE (0x0702): OFFSET, VALUE. -/
def timeRegWriteH : YHandler := formE 16 [(4, 4)] [(16, fun b _ => !timeRegResv (fld b 0 4) (fld b 8 8))] fun b s =>
  let off := fld b 0 4
  let v := fld b 8 8
  need (decide (v < 2 ^ 32) && (timeReg s.time off).isSome &&
    (off != 0 || decide (1 ≤ bits v 8 8 ∧ bits v 8 8 ≤ 100))) stRANGE s <|
  yOk [] (timeRegWrite off v s)

def execTimeRegWrite (r : YcpReq) (s : State) : Host.Outcome State Fault Refusal := ycp 0x0702 r timeRegWriteH s

/-- TIME_REG_WRITE of TIME_SNAP.SNAP (R301). -/
def execTimeSnap (r : YcpReq) (s : State) : Host.Outcome State Fault Refusal := ycp 0x0702 r timeRegWriteH s

/-! Commands (R307, R308, R310, R537). -/

/-- A TIME_CONFIG of a domain (R537). -/
def timeConfigured (source num owner timeout qual : Nat) (x : TimeDomain) : TimeDomain :=
  let y := { x with source := source, domNum := num, owner := owner, syncTimeout := timeout, qualNs := qual }
  if source ≠ x.source ∨ num ≠ x.domNum then
    { y with st := if source = 0 then .freeRun else .acquiring, qual := 0, lastSync := 0, wd := 0,
             wdExpired := false }
  else y

def timeConfigH : YHandler :=
  formE 16 [(12, 4)] [(2, fun b _ => decide (fld b 1 1 ≤ 2)),
    (3, fun b s => !(decide (fld b 0 1 < 2) && fld b 2 1 == (s.time.dom (fld b 0 1 == 0)).domNum)),
    (4, fun b _ => decide (fld b 3 1 ≤ 1))] fun b s =>
  let d := fld b 0 1
  let dom := d == 1
  need (decide (d < 2 ∧ 10 ≤ fld b 4 4 ∧ fld b 4 4 ≤ 10000 ∧
    10 ≤ fld b 8 4 ∧ fld b 8 4 ≤ 10000)) stRANGE s <|
  yOk [] (modDom dom (timeConfigured (fld b 1 1) (fld b 2 1) (fld b 3 1) (fld b 4 4) (fld b 8 4)) s)

def execTimeConfig (r : YcpReq) (s : State) : Host.Outcome State Fault Refusal := ycp 0x0703 r timeConfigH s

/-- The signed 64-bit offset of a TIME_ADJUST, in units. -/
def adjOffset (b : Bytes) : Int := (BitVec.ofNat 64 (fld b 16 8)).toInt * uNs

/-- With OWNER 1 a TIME_ADJUST is the domain's update, its offset the change it makes (R536). -/
def adjUpdate (d : Bool) (delta : Int) (s : State) : State :=
  if (s.time.dom d).owner = 1 ∧ (s.time.dom d).source ≠ 0 then modDom d (countUpdate delta) s else s

/-- TIME_ADJUST (0x0704): SET, STEP and SLEW of one domain (R307). -/
def timeAdjustH : YHandler := formE 24 [(2, 6)] [(2, fun b _ => decide (1 ≤ fld b 1 1 ∧ fld b 1 1 ≤ 3))] fun b s =>
  let d := fld b 0 1 == 1
  let op := fld b 1 1
  let setV := timeOf (fld b 8 8) (fld b 16 8) 0
  let delta : Int := if op = 1 then (setV : Int) - (s.time.dom d).val else adjOffset b
  need (!(op != 3 && bigMove d delta s)) stDENIED s <|
  need (decide (fld b 0 1 < 2 ∧ (op = 1 → fld b 8 8 < 2 ^ 48 ∧ fld b 16 8 < 1000000000) ∧
    (op = 3 → delta.natAbs ≤ uSec))) stRANGE s <|
  yOk [] (adjUpdate d delta
    (if op = 3 then modDom d (fun x => { x with slewLeft := delta }) s else stepDomain d delta s))

def execTimeAdjustSet (r : YcpReq) (s : State) : Host.Outcome State Fault Refusal := ycp 0x0704 r timeAdjustH s
def execTimeAdjustStep (r : YcpReq) (s : State) : Host.Outcome State Fault Refusal := ycp 0x0704 r timeAdjustH s
def execTimeAdjustSlew (r : YcpReq) (s : State) : Host.Outcome State Fault Refusal := ycp 0x0704 r timeAdjustH s

/-- TIME_ACTIVE_SET (0x0705): REVERT_S, and a switchover when the other domain is named (R308). -/
def timeActiveSetH : YHandler := formO 8 [(1, 3)] fun b s =>
  let d := fld b 0 1 == 1
  let rv := fld b 4 4
  need (decide (fld b 0 1 < 2 ∧ rv ≤ 3600)) stRANGE s <|
  let s1 := if rv = 0 then s else setTime { s.time with revertS := rv } s
  yOk [] (if d = s1.time.active then s1 else triggerSwitch false s1)

def execTimeActiveSet (r : YcpReq) (s : State) : Host.Outcome State Fault Refusal := ycp 0x0705 r timeActiveSetH s

/-- TIME_STATUS (0x0706): the domain states, offsets from the master, the last switchover and RESID. -/
def timeStatusBody (s : State) : Bytes :=
  let t := s.time
  let (o, d, m) := t.lastSwitch.getD (false, 0, false)
  propList [pNum "ACTIVE" 1 (b2n t.active), pNum "SLEWING" 1 (b2n (t.resid != 0)), pNum "D0_STATE" 1 (domCode t.d0.st),
    pNum "D1_STATE" 1 (domCode t.d1.st), pInt "D0_OFFSET" 8 t.d0.offset, pInt "D1_OFFSET" 8 t.d1.offset,
    pInt "RESID" 4 (t.resid.tdiv (uNs : Int)), pNum "SWITCHED" 1 (b2n t.switched), pNum "LAST_OLD" 1 (b2n o),
    pInt "LAST_D" 8 d, pNum "LAST_MODE" 1 (b2n m), pNum "REF10_OK" 1 (b2n t.ref10Ok), pNum "REVERT_S" 4 t.revertS]

def execTimeStatus (r : YcpReq) (s : State) : Host.Outcome State Fault Refusal :=
  ycp 0x0706 r (emptyBody fun s => yRead (timeStatusBody s) s) s

/-- A port lane: group × 16 + logical lane (R310, R411; R338's worked example names the outputs by logical lane). -/
def portLaneOk (l : Nat) : Bool := decide (l / 16 < 8 ∧ l % 16 < 8)

/-- The physical lane that carries a selected port lane has CDR lock. -/
def rclkLocked (l : Nat) (s : State) : Bool :=
  let g := l / 16
  let k := l % 16
  (tget {} s.lanes.lane (9 * g + tget k s.lanes.map (8 * g + k))).locked

/-- A recovered-clock output as PPS_SET leaves it (R310): one that names another lane is held low while that lane has no CDR
lock (DEDUCED, log 78). -/
def rclkSelect (l div : Nat) (s : State) (o : RclkOut) : RclkOut :=
  { lane := l, div := div, squelched := if l = o.lane then o.squelched else !rclkLocked l s }

/-- PPS_SET (0x0708): the PPS and recovered-clock outputs (R310). -/
def ppsSetH : YHandler := formO 20 [(1, 3)] fun b s =>
  let off := (BitVec.ofNat 32 (fld b 4 4)).toInt
  let w := fld b 8 4
  let l0 := fld b 12 2
  let l1 := fld b 14 2
  need (decide (fld b 0 1 ≤ 2 ∧ off.natAbs ≤ 1000000 ∧ 1000 ≤ w ∧ w ≤ 500000000 ∧ 16 ≤ fld b 16 2 ∧ 16 ≤ fld b 18 2) &&
    portLaneOk l0 && portLaneOk l1) stRANGE s <|
  yOk [] (setTime { s.time with
    ppsSel := fld b 0 1, ppsOffset := off, ppsWidth := w,
    rclk0 := rclkSelect l0 (fld b 16 2) s s.time.rclk0, rclk1 := rclkSelect l1 (fld b 18 2) s s.time.rclk1 } s)

def execPpsSet (r : YcpReq) (s : State) : Host.Outcome State Fault Refusal := ycp 0x0708 r ppsSetH s

/-! Reference signals (R310). -/

/-- A rising PPS_OUT edge at the carry of SEC, at most one per carry; a step that skips a carry gives none (R310). -/
def execPpsOutEdge (s : State) : Host.Outcome State Fault Refusal :=
  .next (if s.time.ppsCarry then setTime { s.time with ppsOut := true, ppsCarry := false } s else s)

/-- PPS_OUT falls when PPS_WIDTH has passed (R310). -/
def execPpsOutPulseEnd (s : State) : Host.Outcome State Fault Refusal := .next (setTime { s.time with ppsOut := false } s)

/-- The offset of a PPS_IN edge from the nearest carry of SEC, in units of 2^-48 ns (R536). -/
def ppsOffsetOf (v : Nat) : Int :=
  let n := v % uSec
  if 2 * n < uSec then n else (n : Int) - uSec

/-- A PPS_IN edge `sub` × 2^-16 ns after the last tick (R310): stamped in both domains, posted, counted; it is the update of
a domain with SOURCE 2 (R536). An edge closer than 500 ms to the previous one is ignored. -/
def ppsIn (sub : Nat) (s : State) : State :=
  let near := match s.time.sincePps with
    | some k => decide (k * 80 < 500000000)
    | none => false
  if near then s else
  let v0 := timeNorm (s.time.d0.val + sub * 2 ^ 32)
  let v1 := timeNorm (s.time.d1.val + sub * 2 ^ 32)
  let s := setTime { s.time with ppsSeen := true, sincePps := some 0, d0 := { s.time.d0 with wd := 0 },
                                 d1 := { s.time.d1 with wd := 0 } } s
  let s := bump .PPS_IN_EDGES 0 (postEvent 10 (ptpRecord v0 v1) s)
  let s := if s.time.d0.source = 2 then servoUpdate resumed false (ppsOffsetOf v0) s else s
  if s.time.d1.source = 2 then servoUpdate resumed true (ppsOffsetOf v1) s else s

def execPpsInEdge (sub : Nat) (s : State) : Host.Outcome State Fault Refusal := .next (ppsIn sub s)

def execRef10InQualified (s : State) : Host.Outcome State Fault Refusal := .next (setTime { s.time with ref10Ok := true } s)

/-- REF10_IN is disqualified: F076 and REF10_LOSS (R310, R313). -/
def execRef10InDisqualified (s : State) : Host.Outcome State Fault Refusal :=
  .next (if s.time.ref10Ok then raise 76 0 0 (bump .REF10_LOSS 0 (setTime { s.time with ref10Ok := false } s)) else s)

/-- The recovered-clock outputs of a lane that loses CDR lock are held low, and F077 is raised (R310). -/
def rclkSquelch (lane : Nat) (s : State) : State :=
  let s := if s.time.rclk0.lane = lane ∧ !s.time.rclk0.squelched then
    raise 77 0 0 (setTime { s.time with rclk0 := { s.time.rclk0 with squelched := true } } s) else s
  if s.time.rclk1.lane = lane ∧ !s.time.rclk1.squelched then
    raise 77 1 0 (setTime { s.time with rclk1 := { s.time.rclk1 with squelched := true } } s) else s

/-- A squelched output resumes 10 ms after relock (R310): only while its lane has CDR lock. -/
def execRclkResume (out : Nat) (s : State) : Host.Outcome State Fault Refusal :=
  let t := s.time
  .next (if out = 0 then setTime { t with rclk0 := { t.rclk0 with squelched := t.rclk0.squelched && !rclkLocked t.rclk0.lane s } } s
    else setTime { t with rclk1 := { t.rclk1 with squelched := t.rclk1.squelched && !rclkLocked t.rclk1.lane s } } s)

/-! Resets (R300, R444, R537). -/

/-- A warm reset: both domains keep counting, and LOCKED falls to HOLDOVER (R300, R444). -/
def timeWarm (t : TimeState) : TimeState :=
  let f (x : TimeDomain) : TimeDomain := if x.st = .locked then { x with st := .holdover, qual := 0 } else x
  { t with d0 := f t.d0, d1 := f t.d1 }

/-- A power-on or cold reset: the domains are 0 and FREE_RUN (R444, R537). The free-running counter goes with them. -/
def timeCold : TimeState := {}

end Sys2Proof.Machine
end

