-- ==== Sys2Proof/Machine/Ports.lean ====
section
/-!
DEFINITION. What the port records say (R317, R319, R260, R277): the helpers that the buffer, the scheduler and the lanes
share.
-/
namespace Sys2Proof.Machine

/-! The port record (R319). -/

/-- The record of a port at reset: ENABLE 0 and the defaults of R319; the other fields 0 (DESIGN CHOICE, log 20). -/
def portDefault (p : Nat) : Bytes :=
  leBytes 1 p ++ [0, 0, 0, 0, 2, 2, 5, 1] ++ leBytes 2 16 ++ [10, 0, 0, 0, 0]

def portRec (p : Nat) (s : State) : Bytes := tget (portDefault p) s.lanes.port p

def recEnabled (r : Bytes) : Bool := bit (fld r 1 1) 0
/-- WIDTH in lanes. -/
def recWidth (r : Bytes) : Nat := 2 ^ bits (fld r 1 1) 1 2
def recRate (r : Bytes) : Nat := bits (fld r 2 1) 0 3
def recFec (r : Bytes) : Nat := bits (fld r 3 1) 0 2
/-- MEDIA is CR/KR. -/
def recKr (r : Bytes) : Bool := bit (fld r 1 1) 3
def recAssured (r : Bytes) : Bool := bit (fld r 1 1) 4

/-- Ethernet rate per lane of a rate code, in Gb/s (R317). -/
def laneGbps : Nat → Nat
  | 0 => 200
  | 1 => 100
  | 2 => 50
  | 3 => 25
  | _ => 10

/-- The port rate in Gb/s (R317). -/
def recGbps (r : Bytes) : Nat := laneGbps (recRate r) * recWidth r

def portEnabled (p : Nat) (s : State) : Bool := decide (p < 64) && recEnabled (portRec p s)
def portGbps (p : Nat) (s : State) : Nat := recGbps (portRec p s)
def assuredPort (p : Nat) (s : State) : Bool := recAssured (portRec p s)

/-- The port number lies inside a wider enabled port and is unused (R317). -/
def portUnused (p : Nat) (s : State) : Bool :=
  (List.range 64).any fun q => decide (q < p) && q / 8 == p / 8 && recEnabled (portRec q s) &&
    decide (p < q + recWidth (portRec q s))

/-- A port mask names an unused port number (R317). -/
def masksUnused (m : BitVec 64) (s : State) : Bool := (List.range 64).any fun p => inMask m p && portUnused p s

/-- The enabled ports, rising. -/
def enabledPorts (s : State) : List Nat := (s.lanes.port.filter fun r => recEnabled r.2).map (·.1)

/-! Links. -/

def getLink (l : Nat) (s : State) : Link := tget {} s.lanes.link l

def setLink (l : Nat) (x : Link) (s : State) : State :=
  { s with lanes := { s.lanes with link := tset {} s.lanes.link l x } }

/-! Lanes and the lane map (R316, R317). -/

def getLane (ix : Nat) (s : State) : Lane := tget {} s.lanes.lane ix

/-- The physical lane of a logical one (R316). -/
def physOf (g k : Nat) (s : State) : Nat := tget k s.lanes.map (8 * g + k)

/-- The group of a link and its first logical lane. -/
def linkGroup (l : Nat) : Nat := if l < 64 then l / 8 else 8 + (l - 64) % 2
def linkFirst (l : Nat) : Nat := if l < 64 then l % 8 else 0

/-- The record that governs a link: a chain link runs at code 0 with the defaults (R317). -/
def linkRec (l : Nat) (s : State) : Bytes := if l < 64 then portRec l s else portDefault 0

def linkWidth (l : Nat) (s : State) : Nat := if l < 64 then recWidth (portRec l s) else 8

/-- The logical lanes of a link (R317). -/
def linkLogical (l : Nat) (s : State) : List Nat := (List.range (linkWidth l s)).map (linkFirst l + ·)

/-- The physical lanes of a link, by number. -/
def linkLanes (l : Nat) (s : State) : List Nat :=
  (linkLogical l s).map fun k => 9 * linkGroup l + physOf (linkGroup l) k s

/-- The link is up. -/
def isUp (l : Nat) (s : State) : Bool := (getLink l s).phase == .up

/-- Every lane of a port in TEST has a near-end loop: the port's own frames come back (R334). -/
def loopsBack (p : Nat) (s : State) : Bool :=
  (getLink p s).phase == .test && (linkLanes p s).all fun ix => (getLane ix s).loop == 1 || (getLane ix s).loop == 2

/-- The port takes what arrives: it is up, or its own signal comes back.  Its queues stay parked in a loop (R263, R334;
DEDUCED, log 88). -/
def hears (p : Nat) (s : State) : Bool := isUp p s || loopsBack p s

/-- The port is up and awake: a frame can leave now (R437). -/
def portAwake (p : Nat) (s : State) : Bool :=
  isUp p s && tget Depth.active s.pwr.portDepth p == .active && !inMask s.pwr.waking p

/-- The port is in the safe state (R388). -/
def inSafe (p : Nat) (s : State) : Bool := decide (p < 64) && inMask s.mace.safe p

/-- PTP_PORT_SET (0x0707): TC_EN, RX_LAT, TX_LAT and ASYM per port (R306, R411). -/
def ptpPortLayout : Layout where
  size := 16
  resv := [(1, 31)]

def ptpPortCheck (s : State) (i : Nat) (b : Bytes) : Nat :=
  if !ptpPortLayout.clean b ∨ (i < 64 ∧ portUnused i s) then stINVALID else if 64 ≤ i then stRANGE else stOK

def ptpPortApply (i : Nat) (b : Bytes) (s : State) : State :=
  setTime { s.time with ptpPort := tset (zeros 16) s.time.ptpPort i b } s

def execPtpPortSet (r : YcpReq) (s : State) : Host.Outcome State Fault Refusal :=
  ycp 0x0707 r (formL (fun _ => 16) ptpPortCheck ptpPortApply) s

/-! Pipelines (R15, R16). -/

/-- The lane block of a port. -/
def portBlock (p : Nat) : Nat := 2 * (p / 8) + p % 8 / 4

/-- The pipeline of a port of 1, 2 or 4 lanes. -/
def portPipe (p : Nat) (s : State) : Nat := s.spare.pipeOf (portBlock p)

/-- The lane block that a pipeline serves; none for the spare (R15, R18). -/
def blockOfPipe (pl : Nat) (s : State) : Option Nat := (List.range 16).find? fun b => s.spare.pipeOf b == pl

/-- The ports of a lane block (R15, R17). -/
def blockPorts (b : Nat) (s : State) : List Nat :=
  (enabledPorts s).filter fun p => if recWidth (portRec p s) = 8 then p / 8 == b / 2 else portBlock p == b

/-- The ports of the lane block that a pipeline serves. -/
def pipeScope (pl : Nat) (s : State) : BitVec 64 :=
  match blockOfPipe pl s with
  | some b => portsMask (blockPorts b s)
  | none => 0

/-! The port buffer record (R260). -/

/-- The record at reset: PARK_TIME 10 and HR_PRIO 0xFF; MTU 64, its lowest legal value, and 0 elsewhere (DESIGN CHOICE,
log 15). -/
def portBufDefault : Bytes := zeros 8 ++ leBytes 2 10 ++ zeros 4 ++ leBytes 2 64 ++ [0, 0xFF] ++ zeros 6

def portBuf (p : Nat) (s : State) : Bytes := tget portBufDefault s.buf.port p

def cutEn (p : Nat) (s : State) : Bool := bit (fld (portBuf p s) 0 1) 0
/-- PAUSE_MODE 1: link-level pause. -/
def linkPause (p : Nat) (s : State) : Bool := bit (fld (portBuf p s) 0 1) 1
def defPrio (p : Nat) (s : State) : Nat := bits (fld (portBuf p s) 1 1) 0 3
/-- CLASS_PRIO of class `c`. -/
def classPrio (p c : Nat) (s : State) : Nat := bits (fld (portBuf p s) 2 6) (3 * c) 3
def parkTime (p : Nat) (s : State) : Nat := fld (portBuf p s) 8 2
def prioBl (p prio : Nat) (s : State) : Bool := bit (fld (portBuf p s) 16 1) prio

/-- HR of a record at a rate, before HR_PRIO (R254). -/
def headroomOf (r : Bytes) (gbps : Nat) : Nat :=
  let t := 2 * fld r 10 2 * 5 + fld r 12 2 + 100
  (t * gbps + 671) / 672 + 2 * ((fld r 14 2 + 255) / 256)

/-- HR of (port, priority) (R254). -/
def headroom (p prio : Nat) (s : State) : Nat :=
  let r := portBuf p s
  if bit (fld r 17 1) prio then headroomOf r (portGbps p s) else 0

/-- The port's allotments together. -/
def portHeadroom (p : Nat) (s : State) : Nat :=
  ((List.range 8).map fun k => headroom p k s).sum

/-! The scheduling record of a port (R277). -/

/-- The record at reset: OVERHEAD 20, GATE_DEFAULT 0xFFFF, GATE_LEAD 10,000; SHAPER none (DESIGN CHOICE, log 14). -/
def portSchedDefault : Bytes := [20, 0, 0xFF, 0xFF] ++ leBytes 4 10000 ++ [0xFF, 0xFF] ++ zeros 6

def portSched (p : Nat) (s : State) : Bytes := tget portSchedDefault s.sched.port p

/-- OVERHEAD, signed. -/
def overhead (p : Nat) (s : State) : Int := (BitVec.ofNat 8 (fld (portSched p s) 0 1)).toInt

end Sys2Proof.Machine
end

