-- ==== Sys2Proof/Machine/Mace.lean ====
section
/-!
DEFINITION. Mace: the source table (R385), the records and windows (R378–R382), the safe state (R388), and the commands
MACE_STATUS, MACE_SET, MACE_CLEAR, MACE_SAFE_CLEAR, MACE_RAISE, INTEG_INJECT and the sub-window roll.
-/
namespace Sys2Proof.Machine

/-! Reaction codes (R380). -/
def rLOG : Nat := 0
def rCONTAIN : Nat := 1
def rSAFE : Nat := 2
def rWARM : Nat := 3

/-- The scope column of the source table (R385). -/
inductive ScopeKind where
  | allPorts | noPort | port | block | group | named
  deriving DecidableEq, Repr

/-- A row of the source table (R385): first and last source, N, W in µs, REACTION, ARX, scope. -/
structure SourceRow where
  lo : Nat
  hi : Nat
  n : Nat
  w : Nat
  reaction : Nat
  arx : Nat
  scope : ScopeKind
  deriving DecidableEq, Repr

/-- F000–F063 of the source table. -/
def sourceRows0 : List SourceRow :=
  [⟨0, 0, 1, 1, rLOG, rSAFE, .allPorts⟩, ⟨1, 1, 1, 1, rLOG, rSAFE, .allPorts⟩, ⟨2, 2, 1, 1, rWARM, rWARM, .allPorts⟩,
   ⟨3, 3, 1, 1, rLOG, rLOG, .noPort⟩, ⟨4, 4, 1, 1, rWARM, rWARM, .allPorts⟩, ⟨5, 5, 1, 1, rLOG, rSAFE, .allPorts⟩,
   ⟨6, 6, 1, 1, rLOG, rLOG, .noPort⟩, ⟨7, 7, 1, 1, rLOG, rSAFE, .allPorts⟩, ⟨8, 8, 1, 1, rLOG, rLOG, .noPort⟩,
   ⟨9, 9, 4096, 1000000, rLOG, rLOG, .noPort⟩, ⟨10, 10, 1, 1, rLOG, rSAFE, .allPorts⟩,
   ⟨11, 11, 1, 1, rLOG, rSAFE, .allPorts⟩, ⟨12, 12, 1, 1, rLOG, rLOG, .noPort⟩, ⟨16, 17, 1, 1, rLOG, rLOG, .port⟩,
   ⟨18, 18, 4, 1000000, rCONTAIN, rCONTAIN, .noPort⟩, ⟨19, 19, 1, 1, rLOG, rLOG, .noPort⟩,
   ⟨20, 20, 16, 1000, rLOG, rSAFE, .block⟩, ⟨21, 21, 1, 1, rLOG, rLOG, .noPort⟩,
   ⟨24, 24, 4096, 1000000, rLOG, rLOG, .noPort⟩, ⟨25, 25, 4, 10000, rCONTAIN, rCONTAIN, .noPort⟩,
   ⟨26, 26, 4096, 1000000, rLOG, rLOG, .noPort⟩, ⟨27, 33, 1, 1, rLOG, rLOG, .noPort⟩,
   ⟨34, 34, 64, 1000000, rLOG, rLOG, .noPort⟩, ⟨35, 35, 1, 1, rCONTAIN, rCONTAIN, .noPort⟩,
   ⟨36, 39, 1, 1, rLOG, rLOG, .noPort⟩, ⟨40, 42, 1, 1, rLOG, rSAFE, .allPorts⟩, ⟨43, 45, 1, 1, rLOG, rLOG, .noPort⟩,
   ⟨46, 47, 4, 1000000, rCONTAIN, rCONTAIN, .noPort⟩, ⟨48, 53, 1, 1, rLOG, rLOG, .noPort⟩,
   ⟨56, 56, 1, 1, rLOG, rLOG, .port⟩, ⟨57, 60, 1, 1, rLOG, rLOG, .noPort⟩]

/-- F064–F255 of the source table. -/
def sourceRows1 : List SourceRow :=
  [⟨64, 64, 1, 1, rLOG, rLOG, .port⟩, ⟨65, 65, 1, 1, rLOG, rSAFE, .port⟩, ⟨66, 66, 1024, 1000000, rLOG, rLOG, .port⟩,
   ⟨67, 69, 1, 1, rLOG, rLOG, .port⟩, ⟨72, 77, 1, 1, rLOG, rLOG, .noPort⟩, ⟨78, 78, 1, 1, rLOG, rSAFE, .allPorts⟩,
   ⟨79, 79, 1, 1, rLOG, rLOG, .noPort⟩, ⟨80, 81, 1, 1, rCONTAIN, rCONTAIN, .port⟩, ⟨82, 82, 1, 1, rLOG, rLOG, .port⟩,
   ⟨83, 83, 1, 1, rCONTAIN, rCONTAIN, .port⟩, ⟨84, 85, 1, 1, rLOG, rLOG, .port⟩, ⟨86, 86, 1, 1, rLOG, rSAFE, .port⟩,
   ⟨87, 89, 1, 1, rLOG, rLOG, .port⟩, ⟨90, 90, 1, 1, rLOG, rSAFE, .group⟩, ⟨96, 96, 4096, 1000000, rLOG, rLOG, .noPort⟩,
   ⟨97, 101, 1, 1, rLOG, rLOG, .noPort⟩, ⟨102, 102, 1, 1, rCONTAIN, rCONTAIN, .noPort⟩,
   ⟨103, 107, 1, 1, rLOG, rLOG, .noPort⟩, ⟨112, 128, 1, 1, rCONTAIN, rCONTAIN, .block⟩,
   ⟨129, 129, 1, 1, rLOG, rLOG, .noPort⟩, ⟨130, 130, 1, 1, rLOG, rSAFE, .block⟩,
   ⟨144, 175, 4, 10000, rLOG, rSAFE, .port⟩, ⟨176, 183, 1, 1, rLOG, rLOG, .noPort⟩,
   ⟨184, 184, 1, 1, rLOG, rLOG, .noPort⟩, ⟨192, 202, 1, 1, rLOG, rLOG, .noPort⟩, ⟨208, 214, 1, 1, rLOG, rLOG, .noPort⟩,
   ⟨224, 226, 1, 1, rLOG, rLOG, .noPort⟩, ⟨232, 234, 1, 1, rLOG, rLOG, .noPort⟩, ⟨240, 255, 1, 1, rLOG, rLOG, .named⟩]

/-- The row of a source; none for a reserved one (R385). -/
def sourceRow (f : Nat) : Option SourceRow :=
  (sourceRows0 ++ sourceRows1).find? fun r => decide (r.lo ≤ f ∧ f ≤ r.hi)

/-- A source at its power-on defaults (R385). -/
def sourceDefault (f : Nat) : MaceSource :=
  match sourceRow f with
  | some r => { reaction := r.reaction, arx := r.arx, n := r.n, w := r.w }
  | none => { reaction := 0, arx := 0, n := 0, w := 0 }

def getSource (f : Nat) (s : State) : MaceSource := tget (sourceDefault f) s.mace.src f

def setSource (f : Nat) (x : MaceSource) (s : State) : State :=
  { s with mace := { s.mace with src := tset (sourceDefault f) s.mace.src f x } }

/-- The reaction in effect (R381). -/
def effReaction (assured : Bool) (x : MaceSource) : Nat :=
  if assured then max x.reaction x.arx else x.reaction

/-- Some source is SEVERE. -/
def anySevere (s : State) : Bool := s.mace.src.any fun p => p.2.severe

/-- FAULT_N and SAFE_N follow SEVERE and the safe state (R384). -/
def syncPins (s : State) : State :=
  { s with pins := { s.pins with faultN := !anySevere s, safeN := decide (s.mace.safe = 0) } }

/-- The sum over the current sub-window and the 15 before it (R379). -/
def winSum (w : List SubWin) : Nat := ((w.take 16).map (·.count)).sum

/-- The union of the scopes in the window (R380). -/
def winScope (w : List SubWin) : BitVec 64 := (w.take 16).foldl (fun a x => a ||| x.scope) 0

/-- An event counted in the current sub-window (R378, R379). -/
def winAdd (scope : BitVec 64) : List SubWin → List SubWin
  | [] => [{ count := 1, scope := scope }]
  | x :: xs => { count := x.count + 1, scope := x.scope ||| scope } :: xs

/-- The current sub-window ends: a new one starts, and the oldest leaves (R379). -/
def winRoll (w : List SubWin) : List SubWin :=
  let w' := (({} : SubWin) :: w).take 16
  if w'.all (· == {}) then [] else w'

/-- The 16-byte source record (R382). -/
def sourceRecord (f : Nat) (x : MaceSource) : Bytes :=
  leBytes 1 f ++ leBytes 1 (x.reaction + 4 * x.arx + 16 * b2n x.eventRing) ++ leBytes 2 x.n ++ leBytes 4 x.w ++ zeros 8

/-- Containment of a source is running (R382, R387). -/
def containing (f : Nat) (s : State) : Bool :=
  if f = 18 then !s.spare.tcamCopy.isEmpty
  else if f = 25 then s.flow.moving.isSome
  else if f = 35 then s.task.joining != 0
  else if f = 46 ∨ f = 47 then !s.spare.rowPend.isEmpty
  else if f = 80 ∨ f = 81 then s.lanes.link.any fun x => x.2.phase == .gap || x.2.phase == .retrain || x.2.phase == .swap
  else if f = 83 then s.lanes.group.any fun x => x.2.swap.isSome
  else if f = 102 then s.hbm.stack.any fun x => x.2.retire.isSome
  else match s.spare.swap with
    | some w => f == 112 + w.old
    | none => false

/-- The 48-byte status entry (R382); a reserved source reads all zeros (R385). -/
def sourceStatus (s : State) (f : Nat) : Bytes :=
  if (sourceRow f).isNone then zeros 48 else
  let x := getSource f s
  sourceRecord f x ++ leBytes 1 (b2n x.sticky + 2 * b2n x.severe + 4 * b2n (containing f s)) ++ [0] ++
  leBytes 2 (min (winSum x.win) 65535) ++ leBytes 4 x.lastInst ++ leBytes 8 x.events.toNat ++
  leBytes 8 x.scope.toNat ++ zeros 8

/-- MACE_PINS (R383). -/
def macePins (s : State) : Nat := b2n (!s.pins.faultN) + 2 * b2n (!s.pins.safeN) + 4 * b2n (inMode mASSURED s)

/-- Bits of register r of a per-source flag (R383). -/
def sourceBits (f : MaceSource → Bool) (r : Nat) (s : State) : Nat :=
  (List.range 32).foldl (fun a i => a + (if f (getSource (32 * r + i) s) then 2 ^ i else 0)) 0

/-- A Mace register by byte offset (R383). -/
def maceReg (off : Nat) (s : State) : Option Nat :=
  if off < 0x020 then some (sourceBits (·.sticky) (off / 4) s)
  else if off < 0x040 then some (sourceBits (·.severe) (off / 4 - 8) s)
  else if off = 0x040 then some (s.mace.safe.toNat % 2 ^ 32)
  else if off = 0x044 then some (s.mace.safe.toNat / 2 ^ 32)
  else if off = 0x048 then some (macePins s)
  else none

/-- MACE_STATUS (R382, R412): 48-byte entries, then the safe ports and the pins.  DESIGN CHOICE (log 13): where the last
two stand. -/
def maceStatusH : YHandler := fun r b rm s =>
  let x := formS 256 48 sourceStatus r b (rm - 16) s
  if x.status = stOK then
    { x with body := x.body ++ leBytes 8 s.mace.safe.toNat ++ leBytes 4 (macePins s) ++ zeros 4 } else x

def execMaceStatus (r : YcpReq) (s : State) : Host.Outcome State Fault Refusal := ycp 0x0901 r maceStatusH s

/-- The record of MACE_SET, 16 bytes (R382). -/
def sourceLayout : Layout where
  size := 16
  resv := [(13, 3), (64, 64)]
  rng := [(16, 16, 1, 65535), (32, 32, 1, 60000000)]

/-- The source as a MACE_SET record would leave it: a change of N or W restarts the window (R382). -/
def sourceWritten (x : MaceSource) (b : Bytes) : MaceSource :=
  let c := fld b 1 1
  let n := fld b 2 2
  let w := fld b 4 4
  { x with reaction := bits c 0 2, arx := bits c 2 2, eventRing := bit c 4, n := n, w := w,
           win := if n = x.n ∧ w = x.w then x.win else [] }

/-- While ASSURED is in force: a MACE_SET that lowers the effective reaction, raises N or shortens W of a source whose
default ARX is SAFE or WARM (R381). -/
def maceSetDenied (s : State) (f : Nat) (b : Bytes) : Bool :=
  let x := getSource f s
  let y := sourceWritten x b
  inMode mASSURED s && decide (rSAFE ≤ (sourceDefault f).arx) &&
    decide (effReaction true y < effReaction true x ∨ x.n < y.n ∨ y.w < x.w)

def maceSetCheck (s : State) (i : Nat) (b : Bytes) : Nat :=
  if !sourceLayout.clean b ∨ fld b 0 1 ≠ i ∨ (sourceRow i).isNone then stINVALID
  else if maceSetDenied s i b then stDENIED
  else if 256 ≤ i ∨ !sourceLayout.inRange b then stRANGE
  else stOK

def maceSetApply (i : Nat) (b : Bytes) (s : State) : State := setSource i (sourceWritten (getSource i s) b) s

def execMaceSet (r : YcpReq) (s : State) : Host.Outcome State Fault Refusal :=
  ycp 0x0902 r (formL (fun _ => 16) maceSetCheck maceSetApply) s

/-- A source cleared: STICKY, SEVERE, the sub-windows and SCOPE, neither EVENTS nor the record (R382). -/
def sourceCleared (x : MaceSource) : MaceSource :=
  { x with sticky := false, severe := false, win := [], scope := 0 }

def maceClear (mask : Nat) (s : State) : State :=
  syncPins { s with mace := { s.mace with
    src := (List.range 256).foldl (fun t f =>
      tset (sourceDefault f) t f (if bit mask f then sourceCleared (getSource f s) else getSource f s)) s.mace.src } }

def execMaceClear (r : YcpReq) (s : State) : Host.Outcome State Fault Refusal :=
  ycp 0x0903 r (formO 32 [] fun b s => yOk [] (maceClear (leNat b) s)) s

/-- Some named port lies in the scope of a source that is SEVERE with SAFE or WARM in effect (R390). -/
def safeClearDenied (mask : BitVec 64) (s : State) : Bool :=
  s.mace.src.any fun p => p.2.severe && decide (rSAFE ≤ effReaction (inMode mASSURED s) p.2) && p.2.scope &&& mask != 0

/-- The named ports leave the safe state (R390). -/
def leaveSafe (mask : BitVec 64) (s : State) : State :=
  syncPins { s with mace := { s.mace with safe := s.mace.safe &&& ~~~mask } }

def execMaceSafeClear (r : YcpReq) (s : State) : Host.Outcome State Fault Refusal :=
  ycp 0x0904 r (formE 8 [] [(8, fun b s => !masksUnused (BitVec.ofNat 64 (fld b 0 8)) s)] fun b s =>
    let m := BitVec.ofNat 64 (fld b 0 8)
    need (!safeClearDenied m s) stDENIED s (yOk [] (leaveSafe m s))) s

/-- MACE_RAISE: an event to one of F240–F255 with the port mask as its scope; any other source is DENIED (R386). -/
def execMaceRaise (r : YcpReq) (s : State) : Host.Outcome State Fault Refusal :=
  ycp 0x0905 r (formO 16 [(4, 4)] fun b s =>
    let f := fld b 0 4
    need (decide (240 ≤ f ∧ f ≤ 255)) stDENIED s
      (yOk [] (raise f 0 (BitVec.ofNat 64 (fld b 8 8)) s))) s

/-- Structures that INTEG_INJECT names (R372), in the order the rule lists them.  DESIGN CHOICE (log 13): the codes. -/
def injBUFFER : Nat := 0
def injHOT : Nat := 1
def injHBM : Nat := 2
def injFABRIC : Nat := 3
def injCONTEXT : Nat := 4

/-- How many symbols a mask names. -/
def symCount (m : Nat) : Nat := ((List.range 36).filter fun i => bit m i).length

/-- INTEG_INJECT arms the corruption of 1, 2 or 3 symbols of the next unit written (R372). -/
def execIntegInject (r : YcpReq) (s : State) : Host.Outcome State Fault Refusal :=
  ycp 0x0906 r (formO 24 [(4, 4)] fun b s =>
    let st := fld b 0 4
    let m := fld b 16 8
    need (!inMode mASSURED s) stDENIED s <|
    need (decide (st ≤ 4 ∧ m < 2 ^ 36 ∧ 1 ≤ symCount m ∧ symCount m ≤ 3)) stRANGE s <|
    yOk [] { s with mace := { s.mace with injection := some ⟨st, fld b 8 8, m⟩ } }) s

/-- An armed injection for a structure and place is used up by the unit written: INJECT_DONE advances, and the number of
corrupted symbols is answered (R372). -/
def takeInjection (struct place : Nat) (s : State) : Nat × State :=
  match s.mace.injection with
  | some j =>
    if j.struct = struct ∧ j.whereAt = place then
      (symCount j.symbols, bump .INJECT_DONE 0 { s with mace := { s.mace with injection := none } })
    else (0, s)
  | none => (0, s)

/-- The fabric link that carries the requests of the action engines.  The links into the pipelines have the pipelines' numbers
(DESIGN CHOICE, log 13). -/
def linkACT : Nat := 17

/-- A fabric flit arrives over a link; its bad symbols are those of an injection that was armed for the link, since no row of
the table carries an upset of a flit (R371, R372; DESIGN CHOICE, log 84).  False when its transfer is discarded. -/
def flit (link : Nat) (s : State) : Bool × State :=
  let (n, s) := takeInjection injFABRIC link s
  match n with
  | 0 => (true, s)
  | 1 => (true, raise 9 link 0 (bump .FABRIC_CE 0 s))
  | _ => (false, raise 10 link 0 s)

/-- A source's sub-window ends (R379). -/
def execMaceSubwindowRoll (src : Nat) (s : State) : Host.Outcome State Fault Refusal :=
  let x := getSource src s
  .next (setSource src { x with win := winRoll x.win } s)

end Sys2Proof.Machine
end

