-- ==== Sys2Proof/Machine/Cvu.lean ====
section
/-!
DEFINITION. The check-value units (R373–R377): registers, presets, START, the STREAM result, FRAME checks and PAIR checks.
-/
namespace Sys2Proof.Machine

def getCvu (u : Nat) (s : State) : CvuUnit := tget {} s.mace.cvu u

def setCvu (u : Nat) (x : CvuUnit) (s : State) : State :=
  { s with mace := { s.mace with cvu := tset {} s.mace.cvu u x } }

/-- The parameters a unit computes with (R374). -/
def cvuParams (x : CvuUnit) : CrcParams := ⟨x.width, x.poly, x.init, x.refin, x.refout, x.xorout⟩

/-- The parameters of preset 2 (R377). -/
def isPreset2 (x : CvuUnit) : Bool :=
  let p := cvuParams x
  p.width == 32 && p.poly % 2 ^ 32 == crc32cParams.poly && p.init % 2 ^ 32 == crc32cParams.init && p.refin && p.refout &&
    p.xorout % 2 ^ 32 == crc32cParams.xorout

/-- No lower-numbered PAIR unit serves the same class (R377). -/
def lowestPair (u : Nat) (s : State) : Bool :=
  (List.range u).all fun v => let y := getCvu v s; !(y.mode == 2 && y.stream == 6 && y.sel == (getCvu u s).sel)

/-- CVU_STATUS.CFG_ERR: the configuration is not usable (R374–R377). -/
def cvuCfgErr (u : Nat) (s : State) : Bool :=
  let x := getCvu u s
  x.badPreset || x.mode == 3 || decide (x.width < 8 ∨ 64 < x.width) || x.stream == 7 ||
    (x.mode == 1 && x.width % 8 != 0) ||
    (x.mode == 2 && !(x.stream == 6 && isPreset2 x && lowestPair u s))

/-- A unit that runs (R376). -/
def cvuRuns (u : Nat) (s : State) : Bool := (getCvu u s).enable && !cvuCfgErr u s

def lo32 (v : Nat) : Nat := v % 2 ^ 32
def hi32 (v : Nat) : Nat := v / 2 ^ 32 % 2 ^ 32

/-- A unit register by its byte offset in the unit (R376). -/
def cvuReg (u off : Nat) (s : State) : Nat :=
  let x := getCvu u s
  match off / 4 with
  | 0 => b2n x.enable + 2 * x.mode + 16 * x.width + 2048 * b2n x.refin + 4096 * b2n x.refout
  | 1 => x.stream + 16 * x.sel
  | 2 => x.offset
  | 3 => x.window
  | 4 => lo32 x.poly
  | 5 => hi32 x.poly
  | 6 => lo32 x.init
  | 7 => hi32 x.init
  | 8 => lo32 x.xorout
  | 9 => hi32 x.xorout
  | 10 => lo32 x.expect
  | 11 => hi32 x.expect
  | 12 => lo32 x.result
  | 13 => hi32 x.result
  | 14 => b2n x.busy + 2 * b2n x.done + 4 * b2n x.mismatch + 8 * b2n (cvuCfgErr u s)
  | _ => 0

/-- PRESET loads all six parameters at once (R374); 5–7 set CFG_ERR. -/
def cvuPreset (n : Nat) (x : CvuUnit) : CvuUnit :=
  if n = 0 then x else
  match crcPreset n with
  | some p => { x with width := p.width, poly := p.poly, init := p.init, refin := p.refin, refout := p.refout,
                       xorout := p.xorout, badPreset := false }
  | none => { x with badPreset := true }

/-- A write of CVU_CTRL (R376): the RWL fields only while ENABLE is 0; PRESET is WO and acts in any case (R9, R374; DEDUCED,
log 71). -/
def cvuWriteCtrl (v : Nat) (x : CvuUnit) : CvuUnit :=
  let y : CvuUnit := if x.enable then x else
    { x with mode := bits v 1 2, width := bits v 4 7, refin := bit v 11, refout := bit v 12 }
  let y : CvuUnit := { cvuPreset (bits v 13 3) y with enable := bit v 0 }
  let usable := !y.badPreset && decide (8 ≤ y.width ∧ y.width ≤ 64) && y.stream != 7
  if bit v 16 && y.mode == 0 && y.enable && usable then { y with busy := true, done := false, acc := [] } else y

/-- Writing a _LO register commits the staged upper half with it (R12).  DESIGN CHOICE (log 66): the staged half stays after the
commit, so a _LO write with no _HI write before it commits the half that was staged last, 0 at reset. -/
def cvuStaged (x : CvuUnit) (k v : Nat) : Nat := (tget 0 x.staged k) * 2 ^ 32 + v

/-- A write of a unit register (R376, R12): a write of an RWL field while ENABLE is 1 is discarded, its staging included
(R9). -/
def cvuWriteReg (off v : Nat) (x : CvuUnit) : CvuUnit :=
  let idle := !x.enable
  match off / 4 with
  | 0 => cvuWriteCtrl v x
  | 1 => if idle then { x with stream := bits v 0 3, sel := bits v 4 6 } else x
  | 2 => if idle then { x with offset := bits v 0 14 } else x
  | 3 => if idle then { x with window := v } else x
  | 4 => if idle then { x with poly := cvuStaged x 4 v } else x
  | 6 => if idle then { x with init := cvuStaged x 6 v } else x
  | 8 => if idle then { x with xorout := cvuStaged x 8 v } else x
  | 10 => { x with expect := cvuStaged x 10 v }
  | 5 => if idle then { x with staged := tset 0 x.staged 4 v } else x
  | 7 => if idle then { x with staged := tset 0 x.staged 6 v } else x
  | 9 => if idle then { x with staged := tset 0 x.staged 8 v } else x
  | 11 => { x with staged := tset 0 x.staged 10 v }
  | 14 => { x with done := x.done && !bit v 1, mismatch := x.mismatch && !bit v 2 }
  | _ => x

/-- Reserved bits of the unit registers (R376). -/
def cvuResv (off v : Nat) : Bool :=
  match off / 4 with
  | 0 => bit v 3 || decide (bits v 17 15 ≠ 0)
  | 1 => bit v 3 || decide (bits v 10 22 ≠ 0)
  | 2 => decide (bits v 14 18 ≠ 0)
  | 14 => decide (bits v 4 28 ≠ 0)
  | _ => false

/-- A START of STREAM mode with WINDOW 0 on streams 0–3 is INVALID (R375). -/
def cvuBadStart (off v : Nat) (y : CvuUnit) : Bool :=
  off == 0 && bit v 16 && y.mode == 0 && y.window == 0 && decide (y.stream ≤ 3)

/-- The unit as a CVU_REG_WRITE leaves it. -/
def cvuAfter (b : Bytes) (s : State) : CvuUnit := cvuWriteReg (fld b 0 4 % 64) (fld b 8 8) (getCvu (fld b 0 4 / 64) s)

/-- CVU_REG_WRITE (0x0908): OFFSET, VALUE (R376, R413). VALUE above 32 bits is out of range: a unit register is 32 bits
wide. -/
def cvuRegWriteH : YHandler :=
  formE 16 [(4, 4)] [(16, fun b s =>
    !cvuResv (fld b 0 4 % 64) (fld b 8 8) && !cvuBadStart (fld b 0 4 % 64) (fld b 8 8) (cvuAfter b s))] fun b s =>
  let off := fld b 0 4
  let v := fld b 8 8
  let u := off / 64
  let y := cvuAfter b s
  need (decide (off < 2048 ∧ off % 4 = 0 ∧ v < 2 ^ 32)) stRANGE s <|
  yOk [] (setCvu u y s)

def execCvuRegWrite (r : YcpReq) (s : State) : Host.Outcome State Fault Refusal := ycp 0x0908 r cvuRegWriteH s

/-- CVU_REG_WRITE of CVU_CTRL.PRESET (R374). -/
def execCvuPreset (r : YcpReq) (s : State) : Host.Outcome State Fault Refusal := ycp 0x0908 r cvuRegWriteH s

/-- CVU_REG_WRITE of CVU_CTRL.START (R375). -/
def execCvuStart (r : YcpReq) (s : State) : Host.Outcome State Fault Refusal := ycp 0x0908 r cvuRegWriteH s

/-- A unit register by its word among those of all units. -/
def cvuWord (s : State) (k : Nat) : Nat := cvuReg (k / 16) (k % 16 * 4) s

/-- The words that hold a _LO half: POLY, INIT, XOROUT, EXPECT and RESULT (R376). -/
def cvuIsLo (k : Nat) : Bool := [4, 6, 8, 10, 12].contains (k % 16)

/-- CVU_REG_READ (0x0907) by 32-bit word offset (R412); 64-bit values follow R12 (R376). -/
def cvuRegReadH : YHandler :=
  formRegs 512 cvuWord cvuIsLo (·.mace.cvuLatch) fun l s => { s with mace := { s.mace with cvuLatch := l } }

def execCvuRegRead (r : YcpReq) (s : State) : Host.Outcome State Fault Refusal := ycp 0x0907 r cvuRegReadH s

/-- A mismatch: CVU_MISMATCH, the event and source F144 + u (R375). -/
def cvuMismatch (u inst : Nat) (ports : BitVec 64) (result : Nat) (s : State) : State :=
  let s := bump .CVU_MISMATCH u (setCvu u { getCvu u s with mismatch := true } s)
  raise (144 + u) inst ports (postEvent 12 (leBytes 1 u ++ leBytes 1 inst ++ zeros 2 ++ leBytes 8 result) s)

/-- The ports a unit's stream names (R375, R385): those of streams 0 and 1. -/
def cvuPorts (x : CvuUnit) : BitVec 64 := if x.stream ≤ 1 then portMask x.sel else 0

/-- One FRAME check of a unit over a frame with its FCS (R375): the last WIDTH/8 bytes are compared. -/
def cvuFrameCheck (u : Nat) (frame : Bytes) (s : State) : State :=
  let x := getCvu u s
  let k := x.width / 8
  let body := (frame.take (frame.length - k)).drop x.offset
  let res := crc (cvuParams x) body
  let s := bump .CVU_CHECKS u (setCvu u { x with result := res } s)
  if res = leNat (frame.drop (frame.length - k)) then s else cvuMismatch u x.sel (cvuPorts x) res s

/-- A unit in STREAM mode takes the bytes of a frame, FCS excluded, while its window is open (R375). -/
def cvuTake (u : Nat) (body : Bytes) (s : State) : State :=
  let x := getCvu u s
  setCvu u { x with acc := (x.acc ++ body).take x.window } s

/-- The units in a mode that snoop a stream and selector (R373). -/
def cvuUnits (mode st sel : Nat) (s : State) : List Nat :=
  (List.range 32).filter fun u =>
    let x := getCvu u s; cvuRuns u s && x.mode == mode && x.stream == st && x.sel == sel && (mode != 0 || x.busy)

/-- A frame whose FCS is its last `fcs` bytes passes on a stream: every FRAME unit that snoops it checks it, and every open STREAM
window takes it (R373, R375). -/
def cvuSnoop (fcs st sel : Nat) (frame : Bytes) (s : State) : State :=
  let s := forEach (cvuUnits 1 st sel s) (fun u => cvuFrameCheck u frame) s
  forEach (cvuUnits 0 st sel s) (fun u => cvuTake u (frame.take (frame.length - fcs))) s

/-- A frame with its FCS passes on a stream. -/
def cvuFrame (st sel : Nat) (frame : Bytes) (s : State) : State := cvuSnoop 4 st sel frame s

/-- The usable PAIR unit of an assured class (R377). -/
def pairUnit (cls : Nat) (s : State) : Option Nat :=
  (List.range 32).find? fun u => let x := getCvu u s; cvuRuns u s && x.mode == 2 && x.sel == cls

/-- The PAIR check of an assured frame at egress (R377): the payload CRC-32C now against the one of ingress. Answers
whether the frame is stomped. -/
def pairCheck (cls port ingress egress : Nat) (s : State) : Bool × State :=
  match pairUnit cls s with
  | some u =>
    let s := bump .CVU_CHECKS u (setCvu u { getCvu u s with result := egress } s)
    if ingress = egress then (false, s) else (true, cvuMismatch u port (portMask port) egress s)
  | none => (false, s)

end Sys2Proof.Machine
end

