-- ==== Sys2Proof/Machine/Package.lean ====
section
/-!
DEFINITION. The package as data (chapter 20): where the balls of the lanes and of the slow signals lie (R515–R517), the supply
rails (R518, R519), how the maximum power divides (R441), and what the PCIe endpoint reports and supports (R399).
-/
namespace Sys2Proof.Machine

/-- A ball, written row-column (R515). -/
abbrev Ball := Nat × Nat

/-- The four balls of a lane (R516). -/
inductive LanePin where
  | txP | txN | rxP | rxN
  deriving DecidableEq, Repr

/-- The first column of a lane group (R516). -/
def laneColumn (g : Nat) : Nat := 8 + 22 * (g % 5)

/-- LGg_Lk_TXP, TXN, RXP and RXN (R516). -/
def laneBall (g k : Nat) : LanePin → Ball
  | .txP => (if g < 5 then 2 else 95, laneColumn g + 2 * k)
  | .txN => (if g < 5 then 2 else 95, laneColumn g + 2 * k + 1)
  | .rxP => (if g < 5 then 4 else 93, laneColumn g + 2 * k)
  | .rxN => (if g < 5 then 4 else 93, laneColumn g + 2 * k + 1)

/-- PCIE_TXP[n], TXN[n], RXP[n] and RXN[n] (R517). -/
def pcieBall (n : Nat) : LanePin → Ball
  | .txP => (30 + 4 * n, 115)
  | .txN => (30 + 4 * n, 116)
  | .rxP => (30 + 4 * n, 117)
  | .rxN => (30 + 4 * n, 118)

/-- The slow signals and their balls (R517). -/
def slowBalls : List (String × List Ball) :=
  [("RST_N", [(20, 2)]), ("WRST_N", [(22, 2)]), ("MAIN_PG", [(24, 2)]), ("FAULT_N", [(26, 2)]), ("SAFE_N", [(28, 2)]),
   ("TALERT_N", [(30, 2)]), ("DEVID", [(32, 2), (34, 2)]), ("SPI_QUAD", [(36, 2)]), ("TEST_N", [(38, 2)]),
   ("FL_SCK", [(40, 2)]), ("FL_CS_N", [(42, 2)]), ("FL_IO", [(44, 2), (46, 2), (48, 2), (50, 2)]),
   ("THERM_DP", [(54, 2)]), ("THERM_DN", [(56, 2)]), ("VDD_CORE_SNS", [(64, 2)]), ("VSS_SNS", [(66, 2)])] ++
  [("REF25", [(20, 4)]), ("REF10_IN", [(22, 4)]), ("PPS_IN", [(24, 4)]), ("PPS_OUT", [(26, 4)]),
   ("RCLK_OUT0", [(28, 4), (28, 5)]), ("RCLK_OUT1", [(30, 4), (30, 5)]), ("OBS_SCK", [(40, 4)]), ("OBS_CS_N", [(42, 4)]),
   ("OBS_SDI", [(44, 4)]), ("OBS_SDO", [(46, 4)]), ("TCK", [(50, 4)]), ("TMS", [(52, 4)]), ("TDI", [(54, 4)]),
   ("TDO", [(56, 4)]), ("TRST_N", [(58, 4)])] ++
  [("LREF0", [(10, 30), (10, 31)]), ("LREF1", [(10, 74), (10, 75)]), ("LREF2", [(60, 2), (60, 3)]),
   ("LREF3", [(87, 52), (87, 53)]), ("LREF4", [(87, 96), (87, 97)]), ("PCIE_REFCLK", [(62, 115), (62, 116)]),
   ("PERST_N", [(64, 117)])]

/-- A supply rail: nominal millivolts, tolerance in per cent, maximum current in hundredths of an ampere, absolute maximum in
millivolts, and its balls (R518, R519). -/
structure Rail where
  name : String
  mV : Nat
  tolerance : Nat
  maxCentiAmp : Nat
  absMax : Nat
  balls : Nat
  deriving DecidableEq, Repr

/-- The rails in the order of R519. -/
def rails : List Rail :=
  [⟨"VDD_CORE", 750, 3, 27200, 900, 560⟩, ⟨"VDD_SRAM", 850, 3, 3800, 1000, 96⟩, ⟨"VDDA_LANE", 900, 2, 8400, 1050, 200⟩,
   ⟨"VDDH_LANE", 1200, 3, 2300, 1400, 60⟩, ⟨"VDD_HBMPHY", 750, 3, 2600, 900, 64⟩, ⟨"VDD_HBM", 1100, 3, 6200, 1300, 140⟩,
   ⟨"VDDQ_HBM", 400, 3, 5200, 500, 120⟩, ⟨"VPP_HBM", 1800, 5, 450, 2100, 16⟩, ⟨"VDDA_PCIE", 850, 3, 200, 1000, 8⟩,
   ⟨"VDD_AON", 800, 3, 100, 950, 4⟩, ⟨"VDDIO_AON", 1800, 5, 35, 2100, 4⟩, ⟨"VDDIO_18", 1800, 5, 30, 2100, 4⟩]

/-- The power of a rail at its maximum current, in units of 10 µW (mV × cA). -/
def railPower (r : Rail) : Nat := r.mV * r.maxCentiAmp

/-- The parts of the maximum power, in watts (R441). -/
def maxPower : List (String × Nat) :=
  [("LG", 100), ("PIPE", 100), ("HBM", 112), ("SRAM", 30), ("CORE", 60), ("ACT MGMT HOST AON", 20), ("margin", 38)]

/-! The PCIe endpoint (R399): the IDs of its configuration space, which no command of the table reads, and its settings.  Rates
are in tenths of GT/s. -/

structure PcieConfig where
  vendor : BitVec 16
  device : Nat := 0x0960
  classCode : Nat := 0x020000
  lanes : List Nat := [8, 4, 2, 1]
  gtps : List Nat := [320, 160, 80, 50, 25]
  maxPayload : Nat := 512
  maxRead : Nat := 4096
  tagBits : Nat := 10
  msixVectors : Nat := 32
  aer : Bool := true
  flr : Bool := true
  intx : Bool := false
  msi : Bool := false
  srIov : Bool := false
  ats : Bool := false
  peerToPeer : Bool := false
  deriving DecidableEq, Repr

/-- The endpoint of the device. -/
def pcie : PcieConfig := { vendor := Config.vendorId }

/-- Every supply ball of a rail carries at most 0.5 A (R518). -/
def ballsEnough (r : Rail) : Bool := decide (r.maxCentiAmp ≤ 50 * r.balls)

end Sys2Proof.Machine
end

