-- ==== Sys2Proof/Machine/Host.lean ====
section
/-!
DEFINITION. The host interface (chapter 14): the direct registers, the event ring, the DMA queue commands, the mailbox
events and the small commands of group 0x01.
-/
namespace Sys2Proof.Machine

def setHost (h : HostState) (s : State) : State := { s with host := h }

/-! The table command window while it is busy (R224). -/

/-- BUSY of TCW_STATUS. -/
def tcwBusy (s : State) : Bool := decide (0 < s.host.tcwLeft)

/-- OVR of TCW_STATUS set. -/
def tcwOvr (s : State) : State := setHost { s.host with tcwStatus := putBits s.host.tcwStatus 4 1 1 } s

/-- An AON tick nearer to the end of the window's command. -/
def tcwTick (s : State) : State := setHost { s.host with tcwLeft := s.host.tcwLeft - 1 } s

/-! Reading BAR0 (R400, R401). -/

/-- DEV_STATUS (R401). -/
def devStatus (s : State) : Nat :=
  s.host.stage + 16 * b2n (!s.pins.faultN) + 32 * b2n (!s.pins.safeN) + 64 * b2n s.host.migResumable + 128 * b2n s.fw.trial +
  256 * b2n s.fw.slot + 512 * b2n s.host.flrSeen

/-- MBX_STATUS of a mailbox (R401). -/
def mbxStatus (m : Mailbox) : Nat :=
  b2n m.busy + 2 * b2n m.done + 4 * b2n m.ovr + 65536 * (m.lastSeq.toNat % 65536)

def getQ (q : Nat) (s : State) : DmaQueue := tget {} s.host.dmaq q

def setQ (q : Nat) (x : DmaQueue) (s : State) : State := setHost { s.host with dmaq := tset {} s.host.dmaq q x } s

/-- The queue takes or fills an entry: enabled, not stopped, and holding one (R416). -/
def queueReady (x : DmaQueue) : Bool := x.enabled && !x.stopped && x.head != x.tail

/-- EVR_CTRL (R401). -/
def evrCtrl (h : HostState) : Nat := b2n h.evrEnable + 256 * h.evrModerate

/-- SUM_CTRL (R401). -/
def sumCtrl (h : HostState) : Nat :=
  2 * b2n h.sumBusy + 4 * b2n h.sumDone + 8 * b2n h.sumErr + 16 * b2n h.sumAuto + 65536 * h.sumSnapId

/-- A 32-bit register of BAR0 as a read returns it, the _HI latches apart (R401, R416). Unlisted offsets read 0 (R400). -/
def barRead (off : Nat) (s : State) : Nat :=
  let h := s.host
  if off = 0x0000 then 0x0960 + 65536 * Config.stepping.toNat + 1048576 * h.devid
  else if off = 0x0004 then s.fw.fwVersion
  else if off = 0x0008 then Config.serial.toNat % 2 ^ 32
  else if off = 0x000C then Config.serial.toNat / 2 ^ 32
  else if off = 0x0010 then devStatus s
  else if off = 0x0014 then h.heartbeat.toNat
  else if 0x0060 ≤ off ∧ off < 0x0080 then mbxStatus (tget {} h.mbx ((off - 0x60) / 4))
  else if off = 0x0080 then h.evrBase % 2 ^ 32
  else if off = 0x0084 then h.evrBase / 2 ^ 32
  else if off = 0x0088 then h.evrLog2
  else if off = 0x008C then evrCtrl h
  else if off = 0x0090 then h.evrProd.toNat
  else if off = 0x0094 then h.evrCons.toNat
  else if off = 0x0098 then getCtr .EVR_DROP 0 s % 2 ^ 32
  else if off = 0x009C then getCtr .EVR_DROP 0 s / 2 ^ 32
  else if off = 0x00C0 then h.sumPtr % 2 ^ 32
  else if off = 0x00C4 then h.sumPtr / 2 ^ 32
  else if off = 0x00C8 then h.sumLen
  else if off = 0x00CC then sumCtrl h
  else if off = 0x0104 then h.tcwStatus + b2n (tcwBusy s)
  else if 0x0108 ≤ off ∧ off < 0x0140 then tget 0 h.tcw ((off - 0x100) / 4)
  else if 0x0200 ≤ off ∧ off < 0x0220 then (getQ ((off - 0x200) / 4) s).tail.toNat
  else if 0x0220 ≤ off ∧ off < 0x0240 then (getQ ((off - 0x220) / 4) s).head.toNat
  else if 0x0240 ≤ off ∧ off < 0x0260 then (getQ (8 + (off - 0x240) / 4) s).tail.toNat
  else if 0x0260 ≤ off ∧ off < 0x0280 then (getQ (8 + (off - 0x260) / 4) s).head.toNat
  else if 0x2000 ≤ off ∧ off < 0x2200 then
    let e := tget {} h.msix ((off - 0x2000) / 16)
    match (off % 16) / 4 with
    | 0 => e.addr % 2 ^ 32
    | 1 => e.addr / 2 ^ 32
    | 2 => e.data
    | _ => b2n e.masked
  else if off = 0x3000 then h.pba
  else if 0x10000 ≤ off ∧ off < 0x18000 then
    fld (tget {} h.mbx ((off - 0x10000) / 4096)).buf (off % 4096) 4
  else 0

/-- The _LO registers of 64-bit values in BAR0 (R12, R401). -/
def barIsLo (off : Nat) : Bool := [0x0008, 0x0080, 0x0098, 0x00C0].contains off

/-- A host read (R12): reading a _LO register latches its _HI, and the next read of _HI returns the latched half; with no latched half
it returns the live one (DESIGN CHOICE, log 17).  No row of the table is a read of BAR0. -/
def barReadLatch (off : Nat) (s : State) : Nat × State :=
  if barIsLo off then
    (barRead off s, setHost { s.host with hiLatch := tput s.host.hiLatch (off + 4) (barRead (off + 4) s) } s)
  else
    match tget? s.host.hiLatch off with
    | some v => (v, setHost { s.host with hiLatch := tdel s.host.hiLatch off } s)
    | none => (barRead off s, s)

/-! Writing BAR0. -/

/-- A write of an MSI-X table word; unmasking sends a message that is pending (R400). -/
def msixWrite (off v : Nat) (s : State) : State :=
  let n := (off - 0x2000) / 16
  let e := tget {} s.host.msix n
  let e' := match (off % 16) / 4 with
    | 0 => { e with addr := e.addr / 2 ^ 32 * 2 ^ 32 + v }
    | 1 => { e with addr := e.addr % 2 ^ 32 + v * 2 ^ 32 }
    | 2 => { e with data := v }
    | _ => { e with masked := bit v 0 }
  let s := setHost { s.host with msix := tset {} s.host.msix n e' } s
  if !e'.masked ∧ bit s.host.pba n then
    interrupt n (setHost { s.host with pba := s.host.pba - 2 ^ n } s)
  else s

/-- A write of EVR_CTRL (R401, R414). -/
def evrCtrlWrite (v : Nat) (s : State) : State :=
  setHost { s.host with evrEnable := bit v 0, evrModerate := bits v 8 8 } s

def evrConsWrite (v : BitVec 32) (s : State) : State := setHost { s.host with evrCons := v } s

def tailWrite (q : Nat) (v : BitVec 32) (s : State) : State := setQ q { getQ q s with tail := v } s

/-- A write into a mailbox: discarded while it is BUSY (R403). -/
def mbxWrite (off v : Nat) (s : State) : State :=
  let m := Fin.ofNat 8 ((off - 0x10000) / 4096)
  let b := getMbx m s
  if b.busy then busyHit m s
  else setMbx m { b with buf := put (fit (max b.buf.length (off % 4096 + 4)) b.buf) (off % 4096) (leBytes 4 v) } s

/-- The SNAP_ID of a new snapshot. -/
def newSnapId (s : State) : Nat := (s.host.snapId + 1) % 2 ^ 32

/-- A SUMMARY by DMA begins with a SNAP_ID of its own (R401, R420); while one runs, a further start has no effect (DESIGN CHOICE,
log 55). -/
def sumStart (s : State) : State :=
  if s.host.sumBusy then s
  else if s.host.sumLen < 262144 then setHost { s.host with sumErr := true } s
  else setHost { s.host with sumBusy := true, snapId := newSnapId s, sumId := newSnapId s } s

/-- A host write of a register under its access code (R9, R12, R401). A read-only register and an unlisted offset ignore it;
EVR_BASE and EVR_SIZE take it only while ENABLE is 0. Low address bits below the 4 KiB alignment are dropped (log 17). A write of
TCW_CMD starts no window command here: the rows TCW_* are those writes (DESIGN CHOICE, log 12). -/
def barWrite (off v : Nat) (s : State) : State :=
  let h := s.host
  if off = 0x0010 then setHost { h with flrSeen := h.flrSeen && !bit v 9 } s
  else if 0x0060 ≤ off ∧ off < 0x0080 then
    let m := Fin.ofNat 8 ((off - 0x60) / 4)
    let b := getMbx m s
    setMbx m { b with done := b.done && !bit v 1, ovr := b.ovr && !bit v 2 } s
  else if off = 0x0080 then
    if h.evrEnable then s else setHost { h with evrBase := h.evrBaseHi * 2 ^ 32 + v / 4096 * 4096 } s
  else if off = 0x0084 then if h.evrEnable then s else setHost { h with evrBaseHi := v } s
  else if off = 0x0088 then if h.evrEnable then s else setHost { h with evrLog2 := bits v 0 5 } s
  else if off = 0x008C then evrCtrlWrite v s
  else if off = 0x0094 then evrConsWrite (BitVec.ofNat 32 v) s
  else if off = 0x00C0 then setHost { h with sumPtr := h.sumPtrHi * 2 ^ 32 + v / 4096 * 4096 } s
  else if off = 0x00C4 then setHost { h with sumPtrHi := v } s
  else if off = 0x00C8 then setHost { h with sumLen := v } s
  else if off = 0x00CC then
    let s := setHost { h with sumDone := h.sumDone && !bit v 2, sumErr := h.sumErr && !bit v 3, sumAuto := bit v 4 } s
    if bit v 0 then sumStart s else s
  else if off = 0x0104 then setHost { h with tcwStatus := if bit v 4 then putBits h.tcwStatus 4 1 0 else h.tcwStatus } s
  else if tcwBusy s ∧ (off = 0x0100 ∨ off = 0x0108 ∨ (0x0120 ≤ off ∧ off < 0x0140)) then tcwOvr s
  else if off = 0x0108 then setHost { h with tcw := tset 0 h.tcw 2 (v % 2 ^ 18) } s
  else if 0x0120 ≤ off ∧ off < 0x0140 then setHost { h with tcw := tset 0 h.tcw ((off - 0x100) / 4) v } s
  else if 0x0200 ≤ off ∧ off < 0x0220 then tailWrite ((off - 0x200) / 4) (BitVec.ofNat 32 v) s
  else if 0x0240 ≤ off ∧ off < 0x0260 then tailWrite (8 + (off - 0x240) / 4) (BitVec.ofNat 32 v) s
  else if 0x2000 ≤ off ∧ off < 0x2200 then msixWrite off v s
  else if 0x10000 ≤ off ∧ off < 0x18000 then mbxWrite off v s
  else s

def execRegisterWrite (off : Nat) (v : BitVec 32) (s : State) : Host.Outcome State Fault Refusal :=
  .next (if off % 4 = 0 then barWrite off v.toNat s else s)

/-- EVR_CONS makes room in the ring (R414). -/
def execEvrConsWrite (v : BitVec 32) (s : State) : Host.Outcome State Fault Refusal := .next (evrConsWrite v s)

def execEvrCtrlEnable (v : BitVec 32) (s : State) : Host.Outcome State Fault Refusal := .next (evrCtrlWrite v.toNat s)

def execInjTailWrite (q : Nat) (v : BitVec 32) (s : State) : Host.Outcome State Fault Refusal :=
  .next (if q < 8 then tailWrite q v s else s)

def execPuntTailWrite (q : Nat) (v : BitVec 32) (s : State) : Host.Outcome State Fault Refusal :=
  .next (if q < 8 then tailWrite (8 + q) v s else s)

/-- A backlogged event is written when the ring has room (R414). -/
def execEventRingWrite (s : State) : Host.Outcome State Fault Refusal := .next (evrDrainOne s)

/-- The MODERATE interval of vector 0 runs out (R401): a pending interrupt is sent and a new interval starts. -/
def execEvrInterruptModeration (s : State) : Host.Outcome State Fault Refusal :=
  .next <|
    if s.host.modPending then
      interrupt 0 (setHost { s.host with modPending := false } s)
    else setHost { s.host with modRunning := false } s

/-- DEV_HEARTBEAT advances every 1 ms while Clove runs (R401, R428); a new millisecond allows one more trace loss event
(R504). -/
def execDevHeartbeat (s : State) : Host.Outcome State Fault Refusal :=
  .next (if s.fw.halted then s
    else { s with host := { s.host with heartbeat := s.host.heartbeat + 1 }, obs := { s.obs with lossPosted := false } })

/-- The heartbeat has been missing for 100 ms (R385). -/
def execCloveHeartbeatTimeout (s : State) : Host.Outcome State Fault Refusal := .next (raise 8 0 0 s)

/-- A firmware assertion halts Clove in STAGE 15 and raises F199 (R428). -/
def execFirmwareAssertion (s : State) : Host.Outcome State Fault Refusal :=
  .next (raise 199 0 0 { s with host := { s.host with stage := stageHALTED }, fw := { s.fw with halted := true } })

/-- A doorbell or mailbox write to a BUSY mailbox (R403). -/
def execDoorbellWhileBusy (mbx : Nat) (s : State) : Host.Outcome State Fault Refusal :=
  let m := Fin.ofNat 8 mbx
  .next (if (getMbx m s).busy then busyHit m s else s)

/-- The opcodes the chapters define, each with the row of the table that rings it. -/
def ycpRows0 : List (Nat × (YcpReq → Instr)) :=
  [(0x0100, .nop), (0x0101, .summary), (0x0103, .modeSet), (0x0104, .devInfo), (0x0105, .resetCold),
   (0x0106, .counterRead), (0x0107, .spareStatus), (0x0108, .sparePolicySet), (0x0109, .spareSwap), (0x0110, .epochCommit),
   (0x0111, .bankCopy), (0x0112, .epochStatus), (0x0120, .dmaQueueSet), (0x0122, .puntMapSet), (0x0201, .svcTableWrite),
   (0x0202, .svcTableRead), (0x0203, .l2Write), (0x0204, .l2Flush), (0x0205, .l2Config), (0x0206, .camWrite),
   (0x0207, .camProfileSet), (0x0208, .camSearch), (0x0209, .subCtxWrite), (0x020A, .subCtxRead), (0x020B, .tableStatus),
   (0x0301, .portConfig), (0x0302, .portStatus), (0x0310, .bufPoolSet), (0x0311, .bufClassSet), (0x0312, .portBufSet),
   (0x0314, .mcGroupSet), (0x0315, .mirrorSessionSet), (0x0316, .bufStatus), (0x0317, .queueStatus),
   (0x0401, .flowTableInit), (0x0402, .flowTableStatus)]

def ycpRows1 : List (Nat × (YcpReq → Instr)) :=
  [(0x0403, .flowProfileWrite), (0x0404, .flowLookup), (0x0405, .flowDelete), (0x0406, .flowAgeingSet),
   (0x0407, .flowMigrateStart), (0x0408, .hotBlockRetire), (0x0409, .flowAdmitClassSet), (0x040A, .flowAdmitStatus),
   (0x0410, .graphTemplateWrite), (0x0411, .graphTemplateRead), (0x0412, .graphRun), (0x0413, .graphCancel),
   (0x0414, .taskStatus), (0x0415, .taskConfig), (0x0420, .svcProfileSet), (0x0421, .xlatPoolSet), (0x0422, .xlatSubSet),
   (0x0423, .xlatSweepSet), (0x0424, .lbBackendSet), (0x0425, .lbBuild), (0x0426, .lbTableWrite), (0x0427, .poolAudit),
   (0x0428, .xlatQuery), (0x0501, .ruleWrite), (0x0502, .ruleRead), (0x0503, .ruleCounters), (0x0504, .parseGraphWrite),
   (0x0505, .parseProfileWrite), (0x0506, .clsProfileWrite), (0x0510, .meterSet), (0x0511, .flowMeterProfileSet),
   (0x0601, .schedElemSet), (0x0602, .schedElemRead), (0x0603, .shaperSet), (0x0604, .portSchedSet),
   (0x0605, .gateListWrite)]

def ycpRows2 : List (Nat × (YcpReq → Instr)) :=
  [(0x0606, .gateListCommit), (0x0607, .gateStatus), (0x0608, .launchClassSet), (0x0609, .sampleSet),
   (0x060A, .sampleRingSet), (0x060B, .sampleRingAck), (0x060C, .schedStatus), (0x0701, .timeRegRead),
   (0x0702, .timeRegWrite), (0x0703, .timeConfig), (0x0704, .timeAdjustSet), (0x0705, .timeActiveSet),
   (0x0706, .timeStatus), (0x0707, .ptpPortSet), (0x0708, .ppsSet), (0x0801, .memStatus), (0x0802, .memMap),
   (0x0803, .memPageSet), (0x0804, .memQosSet), (0x0805, .memTrain), (0x0806, .memFreqSet), (0x0807, .memRepair),
   (0x0808, .memAccess), (0x0809, .memCounters), (0x080A, .memScrubSet), (0x0901, .maceStatus), (0x0902, .maceSet),
   (0x0903, .maceClear), (0x0904, .maceSafeClear), (0x0905, .maceRaise), (0x0906, .integInject), (0x0907, .cvuRegRead),
   (0x0908, .cvuRegWrite), (0x090A, .safetyStatus), (0x0A01, .laneConfig), (0x0A03, .laneStatus)]

def ycpRows3 : List (Nat × (YcpReq → Instr)) :=
  [(0x0A04, .lanePattern), (0x0A05, .laneLoop), (0x0A06, .laneInject), (0x0A07, .laneSwap), (0x0A08, .laneMap),
   (0x0B01, .powerStatus), (0x0B02, .frugalSet), (0x0B03, .portSleepSet), (0x0B04, .powerStandbyEnter),
   (0x0C01, .identity), (0x0C02, .attest), (0x0C03, .fwStatus), (0x0C04, .fwWrite), (0x0C05, .fwVerify),
   (0x0C06, .fwActivate), (0x0C07, .fwConfirm), (0x0C08, .rollbackAdvance), (0x0D01, .telemRingSet),
   (0x0D02, .telemRingAck), (0x0D10, .svcCounterRead), (0x0D20, .traceSet), (0x0D21, .traceStart), (0x0D22, .traceRead),
   (0x0D23, .traceMark), (0x0D24, .counterCatalog), (0x0D25, .traceStatus), (0x0D30, .impairSet), (0x0D31, .impairRequest),
   (0x0D32, .impairStatus), (0x0E01, .joinConfigSet), (0x0E02, .joinStatus), (0x8001, .ksFlowRead),
   (0x8002, .ksFlowDelete), (0x8003, .ksFlowDump), (0x8010, .ksQosSet), (0x8011, .ksQosGet)]

def ycpRows : List (Nat × (YcpReq → Instr)) := ycpRows0 ++ ycpRows1 ++ ycpRows2 ++ ycpRows3

/-- The opcode is defined. -/
def opDefined (op : Nat) : Bool := ycpRows.any (·.1 == op)

/-- The command of a doorbell. -/
def ycpRow (op : Nat) (r : YcpReq) : Option Instr := (ycpRows.find? (·.1 == op)).map fun x => x.2 r

/-- The request whose turn it is, with the state in which its command runs (R404): the first that waits, once fewer than four
commands execute. -/
def nextRequest (s : State) : Option (Instr × State) :=
  match s.host.waiting with
  | [] => none
  | (op, r) :: _ =>
    if served r s && decide (executing s < 4) then
      (ycpRow op r).map fun i => (i, setMbx r.mbx { getMbx r.mbx s with busy := false } s)
    else none

/-- A request whose opcode is not defined completes with UNKNOWN_OP, before every other check (R408). -/
def execUnknownOp (op : Nat) (r : YcpReq) (s : State) : Host.Outcome State Fault Refusal :=
  .next (if opDefined op then s else ycpGate op r (fun s => complete op r (yFail stUNKNOWN_OP s)) s)

/-! Commands. -/

/-- NOP (0x0100) echoes its body (R413). -/
def execNop (r : YcpReq) (s : State) : Host.Outcome State Fault Refusal := ycp 0x0100 r (fun _ b _ s => yRead b s) s

/-- DEV_INFO (0x0104); in RECOVERY the first properties only (R412). -/
def devInfoBody (s : State) : Bytes :=
  let a := [pNum "PART" 2 0x0960, pNum "STEPPING" 1 Config.stepping.toNat, pNum "DEVID" 1 s.host.devid,
    pNum "SERIAL" 8 Config.serial.toNat]
  if s.host.stage = stageRECOVERY then propList (a ++ [pNum "STAGE" 1 s.host.stage])
  else propList (a ++ [pNum "FW_VERSION" 4 s.fw.fwVersion, pNum "STAGE" 1 s.host.stage, pNum "SLOT" 1 (b2n s.fw.slot),
    pNum "TRIAL" 1 (b2n s.fw.trial), pNum "MODE_ACTIVE" 2 (activeMode s).toNat,
    pNum "MODE_SHADOW" 2 s.ep.shadowBank.mode.toNat, pNum "ACTIVE_EPOCH" 4 s.ep.epoch.toNat])

def execDevInfo (r : YcpReq) (s : State) : Host.Outcome State Fault Refusal :=
  ycp 0x0104 r (emptyBody fun s => yRead (devInfoBody s) s) s

/-- DMA_QUEUE_SET (0x0120): LOG2, BASE and BUF_LEN are checked only when ENABLE is set (R413, R538). BASE must be aligned to
the ring's entries (log 17). -/
def dmaQueueSetH : YHandler := formE 16 [(3, 1)] [(2, fun b _ => decide (fld b 1 1 ≤ 1))] fun b s =>
  let q := fld b 0 1
  let en := bit (fld b 1 1) 0
  let lg := fld b 2 1
  let bl := fld b 4 4
  let base := fld b 8 8
  need (decide (q ≤ 15) && (!en || (decide (6 ≤ lg ∧ lg ≤ 16) && base % (if q < 8 then 32 else 64) == 0 &&
    (decide (q < 8) || decide (2048 ≤ bl ∧ bl ≤ 16384))))) stRANGE s <|
  yOk [] (setQ q (if en then { getQ q s with enabled := true, log2 := lg, bufLen := bl, base := base, stopped := false }
    else { getQ q s with enabled := false }) s)

def execDmaQueueSet (r : YcpReq) (s : State) : Host.Outcome State Fault Refusal := ycp 0x0120 r dmaQueueSetH s

/-- PUNT_MAP_SET (0x0122): byte c gives the punt queue 0–7 of code c (R413). -/
def puntMapSetH : YHandler := formO 64 [] fun b s =>
  need ((List.range 64).all fun c => decide (fld b c 1 ≤ 7)) stRANGE s <|
  yOk [] (setHost { s.host with
    puntMap := (List.range 64).foldl (fun t c => tset 0 t c (fld b c 1)) [] } s)

def execPuntMapSet (r : YcpReq) (s : State) : Host.Outcome State Fault Refusal := ycp 0x0122 r puntMapSetH s

/-! The HOST domain's reset (R402). -/

/-- A mailbox emptied: a command still executing goes on and its response is discarded (R402, R406); a request not taken yet is
dropped (DESIGN CHOICE, log 12). -/
def mbxEmptied (m : Mailbox) : Mailbox :=
  { m with buf := [], done := false, ovr := false, busy := m.running.isSome, lost := m.running.isSome }

/-- What every function-level reset does to the HOST domain (R402): ring and queues disabled, mailboxes emptied, the direct
registers at their reset values; LAST_SEQ, EVR_PROD, the backlog, AUTO, SUM_PTR and SUM_LEN are kept (R401, R402); the staged half of
SUM_PTR is not (DESIGN CHOICE, log 17). -/
def hostReset (s : State) : State :=
  let h := s.host
  setHost { h with
    mbx := (List.range 8).foldl (fun t m => tset {} t m (mbxEmptied (tget {} h.mbx m))) h.mbx,
    waiting := [], evrBase := 0, evrBaseHi := 0, evrLog2 := 6, evrEnable := false, evrModerate := 0, evrCons := 0,
    modRunning := false, modPending := false, msix := [], pba := 0, sumPtrHi := 0, sumBusy := false, sumDone := false,
    sumErr := false,
    dmaq := (List.range 16).foldl (fun t q => tset {} t q { tget {} h.dmaq q with enabled := false }) h.dmaq,
    tcw := [], tcwStatus := 0, tcwLeft := 0, hiLatch := [] } s

/-- The PCIe link goes down: F192 (R402, R428). -/
def execPcieLinkDown (s : State) : Host.Outcome State Fault Refusal :=
  .next (if s.host.linkUp then raise 192 0 0 (setHost { s.host with linkUp := false, pcieLanes := 0, pcieGtps := 0 } s) else s)

/-- The width and the rate at which the PCIe link trains: one that the endpoint supports (R399), which of them is a free value (log 2). -/
def pcieTrained (s : State) : State :=
  let l := pcie.lanes.getD (freeVal s % 4) 8
  let g := pcie.gtps.getD (freeVal (tookFree s) % 5) 320
  setHost { s.host with linkUp := true, pcieLanes := l, pcieGtps := g } (tookFree (tookFree s))

/-- The PCIe link trains, unless PERST_N holds it in reset (R448, R530). -/
def execPcieLinkUp (s : State) : Host.Outcome State Fault Refusal :=
  .next (if s.pins.perstN then pcieTrained s else s)

def execPerstNAssert (s : State) : Host.Outcome State Fault Refusal :=
  .next (let s := hostReset s
    { s with pins := { s.pins with perstN := false }, host := { s.host with linkUp := false } })

def execPerstNRelease (s : State) : Host.Outcome State Fault Refusal :=
  .next { s with pins := { s.pins with perstN := true } }

end Sys2Proof.Machine
end

