-- ==== Sys2Proof/Machine/Obs.lean ====
section
/-!
DEFINITION. The observation port (R495–R498), counter identifiers and the catalogue (R499, R500), and the trace buffer
(R501–R505).
-/
namespace Sys2Proof.Machine

def setObs (o : ObsState) (s : State) : State := { s with obs := o }

/-! Power domains as the chapters number them (R446). -/

def domAON : Nat := 0
def domMGMT : Nat := 1
def domHOST : Nat := 2
def domCORE : Nat := 3
def domACT : Nat := 4
def domLG (g : Nat) : Nat := 5 + g
def domPIPE (k : Nat) : Nat := 15 + k
def domHBM (k : Nat) : Nat := 20 + k

/-- A domain serves: AON always, another when it is on (R431). -/
def domainOn (d : Nat) (s : State) : Bool := d == domAON || tget DomainPower.off s.pwr.domain d == .on

/-! Counters by identifier. -/

/-- What a counter reads: EVENTS is kept by Mace (R382), every other one in counter memory (R431). -/
def ctrRead (c : Ctr) (i : Nat) (s : State) : Nat :=
  if c.ctorIdx = Ctr.EVENTS.ctorIdx then (getSource i s).events.toNat else getCtr c i s

/-- CODEs for counters in turn, each one of those that are left, so that no two counters share one (R499). -/
def takeCodes : List Nat → List Ctr → List (Ctr × Nat)
  | _, [] => []
  | left, c :: cs =>
    let i := (Config.counterCode c.ctorIdx).toNat % left.length
    (c, left.getD i 0) :: takeCodes (left.eraseIdx i) cs

/-- CODE of a counter in the catalogue: 12 bits, by the firmware image (R499). -/
def ctrCode (c : Ctr) : Nat :=
  (((takeCodes (List.range 4096) (ctrTable.map (·.1))).find? fun x => x.1 == c).map (·.2)).getD 0

/-- The catalogue row of a code. -/
def ctrOfCode (code : Nat) : Option (Ctr × String × Nat × Bool) := ctrTable.find? fun r => ctrCode r.1 == code

/-- The value an identifier names, none where it is not in the catalogue (R499). -/
def idValue (id : Nat) (s : State) : Option Nat :=
  match ctrOfCode (id / 262144) with
  | some (c, _, n, _) => if id % 262144 < n then some (ctrRead c (id % 262144) s) else none
  | none => none

/-- COUNTER_READ (0x0106): 8 bytes for each identifier; one that is not in the catalogue reads 0 (R499). -/
def execCounterRead (r : YcpReq) (s : State) : Host.Outcome State Fault Refusal :=
  ycp 0x0106 r (formS 1073741824 8 fun s id => leBytes 8 ((idValue id s).getD 0)) s

/-- Insert a catalogue row by its code. -/
def catInsert (x : Ctr × String × Nat × Bool) : List (Ctr × String × Nat × Bool) → List (Ctr × String × Nat × Bool)
  | [] => [x]
  | y :: ys => if ctrCode x.1 ≤ ctrCode y.1 then x :: y :: ys else y :: catInsert x ys

/-- The catalogue in ascending CODE order (R500). -/
def catalogue : List (Ctr × String × Nat × Bool) := ctrTable.foldr catInsert []

/-- Entry `k` of the catalogue, 32 bytes; past the end the closing entry, with INSTANCES 0 (R500). -/
def catEntry (k : Nat) : Bytes :=
  match catalogue[k]? with
  | some (c, name, n, gauge) =>
    leBytes 2 (ctrCode c) ++ leBytes 1 (if gauge then 2 else 0) ++ leBytes 1 name.length ++ leBytes 4 n ++
    fit 24 (ascii name)
  | none => zeros 32

/-- COUNTER_CATALOG (0x0D24): the entries and the closing one, form S (R500). -/
def execCounterCatalog (r : YcpReq) (s : State) : Host.Outcome State Fault Refusal :=
  ycp 0x0D24 r (formS (ctrTable.length + 1) 32 fun _ k => catEntry k) s

/-! The trace status (R503). -/

def trcCode : TrcState → Nat
  | .idle => 0
  | .running => 1
  | .stopped => 2
  | .frozen => 3

/-- The 24 bytes of the trace status (R503). -/
def traceStatus (s : State) : Bytes :=
  leBytes 4 (trcCode s.obs.trc + 4 * b2n s.obs.wrapped) ++ leBytes 4 s.obs.trcWr ++ leBytes 4 s.obs.trcSeq.toNat ++
  zeros 4 ++ leBytes 8 (getCtr .TRC_LOST 0 s)

/-- TRACE_STATUS (0x0D25).  DESIGN CHOICE (log 11): the response is the 24 bytes as laid out. -/
def execTraceStatus (r : YcpReq) (s : State) : Host.Outcome State Fault Refusal :=
  ycp 0x0D25 r (emptyBody fun s => yRead (traceStatus s) s) s

/-- A slot of the trace buffer holds an uncorrectable unit (R497, R501). -/
def traceBad (s : State) (k : Nat) : Bool := (tget? s.obs.slotBad k).isSome

/-- A slot of the trace buffer (R501); what TRACE_READ gives for one that holds an uncorrectable unit is a free value (log 84). -/
def traceSlot (s : State) (k : Nat) : Bytes :=
  if traceBad s k then leBytes 32 (Config.badSlot k).toNat else tget (zeros 32) s.obs.slots k

/-- TRACE_READ (0x0D22). -/
def execTraceRead (r : YcpReq) (s : State) : Host.Outcome State Fault Refusal :=
  ycp 0x0D22 r (formS 262144 32 traceSlot) s

/-! The observation address space (R498). -/

/-- A word read at an observation address: its value, NOT_READY, MAP and UE. -/
structure ObsWord where
  val : Nat := 0
  notReady : Bool := false
  map : Bool := false
  ue : Bool := false
  deriving DecidableEq, Repr

/-- A word of a domain: 0 and NOT_READY while the domain does not serve (R497). -/
def obsDom (d : Nat) (s : State) (v : Nat) : ObsWord :=
  if domainOn d s then { val := v } else { notReady := true }

/-- Live time (R498): A, RESID, domain 0, domain 1. -/
def liveTime (s : State) : Bytes :=
  let one (v : Nat) : Bytes := leBytes 8 (secOf v) ++ leBytes 4 (nsecOf v) ++ leBytes 4 (fracOf v)
  fit 64 (one (activeTick s) ++ leBytes 4 (residReg s.time) ++ one s.time.d0.val ++ one s.time.d1.val)

/-- The word at an observation address (R498). -/
def obsWord (s : State) (addr : Nat) : ObsWord :=
  let a := addr / 4 * 4 % 2 ^ 40
  if a < 0x1000 then obsDom domHOST s (if a ≤ 0x14 then barRead a s else 0)
  else if 0x10000 ≤ a ∧ a < 0x11000 then { val := (maceReg (a - 0x10000) s).getD 0 }
  else if 0x20000 ≤ a ∧ a < 0x21000 then { val := (timeReg s.time (a - 0x20000)).getD 0 }
  else if 0x21000 ≤ a ∧ a < 0x21040 then { val := fld (liveTime s) (a - 0x21000) 4 }
  else if 0x30000 ≤ a ∧ a < 0x30800 then obsDom domCORE s (cvuReg ((a - 0x30000) / 64) (a % 64) s)
  else if 0x40000 ≤ a ∧ a < 0x40040 then { val := fld (traceStatus s) (a - 0x40000) 4 }
  else if 0x100000 ≤ a ∧ a < 0x120000 then { val := fld (catEntry ((a - 0x100000) / 32)) (a % 32) 4 }
  else if 0x1000000 ≤ a ∧ a < 0x1800000 then
    if domainOn domCORE s && traceBad s ((a - 0x1000000) / 32) then { ue := true }
    else obsDom domCORE s (fld (traceSlot s ((a - 0x1000000) / 32)) (a % 32) 4)
  else if 0x100000000 ≤ a ∧ a < 0x300000000 then
    match idValue ((a - 0x100000000) / 8) s with
    | some v => obsDom domCORE s (fld (leBytes 8 v) (a % 8) 4)
    | none => { map := true }
  else { map := true }

/-- A READ transaction (R496–R498): `words` words from the address, and OBS_STATUS describes it. -/
def execObsRead (addr words : Nat) (s : State) : Host.Outcome State Fault Refusal :=
  let ws := (List.range words).map fun k => obsWord s (addr / 4 * 4 + 4 * k)
  .next (setObs { s.obs with
    sdo := (ws.map fun w => leBytes 4 w.val).flatten,
    notReady := ws.any (·.notReady), ue := ws.any (·.ue), map := ws.any (·.map), badCmd := false,
    words := min words 16777215 } s)

/-- OBS_STATUS (R497). -/
def obsStatus (o : ObsState) : Nat :=
  b2n o.notReady + 2 * b2n o.ue + 4 * b2n o.map + 8 * b2n o.badCmd + 256 * o.words

/-- A STATUS transaction (R496): it leaves OBS_STATUS as it is, which describes the previous READ (log 18). -/
def execObsStatus (s : State) : Host.Outcome State Fault Refusal :=
  .next (setObs { s.obs with sdo := leBytes 4 (obsStatus s.obs) } s)

/-- An IDENT transaction (R496). -/
def execObsIdent (s : State) : Host.Outcome State Fault Refusal :=
  .next (setObs { s.obs with
    sdo := leBytes 2 0x0960 ++ leBytes 1 Config.stepping.toNat ++ leBytes 1 s.host.devid ++ [1, 0, 0, 0] } s)

/-- A transaction with a command byte that is not defined: BAD_CMD, and SDO stays high (R496). A defined byte is one of
the other rows. -/
def execObsBadCmd (b : Byte) (s : State) : Host.Outcome State Fault Refusal :=
  .next (if b = 0x03 ∨ b = 0x05 ∨ b = 0x9F then s
    else setObs { s.obs with badCmd := true, sdo := [0xFF] } s)

/-! The trace commands. -/

/-- TRACE_SET's body (R503), 146 bytes: its reserved bits. -/
def traceSetLayout : Layout where
  size := 146
  resv := [(8, 8), (16, 1), (27, 5)] ++
    ((List.range 8).map fun k => [(144 + 128 * k + 3, 5), (144 + 128 * k + 96, 32)]).flatten
  rng := [(48, 32, 0, 262143)] ++
    ((List.range 8).map fun k => [(144 + 128 * k + 1, 2, 0, 2), (144 + 128 * k + 8, 8, 0, 20)]).flatten

/-- TRACE_SET (0x0D20). -/
def traceSetH : YHandler := fun _ b _ s =>
  let stop := fld b 4 2
  need (traceSetLayout.clean b && (b.isEmpty || fld b 0 1 == 1 || fld b 0 1 == 2)) stINVALID s <|
  need (b.length == 146) stLENGTH s <|
  need (traceSetLayout.inRange b && decide (stop < 256 ∨ stop = 0xFFFF)) stRANGE s <|
  need (s.obs.trc != .running) stBUSY s <|
  yOk [] (setObs { s.obs with
    trcMode := fld b 0 1, trcTypes := fld b 2 2, stopSrc := stop, post := fld b 6 4,
    gatePorts := BitVec.ofNat 64 (fld b 10 8),
    filters := (List.range 8).foldl (fun t k => tset (zeros 16) t k (slice b (18 + 16 * k) 16)) [],
    filterHits := [] } s)

def execTraceSet (r : YcpReq) (s : State) : Host.Outcome State Fault Refusal := ycp 0x0D20 r traceSetH s

/-- TRACE_CTRL (0x0D21).  DESIGN CHOICE (log 11): OP (4), 1 START, 2 STOP, 3 CLEAR; records still in the FIFOs when
capture stops are not written. -/
def traceCtrlH : YHandler := formE 4 [] [(4, opIn 1 3)] fun b s =>
  match fld b 0 4 with
  | 1 => yOk [] (setObs { s.obs with trc := .running, postLeft := none } s)
  | 2 => yOk [] (if s.obs.trc = .running then setObs { s.obs with trc := .stopped, fifo := [], postLeft := none } s else s)
  | 3 =>
    need (s.obs.trc != .running) stBUSY s <|
    yOk [] (setObs { s.obs with trcSeq := 0, trcWr := 0, wrapped := false, fifo := [] } s)
  | _ => yFail stINVALID s

def execTraceStart (r : YcpReq) (s : State) : Host.Outcome State Fault Refusal := ycp 0x0D21 r traceCtrlH s
def execTraceStop (r : YcpReq) (s : State) : Host.Outcome State Fault Refusal := ycp 0x0D21 r traceCtrlH s
def execTraceClear (r : YcpReq) (s : State) : Host.Outcome State Fault Refusal := ycp 0x0D21 r traceCtrlH s

/-- TRACE_MARK (0x0D23): a MARK record of 16 bytes; OK with no record while the trace is idle (R502, R511). -/
def execTraceMark (r : YcpReq) (s : State) : Host.Outcome State Fault Refusal :=
  ycp 0x0D23 r (formO 16 [] fun b s => yOk [] (traceRec 9 0 b s)) s

/-! Writing the buffer (R501, R504). -/

/-- Slots of a record type: 3 for PKT, 1 for the others (R502). -/
def traceLen (type : Nat) : Nat := if type = 2 then 3 else 1

/-- The bytes of a record with its header (R501). -/
def traceBytes (seq : BitVec 32) (r : TraceRec) : Bytes :=
  let n := traceLen r.type
  fit (32 * n) (leBytes 1 r.type ++ leBytes 1 n ++ leBytes 1 r.sub ++ [0] ++ leBytes 4 seq.toNat ++ leBytes 8 r.time ++
    r.payload)

/-- Event type 20, TRACE (R504). -/
def traceEvent (ev : Nat) (s : State) : State :=
  postEvent 20 (leBytes 1 ev ++ zeros 3 ++ leBytes 4 s.obs.trcSeq.toNat ++ leBytes 8 (now302 s)) s

/-- The trace ends in a state, and its event is posted (R504). -/
def traceEnd (st : TrcState) (ev : Nat) (s : State) : State :=
  traceEvent ev (setObs { s.obs with trc := st, fifo := [], postLeft := none } s)

/-- The record does not fit any more in STOP mode (R503). -/
def traceFull (n : Nat) (o : ObsState) : Bool := o.trcMode == 2 && (o.wrapped || decide (262144 < o.trcWr + n))

/-- A whole record written at TRC_WR, wrapping to slot 0; TRC_WR and TRC_SEQ advance after it (R501, R504). -/
def traceStore (x : TraceRec) (o : ObsState) : ObsState :=
  let n := traceLen x.type
  let slots := (chunks 32 n (traceBytes o.trcSeq x)).zipIdx.foldl
    (fun t p => tset (zeros 32) t ((o.trcWr + p.2) % 262144) p.1) o.slots
  let bad := (List.range n).foldl (fun t i => tdel t ((o.trcWr + i) % 262144)) o.slotBad
  { o with slots := slots, slotBad := bad, trcWr := (o.trcWr + n) % 262144, trcSeq := o.trcSeq + 1,
           wrapped := o.wrapped || decide (262144 ≤ o.trcWr + n), postLeft := o.postLeft.map (· - 1) }

/-- The oldest record leaves its FIFO for the buffer; the trace freezes after POST records and stops when full (R504). -/
def traceWriteOne (s : State) : State :=
  match s.obs.trc, s.obs.fifo with
  | .running, x :: rest =>
    if traceFull (traceLen x.type) s.obs then traceEnd .stopped 1 s
    else
      let s := setObs (traceStore x { s.obs with fifo := rest }) s
      if s.obs.postLeft = some 0 then traceEnd .frozen 0 s
      else if s.obs.trcMode = 2 ∧ s.obs.wrapped then traceEnd .stopped 1 s
      else s
  | _, _ => s

def execTraceRecordWrite (s : State) : Host.Outcome State Fault Refusal := .next (traceWriteOne s)

/-- A source becomes SEVERE: STOP_SRC triggers the freeze of a running trace (R503, R504, R511). -/
def traceTrigger (src : Nat) (s : State) : State :=
  if s.obs.trc = .running ∧ s.obs.stopSrc = src ∧ s.obs.postLeft = none then
    if s.obs.post = 0 then traceEnd .frozen 0 s else setObs { s.obs with postLeft := some s.obs.post } s
  else s

/-! Packet capture (R503). -/

/-- A frame at a point, as the filters look at it: the port of the point, the rule of its ingress pass, and what the record
holds. -/
structure TracePkt where
  point : Nat
  inPort : Nat
  outPort : Nat
  tc : Nat
  rule : Option Nat
  queue : Nat
  len : Nat
  flags : Nat
  data : Bytes
  deriving DecidableEq, Repr

/-- A filter takes part at the point and names the frame's port and rule (R503). -/
def filterMatches (f : Bytes) (p : TracePkt) : Bool :=
  let ctrl := fld f 0 1
  bit ctrl 0 && bits ctrl 1 2 == p.point && bit (fld f 4 8) (if p.point = 2 then p.outPort else p.inPort) &&
  (fld f 2 2 == 0xFFFF || p.rule == some (fld f 2 2))

/-- Each filter counts its matches; the lowest one whose sample falls on this frame records it (R503). -/
def tracePkt (p : TracePkt) (s : State) : State :=
  if s.obs.trc ≠ .running ∨ !bit s.obs.trcTypes 2 then s else
  let step (acc : Tbl Nat × Option Nat) (k : Nat) : Tbl Nat × Option Nat :=
    let f := tget (zeros 16) s.obs.filters k
    if filterMatches f p then
      let n := tget 0 acc.1 k
      (tset 0 acc.1 k ((n + 1) % 2 ^ 64), if acc.2.isNone && n % 2 ^ (fld f 1 1) == 0 then some k else acc.2)
    else acc
  let (hits, took) := (List.range 8).foldl step (s.obs.filterHits, none)
  let s := setObs { s.obs with filterHits := hits } s
  match took with
  | some k =>
    traceRec 2 p.point (leBytes 1 (if p.point = 2 then p.outPort else p.inPort) ++ leBytes 1 p.tc ++
      leBytes 2 (p.rule.getD 0xFFFF) ++ leBytes 4 p.queue ++ leBytes 2 p.len ++ leBytes 2 p.flags ++ leBytes 1 k ++
      zeros 3 ++ fit 64 p.data) s
  | none => s

/-- What a warm reset does to the trace: it stops, and its contents stay (R505). -/
def traceWarm (o : ObsState) : ObsState :=
  { o with trc := if o.trc = .running then .stopped else o.trc, fifo := [], postLeft := none }

/-- What a cold reset leaves of observation and trace: the trace idle with no contents; OBS_STATUS stands (R444, R505). -/
def obsCold (o : ObsState) : ObsState :=
  { notReady := o.notReady, ue := o.ue, map := o.map, badCmd := o.badCmd, words := o.words, sdo := o.sdo }

end Sys2Proof.Machine
end

