-- ==== Sys2Proof/Machine/Pool.lean ====
section
/-!
DEFINITION. The pool manager (R233–R247): pools and their levels, cells, descriptors, allocation, the checks of a free,
shared frames and the reclaim.
-/
namespace Sys2Proof.Machine

def setBuf (b : BufState) (s : State) : State := { s with buf := b }

/-! Pool numbers (R235) and owners (R240). -/
def poolSHARED : Nat := 0
def poolHEADROOM : Nat := 1
def poolBOUNDED : Nat := 2
def poolHOST : Nat := 3
def poolFDESC : Nat := 4
def poolCDESC : Nat := 5

def ownQUEUE : Nat := 17
def ownREPL : Nat := 18
def ownINJECT : Nat := 19
def ownPUNT : Nat := 20
def ownRECLAIM : Nat := 23

/-- Cells of the buffer (R233). -/
def cellCount : Nat := 393216

/-! Pools at reset (R235). -/

/-- HEADROOM at reset: the allotments of every port at its reset records (R254). -/
def headroomReset : Nat := 64 * 8 * headroomOf portBufDefault 200

/-- A pool's record at reset.  The order of the free lists is the model's (log 15): cells by number, SHARED first, HOST
last. -/
def poolReset (k : Nat) : PoolRec :=
  let sh := cellCount - headroomReset - 8192
  match k with
  | 0 => { count := sh, free := { lo := 0, hi := sh } }
  | 1 => { count := headroomReset, free := { lo := sh, hi := sh + headroomReset } }
  | 2 => { levels := 15 }
  | 3 => { count := 8192, free := { lo := cellCount - 8192, hi := cellCount } }
  | 4 => { count := 393216, free := { lo := 0, hi := 393216 } }
  | 5 => { count := 65536, free := { lo := 393216, hi := 458752 } }
  | _ => {}

def getPool (k : Nat) (s : State) : PoolRec := tget (poolReset k) s.buf.pool k

def setPool (k : Nat) (p : PoolRec) (s : State) : State :=
  setBuf { s.buf with pool := tset (poolReset k) s.buf.pool k p } s

/-- Pointers in the prefetches of a pool (R241). -/
def prefetched (p : PoolRec) : Nat := (p.pre.map fun x => x.2.length).sum

/-- Free buffers now (R237). -/
def freeCount (p : PoolRec) : Nat := p.free.stack.length + (p.free.hi - p.free.lo) + prefetched p

/-- End of a chain (R238, R244). -/
def chainEnd : Nat := 0x7FFFF

/-- The head of a free list, as NEXT names it. -/
def listHead (f : FreeList) : Nat :=
  match f.stack with
  | x :: _ => x
  | [] => if f.lo < f.hi then f.lo else chainEnd

/-! Levels (R245). -/

/-- The value of level 0 WARN, 1 PRESSURE, 2 SEVERE, 3 EXHAUSTED (R237). -/
def levelValue (p : PoolRec) : Nat → Nat
  | 0 => p.warn.getD (p.count / 4)
  | 1 => p.press.getD (p.count / 8)
  | 2 => p.sev.getD (p.count / 32)
  | _ => p.exh

/-- Whether a level is in force: entered at or below its value, left above it plus HYST (R245). -/
def levelNow (p : PoolRec) (l : Nat) : Bool :=
  decide (freeCount p ≤ levelValue p l) ||
    (bit p.levels l && decide (freeCount p ≤ levelValue p l + p.hyst))

def levelsNow (p : PoolRec) : Nat :=
  b2n (levelNow p 0) + 2 * b2n (levelNow p 1) + 4 * b2n (levelNow p 2) + 8 * b2n (levelNow p 3)

/-- A level of a pool is in force. -/
def atLevel (k l : Nat) (s : State) : Bool := bit (getPool k s).levels l

/-- What entering or leaving one level does (R245): the trace record, POOL_WARN and its event, F044. -/
def levelChange (k l : Nat) (entered : Bool) (s : State) : State :=
  let fr := leBytes 4 (freeCount (getPool k s))
  let s := traceRec 6 (if entered then 0 else 1) (leBytes 1 k ++ leBytes 1 l ++ zeros 2 ++ fr ++ zeros 8) s
  if entered && l == 0 then
    postEvent 4 (leBytes 1 k ++ leBytes 1 l ++ zeros 2 ++ fr ++ leBytes 8 (now302 s)) (bump .POOL_WARN k s)
  else if entered && decide (2 ≤ l) && k != poolHEADROOM && k != poolFDESC then raise 44 k 0 s
  else s

/-- The levels of a pool re-evaluated against its free count (R236, R245). -/
def levelSync (k : Nat) (s : State) : State :=
  let p := getPool k s
  let now := levelsNow p
  if now = p.levels then s
  else
    let s := setPool k { p with levels := now } s
    forEach [0, 1, 2, 3] (fun l s => if bit now l != bit p.levels l then levelChange k l (bit now l) s else s) s

/-! Cells (R238). -/

/-- The cell pool whose range holds a cell at reset. -/
def resetPool (i : Nat) : Nat := if i < (poolReset 0).free.hi then 0 else if i < (poolReset 1).free.hi then 1 else 3

/-- A cell as reset leaves it: free, in the pool whose range holds it, and linked to the next one of its list (R235, R238). -/
def cellReset (i : Nat) : CellHdr :=
  { pool := resetPool i, next := if i + 1 < (poolReset (resetPool i)).free.hi then i + 1 else chainEnd }

def getCell (i : Nat) (s : State) : CellHdr := tget (cellReset i) s.buf.cell i

def setCell (i : Nat) (c : CellHdr) (s : State) : State :=
  setBuf { s.buf with cell := tset (cellReset i) s.buf.cell i c } s

/-- Bits [31:24] of the free-running counter (R238). -/
def allocStamp (s : State) : Nat := bits s.time.free 24 8

/-- The head of a free list (R241). -/
def popFree (f : FreeList) : Option (Nat × FreeList) :=
  match f.stack with
  | x :: xs => some (x, { f with stack := xs })
  | [] => if f.lo < f.hi then some (f.lo, { f with lo := f.lo + 1 }) else none

def pushFree (i : Nat) (p : PoolRec) : PoolRec := { p with free := { p.free with stack := i :: p.free.stack } }

/-- The place of an SC-256 unit of the buffer, as INTEG_INJECT names it (log 13): data unit `u` of cell `i`, then the
headers four to a unit, then the descriptors. -/
def dataUnit (i u : Nat) : Nat := 8 * i + u
def hdrUnit (i : Nat) : Nat := 3145728 + i / 4
def descUnit (d : Nat) : Nat := 3244032 + d

/-- The header of cell `i` is written for its allocation. -/
def claimCell (k owner charge i : Nat) (s : State) : State :=
  let (hb, s) := takeInjection injBUFFER (hdrUnit i) s
  levelSync k (setCell i { free := false, pool := k, owner := owner, refcnt := 0, allocT := allocStamp s,
                           charge := charge, hdrBad := hb } s)

/-- An uncorrectable header is rewritten so that the reclaim recovers its cell: FREE 0, OWNER 23, ALLOC_T now; F046 (R247). -/
def failHeader (i : Nat) (s : State) : State :=
  let c := getCell i s
  raise 46 i 0 (setCell i { c with free := false, owner := ownRECLAIM, refcnt := 0, allocT := allocStamp s, hdrBad := 0 } s)

/-- Two lists that wait for one rebuild: at most one of them still has never-used buffers. -/
def joinLists (a b : FreeList) : FreeList :=
  { stack := a.stack ++ b.stack, lo := if a.lo < a.hi then a.lo else b.lo, hi := if a.lo < a.hi then a.hi else b.hi }

/-- The head `i` of a pool's free list has an uncorrectable header: the rest `f` of the list waits for the rebuild, and
allocation goes on from the prefetches and from what is freed meanwhile (R247). -/
def breakList (k i : Nat) (f : FreeList) (s : State) : State :=
  let s := setPool k { getPool k s with free := { lo := f.hi, hi := f.hi } } s
  levelSync k (failHeader i (setBuf { s.buf with rebuild := tput s.buf.rebuild k (joinLists f (tget {} s.buf.rebuild k)) } s))

/-- The head of a cell pool's free list is popped; none when the list is empty or breaks here (R241, R247). -/
def popHead (k : Nat) (s : State) : Option Nat × State :=
  let p := getPool k s
  match popFree p.free with
  | none => (none, s)
  | some (i, f) =>
    if 2 ≤ (getCell i s).hdrBad then (none, breakList k i f s)
    else (some i, setPool k { p with free := f } s)

/-- A pipeline's prefetch is filled from the list, up to 64 pointers (R241). -/
def refill (k pl : Nat) : Nat → State → State
  | 0, s => s
  | n + 1, s =>
    let l := tget [] (getPool k s).pre pl
    if 64 ≤ l.length then s
    else
      match popHead k s with
      | (none, s) => s
      | (some i, s) => refill k pl n (setPool k { getPool k s with pre := tset [] (getPool k s).pre pl (l ++ [i]) } s)

/-- The first pointer of a prefetch. -/
def popPre (k pl : Nat) (s : State) : Option (Nat × State) :=
  match tget [] (getPool k s).pre pl with
  | x :: xs => some (x, setPool k { getPool k s with pre := tset [] (getPool k s).pre pl xs } s)
  | [] => none

/-- A free pointer for an owner: a pipeline's from its prefetch, any other owner's from the list; when the list has none, from
the prefetch of another pipeline (R241; DESIGN CHOICE, log 80). -/
def popPtr (k owner : Nat) (s : State) : Option Nat × State :=
  match if owner ≤ 16 then popPre k owner s else none with
  | some (i, s) => (some i, s)
  | none =>
    match popHead k s with
    | (some i, s) => (some i, s)
    | (none, s) =>
      match (getPool k s).pre.find? fun x => !x.2.isEmpty with
      | some (pl, _) => match popPre k pl s with
        | some (i, s) => (some i, s)
        | none => (none, s)
      | none => (none, s)

/-- A cell from pool `k`, whatever its level. -/
def popCell (k owner charge : Nat) (s : State) : Option Nat × State :=
  match popPtr k owner s with
  | (some i, s) =>
    let s := claimCell k owner charge i s
    (some i, if owner ≤ 16 then refill k owner 64 s else s)
  | (none, s) => (none, s)

/-- A cell from a pool that is not EXHAUSTED (R245). -/
def allocCell (k owner charge : Nat) (s : State) : Option Nat × State :=
  if atLevel k 3 s then (none, s) else popCell k owner charge s

/-- HEADROOM cells that (port, priority) uses (R254). -/
def hrUsed (charge : Nat) (s : State) : Nat := tget 0 s.buf.hrUse charge

def setHr (charge n : Nat) (s : State) : State :=
  setBuf { s.buf with hrUse := tset 0 s.buf.hrUse charge n } s

/-- A cell returned to the head of the list of the pool its header names (R235, R241). -/
def releaseCell (i : Nat) (s : State) : State :=
  let c := getCell i s
  let (hb, s) := takeInjection injBUFFER (hdrUnit i) s
  let s := setCell i { pool := c.pool, next := listHead (getPool c.pool s).free, hdrBad := hb } s
  let s := setPool c.pool (pushFree i (getPool c.pool s)) s
  let s := if c.pool = poolHEADROOM then setHr c.charge (hrUsed c.charge s - 1) s else s
  levelSync c.pool s

/-- A header that is read in a chain: a corrected one is used and rewritten, and counts in BUF_CE (R247). -/
def correctHeader (i : Nat) (s : State) : State :=
  let c := getCell i s
  if c.hdrBad = 1 then bump .BUF_CE 0 (setCell i { c with hdrBad := 0 } s) else s

/-- The chain of a frame's cells from `i`, freed up to LAST: a NEXT out of range or a cell already free stops the walk, and so
does a header that fails or has failed, whose cells the reclaim recovers (R239, R241, R242, R247). -/
def walkFree : Nat → Nat → State → State
  | 0, _, s => s
  | n + 1, i, s =>
    if cellCount ≤ i then raise 40 0 0 (bump .BUF_BAD_PTR 0 s)
    else
      let c := getCell i s
      if 2 ≤ c.hdrBad then failHeader i s
      else if c.free then raise 41 i 0 (bump .BUF_DOUBLE_FREE 0 s)
      else if c.owner = ownRECLAIM then s
      else
        let s := releaseCell i (correctHeader i s)
        if c.last then s else walkFree n c.next s

/-- The requester of a free has the right owner tag: its pool is the buffer's, and it is the owner, or 17, 18 or 20 for a shared
frame (R242). -/
def ownerOk (pool owner hdrPool hdrOwner : Nat) (shared : Bool) : Bool :=
  pool == hdrPool && (if shared then owner == ownQUEUE || owner == ownREPL || owner == ownPUNT else hdrOwner == owner)

/-- The checks of R242 for a buffer pointer returned by (pool, owner), then its free: a shared frame is decremented and
freed at 0 (R243). -/
def freePtr (ptr pool owner : Nat) (s : State) : State :=
  if ptr % 256 ≠ 0 ∨ cellCount ≤ ptr / 256 then raise 40 0 0 (bump .BUF_BAD_PTR 0 s)
  else
    let i := ptr / 256
    let c := getCell i s
    if 2 ≤ c.hdrBad then failHeader i s
    else if c.free then raise 41 i 0 (bump .BUF_DOUBLE_FREE 0 s)
    else if !ownerOk pool owner c.pool c.owner (decide (0 < c.refcnt) && c.owner == ownREPL) then
      raise 42 i 0 (bump .BUF_WRONG_OWNER 0 s)
    else if 1 < c.refcnt then setCell i { c with refcnt := c.refcnt - 1 } s
    else walkFree 41 i s

/-! Reception (R254). -/

/-- The pool that reception of (port, priority) uses (R234). -/
def rxPool (p prio : Nat) (s : State) : Nat :=
  if prioBl p prio s && inMode mTIMED s then poolBOUNDED else poolSHARED

/-- The priority of a port is in XOFF (R252). -/
def inXoff (p prio : Nat) (s : State) : Bool := bit (tget 0 s.buf.xoff p) prio

/-- One cell received on (port, priority): from HEADROOM while in XOFF or while the reception pool is EXHAUSTED, up to HR;
beyond it from the reception pool, counted in HR_OVERRUN; none when neither gives one (R254). -/
def rxCell (p prio owner : Nat) (s : State) : Option Nat × State :=
  let charge := 8 * p + prio
  let k := rxPool p prio s
  let beyond (s : State) : Option Nat × State :=
    match allocCell k owner charge s with
    | (some i, s) => (some i, bump .HR_OVERRUN charge s)
    | (none, s) => (none, s)
  if inXoff p prio s || atLevel k 3 s then
    if hrUsed charge s < headroom p prio s then
      match popCell poolHEADROOM owner charge s with
      | (some i, s) => (some i, setHr charge (hrUsed charge s + 1) s)
      | (none, s) => beyond s
    else beyond s
  else allocCell k owner charge s

/-- `n` cells by an allocator; when one is refused, what was taken is freed and the rest of what happened stands (R254). -/
def takeCells (alloc : State → Option Nat × State) : Nat → List Nat → State → Option (List Nat) × State
  | 0, acc, s => (some acc.reverse, s)
  | n + 1, acc, s =>
    match alloc s with
    | (some i, s) => takeCells alloc n (i :: acc) s
    | (none, s) => (none, acc.foldl (fun s i => releaseCell i s) s)

/-- How many cells a length takes (R233). -/
def cellsOf (len : Nat) : Nat := (len + 255) / 256

/-- Cells chained through NEXT, the last with LAST and FILL; the data units take a pending injection (R238, R372). -/
def linkCells (len : Nat) : List Nat → State → State
  | [], s => s
  | i :: rest, s =>
    let (bad, s) := (List.range 8).foldl (fun (a : Nat × State) u =>
      let (n, s) := takeInjection injBUFFER (dataUnit i u) a.2
      (max a.1 n, s)) (0, s)
    let c := getCell i s
    let s := setCell i { c with next := rest.headD chainEnd, last := rest.isEmpty, fill := (len + 255) % 256, dataBad := bad } s
    linkCells len rest s

/-! Descriptors (R239, R244). -/

def getFrame (d : Nat) (s : State) : Frame := tget {} s.buf.frame d

def setFrame (d : Nat) (f : Frame) (s : State) : State :=
  setBuf { s.buf with frame := tput s.buf.frame d f } s

/-- The pool of a descriptor. -/
def descPool (d : Nat) : Nat := if d < 393216 then poolFDESC else poolCDESC

/-- A descriptor from FDESC or CDESC, whatever the level. -/
def takeDesc (k : Nat) (f : Frame) (s : State) : Option (Nat × State) :=
  let p := getPool k s
  match popFree p.free with
  | some (d, fl) =>
    let (bad, s) := takeInjection injBUFFER (descUnit d) s
    some (d, levelSync k (setFrame d { f with bad := bad } (setPool k { p with free := fl } s)))
  | none => none

/-- A descriptor from FDESC or CDESC; EXHAUSTED gives none of CDESC, and the levels of FDESC have no effect (R245). -/
def allocDesc (k : Nat) (f : Frame) (s : State) : Option (Nat × State) :=
  if k = poolCDESC ∧ atLevel k 3 s then none else takeDesc k f s

/-- A descriptor returned by `owner`, by its pointer: the checks of R242 against HDR (R239, R244). -/
def freeDescPtr (ptr pool owner : Nat) (s : State) : State :=
  let d := ptr / 32
  if ptr % 32 ≠ 0 ∨ 458752 ≤ d then raise 40 0 0 (bump .BUF_BAD_PTR 0 s)
  else
    match tget? s.buf.frame d with
    | none => raise 41 d 0 (bump .BUF_DOUBLE_FREE 0 s)
    | some f =>
      if !ownerOk pool owner (descPool d) f.owner (f.shared && f.owner == ownREPL) then raise 42 d 0 (bump .BUF_WRONG_OWNER 0 s)
      else
        let k := descPool d
        levelSync k (setPool k (pushFree d (getPool k s)) (setBuf { s.buf with frame := tdel s.buf.frame d } s))

/-- A descriptor freed by its holder. -/
def freeDesc (d owner : Nat) (s : State) : State := freeDescPtr (32 * d) (descPool d) owner s

/-- A frame or copy discarded by its holder: its reference to the cells and its descriptor are released. -/
def freeFrame (d : Nat) (s : State) : State :=
  let f := getFrame d s
  let s := if f.head < cellCount then freePtr (f.head * 256) f.cellPool f.owner s else s
  freeDesc d f.owner s

/-- A frame of assured class A discarded inside the device while ASSURED is in force raises F176 + A (R385). -/
def noteAssured (d : Nat) (s : State) : State :=
  let f := getFrame d s
  let cls := (f.pkt.map fun k => bits k.action 17 3).getD 0
  if f.assured && inMode mASSURED s then raise (176 + cls) cls 0 s else s

/-- A frame or copy discarded on its way. -/
def discard (d : Nat) (s : State) : State := freeFrame d (noteAssured d s)

/-- Ownership passes by one write of the first cell's header and of the descriptor's HDR; a shared frame stays with the
replication engine (R240). -/
def passOwner (d owner : Nat) (s : State) : State :=
  let f := getFrame d s
  let c := getCell f.head s
  if c.owner = ownREPL then setFrame d { f with owner := ownREPL } s
  else setFrame d { f with owner := owner } (setCell f.head { c with owner := owner } s)

/-- The frame is made shared with one reference more, and passes to the replication engine (R240, R243); none at the limit of
255, counted in MC_REF_LIMIT. -/
def addRef (d : Nat) (s : State) : Option State :=
  let f := getFrame d s
  let c := getCell f.head s
  let n := max c.refcnt 1 + 1
  if 255 < n then none
  else some (setFrame d { f with shared := true, owner := ownREPL } (setCell f.head { c with refcnt := n, owner := ownREPL } s))

/-- A copy descriptor that references the frame's cells: mirror, multicast or copy to host (R243); `none` when the
reference limit or CDESC stops it. -/
def copyFrame (d owner : Nat) (edit : Frame → Frame) (s : State) : Option (Nat × State) :=
  match addRef d s with
  | none => none
  | some s' => allocDesc poolCDESC (edit { getFrame d s' with owner := owner, shared := true }) s'

/-- The cells of a chain are read for use (R247): 0 clean or corrected, 1 data uncorrectable, 2 a header uncorrectable.
Corrections count in BUF_CE, and a header is rewritten. -/
def readChain : Nat → Nat → State → Nat × State
  | 0, _, s => (0, s)
  | n + 1, i, s =>
    let c := getCell i s
    if 2 ≤ c.hdrBad then (2, failHeader i s)
    else if c.owner = ownRECLAIM then (2, s)
    else
      let s := if c.dataBad = 1 then bump .BUF_CE 0 s else s
      let s := correctHeader i s
      let here := if 2 ≤ c.dataBad then 1 else 0
      if c.last || decide (cellCount ≤ c.next) then (here, s)
      else
        let (w, s) := readChain n c.next s
        (max here w, s)

/-- The frame's cells read for use; false when the frame is not usable, with BUF_UE and F047 for its data (R247). -/
def readFrame (d : Nat) (s : State) : Bool × State :=
  let f := getFrame d s
  if 2 ≤ f.bad then (false, raise 46 d 0 s)
  else
    let (w, s) := readChain 41 f.head s
    if w = 1 then (false, raise 47 f.head 0 (bump .BUF_UE 0 s)) else (w == 0, s)

/-- A frame that a read found unusable: one whose descriptor or first header failed leaves its cells to the reclaim, any other
frame is freed (R247). -/
def dropBad (d : Nat) (s : State) : State :=
  let f := getFrame d s
  if 2 ≤ f.bad ∨ (getCell f.head s).owner = ownRECLAIM then freeDesc d f.owner (noteAssured d s) else discard d s

/-! The reclaim scan (R246). -/

/-- A cell that is not free and was allocated 128 units ago or more (R246). -/
def leaked (i : Nat) (s : State) : Bool :=
  let c := getCell i s
  !c.free && decide (128 ≤ (allocStamp s + 256 - c.allocT) % 256)

/-- The reclaim scan (R246). -/
def reclaimScan (s : State) : State :=
  forEach (s.buf.cell.map (·.1)) (fun i s => if leaked i s then releaseCell i (bump .BUF_RECLAIM 0 s) else s) s

/-! Moving cells between pools (R236). -/

/-- Cell pools (R235). -/
def cellPools : List Nat := [0, 1, 2, 3]

/-- The head of a shrinking pool's free list joins a growing pool's list, its POOL rewritten (R236). -/
def moveCell (s : State) : State :=
  match cellPools.find? (fun k => decide (0 < (getPool k s).owes) && listHead (getPool k s).free != chainEnd),
        cellPools.find? (fun k => decide ((getPool k s).owes < 0)) with
  | some a, some b =>
    match popHead a s with
    | (none, s) => s
    | (some i, s) =>
      let (hb, s) := takeInjection injBUFFER (hdrUnit i) s
      let s := setPool a { getPool a s with owes := (getPool a s).owes - 1 } s
      let pb := getPool b s
      let s := setCell i { pool := b, next := listHead pb.free, hdrBad := hb } s
      levelSync b (levelSync a (setPool b { pushFree i pb with owes := pb.owes + 1 } s))
  | _, _ => s

/-- COUNT of a cell pool changes, balanced by SHARED; the thresholds hold against the new COUNT at once (R236). -/
def resizePool (k count : Nat) (s : State) : State :=
  let p := getPool k s
  let d : Int := (p.count : Int) - count
  let s := setPool k { p with count := count, owes := p.owes + d } s
  let q := getPool poolSHARED s
  let s := setPool poolSHARED { q with count := ((q.count : Int) + d).toNat, owes := q.owes - d } s
  levelSync k (levelSync poolSHARED s)

/-- A resize leaves SHARED a COUNT of 0 or more (R236). -/
def resizeFits (k count : Nat) (s : State) : Bool :=
  decide (count ≤ (getPool k s).count + (getPool poolSHARED s).count)

/-- NEXT of every buffer of a stack, the last one leading to `tail` (R235, R238). -/
def relink (tail : Nat) : List Nat → State → State
  | [], s => s
  | i :: rest, s => relink tail rest (setCell i { getCell i s with next := rest.headD tail } s)

/-- A cell pool's list is given a new order: the stack first, then the never-used cells. -/
def setList (k : Nat) (f : FreeList) (s : State) : State :=
  relink (if f.lo < f.hi then f.lo else chainEnd) f.stack (setPool k { getPool k s with free := f } s)

/-- The pool's list holds every free buffer of the pool again (R247). -/
def rebuildList (k : Nat) (f : FreeList) (s : State) : State :=
  levelSync k (setList k (joinLists (getPool k s).free f) (setBuf { s.buf with rebuild := tdel s.buf.rebuild k } s))

end Sys2Proof.Machine
end

