-- ==== Sys2Proof/Machine/Sleep.lean ====
section
/-!
DEFINITION. Lanes, the lane map and links (chapter 11), the power domains and what sleeps under FRUGAL and wakes (chapter 15).
-/
namespace Sys2Proof.Machine

def setLanes (x : LaneState) (s : State) : State := { s with lanes := x }

/-! Lanes, the lane map and links (R316, R317). -/

def setLane (ix : Nat) (l : Lane) (s : State) : State :=
  setLanes { s.lanes with lane := tset {} s.lanes.lane ix l } s

def getGroup (g : Nat) (s : State) : LaneGroup := tget {} s.lanes.group g

def setGroup (g : Nat) (x : LaneGroup) (s : State) : State :=
  setLanes { s.lanes with group := tset {} s.lanes.group g x } s

def setMap (g k ph : Nat) (s : State) : State :=
  setLanes { s.lanes with map := tset k s.lanes.map (8 * g + k) ph } s

/-- The logical lane of a physical one, none for the spare or a failed lane. -/
def logicalOf (g ph : Nat) (s : State) : Option Nat := (List.range 8).find? fun k => physOf g k s == ph

/-- The group's spare: the physical lane that no logical lane uses, unless it has failed. -/
def spareOf (g : Nat) (s : State) : Option Nat :=
  (List.range 9).find? fun ph => (logicalOf g ph s).isNone && (getLane (9 * g + ph) s).st != 13

/-- The link is in service: an enabled port, or a chain link that JOINED has started. -/
def linkOn (l : Nat) (s : State) : Bool := if l < 64 then portEnabled l s else (getLink l s).phase != .off

/-- The links of a group. -/
def groupLinks (g : Nat) (s : State) : List Nat :=
  if g < 8 then ((List.range 8).map (8 * g + ·)).filter fun p => portEnabled p s else [64 + (g - 8)]

/-- The link in service that uses a logical lane. -/
def linkOfLogical (g k : Nat) (s : State) : Option Nat :=
  (groupLinks g s).find? fun l => linkOn l s && (linkLogical l s).contains k

/-- The link in service that a physical lane carries. -/
def linkOfLane (ix : Nat) (s : State) : Option Nat :=
  (logicalOf (ix / 9) (ix % 9) s).bind fun k => linkOfLogical (ix / 9) k s

/-- The ports that an event of a link names. -/
def linkMask (l : Nat) : BitVec 64 := if l < 64 then portMask l else 0

/-- A lane enters a state; a LANE record is traced (R502). -/
def laneTo (ix st : Nat) (s : State) : State :=
  let l := getLane ix s
  if l.st = st then s
  else
    traceRec 4 0 (leBytes 1 (ix / 9) ++ leBytes 1 (ix % 9) ++ leBytes 1 l.st ++ leBytes 1 st ++ zeros 12)
      (setLane ix { l with st := st } s)

/-- Every lane of a link enters a state. -/
def linkTo (l st : Nat) (s : State) : State := forEach (linkLanes l s) (fun ix s => laneTo ix st s) s

/-- Every lane of a link is in a state. -/
def linkAll (l st : Nat) (s : State) : Bool := (linkLanes l s).all fun ix => (getLane ix s).st == st

/-! Sleep (R435, R437).  A lane, port or pipeline half that is not listed is active. -/

def setPwr (x : PowerState) (s : State) : State := { s with pwr := x }

def laneDepthOf (ix : Nat) (s : State) : Depth := tget .active s.pwr.laneDepth ix
def portDepthOf (p : Nat) (s : State) : Depth := tget .active s.pwr.portDepth p
def pipeDepthOf (k : Nat) (s : State) : Depth := tget .active s.pwr.pipeDepth k

def setLaneDepth (ix : Nat) (d : Depth) (s : State) : State :=
  setPwr { s.pwr with laneDepth := tset .active s.pwr.laneDepth ix d } s

/-- A port and its lanes at a depth. -/
def setPortDepth (p : Nat) (d : Depth) (s : State) : State :=
  forEach (linkLanes p s) (fun ix s => setLaneDepth ix d s)
    (setPwr { s.pwr with portDepth := tset .active s.pwr.portDepth p d } s)

/-- The port is no longer waking. -/
def notWaking (p : Nat) (s : State) : State := setPwr { s.pwr with waking := s.pwr.waking &&& ~~~(portMask p) } s

/-- A power event (R446) of a domain, 255 for the device. -/
def powerEvent (d ev : Nat) (s : State) : State :=
  postEvent 17 (leBytes 1 d ++ leBytes 1 ev ++ zeros 2 ++ leBytes 8 (now302 s)) s

def setDomain (d : Nat) (x : DomainPower) (s : State) : State :=
  setPwr { s.pwr with domain := tset .off s.pwr.domain d x } s

/-- The PIPE domain of a pipeline (R431). -/
def pipeDomain (pl : Nat) : Nat := domPIPE (pl / 4)

/-- The pipelines of a PIPE domain (R431). -/
def domainPipes (k : Nat) : List Nat := if k = 4 then [16] else (List.range 4).map (4 * k + ·)

/-- A half of a pipeline at a depth. -/
def setPipeDepth (pl half : Nat) (d : Depth) (s : State) : State :=
  setPwr { s.pwr with pipeDepth := tset .active s.pwr.pipeDepth (2 * pl + half) d } s

/-- Both halves of a pipeline at a depth. -/
def setPipe (pl : Nat) (d : Depth) (s : State) : State := setPipeDepth pl 1 d (setPipeDepth pl 0 d s)

/-- A half of a pipeline owes its sentinel run, or has made it (R393). -/
def oweHalf (pl half n : Nat) (s : State) : State :=
  { s with mace := { s.mace with sentinelOwed := tset 0 s.mace.sentinelOwed (2 * pl + half) n } }

/-- Both halves of a pipeline owe a sentinel run. -/
def oweSentinel (pl : Nat) (s : State) : State := oweHalf pl 1 1 (oweHalf pl 0 1 s)

/-- What of a lane outlasts its domain: the retention part holds the detector and the saved coefficients, the rest is what
firmware keeps of it (R431, R435; DEDUCED, log 47). -/
def laneRetained (x : Lane) : Lane :=
  { st := x.st, signal := x.signal, ctrl := x.ctrl, saved := x.saved, reqPre := x.reqPre, txFfe := x.txFfe }

/-- A domain is on (R432): DOMAIN_ON and the event.  The pipelines of a PIPE domain are active and owe a sentinel run
(R393). -/
def domainUp (d : Nat) (s : State) : State :=
  if domainOn d s then s
  else
    let s := powerEvent d 0 (bump .DOMAIN_ON d (setDomain d .on s))
    if domPIPE 0 ≤ d ∧ d ≤ domPIPE 4 then
      forEach (domainPipes (d - domPIPE 0)) (fun pl s => oweSentinel pl (setPipe pl .active s)) s
    else s

/-- A domain goes off: a lane domain holds only what is retained, and the pipelines of a PIPE domain are power-gated (R431,
R435). -/
def domainDown (d : Nat) (s : State) : State :=
  if !domainOn d s then s
  else
    let s := powerEvent d 1 (setDomain d .off s)
    if domPIPE 0 ≤ d ∧ d ≤ domPIPE 4 then forEach (domainPipes (d - domPIPE 0)) (fun pl s => setPipe pl .powerGated s) s
    else if domLG 0 ≤ d ∧ d ≤ domLG 9 then
      forEach ((List.range 9).map (9 * (d - domLG 0) + ·)) (fun ix s => setLane ix (laneRetained (getLane ix s)) s) s
    else s

/-- The switch of a domain that is off or in retention closes; one that has failed stays off (R432), and in standby none
comes on before EXIT (R442). -/
def domainWake (d : Nat) (s : State) : State :=
  let x := tget .off s.pwr.domain d
  if (x = .off ∨ x = .retention) ∧ s.pwr.standby ≠ .inStandby then setDomain d .waking s else s

/-- No domain of the list is between the closing of its switch and its power good (R432). -/
def domainsSettled (ds : List Nat) (s : State) : Bool := ds.all fun d => tget .off s.pwr.domain d != .waking

/-- The pipelines of a lane block's port (R15, R17). -/
def portPipes (p : Nat) (s : State) : List Nat :=
  if recWidth (portRec p s) = 8 then [s.spare.pipeOf (2 * (p / 8)), s.spare.pipeOf (2 * (p / 8) + 1)] else [portPipe p s]

/-- The half of a pipeline is used: it wakes, a power-gated one with its PIPE domain (R438). -/
def wakeHalf (pl half : Nat) (s : State) : State :=
  if pipeDepthOf (2 * pl + half) s = .powerGated then domainWake (pipeDomain pl) s
  else { s with pwr := { s.pwr with pipeDepth := tdel s.pwr.pipeDepth (2 * pl + half) } }

/-- Both halves of a pipeline wake. -/
def wakePipe (pl : Nat) (s : State) : State := wakeHalf pl 1 (wakeHalf pl 0 s)

/-- The half takes no packet: it owes a sentinel run, or its PIPE domain is not on yet (R393, R438). -/
def sentinelDue (pl half : Nat) (s : State) : Bool :=
  tget 0 s.mace.sentinelOwed (2 * pl + half) == 1 || pipeDepthOf (2 * pl + half) s == .powerGated

/-- The spare of a group wakes with its first port; it adapts again (R439). -/
def spareWake (g : Nat) (s : State) : State :=
  match spareOf g s with
  | some ph =>
    let ix := 9 * g + ph
    if laneDepthOf ix s = .active then s
    else
      let s := setLaneDepth ix .active s
      if (getLane ix s).st = 0 then laneTo ix 9 s else s
  | none => s

/-- The coefficients that were saved are in use again (R326, R435). -/
def laneRestored (x : Lane) : Lane :=
  match x.saved with
  | some (inv, c, d, f) => { x with rxInv := inv, ctle := c, dfe := d, ffe := f }
  | none => x

/-- A sleeping port wakes (R437): from quiet at once, from doze through a retrain from the saved coefficients, with its
lane group and its PIPE domains (R438). -/
def wakePort (p : Nat) (s : State) : State :=
  match portDepthOf p s with
  | .quiet => spareWake (p / 8) (bump .LPI_WAKE p (setPortDepth p .active s))
  | .doze =>
    let s := bump .LPI_WAKE p (setPortDepth p .active (setPwr { s.pwr with waking := s.pwr.waking ||| portMask p } s))
    let s := forEach (portPipes p s) (fun pl s => domainWake (pipeDomain pl) s) (domainWake (domLG (p / 8)) s)
    let s := forEach (linkLanes p s) (fun ix s =>
      laneTo ix 8 (setLane ix (laneRestored (getLane ix s)) (bump .LANE_RETRAIN ix s))) s
    spareWake (p / 8) s
  | _ => s

/-! What FRUGAL keeps awake (R439). -/

/-- The port never sleeps: ASSURED_PORT under ASSURED, an operational gate list under TIMED. -/
def keepPort (p : Nat) (s : State) : Bool :=
  (inMode mASSURED s && assuredPort p s) || (inMode mTIMED s && (tget? s.sched.gateOp p).isSome)

/-- The spare lane of a group is held SPARE_READY (R439). -/
def keepSpare (g : Nat) (s : State) : Bool := inMode mASSURED s && (groupLinks g s).any fun p => assuredPort p s

/-- A port that never sleeps is awake, with its group's spare and its block's pipelines (R439, R450). -/
def wakeKeptPort (p : Nat) (s : State) : State :=
  spareWake (p / 8) (forEach (portPipes p s) (fun pl s => wakePipe pl s) (wakePort p s))

/-! Sleep of a lane group (R431, R435). -/

/-- The spare of a group sleeps with it under FRUGAL: doze while a port is quiet, off when every port is in doze, off or
disabled (R435). -/
def spareSleep (g : Nat) (s : State) : State :=
  let ds := ((groupLinks g s).filter fun l => linkOn l s).map fun p => portDepthOf p s
  match spareOf g s with
  | some ph =>
    let ix := 9 * g + ph
    if keepSpare g s || ds.contains .active || (getGroup g s).swap.isSome then s
    else if ds.contains .quiet then setLaneDepth ix .doze (if (getLane ix s).st = 10 then laneTo ix 9 s else s)
    else setLaneDepth ix .off (laneTo ix 0 s)
  | none => s

/-- The depth of a lane: one in OFF that FRUGAL leaves unused is off (R435). -/
def laneDepthNow (ix : Nat) (s : State) : Depth :=
  if laneDepthOf ix s = .active ∧ inMode mFRUGAL s ∧ (getLane ix s).st = 0 then .off else laneDepthOf ix s

/-- The lane domain of a group goes off when every lane of it is in doze or off, or FAILED; its retention part stays on
(R431; log 47). -/
def laneDomainSync (g : Nat) (s : State) : State :=
  let asleep (ix : Nat) : Bool := laneDepthNow ix s == .doze || laneDepthNow ix s == .off || (getLane ix s).st == 13
  if ((List.range 9).map (9 * g + ·)).all asleep then domainDown (domLG g) s else s

/-- A group follows its ports into sleep while FRUGAL is in force; the chain groups stay awake under JOINED (R435, R439). -/
def groupSleep (g : Nat) (s : State) : State :=
  if inMode mFRUGAL s && !(decide (8 ≤ g) && inMode mJOINED s) then laneDomainSync g (spareSleep g s) else s

/-- A group wakes whole: its domain, and its spare. -/
def groupWake (g : Nat) (s : State) : State := spareWake g (domainWake (domLG g) s)

end Sys2Proof.Machine
end

