-- ==== Sys2Proof/Machine/Queue.lean ====
section
/-!
DEFINITION. Queues, dynamic thresholds, pause and headroom, multicast, parking and flushing (R248–R265).
-/
namespace Sys2Proof.Machine

def setSched (x : SchedState) (s : State) : State := { s with sched := x }

/-! Elements (R269, R270): level × 2^18 + number. -/

def elemKey (level n : Nat) : Nat := level * 262144 + n

/-- An element as reset leaves it (R270): a port-class queue enabled, attached, WEIGHT 1 and, by DESIGN CHOICE (log 14),
with no shaper; leaves and nodes all zeros. -/
def elemDefault (key : Nat) : Bytes :=
  if key < 1024 then [3, 1] ++ leBytes 2 (key / 16) ++ leBytes 1 (key % 16) ++ zeros 3 ++ [0xFF, 0xFF] ++ zeros 6
  else zeros 16

def elemRec (key : Nat) (s : State) : Bytes := tget (elemDefault key) s.sched.elem key

def elemEnabled (r : Bytes) : Bool := bit (fld r 0 1) 0
def elemAttached (r : Bytes) : Bool := bit (fld r 0 1) 1
def elemBand (r : Bytes) : Nat := bits (fld r 0 1) 2 3
def elemWeight (r : Bytes) : Nat := fld r 1 1
def elemParent (r : Bytes) : Nat := bits (fld r 2 2) 0 15
def elemShaper (r : Bytes) : Nat := fld r 8 2

/-- The elements from a queue to its port, the queue first, and the port; none where the path is not complete (R269,
R271). -/
def queuePath (q : Nat) (s : State) : Option (List Nat × Nat) :=
  if q < 1024 then some ([q], q / 16)
  else
    let leaf := elemRec q s
    let sub := elemKey 1 (elemParent leaf)
    let grp := elemKey 2 (elemParent (elemRec sub s))
    let port := elemParent (elemRec grp s)
    if elemAttached leaf && elemAttached (elemRec sub s) && elemAttached (elemRec grp s) && decide (port < 64) then
      some ([q, sub, grp], port)
    else none

/-- The port of a queue. -/
def queuePort (q : Nat) (s : State) : Option Nat := (queuePath q s).map (·.2)

/-- The class of a queue (R270). -/
def queueClass (q : Nat) (s : State) : Nat := if q < 1024 then q % 16 else bits (fld (elemRec q s) 4 1) 0 4

/-! Class records (R249). -/

/-- The record at reset: ALPHA 6, DP_SHIFT 1, XON_GAP 256, AGE_LIMIT 2,000, AGE_MARKED 500; CT_EN and BL 0 (DESIGN CHOICE,
log 15). -/
def classDefault : Bytes := [6, 4] ++ leBytes 2 256 ++ leBytes 4 2000 ++ leBytes 4 500 ++ zeros 4

def classRec (c : Nat) (s : State) : Bytes := tget classDefault s.buf.cls c

def classAlpha (c : Nat) (s : State) : Nat := bits (fld (classRec c s) 0 1) 0 4
def classCut (c : Nat) (s : State) : Bool := bit (fld (classRec c s) 1 1) 0
def classBl (c : Nat) (s : State) : Bool := bit (fld (classRec c s) 1 1) 1
def classDpShift (c : Nat) (s : State) : Nat := bits (fld (classRec c s) 1 1) 2 3
def classGap (c : Nat) (s : State) : Nat := fld (classRec c s) 2 2
def classAge (c : Nat) (s : State) : Nat := fld (classRec c s) 4 4
def classMarked (c : Nat) (s : State) : Nat := fld (classRec c s) 8 4

/-! Queues (R248–R251). -/

def getQueue (q : Nat) (s : State) : QueueSt := tget {} s.buf.queue q

def setQueue (q : Nat) (x : QueueSt) (s : State) : State :=
  setBuf { s.buf with queue := tset {} s.buf.queue q x } s

/-- The pool whose free count gives a class its limits (R250). -/
def limitPool (c : Nat) (s : State) : Nat := if classBl c s && inMode mTIMED s then poolBOUNDED else poolSHARED

/-- L = F × 2^(code − 6) (R250). -/
def queueLimit (c : Nat) (s : State) : Nat :=
  let f := freeCount (getPool (limitPool c s) s)
  let a := classAlpha c s
  if 6 ≤ a then f <<< (a - 6) else f >>> (6 - a)

/-- The congestion rule of R250. -/
def congestedNow (depth limit gap : Nat) (was : Bool) : Bool :=
  if was then !(decide (depth + gap ≤ limit) || depth == 0) else decide (limit ≤ depth)

/-- A queue with its congestion recomputed; the source map clears when it leaves congestion (R250, R251). -/
def queueSynced (q : Nat) (s : State) (x : QueueSt) : QueueSt :=
  let c := queueClass q s
  let now := congestedNow x.depth (queueLimit c s) (classGap c s) x.congested
  { x with congested := now, srcMap := if now then x.srcMap else 0 }

/-- Every queue's congestion recomputed (R250). -/
def congSync (s : State) : State :=
  setBuf { s.buf with queue := s.buf.queue.foldl (fun t p => tset {} t p.1 (queueSynced p.1 s p.2)) s.buf.queue } s

/-! XOFF (R252). -/

/-- Some congested queue holds the port's bit and its class has this priority at the port (R251). -/
def congXoff (p prio : Nat) (s : State) : Bool :=
  s.buf.queue.any fun x => x.2.congested && bit x.2.srcMap p && classPrio p (queueClass x.1 s) s == prio

/-- A pool that the port's reception uses is at SEVERE (R245). -/
def poolXoff (p : Nat) (s : State) : Bool :=
  let bl := if inMode mTIMED s then fld (portBuf p s) 16 1 else 0
  (bl != 0xFF && atLevel poolSHARED 2 s) || (bl != 0 && atLevel poolBOUNDED 2 s)

/-- The causes of XOFF of a priority (R252). -/
def wantXoff (p prio : Nat) (s : State) : Bool :=
  inMask s.buf.pendXoff p || poolXoff p s || congXoff p prio s

/-- A pause frame sent (R252); a port in the safe state transmits ordered sets alone (R388). -/
def sendPause (p prio quanta : Nat) (s : State) : State :=
  if inSafe p s then s
  else bump .PAUSE_TX (8 * p + prio)
    (setBuf { s.buf with pauseOut := s.buf.pauseOut ++ [⟨p, if linkPause p s then 8 else prio, quanta⟩] } s)

/-- One priority of one port follows its causes: entry sends 0xFFFF quanta, leaving sends 0; under link-level pause time 0
waits for the last priority (R252). -/
def xoffOne (p prio : Nat) (s : State) : State :=
  let want := wantXoff p prio s
  let was := tget 0 s.buf.xoff p
  if want = bit was prio then s
  else if want then
    sendPause p prio 0xFFFF (setBuf { s.buf with xoff := tset 0 s.buf.xoff p (was + 2 ^ prio) } s)
  else
    let s := setBuf { s.buf with xoff := tset 0 s.buf.xoff p (was - 2 ^ prio) } s
    if linkPause p s ∧ was ≠ 2 ^ prio then s else sendPause p prio 0 s

/-- Every priority of every enabled port follows its causes. -/
def xoffSync (s : State) : State :=
  forEach (enabledPorts s) (fun p s => forEach (List.range 8) (fun k s => xoffOne p k s) s) s

/-- What follows every change of the buffer: congestion, then XOFF (R250, R252). -/
def bufSync (s : State) : State := xoffSync (congSync s)

/-- RECLAIM_SCAN (R246). -/
def execReclaimScan (s : State) : Host.Outcome State Fault Refusal := .next (bufSync (reclaimScan s))

/-- POOL_CELL_MOVE (R236). -/
def execPoolCellMove (s : State) : Host.Outcome State Fault Refusal := .next (bufSync (moveCell s))

/-- FREE_LIST_REBUILD_DONE (R247). -/
def execFreeListRebuildDone (s : State) : Host.Outcome State Fault Refusal :=
  .next (match s.buf.rebuild with
    | (k, f) :: _ => bufSync (rebuildList k f s)
    | [] => s)

/-- PAUSE_REPEAT: while XOFF holds, the pause frame is repeated every 32,768 quanta (R252). -/
def execPauseRepeat (p prio : Nat) (s : State) : Host.Outcome State Fault Refusal :=
  .next (if inXoff p prio s then sendPause p prio 0xFFFF s else s)

/-! Received pause (R255). -/

/-- The priority is paused by the partner. -/
def rxPaused (p prio : Nat) (s : State) : Bool := decide (0 < tget 0 s.buf.rxPause (8 * p + prio))

/-- The class of the port is paused (R255, R272). -/
def classPaused (p c : Nat) (s : State) : Bool := rxPaused p (classPrio p c s) s

/-- A pause frame that names the priorities of `mask`: for each, its quanta replace what was left; time 0 resumes (R255). -/
def pauseReceived (p mask : Nat) (quanta : List Nat) (s : State) : State :=
  forEach ((List.range 8).filter fun k => bit mask k) (fun k s =>
    bump .PAUSE_RX (8 * p + k) (setBuf { s.buf with rxPause := tset 0 s.buf.rxPause (8 * p + k) (quanta.getD k 0) } s)) s

/-- PAUSE_FRAME_RECEIVE: the priorities that the frame names and the quanta of each (R255). -/
def execPauseFrameReceive (p mask : Nat) (quanta : List Nat) (s : State) : Host.Outcome State Fault Refusal :=
  .next (if hears p s then pauseReceived p mask quanta s else s)

/-- PAUSE_QUANTA_EXPIRY (R255). -/
def execPauseQuantaExpiry (p prio : Nat) (s : State) : Host.Outcome State Fault Refusal :=
  .next (setBuf { s.buf with rxPause := tset 0 s.buf.rxPause (8 * p + prio) 0 } s)

/-! Pending cells (R253). -/

/-- Bytes of a frame that have been received. -/
def gotLen (f : Frame) : Nat := f.arrived.getD f.len

/-- Cells received on a port and not yet taken by the parser. -/
def pendingCells (p : Nat) (s : State) : Nat :=
  ((tget [] s.buf.rxq p).map fun d => cellsOf (gotLen (getFrame d s))).sum

/-- The cause of R253: it sets at 128 and clears below 64. -/
def pendSync (p : Nat) (s : State) : State :=
  let n := pendingCells p s
  if p < 64 then
    if 128 ≤ n then setBuf { s.buf with pendXoff := s.buf.pendXoff ||| portMask p } s
    else if n < 64 then setBuf { s.buf with pendXoff := s.buf.pendXoff &&& ~~~(portMask p) } s
    else s
  else s

/-! Age (R257). -/

/-- SEC, NSEC of a descriptor timestamp as nanoseconds, SEC modulo 2^32 (R302). -/
def stampNs (v : Nat) : Nat := bits v 30 32 * 1000000000 + bits v 0 30

/-- The difference of two descriptor timestamps in ns, SEC modulo 2^32, as a signed value (R302). -/
def stampDiff (a b : Nat) : Int :=
  let m := 4294967296 * 1000000000
  let d := (stampNs a + m - stampNs b) % m
  if 2 * d < m then d else (d : Int) - m

/-- The real-time bound: 90 units since the allocation of the first cell (R257). -/
def tooOld (f : Frame) (s : State) : Bool :=
  decide (f.head < cellCount) && decide (90 ≤ (allocStamp s + 256 - (getCell f.head s).allocT) % 256)

/-- A frame past its age limit (R257). -/
def expired (f : Frame) (s : State) : Bool :=
  let lim := if f.shortAge then classMarked f.tc s else classAge f.tc s
  decide ((lim : Int) * 1000 < stampDiff (now302 s) f.stamp) || tooOld f s

/-- AGE_DROP of a frame's port and class (R257). -/
def ageDrop (port : Nat) (d : Nat) (s : State) : State :=
  discard d (bump .AGE_DROP (16 * port + (getFrame d s).tc) s)

/-! Launch records (R286, R287). -/

/-- The record at reset: LATE_TOL 100; the rest 0 (DESIGN CHOICE, log 14). -/
def launchDefault : Bytes := zeros 4 ++ leBytes 4 100 ++ zeros 8

/-- Keys of records marked by a parity error (R292). -/
def badShaper (n : Nat) : Nat := 2097152 + n
def badPort (p : Nat) : Nat := 4194304 + p
def badLaunch (c : Nat) : Nat := 8388608 + c

def isBad (k : Nat) (s : State) : Bool := tget 0 s.sched.bad k != 0
def markBad (k : Nat) (s : State) : State := setSched { s.sched with bad := tput s.sched.bad k 1 } s
def clearBad (k : Nat) (s : State) : State := setSched { s.sched with bad := tdel s.sched.bad k } s

/-- The launch record of a class; one that failed parity sends late frames and uses no OFFSET (R292). -/
def launchRec (c : Nat) (s : State) : Bytes :=
  let r := tget launchDefault s.sched.launch c
  if isBad (badLaunch c) s then put r 0 [0] else r

/-- STAMP + OFFSET for a frame of a class with OFFSET_EN that has no launch time (R286). -/
def offsetLaunch (f : Frame) (s : State) : Frame :=
  let r := launchRec f.tc s
  if !f.launch && bit (fld r 0 1) 1 then
    let ns := stampNs f.stamp + fld r 8 4
    { f with launch := true, launchTime := ns % 1000000000 + (ns / 1000000000 % 2 ^ 32) <<< 30 }
  else f

/-! Linking and unlinking (R248). -/

/-- The source bit of a frame (R251). -/
def srcBit (f : Frame) : Nat := 2 ^ (if 0 < f.pass then 65 else f.src)

/-- Some congested queue holds the bit of a source: an internal one is held (R251, R256). -/
def srcHeld (n : Nat) (s : State) : Bool := s.buf.queue.any fun x => x.2.congested && bit x.2.srcMap n

/-- POOL_CROSS: PRIO_BL of the priority that a port's frame came in with and BL of its class differ under TIMED (R250). -/
def crosses (f : Frame) (c : Nat) (s : State) : Bool :=
  inMode mTIMED s && decide (f.src < 64) && prioBl f.src f.inPrio s != classBl c s

/-- The samplers of a queue note its depth (R290). -/
def samplerDepth (q depth : Nat) (s : State) : State :=
  let deeper (p : Nat × Sampler) : Nat × Sampler :=
    if fld p.2.record 0 4 == q then (p.1, { p.2 with depthMax := Nat.max p.2.depthMax depth }) else p
  setSched { s.sched with sampler := s.sched.sampler.map deeper } s

/-! Tags and virtual times (R273). -/

/-- a is before b: (b - a) mod 2^48 < 2^47 and they differ. -/
def tagBefore (a b : Nat) : Bool := a != b && decide ((b + 2 ^ 48 - a) % 2 ^ 48 < 2 ^ 47)

def tagMax (a b : Nat) : Nat := if tagBefore a b then b else a

def getTag (e : Nat) (s : State) : Nat := tget 0 s.sched.tag e
def setTag (e v : Nat) (s : State) : State := setSched { s.sched with tag := tset 0 s.sched.tag e (v % 2 ^ 48) } s

/-- The node above an element of a path: the next element, or the port (level 3). -/
def parentOf (p : Nat) (path : List Nat) (e : Nat) : Nat :=
  ((path.dropWhile (· != e)).drop 1).headD (elemKey 3 p)

/-- The key of the virtual time of an element's band at its parent. -/
def vtKey (parent e : Nat) (s : State) : Nat := parent * 8 + elemBand (elemRec e s)

def getVt (k : Nat) (s : State) : Nat := tget 0 s.sched.vt k
def setVt (k v : Nat) (s : State) : State := setSched { s.sched with vt := tset 0 s.sched.vt k v } s

/-- The element, or an element below it, holds a frame. -/
def holdsFrame (e : Nat) (s : State) : Bool :=
  s.buf.queue.any fun x => !x.2.list.isEmpty && (queuePath x.1 s).any fun y => y.1.contains e

/-- The elements above a queue that go from empty to holding a frame set S = max(S, V) (R273). -/
def fillTags (q : Nat) (s : State) : State :=
  match queuePath q s with
  | none => s
  | some (path, p) =>
    forEach (path.filter fun e => !holdsFrame e s) (fun e s =>
      setTag e (tagMax (getTag e s) (getVt (vtKey (parentOf p path e) e s) s)) s) s

/-- The frame is linked at the tail of the queue: its age limit is chosen, its owner becomes 17, a congested queue notes its
source, elements that were empty take up their virtual time, and a port that sleeps wakes (R248, R250, R251, R257, R273, R437). -/
def linkQueue (d q port : Nat) (s : State) : State :=
  let f := getFrame d s
  let c := queueClass q s
  let x := queueSynced q s (getQueue q s)
  let short := f.marked && decide (queueLimit c s >>> classDpShift c s ≤ x.depth)
  let s := if crosses f c s then bump .POOL_CROSS port s else s
  let s := fillTags q s
  let s := passOwner d ownQUEUE s
  let done := (getFrame d s).pkt.map fun k => { k with live := false }
  let s := setFrame d (offsetLaunch { getFrame d s with queue := q, tc := c, shortAge := short, held := false, pkt := done } s) s
  let x := { x with list := x.list ++ [d], depth := x.depth + cellsOf f.len,
                    srcMap := if x.congested then x.srcMap ||| srcBit f else x.srcMap }
  let s := samplerDepth q x.depth (setQueue q x s)
  let s := tracePkt { point := 1, inPort := f.inPort, outPort := port, tc := c, rule := f.rule.map (·.2), queue := q,
                      len := f.len, flags := f.flags, data := f.data } s
  bufSync (wakePort port s)

/-- What happens to a frame sent towards a queue: no path (R271), a flushed port (R264) or an assured frame to a safe port
(R388) end it. Answers whether it was linked and whether the flush ended it. -/
def enqueue (d q : Nat) (s : State) : Bool × Bool × State :=
  let f := getFrame d s
  match queuePort q s with
  | none => (false, false, discard d (bump .SCHED_UNATTACHED (portPipe (f.inPort % 64) s) s))
  | some p =>
    if inMask s.buf.flushed p then (false, true, discard d (bump .PORT_DOWN_DROP p s))
    else if inSafe p s && f.assured && inMode mASSURED s then (false, false, discard d (bump .SAFE_DROP p s))
    else (true, false, linkQueue d q p s)

/-- The head of a queue is removed (R248). -/
def unlinkHead (q : Nat) (s : State) : State :=
  let x := getQueue q s
  match x.list with
  | d :: rest => setQueue q { x with list := rest, depth := x.depth - cellsOf (getFrame d s).len } s
  | [] => s

/-- Expired frames discarded from the head until the head has not expired (R258). -/
def ageQueue : Nat → Nat → State → State
  | 0, _, s => s
  | n + 1, q, s =>
    match (getQueue q s).list with
    | d :: _ =>
      if expired (getFrame d s) s then
        ageQueue n q (ageDrop ((queuePort q s).getD 0) d (unlinkHead q s))
      else s
    | [] => s

/-- AGER_VISIT (R258). -/
def execAgerVisit (q : Nat) (s : State) : Host.Outcome State Fault Refusal :=
  .next (bufSync (ageQueue ((getQueue q s).list.length) q (fastClock s)))

/-! Multicast (R259). -/

/-- The port-class queue of a port and class. -/
def portQueue (p c : Nat) : Nat := 16 * p + c

/-- The destination is up and its class queue is not congested (R259); one down within its park time takes the copy
(R265). -/
def mcReady (c p : Nat) (s : State) : Bool :=
  let q := portQueue p c
  (isUp p s || (inMask s.buf.parked p && !inMask s.buf.flushed p)) && !(queueSynced q s (getQueue q s)).congested

/-- One copy enqueued towards port `p`, unless the reference limit stops it (R243).  A copy that a full residue list forces out
takes any descriptor left; with none left it is not made, and counts as one stopped by the limit (DESIGN CHOICE, log 81). -/
def mcCopy (d p : Nat) (s : State) : State :=
  let c := (getFrame d s).tc
  match addRef d s with
  | none => bump .MC_REF_LIMIT 0 s
  | some s' =>
    match takeDesc poolCDESC { getFrame d s' with owner := ownREPL, shared := true } s' with
    | some (d', s'') => (enqueue d' (portQueue p c) s'').2.2
    | none => bump .MC_REF_LIMIT 0 s

/-- Destinations in ascending order: flushed ports leave the mask, ready ones get their copy while CDESC can give a
descriptor, the others remain (R259, R245). -/
def mcPass (force : Bool) (d : Nat) (mask : BitVec 64) (s : State) : BitVec 64 × State :=
  (maskPorts mask).foldl (fun (a : BitVec 64 × State) p =>
    let (m, s) := a
    if inMask s.buf.flushed p then (m &&& ~~~(portMask p), bump .PORT_DOWN_DROP p s)
    else if (force || mcReady (getFrame d s).tc p s) && (force || !atLevel poolCDESC 3 s) then
      (m &&& ~~~(portMask p), mcCopy d p s)
    else (m, s)) (mask, s)

/-- The residue entry `k` replaced or removed. -/
def setResidue (l : List Residue) (s : State) : State := setBuf { s.buf with residue := l } s

/-- The group's ports for a frame; none for a group that is not valid or fails parity (R259). -/
def groupPorts (g : Nat) (f : Frame) (s : State) : Option (BitVec 64) :=
  let r := tget (zeros 16) s.buf.group g
  if !bit (fld r 8 1) 0 || tget 0 s.buf.groupBad g != 0 then none
  else
    let m := BitVec.ofNat 64 (fld r 0 8)
    some (if bit (fld r 8 1) 1 && decide (f.src < 66) then m &&& ~~~(portMask f.inPort) else m)

/-- A frame replicated to a set of ports: the frame's own descriptor goes to the residue list while destinations remain,
and holds one reference; a full list forces every copy out (R259). -/
def replicate (d : Nat) (mask : BitVec 64) (s : State) : State :=
  let s := passOwner d ownREPL s
  let done := (getFrame d s).pkt.map fun k => { k with live := false }
  let s := setFrame d { getFrame d s with pkt := done } s
  let full := decide (16384 ≤ s.buf.residue.length)
  let (left, s1) := mcPass false d mask s
  if left = 0 then bufSync (freeFrame d s1)
  else if full then
    let (_, s2) := mcPass true d left (bump .MC_FORCED 0 s1)
    bufSync (freeFrame d s2)
  else bufSync (setResidue (s1.buf.residue ++ [⟨d, left⟩]) s1)

/-- A frame sent to a multicast group (R259). -/
def sendGroup (d g : Nat) (s : State) : State :=
  let f := getFrame d s
  match groupPorts g f s with
  | none =>
    let s := bump .MC_BAD_GROUP 0 s
    let s := if tget 0 s.buf.groupBad g != 0 then raise 45 g 0 s else s
    discard d s
  | some m => replicate d m s

/-- One residue re-examined: past its age limit every destination left is dropped and counted (R259). -/
def residueOne (r : Residue) (s : State) : Option Residue × State :=
  if expired (getFrame r.desc s) s then
    (none, discard r.desc (forEach (maskPorts r.mask) (fun p s => bump .MC_RESIDUE_AGED p s) s))
  else
    let (left, s) := mcPass false r.desc r.mask s
    if left = 0 then (none, freeFrame r.desc s) else (some { r with mask := left }, s)

/-- MC_RESIDUE_RECHECK (R259). -/
def residueCheck (s : State) : State :=
  let (l, s) := s.buf.residue.foldl (fun (a : List Residue × State) r =>
    let (x, s) := residueOne r a.2
    (a.1 ++ x.toList, s)) ([], s)
  bufSync (setResidue l s)

def execMcResidueRecheck (s : State) : Host.Outcome State Fault Refusal := .next (residueCheck s)

/-! Ports that go down (R263, R264). -/

/-- Every queue of a port: its port-class queues and the leaves under it (R263). -/
def portQueues (p : Nat) (s : State) : List Nat :=
  (s.buf.queue.map (·.1)).filter fun q => queuePort q s == some p

/-- The frame that an impairment unit holds is freed with the queues (R508). -/
def freeHeld (p : Nat) (s : State) : State :=
  match tget? s.obs.imp p with
  | some u =>
    match u.held with
    | some d => discard d (setObs { s.obs with imp := tput s.obs.imp p { u with held := none, heldLeft := 0 } } s)
    | none => s
  | none => s

/-- Event type 5, LINK (R415): 0 up, 1 down, 2 flushed. -/
def linkEvent (p code : Nat) (s : State) : State :=
  postEvent 5 (leBytes 1 p ++ leBytes 1 code ++ zeros 2 ++ leBytes 8 (now302 s)) s

/-- Every frame of the port's queues freed with owner 17 (R263). -/
def emptyQueues (p : Nat) (count : Bool) (s : State) : State :=
  forEach (portQueues p s) (fun q s =>
    let ds := (getQueue q s).list
    let s := setQueue q { getQueue q s with list := [], depth := 0 } s
    forEach ds (fun d s => discard d (if count then bump .PORT_DOWN_DROP p s else s)) s) s

/-- The flush: LINK_FLAP, the event, and what the impairment unit holds (R263, R508). -/
def flushPort (p : Nat) (s : State) : State :=
  let s := freeHeld p (emptyQueues p false s)
  let s := setBuf { s.buf with parked := s.buf.parked &&& ~~~(portMask p), flushed := s.buf.flushed ||| portMask p } s
  bufSync (linkEvent p 2 (bump .LINK_FLAP p s))

/-- A frame in transmission ends with an inverted FCS and is freed (R263, R388, R445). -/
def endTx (p d : Nat) (s : State) : State :=
  let out : TxFrame := { port := p, data := (getFrame d s).data, stomped := true }
  discard d (setBuf { s.buf with inTx := tdel s.buf.inTx p, tx := s.buf.tx ++ [out] } s)

/-- The frame that a port is cutting through is abandoned and freed (R263). -/
def abortTx (p : Nat) (s : State) : State :=
  match tget? s.buf.inTx p with
  | some d => endTx p d (bump .TX_ABORT p s)
  | none => s

/-- The link of a port goes down: a frame in transmission is abandoned, the queues are parked, or flushed at once with
PARK_TIME 0 (R263). The sequence numbers outstanding are discarded (R17). -/
def parkPort (p : Nat) (s : State) : State :=
  if p < 64 then
    let s := abortTx p s
    let s := linkEvent p 1 (bump .LINK_DOWN p s)
    let s := setBuf { s.buf with parked := s.buf.parked ||| portMask p, parkTicks := tdel s.buf.parkTicks p,
                                 txSeq := tdel s.buf.txSeq p } s
    if parkTime p s = 0 then flushPort p s else bufSync s
  else s

/-- The link comes up: the queues resume in order (R263, R264). -/
def unparkPort (p : Nat) (s : State) : State :=
  if p < 64 then
    linkEvent p 0 (setBuf { s.buf with parked := s.buf.parked &&& ~~~(portMask p),
                                       flushed := s.buf.flushed &&& ~~~(portMask p) } s)
  else s

/-- One tick of an upper timer that pauses with a lower-level retry: ticks counted, and all (R395). -/
def timerTick (paused : Bool) (t : Nat × Nat) : Nat × Nat := (t.1 + b2n (!paused), t.2 + 1)

/-- A timer of `ns` has expired: by the ticks counted, or by twice its value with the pauses (R395). -/
def timerDone (ns : Nat) (t : Nat × Nat) : Bool := decide (ns ≤ 80 * t.1 ∨ 2 * ns ≤ 80 * t.2)

/-- A retrain attempt or a spare swap of a link's lanes is in progress. -/
def recovering (l : Nat) (s : State) : Bool := (getLink l s).phase == .retrain || (getLink l s).phase == .swap

/-- One tick of the park timers: each stops while its port retrains or swaps a lane (R263). -/
def parkTick (s : State) : State :=
  forEach (maskPorts s.buf.parked) (fun p s =>
    let t := timerTick (recovering p s) (tget (0, 0) s.buf.parkTicks p)
    setBuf { s.buf with parkTicks := tset (0, 0) s.buf.parkTicks p t } s) s

/-- The park timer of a port has run out; PARK_TIME is in units of 100 µs (R260, R263). -/
def parkExpired (p : Nat) (s : State) : Bool := timerDone (parkTime p s * 100000) (tget (0, 0) s.buf.parkTicks p)

/-- PARK_TIMER_EXPIRY: a port still parked is flushed (R263). -/
def execParkTimerExpiry (p : Nat) (s : State) : Host.Outcome State Fault Refusal :=
  .next (if inMask s.buf.parked p && !isUp p s && parkExpired p s then flushPort p s else s)

end Sys2Proof.Machine
end

