-- ==== Sys2Proof/Machine/Lane.lean ====
section
/-!
DEFINITION. Serial lanes, ports and spares (chapter 11): records, bring-up, recovery, swaps, tests and their commands.
-/
namespace Sys2Proof.Machine

def setPhase (l : Nat) (ph : LinkPhase) (s : State) : State := setLink l { getLink l s with phase := ph } s

/-- The lane record (R322) at reset. -/
def laneRecDefault (i : Nat) : Bytes :=
  leBytes 1 i ++ [0x20, 0, 0, 0xFC, 56, 0xFC, 12, 4, 1] ++ zeros 6

def laneRecord (i : Nat) (s : State) : Bytes := tget (laneRecDefault i) s.lanes.laneRec i

/-- INDEX of a physical lane: group × 16 + lane (R411). -/
def laneIndex (ix : Nat) : Nat := 16 * (ix / 9) + ix % 9

/-- The logical lane whose data both the old lane and the spare of a group send: from the block boundary after the ACK of its swap
on (R330). -/
def dataLane (g : Nat) (s : State) : Option Nat :=
  (getGroup g s).swap.bind fun w => if w.step = 0 ∨ 0 < w.wait then none else some w.lane

/-- The rate code of a lane: that of its link; for a lane that no link uses, of the logical lane whose data it sends in a swap
(R318), else of logical lane 0 of its group (R329). -/
def laneRate (ix : Nat) (s : State) : Nat :=
  match linkOfLane ix s with
  | some l => recRate (linkRec l s)
  | none => match linkOfLogical (ix / 9) ((dataLane (ix / 9) s).getD 0) s with
    | some l => recRate (linkRec l s)
    | none => 0

/-- The margin floor of a lane in 0.1 dB (R322, R328). -/
def laneFloor (ix : Nat) (s : State) : Nat :=
  let f := fld (laneRecord (laneIndex ix) s) 10 2
  if f ≠ 0 then f
  else match laneRate ix s with
    | 0 => 180
    | 1 => 170
    | 2 => 160
    | _ => 140

/-- The rates in use in a group, in port order: PLL A takes the first (R318, log 20). -/
def groupRates (g : Nat) (s : State) : List Nat := ((groupLinks g s).map fun l => recRate (linkRec l s)).eraseDups

/-- The PLL of a lane: 0 A, 1 B. -/
def lanePll (ix : Nat) (s : State) : Nat :=
  if (groupRates (ix / 9) s).headD (laneRate ix s) = laneRate ix s then 0 else 1

/-- A port that goes down no longer sleeps. -/
def sleepClear (l : Nat) (s : State) : State := if l < 64 then notWaking l (setPortDepth l .active s) else s

/-- A JOIN event: EVENT, GROUP or MEMBER, TIME (chapter 16). -/
def joinEvent (ev n : Nat) (s : State) : State :=
  postEvent 24 (leBytes 1 ev ++ leBytes 1 n ++ zeros 2 ++ leBytes 8 (now302 s)) s

/-- The wrap timer of a chain group starts anew (R466). -/
def wrapRestart (g : Nat) (s : State) : State :=
  { s with join := { s.join with group := tset {} s.join.group g { tget {} s.join.group g with wrapTicks := (0, 0) } } }

/-- A link that is up goes down: it parks its port (R263); a chain link raises F208 or F209 (R466). -/
def dropLink (l : Nat) (s : State) : State :=
  if (getLink l s).phase = .up then
    if l < 64 then parkPort l (sleepClear l s) else joinEvent 0 (l - 64) (raise (144 + l) (l - 64) 0 (wrapRestart (l - 64) s))
  else s

/-! Going down and coming up (R323, R325, R326). -/

/-- The receive side of a link is down: it no longer sends the idles that answer a remote fault (R325). -/
def linkHears (l : Nat) (s : State) : State := setLink l { getLink l s with rf := false } s

/-- Full bring-up: the lanes return to SIGNAL_DETECT (R326 step 4). -/
def fullBringUp (l : Nat) (s : State) : State := linkHears l (setPhase l .bringUp (linkTo l 1 s))

/-- The swap of a group ends without effect: its requests are withdrawn, and after the remap the lane map is as before and
the spare trains again (R331, R337). -/
def clearSwap (g : Nat) (s : State) : State :=
  let s := match (getGroup g s).swap with
    | some w =>
      let s := spareDropped 1 (9 * g + w.old) s
      if w.step = 2 then laneTo (9 * g + physOf g w.lane s) 9 (setMap g w.lane w.old s) else s
    | none => s
  setGroup g { getGroup g s with swap := none, txReq := 15, txAck := 15 } s

/-- A lane that is not swapped goes on under R326 step 4: full bring-up of a link that is down; a lane of a link that is up
carries traffic again. -/
def afterRefusal (g k : Nat) (s : State) : State :=
  let ix := 9 * g + physOf g k s
  let swapping := (getLane ix s).st == 11
  match linkOfLogical g k s with
  | some l =>
    match (getLink l s).phase with
    | .swap => fullBringUp l s
    | .up => if swapping then laneTo ix 7 s else s
    | .test => if swapping then laneTo ix 12 s else s
    | _ => if swapping then fullBringUp l s else s
  | none => if swapping then laneTo ix 0 s else s

/-- The swap in progress is withdrawn (R337). -/
def withdrawSwap (g : Nat) (s : State) : State :=
  match (getGroup g s).swap with
  | some w => afterRefusal g w.lane (clearSwap g s)
  | none => s

/-- A swap is refused: F086 and SWAP_REFUSED, the map unchanged; recovery goes on under R326 step 4 (R331). -/
def refuseSwap (g k : Nat) (s : State) : State :=
  let s := raise 86 g (((linkOfLogical g k s).map linkMask).getD 0) (bump .SWAP_REFUSED g s)
  afterRefusal g k (clearSwap g s)

/-- The spare of a group is SPARE_READY. -/
def spareIsReady (g : Nat) (s : State) : Bool := (spareOf g s).any fun ph => (getLane (9 * g + ph) s).st == 10

/-- Lane `k` can be swapped: the spare is SPARE_READY, the partner is ready, and no swap runs but one of a higher lane that
still waits for its ACK (R331, R337). -/
def swapPossible (g k : Nat) (s : State) : Bool :=
  (match (getGroup g s).swap with
    | some w => decide (k < w.lane ∧ w.step = 0)
    | none => true) &&
  (getGroup g s).partnerReady && spareIsReady g s

/-- t = 0 of a swap: the lane enters SWAPPING and REQ is sent (R330); a higher lane that waits for its ACK is withdrawn
(R337). -/
def startSwap (g k : Nat) (s : State) : State :=
  let s := withdrawSwap g s
  let ph := physOf g k s
  let s := laneTo (9 * g + ph) 11 s
  setGroup g { getGroup g s with swap := some { lane := k, old := ph, step := 0 }, txReq := k } s

/-- A lane needs a swap: it is started, refused (R331), or left to R326 step 4 while another lane's swap runs (R337). -/
def trySwap (g k : Nat) (s : State) : State :=
  if swapPossible g k s then startSwap g k s
  else
    match (getGroup g s).swap with
    | some w => if w.lane = k then s else afterRefusal g k s
    | none => refuseSwap g k s

/-- An assured port while ASSURED is in force: a lane fault goes straight to the swap (R387). -/
def straightSwap (l : Nat) (s : State) : Bool := inMode mASSURED s && decide (l < 64) && assuredPort l s

/-- Lane `k` is being swapped. -/
def swapRuns (g k : Nat) (s : State) : Bool := (getGroup g s).swap.any fun w => w.lane == k

/-- The retrain attempts are used up: with SWAP_AUTO and the spare SPARE_READY the lane is swapped, or its swap is refused
(R326 steps 3 and 4, R331). -/
def afterRetrains (l : Nat) (s : State) : State :=
  match (getLink l s).first with
  | some k =>
    if straightSwap l s then trySwap (linkGroup l) k (setPhase l .swap s)
    else if bit (fld (linkRec l s) 8 1) 0 && (spareIsReady (linkGroup l) s || swapRuns (linkGroup l) k s) then
      trySwap (linkGroup l) k (setPhase l .swap s)
    else fullBringUp l s
  | none => fullBringUp l s

/-- A link in LINK_UP goes down, the lane that first raised its fault noted (R325, R326); of a link that went down by no lane's
fault, the lane that first raises one while it recovers. -/
def linkDown (l : Nat) (first : Option Nat) (s : State) : State :=
  let x := getLink l s
  if x.phase = .up then
    let s := dropLink l s
    let s := setLink l { getLink l s with phase := .gap, attempts := 0, first := first } s
    if fld (linkRec l s) 5 1 = 0 ∨ (first.isSome ∧ straightSwap l s) then afterRetrains l s else s
  else if (x.phase = .gap ∨ x.phase = .retrain) ∧ x.first = none ∧ first.isSome then
    let s := setLink l { x with first := first } s
    if straightSwap l s then afterRetrains l s else s
  else s

/-- The link comes up: its lanes carry traffic and its queues resume (R263, R323). -/
def linkUp (l : Nat) (s : State) : State :=
  let s := if 64 ≤ l then joinEvent 1 (l - 64) s else s
  unparkPort l (setLink l { getLink l s with phase := .up, attempts := 0, first := none, rf := false } (linkTo l 7 s))

/-! Bring-up, lane by lane (R323). -/

/-- LANE_SIGNAL_DETECTED: SIGNAL_DETECT to CDR_LOCK; the record's CTRL takes effect (R322). -/
def execLaneSignalDetected (lane : Nat) (s : State) : Host.Outcome State Fault Refusal :=
  .next <|
    let l := getLane lane s
    if l.st = 1 then
      laneTo lane 2 (setLane lane { l with signal := true, ctrl := fld (laneRecord (laneIndex lane) s) 1 1 } s)
    else setLane lane { l with signal := true } s

/-- LANE_CDR_LOCK: CDR_LOCK to POLARITY. -/
def execLaneCdrLock (lane : Nat) (s : State) : Host.Outcome State Fault Refusal :=
  .next <|
    let l := getLane lane s
    let s := setLane lane { l with cdr := true } s
    if l.st = 2 then laneTo lane 3 s else s

/-- LANE_POLARITY_FOUND: POLARITY to EQ_ADAPT; RX_POL 0 takes the polarity found, 1 and 2 fix it (R322).  A spare that started at
SIGNAL_DETECT (R337) adapts on the steering stream from here (R323; DEDUCED, log 89). -/
def execLanePolarityFound (lane : Nat) (inverted : Bool) (s : State) : Host.Outcome State Fault Refusal :=
  .next <|
    let l := getLane lane s
    if l.st = 3 then
      let inv := match bits l.ctrl 0 2 with
        | 0 => inverted
        | 2 => true
        | _ => false
      laneTo lane (if spareOf (lane / 9) s = some (lane % 9) then 9 else 4) (setLane lane { l with rxInv := inv } s)
    else s

/-- The receive FFE that an adaptation leaves: every tap but the main cursor within half of it (R322). -/
def boundFfe (main : Nat) (ffe : Bytes) : Bytes :=
  let h : Int := ((BitVec.toInt ((ffe[main]?).getD 0)).natAbs / 2 : Nat)
  ffe.mapIdx fun i c => if i = main then c else BitVec.ofInt 8 (max (-h) (min h (BitVec.toInt c)))

/-- What an adaptation leaves of CTLE, DFE and FFE under the lane record: CTLE_FIXED holds the record's step, DFE_EN 0 has no
tap, FFE_FREEZE keeps the taps that stand (R322). -/
def adapted (r : Bytes) (ctle : Nat) (dfe : Byte) (ffe : Bytes) (l : Lane) : Nat × Byte × Bytes :=
  (if bit (fld r 7 1) 5 then bits (fld r 7 1) 0 5 else ctle,
   if bit (fld r 9 1) 0 then dfe else 0,
   if bit (fld r 8 1) 5 then l.ffe else boundFfe (bits (fld r 8 1) 0 5) (fit 24 ffe))

/-- Coefficients taken and saved, and the record's transmit taps in use (R322, R323). -/
def saveCoeffs (r : Bytes) (margin ctle : Nat) (dfe : Byte) (ffe : Bytes) (l : Lane) : Lane :=
  let (c, d, f) := adapted r ctle dfe ffe l
  { l with margin := margin, ctle := c, dfe := d, ffe := f, saved := some (l.rxInv, c, d, f), txFfe := slice r 2 5 }

/-- No setting meets the floor: the last good coefficients stay, and F084 is raised (R328). -/
def belowFloor (ix margin : Nat) (s : State) : State :=
  raise 84 ix (((linkOfLane ix s).map linkMask).getD 0) (setLane ix { getLane ix s with margin := margin } s)

/-- With MEDIA CR/KR the partner asks for its precoding and adjusts the transmit taps in link training: free values (R321, R322,
log 86). -/
def trained (ix : Nat) (s : State) : State :=
  if (linkOfLane ix s).any fun l => recKr (linkRec l s) then
    let s := tookFree (setLane ix { getLane ix s with reqPre := freeVal s % 2 == 1 } s)
    tookFree (setLane ix { getLane ix s with txFfe := leBytes 5 (freeVal s) } s)
  else s

/-- LANE_EQ_CONVERGED: at or above the floor EQ_ADAPT ends; below it the last good coefficients stay and F084 is raised
(R323, R328). -/
def execLaneEqConverged (lane margin ctle : Nat) (dfe : Byte) (ffe : Bytes) (s : State) :
    Host.Outcome State Fault Refusal :=
  .next <|
    let l := getLane lane s
    if l.st ≠ 4 then s
    else if laneFloor lane s ≤ margin then
      laneTo lane 5 (trained lane (setLane lane (saveCoeffs (laneRecord (laneIndex lane) s) margin ctle dfe ffe l) s))
    else belowFloor lane margin s

/-- LANE_ORDER_IDENTIFIED: LANE_ORDER to FEC_ALIGN for every lane of the link together; the permutation is saved. -/
def execLaneOrderIdentified (link : Nat) (perm : Bytes) (s : State) : Host.Outcome State Fault Refusal :=
  .next <|
    if (getLink link s).phase = .bringUp ∧ linkAll link 5 s then
      linkTo link 6 (setLink link { getLink link s with perm := perm } s)
    else s

/-- The end of a swap: the old lane enters SPARE_TRAIN, LANE_SWAP and F085 (R330); the spare record (R488). -/
def finishSwap (g : Nat) (w : Swap) (l : Option Nat) (s : State) : State :=
  let s := match l with
    | some l => linkUp l (if l < 64 then bump .LANE_SWAP l s else s)
    | none => s
  let s := laneTo (9 * g + w.old) 9 s
  let s := setGroup g { getGroup g s with swap := none, txReq := 15, txAck := 15 } s
  let ix := 9 * g + w.old
  let aged := isProactive 1 ix s
  let s := spareDone 1 ix (otpAppend 1 g w.old (physOf g w.lane s) s)
  let s := if aged then otpAppend 9 (256 + g) w.old 2 (setSpare { s.spare with agedLanes := s.spare.agedLanes ++ [ix] } s)
    else s
  raise 85 ix ((l.map linkMask).getD 0) s

/-- FEC_ALIGN_LOCK: FEC_ALIGN to LINK_UP; the remap of a swap ends the same way (R323, R330). -/
def execFecAlignLock (link : Nat) (s : State) : Host.Outcome State Fault Refusal :=
  .next <|
    let g := linkGroup link
    match (getGroup g s).swap with
    | some w =>
      if w.step = 2 ∧ linkOfLogical g w.lane s = some link then finishSwap g w (some link) s
      else if (getLink link s).phase = .bringUp ∧ linkAll link 6 s then linkUp link s
      else s
    | none => if (getLink link s).phase = .bringUp ∧ linkAll link 6 s then linkUp link s else s

/-- A retrain attempt fails: F082 for its limit (R323), F084 for each lane whose last MARGIN is below its floor (R328; DEDUCED,
log 89), then a further gap or, after RETRAIN_MAX attempts, what follows them (R326). -/
def retrainFails (link : Nat) (s : State) : State :=
  let x := getLink link s
  let s := raise 82 ((linkLanes link s).headD 0) (linkMask link) s
  let s := forEach ((linkLanes link s).filter fun ix => decide ((getLane ix s).margin < laneFloor ix s)) (fun ix s =>
    raise 84 ix (linkMask link) s) s
  let s := setLink link { x with phase := .gap, attempts := x.attempts + 1 } s
  if fld (linkRec link s) 5 1 ≤ x.attempts + 1 then afterRetrains link s else s

/-- A lane is not SPARE_READY within the limit: F082, and it becomes FAILED (R323, R330). -/
def spareFails (ix : Nat) (s : State) : State :=
  otpAppend 2 (ix / 9) (ix % 9) 0 (laneTo ix 13 (raise 82 ix 0 s))

/-- A lane in SWAPPING that no link uses, such as the old lane after the remap, passes the limit: the swap ends with the map
unchanged, and the lanes return to SIGNAL_DETECT (R323; DEDUCED, log 20). -/
def swapLimit (lane : Nat) (s : State) : State :=
  let g := lane / 9
  let l := (getGroup g s).swap.bind fun w => linkOfLogical g w.lane s
  let s := clearSwap g (raise 82 lane ((l.map linkMask).getD 0) s)
  match l with
  | some l => fullBringUp l (dropLink l s)
  | none => laneTo lane 1 s

/-- LANE_STAGE_LIMIT_EXPIRY: F082, and the link's lanes return to SIGNAL_DETECT (R323); a lane of no link returns alone.  A
retrain that passes its limit has failed (R326), and so has a spare in training (R330); a swap that passes its limit ends with
the map unchanged (DEDUCED, log 20). -/
def execLaneStageLimitExpiry (lane : Nat) (s : State) : Host.Outcome State Fault Refusal :=
  .next <|
    let st := (getLane lane s).st
    match linkOfLane lane s with
    | some l =>
      if st = 8 ∧ (getLink l s).phase = .retrain then retrainFails l s
      else if 2 ≤ st ∧ st ≤ 6 ∧ (getLink l s).phase = .bringUp then fullBringUp l (raise 82 lane (linkMask l) s)
      else if st = 11 ∨ (st = 6 ∧ (getLink l s).phase = .swap) then
        fullBringUp l (dropLink l (clearSwap (lane / 9) (raise 82 lane (linkMask l) s)))
      else s
    | none =>
      if st = 9 ∧ laneDepthOf lane s = .active then spareFails lane s
      else if st = 11 then swapLimit lane s
      else if 2 ≤ st ∧ st ≤ 6 then laneTo lane 1 (raise 82 lane 0 s)
      else s

/-! Faults of lanes (R325, R329, R331). -/

/-- The spare stops being SPARE_READY: F088, or the swap that uses it is refused (R331, R337). -/
def spareLost (ix : Nat) (s : State) : State :=
  let g := ix / 9
  if spareOf g s = some (ix % 9) ∧ (getLane ix s).st = 10 then
    let s := laneTo ix 9 s
    match (getGroup g s).swap with
    | some w => refuseSwap g w.lane s
    | none => raise 88 g 0 s
  else s

/-- The lane is the spare of a swap after the remap: its loss refuses the swap (R331, R337). -/
def remapped (ix : Nat) (s : State) : Option Nat :=
  match (getGroup (ix / 9) s).swap with
  | some w => if w.step = 2 ∧ physOf (ix / 9) w.lane s = ix % 9 then some w.lane else none
  | none => none

/-- A lane has lost its signal or its lock: source `f` of a working lane, whose link goes down if it is up (R325, R338); the loss of
the spare (R331, R337). -/
def laneLost (f lane : Nat) (s : State) : State :=
  match remapped lane s with
  | some k => refuseSwap (lane / 9) k s
  | none =>
    match linkOfLane lane s with
    | some l => linkDown l (logicalOf (lane / 9) (lane % 9) s) (raise f lane (linkMask l) (linkHears l s))
    | none => spareLost lane s

/-- A lane has lost lock: LANE_LOL; a recovered-clock output that names it is squelched (R310). -/
def lockLost (lane : Nat) (s : State) : State :=
  let s := bump .LANE_LOL lane s
  match logicalOf (lane / 9) (lane % 9) s with
  | some k => rclkSquelch (16 * (lane / 9) + k) s
  | none => s

/-- LANE_LOSS_OF_SIGNAL for LOS_DEBOUNCE (R325): LANE_LOS and F080, and the link goes down.  The detectors do not judge a lane
that its pattern checker judges (R327). -/
def execLaneLossOfSignal (lane : Nat) (s : State) : Host.Outcome State Fault Refusal :=
  .next (if (getLane lane s).judged then s
    else laneLost 80 lane (bump .LANE_LOS lane (setLane lane { getLane lane s with signal := false } s)))

/-- LANE_CDR_LOSS (R325, R327): LANE_LOL and F081, and the link goes down. -/
def execLaneCdrLoss (lane : Nat) (s : State) : Host.Outcome State Fault Refusal :=
  .next (if (getLane lane s).judged then s
    else laneLost 81 lane (lockLost lane (setLane lane { getLane lane s with cdr := false } s)))

/-- FEC_LOCK_LOSS: the port loses FEC or alignment-marker lock (R325). -/
def execFecLockLoss (link : Nat) (s : State) : Host.Outcome State Fault Refusal :=
  .next (linkDown link none (linkHears link s))

/-- REMOTE_FAULT_RECEIVE: the port goes down and then sends idles (R325). -/
def execRemoteFaultReceive (link : Nat) (s : State) : Host.Outcome State Fault Refusal :=
  .next <|
    if (getLink link s).phase = .up then
      let s := linkDown link none (if link < 64 then bump .REMOTE_FAULT link s else s)
      setLink link { getLink link s with rf := (getLink link s).phase == .gap } s
    else s

/-- UNCORR_WINDOW_END: the codewords of a 1 ms window are counted; more uncorrectable ones than UNCORR_MAX raise F087
(R325). -/
def execUncorrWindowEnd (p cw corr uncorr : Nat) (s : State) : Host.Outcome State Fault Refusal :=
  .next <|
    let s := addCtr .FEC_CW p cw (addCtr .FEC_CW_CORR p corr (addCtr .FEC_CW_UNCORR p uncorr s))
    if fld (portRec p s) 9 2 < uncorr then raise 87 p (portMask p) s else s

/-- RETRAIN_GAP_EXPIRY: the lanes enter RETRAIN with what was saved restored (R326 step 1). -/
def retrainStart (l : Nat) (s : State) : State :=
  let s := linkHears l (setPhase l .retrain s)
  forEach (linkLanes l s) (fun ix s =>
    laneTo ix 8 (setLane ix (laneRestored (getLane ix s)) (bump .LANE_RETRAIN ix s))) s

def execRetrainGapExpiry (link : Nat) (s : State) : Host.Outcome State Fault Refusal :=
  .next (if (getLink link s).phase = .gap then retrainStart link s else s)

/-- RETRAIN_ATTEMPT_END (R326): a port that wakes from doze is up again (R437); else success brings the link up; a failure is followed by a further gap until RETRAIN_MAX. -/
def execRetrainAttemptEnd (link : Nat) (ok : Bool) (s : State) : Host.Outcome State Fault Refusal :=
  .next <|
    let x := getLink link s
    if link < 64 ∧ inMask s.pwr.waking link then
      if ok then notWaking link (linkTo link 7 s) else s
    else if x.phase ≠ .retrain then s
    else if ok then linkUp link s
    else retrainFails link s

/-! Signal quality (R327, R328). -/

/-- A working lane becomes DEGRADED: F083, LANE_DEGRADE, and a swap, which R331 may refuse, when SWAP_AUTO is set and the spare is SPARE_READY
(R328). -/
def degrade (ix : Nat) (s : State) : State :=
  let s := setLane ix { getLane ix s with degraded := true } s
  let s := raise 83 ix (((linkOfLane ix s).map linkMask).getD 0) (bump .LANE_DEGRADE ix s)
  match logicalOf (ix / 9) (ix % 9) s, linkOfLane ix s with
  | some k, some l =>
    if straightSwap l s then trySwap (ix / 9) k s
    else if bit (fld (linkRec l s) 8 1) 0 && spareIsReady (ix / 9) s then trySwap (ix / 9) k s
    else s
  | _, _ => s

/-- One measurement taken into a lane's windows (R328): margin below or above the floor (one at the floor is neither), and the
symbols of the 10 ms window, which lies above its rate, below it, or neither. -/
def measured (floor deg margin corr syms : Nat) (l : Lane) : Lane :=
  let lo := decide (margin < floor)
  let full := decide (10 ≤ l.winN + 1)
  let e := l.winErr + corr
  let y := l.winSym + syms
  { l with margin := margin,
           below := if lo then min (l.below + 1) 8 else 0, above := if floor < margin then min (l.above + 1) 8 else 0,
           winN := if full then 0 else l.winN + 1, winErr := if full then 0 else e, winSym := if full then 0 else y,
           winOk := if full then decide (e * 2 ^ deg < y) else l.winOk,
           winOver := if full then decide (y < e * 2 ^ deg) else l.winOver }

/-- MARGIN_MEASUREMENT of a lane in LINK_UP or SPARE_READY, with the corrected symbols and the symbols of the last 1 ms
(R327, R328). -/
def execMarginMeasurement (lane margin corr syms : Nat) (s : State) : Host.Outcome State Fault Refusal :=
  .next <|
    let l := getLane lane s
    if l.st ≠ 7 ∧ l.st ≠ 10 then s
    else
      let deg := match linkOfLane lane s with
        | some k => fld (linkRec k s) 11 1
        | none => 10
      let l' := measured (laneFloor lane s) deg margin corr syms l
      let s := addCtr .FEC_SYM_ERR lane corr (setLane lane l' s)
      let t := tget (0, 0) s.spare.laneSym lane
      let s := setSpare { s.spare with laneSym := tset (0, 0) s.spare.laneSym lane (t.1 + corr, t.2 + syms) } s
      if l.st = 7 ∧ !l'.degraded ∧ (l'.below = 8 ∨ l'.winOver) then degrade lane s
      else if l'.degraded ∧ l'.above = 8 ∧ l'.winOk then setLane lane { l' with degraded := false } s
      else s

/-! The steering stream and the swap (R329, R330). -/

/-- A field that stood in all of the last three blocks (R329). -/
def stable (f : (Nat × Nat × Bool) → Nat) (h : List (Nat × Nat × Bool)) : Option Nat :=
  match h with
  | [a, b, c] => if f a = f b ∧ f b = f c then some (f a) else none
  | _ => none

/-- A steering block taken into the history: SYNC and CRC wrong end the run (R329).  DEDUCED (log 23): the CRC runs over
the first 14 bytes in order. -/
def steerHist (blk : Bytes) (h : List (Nat × Nat × Bool)) : List (Nat × Nat × Bool) :=
  if fld blk 0 2 = 0xF0A5 ∧ crc16 (blk.take 14) = fld blk 14 2 then
    ((bits (fld blk 2 1) 0 4, bits (fld blk 2 1) 4 4, bit (fld blk 4 1) 0) :: h).take 3
  else []

/-- Block boundaries from the acceptance of a request to the lane's data on the spare: three blocks carry the ACK, which the
partner acts on after the third, and the data starts at the boundary after it (R329, R330; DEDUCED, log 87). -/
def ackBlocks : Nat := 4

/-- The partner's request for a lane is accepted: its ACK is sent (R330). -/
def acceptSwap (g k : Nat) (s : State) : State :=
  let s := startSwap g k s
  let x := getGroup g s
  setGroup g { x with txReq := 15, txAck := k, swap := x.swap.map fun w => { w with step := 1, wait := ackBlocks } } s

/-- The partner's stable REQ is acted on: it is acknowledged when the spare is ready; of two different requests the lower
lane is swapped, and the other end withdraws (R337). -/
def takeRequest (g k : Nat) (s : State) : State :=
  let x := getGroup g s
  match x.swap with
  | some w =>
    if w.step = 0 ∧ k = w.lane then setGroup g { x with txAck := k, swap := some { w with step := 1, wait := ackBlocks } } s
    else if swapPossible g k s then acceptSwap g k s
    else s
  | none => if swapPossible g k s then acceptSwap g k s else s

/-- STEERING_BLOCK_RECEIVE: a field is acted on after three unchanged valid blocks (R329). -/
def execSteeringBlockReceive (g : Nat) (blk : Bytes) (s : State) : Host.Outcome State Fault Refusal :=
  .next <|
    let x := getGroup g s
    let h := steerHist blk x.hist
    let x := { x with hist := h, rxReq := (stable (·.1) h).getD x.rxReq, rxAck := (stable (·.2.1) h).getD x.rxAck,
                      partnerReady := ((stable (fun t => b2n t.2.2) h).map (· == 1)).getD x.partnerReady }
    let s := setGroup g x s
    let s := match x.swap with
      | some w =>
        if w.step = 0 ∧ stable (·.2.1) h = some w.lane then setGroup g { x with swap := some { w with step := 1, wait := 1 } } s else s
      | none => s
    match stable (·.1) h with
    | some k => if k < 8 then takeRequest g k s else s
    | none => s

/-- SWAP_ACK_TIMEOUT (R331). -/
def execSwapAckTimeout (g : Nat) (s : State) : Host.Outcome State Fault Refusal :=
  .next (match (getGroup g s).swap with
    | some w => if w.step = 0 then refuseSwap g w.lane s else s
    | none => s)

/-- SWAP_ADAPTATION_DONE, on the lane's data: at the remap the port is down for R263 and the map points the lane at the spare; a
recovered-clock output that names it is squelched (R310, R330).  A lane that no link uses has nothing to align (DEDUCED,
log 20). -/
def execSwapAdaptationDone (g : Nat) (s : State) : Host.Outcome State Fault Refusal :=
  .next <|
    match (getGroup g s).swap, spareOf g s with
    | some w, some ph =>
      if w.step ≠ 1 ∨ 0 < w.wait then s
      else
        let w' : Swap := { w with step := 2 }
        match linkOfLogical g w.lane s with
        | some l =>
          let s := laneTo (9 * g + ph) 6 (setMap g w.lane ph (setPhase l .swap (dropLink l s)))
          rclkSquelch (16 * g + w.lane) (setGroup g { getGroup g s with swap := some w' } s)
        | none => finishSwap g w' none (rclkSquelch (16 * g + w.lane) (laneTo (9 * g + ph) 0 (setMap g w.lane ph s)))
    | _, _ => s

/-- SPARE_READY: a spare in SPARE_TRAIN reaches the floor (R323); one that adapts below it raises F084 and goes on (R328). -/
def execSpareReady (g margin ctle : Nat) (dfe : Byte) (ffe : Bytes) (s : State) : Host.Outcome State Fault Refusal :=
  .next <|
    match spareOf g s with
    | some ph =>
      let ix := 9 * g + ph
      let l := getLane ix s
      if l.st ≠ 9 ∨ laneDepthOf ix s ≠ .active then s
      else if laneFloor ix s ≤ margin then
        let r := laneRecord (laneIndex ix) s
        laneTo ix 10 (setLane ix { saveCoeffs r margin ctle dfe ffe l with signal := true, cdr := true } s)
      else belowFloor ix margin s
    | none => s

/-- SPARE_TRAIN_TIMEOUT: a lane not SPARE_READY within 300 ms becomes FAILED (R330). -/
def execSpareTrainTimeout (lane : Nat) (s : State) : Host.Outcome State Fault Refusal :=
  .next (if (getLane lane s).st = 9 ∧ laneDepthOf lane s = .active then spareFails lane s else s)

/-- Loops, patterns and injection of a lane end. -/
def untest (ix : Nat) (s : State) : State :=
  setLane ix { getLane ix s with loop := 0, pattern := none, inject := none, checker := false } s

/-- The lanes of a group that take a PLL and are in service. -/
def pllLanes (g pll : Nat) (s : State) : List Nat :=
  ((List.range 9).map (9 * g + ·)).filter fun ix =>
    lanePll ix s == pll && (getLane ix s).st != 0 && (getLane ix s).st != 13

/-- A lane of no link when its PLL loses lock: a spare that leaves SPARE_READY raises F088 (R323).  It trains again; every other
lane, and a spare in a swap, restarts at SIGNAL_DETECT (R337). -/
def loneLost (swapping : Bool) (ix : Nat) (s : State) : State :=
  let s := if (getLane ix s).st = 10 then raise 88 (ix / 9) 0 s else s
  if swapping ∨ spareOf (ix / 9) s ≠ some (ix % 9) then laneTo ix 1 (untest ix s)
  else if (getLane ix s).st = 10 then laneTo ix 9 s else s

/-- LANE_PLL_LOSS: F090; every lane on the PLL goes down and restarts, its tests ended (R318; log 89), and a swap of the group is
refused (R337). -/
def pllLoss (g pll : Nat) (s : State) : State :=
  let lanes := pllLanes g pll s
  let ls := (groupLinks g s).filter fun l => linkOn l s && (linkLanes l s).any fun ix => lanePll ix s == pll
  let swapping := (getGroup g s).swap.isSome
  let s := raise 90 g (ls.foldl (fun m l => m ||| linkMask l) 0) s
  let s := match (getGroup g s).swap with
    | some w => refuseSwap g w.lane s
    | none => s
  let s := forEach ls (fun l s => fullBringUp l (forEach (linkLanes l s) untest (dropLink l s))) s
  forEach (lanes.filter fun ix => (linkOfLane ix s).isNone) (loneLost swapping) s

def execLanePllLoss (g pll : Nat) (s : State) : Host.Outcome State Fault Refusal := .next (pllLoss g pll s)

/-! PORT_CONFIG (R319, R320). -/

/-- The port record. -/
def portLayout : Layout where
  size := 16
  resv := [(6, 2), (13, 3), (19, 5), (26, 6), (36, 4), (44, 4), (65, 7), (96, 32)]
  rng := [(40, 4, 0, 8), (48, 8, 0, 100), (56, 8, 0, 100), (72, 16, 1, 65535), (88, 8, 6, 20)]

/-- A rate, FEC and width listed in R317. -/
def comboOk (rate fec width : Nat) : Bool :=
  if rate ≤ 2 then fec == 0
  else if rate = 3 then (fec == 1 || fec == 2) && (width == 1 || width == 4)
  else if rate = 4 then fec == 2 && (width == 1 || width == 4)
  else false

/-- WIDTH, RATE, FEC or MEDIA differ (R320). -/
def shapeDiffers (a b : Bytes) : Bool :=
  recWidth a != recWidth b || recRate a != recRate b || recFec a != recFec b || recKr a != recKr b

def portConfigCheck (s : State) (i : Nat) (b : Bytes) : Nat :=
  if !portLayout.clean b ∨ bits (fld b 0 1) 0 6 ≠ i ∨ !comboOk (recRate b) (recFec b) (recWidth b) ∨
     i % 8 % recWidth b ≠ 0 ∨ (i < 64 ∧ portUnused i s) then stINVALID
  else if 64 ≤ i ∨ !portLayout.inRange b then stRANGE
  else if portEnabled i s ∧ recEnabled b ∧ shapeDiffers (portRec i s) b then stBUSY
  else if portEnabled i s ∧ shapeDiffers (portRec i s) b then stBUSY
  else stOK

/-- The lanes of two enabled ports overlap, or a group needs a third rate (R318, R320). -/
def portsClash (s : State) : Bool :=
  (enabledPorts s).any (fun p => portUnused p s) || (List.range 8).any fun g => decide (2 < (groupRates g s).length)

/-- The lanes of a disabled port go to OFF; a swap of one of them is abandoned with the map unchanged (R320, R337). -/
def lanesOff (p : Nat) (s : State) : State :=
  let g := p / 8
  let s := match (getGroup g s).swap with
    | some w => if (linkLogical p s).contains w.lane then clearSwap g s else s
    | none => s
  let lanes := linkLanes p s
  setLink p {} (forEach lanes (fun ix s => untest ix (laneTo ix 0 s)) s)

/-- A port disabled: a link-down event, then its lanes are off (R320). -/
def disablePort (p : Nat) (s : State) : State := lanesOff p (dropLink p s)

/-- The HEADROOM pool follows the allotments (R236, R254). -/
def headroomSync (before after : Nat) (s : State) : State :=
  if before = after then s else resizePool poolHEADROOM ((getPool poolHEADROOM s).count + after - before) s

/-- The spare of a group starts training once it has a use (R323). -/
def spareStart (g : Nat) (s : State) : State :=
  match spareOf g s with
  | some ph => if (getLane (9 * g + ph) s).st = 0 then laneTo (9 * g + ph) 9 s else s
  | none => s

/-- A port enabled: its group's domain is on, the spare trains again, and its lanes begin bring-up (R323, R431). -/
def enablePort (p : Nat) (s : State) : State := spareStart (p / 8) (fullBringUp p (groupWake (p / 8) s))

/-- One port record applied; ASSURED_PORT set wakes the port, its group's spare and its pipelines (R439, R450); the group of a
port that is disabled may sleep without it (R435). -/
def portConfigApply (p : Nat) (b : Bytes) (s : State) : State :=
  let was := portEnabled p s
  let h0 := portHeadroom p s
  let s := if was && !recEnabled b then disablePort p s else s
  let s := setLanes { s.lanes with port := tset (portDefault p) s.lanes.port p b } s
  let s := headroomSync h0 (portHeadroom p s) s
  let s := if recEnabled b && !was then enablePort p s else s
  let s := if was && !recEnabled b then groupSleep (p / 8) s else s
  bufSync (if portEnabled p s && keepPort p s then wakeKeptPort p s else s)

/-- The cell pools still hold 393,216 cells together (R236). -/
def poolsFit (s : State) : Bool := (cellPools.map fun k => (getPool k s).count).sum == cellCount

def portConfigPost (_ s' : State) : Nat :=
  if portsClash s' then stINVALID else if !poolsFit s' then stNOSPACE else stOK

def execPortConfig (r : YcpReq) (s : State) : Host.Outcome State Fault Refusal :=
  ycp 0x0301 r (formLX (fun _ => 16) portConfigCheck portConfigApply portConfigPost) s

/-- PORT_STATUS (0x0302): records, then state, permutation and counters of the ports returned (R412).  DESIGN CHOICE
(log 20): the names STATE and PERMUTATION. -/
def portStatusProps (s : State) (first n : Nat) : Bytes :=
  let ps := (List.range n).map (first + ·)
  let c (name : String) (k : Ctr) : Bytes := pArr name 8 (ps.map fun p => getCtr k p s)
  propList [pArr "STATE" 1 (ps.map fun p => ((linkLanes p s).head?.map fun ix => (getLane ix s).st).getD 0),
    pStr "PERMUTATION" ((ps.map fun p => fit 8 (getLink p s).perm).flatten),
    c "FEC_CW" .FEC_CW, c "FEC_CW_CORR" .FEC_CW_CORR, c "FEC_CW_UNCORR" .FEC_CW_UNCORR, c "RX_FCS_ERR" .RX_FCS_ERR,
    c "LINK_DOWN" .LINK_DOWN, c "LANE_SWAP" .LANE_SWAP, c "REMOTE_FAULT" .REMOTE_FAULT]

def execPortStatus (r : YcpReq) (s : State) : Host.Outcome State Fault Refusal :=
  ycp 0x0302 r (formSP 64 16 (fun s p => portRec p s) portStatusProps) s

/-! LANE_CONFIG and LANE_STATUS (R322, R336). -/

def laneLayout : Layout where
  size := 16
  resv := [(15, 1), (62, 2), (70, 2), (73, 7), (96, 32)]
  rng := [(64, 5, 2, 20)]

/-- A signed tap. -/
def tap (b : Bytes) (o : Nat) : Int := (BitVec.ofNat 8 (fld b o 1)).toInt

/-- The sum of |c| is at most 64 and c(0) at least 16 (R322). -/
def ffeOk (b : Bytes) : Bool :=
  decide (([2, 3, 4, 5, 6].map fun o => (tap b o).natAbs).sum ≤ 64 ∧ 16 ≤ tap b 5)

def laneConfigCheck (s : State) (i : Nat) (b : Bytes) : Nat :=
  let st := (getLane (9 * (i / 16) + i % 16) s).st
  if !laneLayout.clean b ∨ fld b 0 1 ≠ i ∨ bits (fld b 1 1) 0 2 = 3 then stINVALID
  else if 160 ≤ i ∨ 8 < i % 16 ∨ !laneLayout.inRange b ∨ !ffeOk b then stRANGE
  else if fld b 1 1 ≠ fld (laneRecord i s) 1 1 ∧ (st = 7 ∨ st = 10 ∨ st = 11) then stBUSY
  else stOK

def laneConfigApply (i : Nat) (b : Bytes) (s : State) : State :=
  setLanes { s.lanes with laneRec := tset (laneRecDefault i) s.lanes.laneRec i b } s

def execLaneConfig (r : YcpReq) (s : State) : Host.Outcome State Fault Refusal :=
  ycp 0x0A01 r (formL (fun _ => 16) laneConfigCheck laneConfigApply) s

/-- ROLE of a lane (R336). -/
def laneRole (ix : Nat) (s : State) : Nat :=
  match logicalOf (ix / 9) (ix % 9) s with
  | some k => if (linkOfLogical (ix / 9) k s).isSome then k else 10
  | none => if (getLane ix s).st = 13 then 9 else 8

/-- The 32-byte status of INDEX group × 16 + lane (R336); a number that names no lane reads 0. -/
def laneStatus (s : State) (i : Nat) : Bytes :=
  if 8 < i % 16 then zeros 32
  else
    let ix := 9 * (i / 16) + i % 16
    let l := getLane ix s
    leBytes 1 i ++ leBytes 1 (laneRole ix s + 16 * lanePll ix s) ++ leBytes 1 l.st ++
    leBytes 1 (b2n l.signal + 2 * b2n l.locked + 4 * b2n l.rxInv + 8 * b2n l.degraded +
      16 * b2n (getGroup (i / 16) s).partnerReady + 32 * b2n (l.loop != 0) + 64 * b2n l.pattern.isSome) ++
    leBytes 1 l.ctle ++ [l.dfe] ++ leBytes 2 l.margin ++ fit 24 l.ffe

def execLaneStatus (r : YcpReq) (s : State) : Host.Outcome State Fault Refusal :=
  ycp 0x0A03 r (formS 160 32 laneStatus) s

/-- LANE_MAP (0x0A08): 10 groups × 8 physical indices (R413). -/
def execLaneMap (r : YcpReq) (s : State) : Host.Outcome State Fault Refusal :=
  ycp 0x0A08 r (emptyBody fun s =>
    yRead (((List.range 80).map fun i => leBytes 1 (physOf (i / 8) (i % 8) s)).flatten) s) s

/-! Patterns, loops and injection (R332–R335).  DESIGN CHOICE (log 24): OP 0 ends, other OP codes and the bytes of PARAM as
written here; LANE is group × 16 + physical lane, and the logical lane for LANE_SWAP. -/

/-- The lane a test command names. -/
def testLane (b : Bytes) : Nat := 9 * (fld b 0 2 / 16) + fld b 0 2 % 16

def testLaneOk (b : Bytes) : Bool := decide (fld b 0 2 < 160 ∧ fld b 0 2 % 16 ≤ 8)

/-- A port of group `g` with ASSURED_PORT set, enabled or not, has the logical lane (R317, R319). -/
def assuredLane (g k : Nat) (s : State) : Bool :=
  decide (g < 8) && (List.range 8).any fun i =>
    assuredPort (8 * g + i) s && !portUnused (8 * g + i) s && decide (i ≤ k ∧ k < i + recWidth (portRec (8 * g + i) s))

/-- R335: a lane of an assured port while ASSURED is in force, and the spare or a lane in SWAPPING. -/
def testDenied (ix : Nat) (s : State) : Bool :=
  (getLane ix s).st == 11 || spareOf (ix / 9) s == some (ix % 9) ||
  (inMode mASSURED s && (logicalOf (ix / 9) (ix % 9) s).any fun k => assuredLane (ix / 9) k s)

/-- A loop or a pattern is set: every lane of the port is in TEST and the port is down (R334); a FAILED lane stays out of service
(R323). -/
def enterTest (ix : Nat) (s : State) : State :=
  match linkOfLane ix s with
  | some l => setPhase l .test (linkTo l 12 (dropLink l s))
  | none => if (getLane ix s).st = 13 then s else laneTo ix 12 s

/-- Ending the last loop or pattern of a port, or of a lane of no enabled port, starts bring-up at SIGNAL_DETECT (R323, R334). -/
def leaveTest (ix : Nat) (s : State) : State :=
  let busy (x : Nat) : Bool := (getLane x s).loop != 0 || (getLane x s).pattern.isSome
  match linkOfLane ix s with
  | some l => if (linkLanes l s).any busy ∨ (getLink l s).phase ≠ .test then s else fullBringUp l s
  | none => if busy ix ∨ (getLane ix s).st ≠ 12 then s else laneTo ix 1 s

/-- The common checks of the test commands. -/
def testCmd (ops : List Nat) (ok : Bytes → State → Bool) (k : Nat → Nat → Bytes → State → State) : YHandler :=
  formE 16 [] [(4, fun b _ => ops.contains (fld b 2 2))] fun b s =>
    need (!(testLaneOk b && testDenied (testLane b) s)) stDENIED s <|
    need (testLaneOk b && ok b s) stRANGE s <|
    yOk [] (k (testLane b) (fld b 2 2) (slice b 4 12) s)

/-- LANE_PATTERN: 1 starts the pattern of PARAM byte 0 (PRBS7, 9, 13, 15, 31, SSPRQ, square wave, user word as 0–7; byte 1
the half-period; bytes 4–11 the word), 0 ends it (R332). -/
def execLanePattern (r : YcpReq) (s : State) : Host.Outcome State Fault Refusal :=
  ycp 0x0A04 r (testCmd [0, 1]
    (fun b s => fld b 2 2 == 0 || (decide (fld b 4 1 ≤ 7) && (fld b 4 1 != 6 || decide (1 ≤ fld b 5 1 ∧ fld b 5 1 ≤ 64)) &&
      (fld b 4 1 != 5 || decide (laneRate (testLane b) s ≤ 2))))
    (fun ix op p s =>
      if op = 1 then
        enterTest ix (setLane ix { getLane ix s with pattern := some p, checker := false, patAt := s.time.free } s)
      else leaveTest ix (setLane ix { getLane ix s with pattern := none, checker := false } s))) s

/-- LANE_LOOP: 1 near-end serial, 2 near-end parallel, 3 far-end, 0 ends it (R334). -/
def execLaneLoop (r : YcpReq) (s : State) : Host.Outcome State Fault Refusal :=
  ycp 0x0A05 r (testCmd [0, 1, 2, 3] (fun _ _ => true)
    (fun ix op _ s =>
      let s := setLane ix { getLane ix s with loop := op } s
      if op = 0 then leaveTest ix s else enterTest ix s)) s

/-- LANE_INJECT: 0 ends, 1 a single error, 2 a burst of PARAM byte 0 bits, 3 one event every 2^byte 1 bits, 4 byte 2 symbols
in every M-th codeword, M in bytes 4–7 (R333). -/
def execLaneInject (r : YcpReq) (s : State) : Host.Outcome State Fault Refusal :=
  ycp 0x0A06 r (testCmd [0, 1, 2, 3, 4]
    (fun b s => match fld b 2 2 with
      | 2 => decide (1 ≤ fld b 4 1 ∧ fld b 4 1 ≤ 64)
      | 3 => decide (10 ≤ fld b 5 1 ∧ fld b 5 1 ≤ 40)
      | 4 => decide (1 ≤ fld b 6 1 ∧ fld b 6 1 ≤ 16 ∧ 1 ≤ fld b 8 4 ∧ fld b 8 4 ≤ 1048576) &&
             (linkOfLane (testLane b) s).isSome
      | _ => true)
    (fun ix op p s => setLane ix { getLane ix s with inject := if op = 0 then none else some (leBytes 2 op ++ p), injAt := s.time.free } s)) s

/-- A pattern that the checker can lock on: any but SSPRQ (R332). -/
def checkable (l : Lane) : Bool :=
  match l.pattern with
  | some p => l.st == 12 && fld p 0 1 != 5
  | none => false

/-- PRBS_CHECKER_LOCK: the checker counts from here (R332). -/
def execPrbsCheckerLock (lane : Nat) (s : State) : Host.Outcome State Fault Refusal :=
  .next (if checkable (getLane lane s) then
      setLane lane { getLane lane s with checker := true, lockAt := s.time.free, prbsErr := 0 } s
    else s)

/-- Half bits that a lane of a rate carries in a tick (R317). -/
def tickHalfBits : Nat → Nat
  | 0 => 34000
  | 1 => 17000
  | 2 => 8500
  | 3 => 4125
  | _ => 1650

/-- The bits that a lane of a rate carries in `t` ns. -/
def laneBits (rate t : Nat) : Nat := t / 80 * tickHalfBits rate / 2

/-- The bits that the checker of a lane has counted since its lock. -/
def prbsBits (ix : Nat) (s : State) : Nat := laneBits (laneRate ix s) (s.time.free - (getLane ix s).lockAt)

/-- PRBS_CHECKER_LOSS_OF_LOCK, with the bits and errors since the lock, of which the ticks have counted a part; under SQ_MODE 1
the lane has lost lock (R327, R332). -/
def execPrbsCheckerLossOfLock (lane nbits errs : Nat) (s : State) : Host.Outcome State Fault Refusal :=
  .next <|
    let l := getLane lane s
    if l.checker then
      let n := nbits - prbsBits lane s
      let s := addCtr .PRBS_BITS lane n (addCtr .PRBS_ERR lane (errs - l.prbsErr) (setLane lane { l with checker := false } s))
      if l.judged then lockLost lane s else s
    else s

/-! LANE_SWAP (R331). -/

/-- LANE_SWAP: OP 1 swaps a logical lane, OP 2 RESTORE returns a FAILED physical lane to SPARE_TRAIN (log 24). A swap during a
retrain attempt abandons the attempt (R337). -/
def laneSwapH : YHandler := formE 16 [(4, 12)] [(4, fun b _ => decide (1 ≤ fld b 2 2 ∧ fld b 2 2 ≤ 2))] fun b s =>
  let g := fld b 0 2 / 16
  let k := fld b 0 2 % 16
  match fld b 2 2 with
  | 1 =>
    need (decide (g < 10 ∧ k < 8)) stRANGE s <|
    let s' := match linkOfLogical g k s with
      | some l => if (getLink l s).phase = .retrain ∨ (getLink l s).phase = .gap then setPhase l .swap s else s
      | none => s
    yOk [] (trySwap g k s')
  | 2 =>
    need (decide (g < 10 ∧ k < 9)) stRANGE s <|
    need ((getLane (9 * g + k) s).st == 13) stBUSY s <|
    yOk [] (otpAppend 2 g k 1 (laneTo (9 * g + k) 9 (untest (9 * g + k) s)))
  | _ => yFail stINVALID s

def execLaneSwap (r : YcpReq) (s : State) : Host.Outcome State Fault Refusal := ycp 0x0A07 r laneSwapH s
def execLaneSwapRestore (r : YcpReq) (s : State) : Host.Outcome State Fault Refusal := ycp 0x0A07 r laneSwapH s

/-- The reset of a group: its lanes are OFF with the links down, and bring-up restarts at SIGNAL_DETECT with the domain on
(R447).  A FAILED lane is OFF too: it trains as a spare again, or takes its place (DEDUCED, log 51). -/
def groupReset (g : Nat) (s : State) : State :=
  let s := forEach (groupLinks g s) (fun l s => dropLink l s) s
  let s := clearSwap g s
  let s := forEach ((List.range 9).map (9 * g + ·)) (fun ix s => untest ix (laneTo ix 0 s)) s
  let on := (groupLinks g s).filter fun l => linkOn l s
  let s := if on.isEmpty then s else groupWake g s
  spareStart g (forEach on (fun l s => fullBringUp l s) s)

end Sys2Proof.Machine
end

