-- ==== Sys2Proof/Machine/Hbm.lean ====
section
/-!
DEFINITION. The HBM3E memory subsystem (chapter 12): address mapping, the controllers, writes and reads, refresh, training,
errors, repair, retirement and the commands of group 0x08.
-/
namespace Sys2Proof.Machine

def setHbm (x : HbmState) (s : State) : State := { s with hbm := x }

/-! Regions (R102). -/

/-- A region: number, base, size. -/
structure Region where
  no : Nat
  base : Nat
  size : Nat
  deriving DecidableEq, Repr

/-- The first byte past the address space (R102). -/
def hbmEnd : Nat := 139500000000

/-- The regions in the order of R102. -/
def regions : List Region :=
  [⟨0, 0x0, 0x1000000000⟩, ⟨1, 0x1000000000, 0x400000000⟩, ⟨2, 0x1400000000, 0x400000000⟩,
   ⟨3, 0x1800000000, 0x80000000⟩, ⟨4, 0x1880000000, 0x100000000⟩, ⟨5, 0x1980000000, 0x40000000⟩,
   ⟨6, 0x19C0000000, 0x200000000⟩, ⟨7, 0x1BC0000000, 0x40000000⟩, ⟨8, 0x1C00000000, 0x40000000⟩,
   ⟨9, 0x1C40000000, 0x40000000⟩, ⟨10, 0x1C80000000, 0x200000000⟩, ⟨11, 0x1E80000000, 0x4000000⟩,
   ⟨12, 0x1E84000000, 8436388608⟩]

def regionOf (a : Nat) : Option Region := regions.find? fun r => decide (r.base ≤ a ∧ a < r.base + r.size)

/-- The base of a region by its number. -/
def regionBase (n : Nat) : Nat := ((regions.find? fun r => r.no == n).map (·.base)).getD 0

def baseTELEMETRY : Nat := 0x1C80000000
def baseHOST : Nat := 0x1E84000000

/-! Address mapping (R342–R345). -/

/-- Orders: 0 RBC, 1 BRC, 2 LINEAR, 3 CH-XOR.  DESIGN CHOICE (log 27): the codes, in the order of R343. -/
def orderOf (h : HbmState) (a : Nat) : Nat :=
  match regionOf a with
  | some r =>
    if r.no = 12 then h.hostOrder
    else if [3, 4, 9, 10, 11].contains r.no then 2 else 3
  | none => h.hostOrder

/-- Where a line lies: stack, logical PC, bank, line in the row, combined row index. -/
structure Place where
  s : Nat
  p : Nat
  b : Nat
  c : Nat
  r : Nat
  deriving DecidableEq, Repr

/-- The digits of an offset within a stripe (R343, R344). -/
def digits (order r o : Nat) : Place :=
  match order with
  | 0 => ⟨o / 256 % 4, o / 1024, o / 16 % 16, o % 16, r⟩
  | 1 => ⟨o / 256 % 4, o / 1024, o % 16, o / 16 % 16, r⟩
  | 2 => ⟨o / 16 % 4, o / 64 % 31, o / 1984, o % 16, r⟩
  | _ => ⟨(o % 4) ^^^ bits r 4 2, (o / 4 % 31 + bits r 6 5) % 31, (o / 124 % 16) ^^^ bits r 0 4, o / 1984, r⟩

/-- The place of a line (R342): a stripe uses the order of the region that holds its first line. -/
def placeOf (h : HbmState) (line : Nat) : Place :=
  let r := line / 31744
  digits (orderOf h (r * 31744 * 64)) r (line % 31744)

/-! Records of the controllers. -/

/-- A PC at reset: PC 31 of each stack is the spare (R341). -/
def pcReset (i : Nat) : Pc := { st := if i % 32 = 31 then .spare else .active }

def getPc (i : Nat) (s : State) : Pc := tget (pcReset i) s.hbm.pc i

def setPc (i : Nat) (x : Pc) (s : State) : State := setHbm { s.hbm with pc := tset (pcReset i) s.hbm.pc i x } s

def getStack (k : Nat) (s : State) : HbmStack := tget {} s.hbm.stack k

def setStack (k : Nat) (x : HbmStack) (s : State) : State := setHbm { s.hbm with stack := tset {} s.hbm.stack k x } s

/-- The physical PC of a logical one (R341, R363). -/
def physPc (stack p : Nat) (s : State) : Nat := 32 * stack + tget p s.hbm.remap (32 * stack + p)

/-- The physical PC of a line. -/
def linePc (line : Nat) (s : State) : Nat := let x := placeOf s.hbm line; physPc x.s x.p s

/-- The bank of a line among the 48 of its PC, and its row: SID, bank (R342). -/
def lineBank (line : Nat) (s : State) : Nat := let x := placeOf s.hbm line; 16 * (x.r / 24576) + x.b

/-! Quality of service (R352–R355). -/

/-- Share of a requester: 0 flow state, 1 telemetry and task spill, 2 refresh, training and host (R352). -/
def shareOf (req : Nat) : Nat := [0, 0, 1, 1, 1, 1, 1, 2, 2, 1, 2, 2].getD req 2

/-- Real-time requesters (R352). -/
def realTime (req : Nat) (s : State) : Bool := req == 0 || (inMode mTIMED s && (req == 6 || req == 7 || req == 8))

/-- A QoS record at reset (R353). -/
def qosDefault (i : Nat) : Bytes := leBytes 1 i ++ [0, 48, 32] ++ leBytes 2 2000 ++ zeros 2

def qosRec (i : Nat) (s : State) : Bytes := tget (qosDefault i) s.hbm.qos i

/-- The requester may panic (R354, R355). -/
def mayPanic (req : Nat) (s : State) : Bool :=
  realTime req s || (bit (fld (qosRec req s) 1 1) 0 && !inMode mTIMED s && !inMode mCOMPAT s)

/-- PANIC follows the number of requests not completed (R354). -/
def panicSync (req : Nat) (s : State) : State :=
  let n := tget 0 s.hbm.outst req
  let on := tget 0 s.hbm.panic req != 0
  if on then
    if n ≤ fld (qosRec req s) 3 1 ∨ !mayPanic req s then setHbm { s.hbm with panic := tset 0 s.hbm.panic req 0 } s else s
  else if mayPanic req s ∧ fld (qosRec req s) 2 1 ≤ n then
    bump .REQ_PANIC req (setHbm { s.hbm with panic := tset 0 s.hbm.panic req 1 } s)
  else s

def outstAdd (req : Nat) (d : Int) (s : State) : State :=
  panicSync req (setHbm { s.hbm with outst := tset 0 s.hbm.outst req (((tget 0 s.hbm.outst req : Nat) : Int) + d).toNat } s)

/-! Requests (R357). -/

/-- A write at a PC: it enters the queue, where it is accepted, or waits at its requester while the queue is full. -/
def writeAt (i : Nat) (q : HbmReq) (s : State) : State :=
  let x := getPc i s
  if x.wq.length < 64 ∧ x.waitW = [] then
    setPc i { x with wq := x.wq ++ [q], drain := x.drain || decide (48 ≤ x.wq.length + 1) } s
  else outstAdd q.req 1 (setPc i { x with waitW := x.waitW ++ [q] } s)

/-- The logical PC that a physical one carries. -/
def logicalPc (i : Nat) (s : State) : Option Nat := (List.range 31).find? fun p => physPc (i / 32) p s == i

/-- The physical PC that mirrors a retiring one. -/
def migrationTarget (k : Nat) (s : State) : Option Nat :=
  (List.range 32).find? fun j => (getPc (32 * k + j) s).st == .migrating && (logicalPc (32 * k + j) s).isNone

/-- The PC that takes the writes of a line beside its own while its logical PC retires (R363). -/
def mirrorOf (line : Nat) (s : State) : Option Nat :=
  let x := placeOf s.hbm line
  match (getStack x.s s).retire with
  | some (p, _) => if p = x.p then (migrationTarget x.s s).map (32 * x.s + ·) else none
  | none => none

/-- Request tags of a PC in use (R357). -/
def tagsUsed (x : Pc) : Nat := x.reads.length + x.issued.length + x.retry.length

/-- An older write of the line waits at its requester: the read waits behind it (R356). -/
def behindWrite (x : Pc) (q : HbmReq) : Bool := x.waitW.any fun w => w.line == q.line

/-- A write of the line is queued: a read of it takes its data from the youngest one (R357). -/
def queuedWrite (x : Pc) (line : Nat) : Bool := x.wq.any fun w => w.line == line

/-- A read at a PC: it takes a request tag, or waits at its requester for one or behind a write (R30, R356, R357). -/
def readAt (i : Nat) (q : HbmReq) (s : State) : State :=
  let x := getPc i s
  let free := decide (tagsUsed x < 64) && !behindWrite x q && x.waitR.all fun r => behindWrite x r
  outstAdd q.req 1 (setPc i (if free then { x with reads := x.reads ++ [q] } else { x with waitR := x.waitR ++ [q] }) s)

/-- A read arrives at a PC: one that hits a queued write is forwarded and costs nothing (R357). -/
def readReq (i : Nat) (q : HbmReq) (s : State) : State :=
  if queuedWrite (getPc i s) q.line then bump .RAW_FWD i s else readAt i q s

/-- A read that waits reaches its PC once a tag is free and no write of its line waits before it: it is compared with the queued
writes, or takes the tag. -/
def wakeRead (i : Nat) (q : HbmReq) (s : State) : State :=
  let x := getPc i s
  if tagsUsed x < 64 ∧ !behindWrite x q then
    let y := { x with waitR := x.waitR.erase q }
    if queuedWrite x q.line then outstAdd q.req (-1) (bump .RAW_FWD i (setPc i y s))
    else setPc i { y with reads := y.reads ++ [q] } s
  else s

/-- A tag or a write is out of the way: the reads that wait follow, oldest first. -/
def freeTag (i : Nat) (s : State) : State := forEach (getPc i s).waitR (wakeRead i) s

/-- Parity of a controller's queue or tags: the request named is requested again by its requester (R366, F107).  `n` is the PC, plus
128 × the number of the request among the reads not issued, the queued writes and the reads issued (DESIGN CHOICE, log 84). -/
def tagLost (n : Nat) (s : State) : State :=
  let i := n % 128
  let x := getPc i s
  match (x.reads ++ x.wq ++ x.issued)[n / 128]? with
  | some q =>
    if q.write then
      let wq := x.wq.erase q
      outstAdd q.req 1 (setPc i { x with wq := wq, drain := x.drain && decide (48 ≤ wq.length), waitW := x.waitW ++ [q] } s)
    else freeTag i (setPc i { x with reads := x.reads.erase q, issued := x.issued.erase q, waitR := x.waitR ++ [q] } s)
  | none => s

/-- A read or write of one line arrives at its PC. -/
def lineReq (req : Nat) (write : Bool) (line : Nat) (s : State) : State :=
  let i := linePc line s
  let q : HbmReq := { req := req, line := line, write := write, at_ := s.time.free }
  let s := bump .REQ_OPS req s
  if write then
    match mirrorOf line s with
    | some j => writeAt j q (writeAt i q s)
    | none => writeAt i q s
  else readReq i q s

/-- The lines that a span of bytes touches. -/
def spanLines (a n : Nat) : List Nat := if n = 0 then [] else (List.range ((a + n - 1) / 64 - a / 64 + 1)).map (a / 64 + ·)

def spanReq (req : Nat) (write : Bool) (a n : Nat) (s : State) : State :=
  forEach (spanLines a n) (fun l s => lineReq req write l s) s

/-- A read of the line by the requester has not returned. -/
def readOut (req line : Nat) (s : State) : Bool :=
  let x := getPc (linePc line s) s
  (x.reads ++ x.waitR ++ x.issued ++ x.retry).any fun q => q.req == req && q.line == line

/-- A write of the line by the requester has not been accepted. -/
def writeOut (req line : Nat) (s : State) : Bool :=
  (getPc (linePc line s) s).waitW.any fun q => q.req == req && q.line == line

/-- A read of some line of a span has not returned. -/
def spanOut (req a n : Nat) (s : State) : Bool := (spanLines a n).any fun l => readOut req l s

/-- Bad symbols of a written unit: a pending injection, else none (R372). -/
def unitWritten (u : Nat) (s : State) : State :=
  match s.mace.injection with
  | some j =>
    if j.struct = injHBM ∧ j.whereAt / 32 = u then
      bump .INJECT_DONE 0 { s with mace := { s.mace with injection := none }, hbm := { s.hbm with bad := tset 0 s.hbm.bad u j.symbols } }
    else setHbm { s.hbm with bad := tdel s.hbm.bad u } s
  | none => if s.hbm.bad.isEmpty then s else setHbm { s.hbm with bad := tdel s.hbm.bad u } s

/-- The contents of a span and of its units change. -/
def hbmPut (a : Nat) (b : Bytes) (s : State) : State :=
  let s := setHbm { s.hbm with mem := memWrite s.hbm.mem a b, hostWritten := s.hbm.hostWritten || decide (baseHOST ≤ a) } s
  forEach ((List.range ((a + b.length + 31) / 32 - a / 32)).map (a / 32 + ·)) unitWritten s

/-- Bytes written by a requester: the contents change, and each line is a write at its PC. -/
def hbmWrite (req a : Nat) (b : Bytes) (s : State) : State := spanReq req true a b.length (hbmPut a b s)

/-- Contents as a read returns them (R357). -/
def hbmPeek (a n : Nat) (s : State) : Bytes := memRead s.hbm.mem a n

/-- A read by a requester. -/
def hbmRead (req a n : Nat) (s : State) : Bytes × State := (hbmPeek a n s, spanReq req false a n s)

/-- HBM_ATOMIC: a read and a write of the line, 2 line operations (R357). -/
def atomicReq (req a n : Nat) (s : State) : State := spanReq req true a n (spanReq req false a n s)

/-- Some unit of the span is uncorrectable (R361, R370). -/
def spanUe (a n : Nat) (s : State) : Bool :=
  s.hbm.bad.any fun p => decide (a / 64 * 64 ≤ p.1 * 32 ∧ p.1 * 32 < a + n) && decide (2 ≤ symCount p.2)

/-- HBM_WRITE_ACCEPT: the oldest waiting write of a PC enters its queue (R357); reads behind it follow. -/
def execHbmWriteAccept (pc : Nat) (s : State) : Host.Outcome State Fault Refusal :=
  .next <|
    let x := getPc pc s
    match x.waitW with
    | q :: rest =>
      if x.wq.length < 64 then
        freeTag pc (outstAdd q.req (-1)
          (setPc pc { x with waitW := rest, wq := x.wq ++ [q], drain := x.drain || decide (48 ≤ x.wq.length + 1) } s))
      else s
    | [] => s

/-! Issue (R348, R351, R356). -/

/-- The quota of a share in G/s at the rate in force (R351). -/
def quota (rate share : Nat) : Nat := (if rate = 2 then [10, 2, 3] else [10, 3, 3]).getD share 0

/-- The free-running counter with the part of the tick that has passed, in ns. -/
def nowNs (s : State) : Nat := s.time.free + s.time.phase

/-- The controller clock at a data rate, in units of 100 MHz. -/
def ctlClock (rate : Nat) : Nat := [12, 10, 8].getD rate 12

/-- The idle timer of a bank has run out: its row is precharged (R348). -/
def bankIdle (x : Pc) (bank : Nat) (s : State) : Bool :=
  decide (10 * x.idleClk ≤ (nowNs s - tget 0 x.last bank) * ctlClock s.hbm.rate)

/-- The request hits the open row of its bank (R348). -/
def rowHit (x : Pc) (q : HbmReq) (s : State) : Bool :=
  let b := lineBank q.line s
  tget? x.open_ b == some (placeOf s.hbm q.line).r && !bankIdle x b s

/-- The age of a request in ns. -/
def age (q : HbmReq) (s : State) : Nat := (s.time.free + 2 ^ 64 - q.at_) % 2 ^ 64

/-- The oldest request of a list. -/
def oldest (s : State) : List HbmReq → Option HbmReq
  | [] => none
  | q :: rest =>
    match oldest s rest with
    | none => some q
    | some r => if age q s < age r s then some r else some q

/-- Urgency of a request under COMPAT (R355). -/
def urgency (q : HbmReq) (s : State) : Nat :=
  if !inMode mCOMPAT s || realTime q.req s then 0
  else
    let t := fld (qosRec q.req s) 4 2
    let a := age q s
    if 2 * a < t then 0 else if 4 * a < 3 * t then 1 else if a < t then 2 else 3

/-- The requests that no older request to the same line stands before (R356). -/
def firstOfLine : List HbmReq → List HbmReq
  | [] => []
  | q :: rest => q :: (firstOfLine rest).filter fun r => r.line != q.line

/-- The best of a list: highest urgency, then row hits, then the oldest (R356 step 4). -/
def bestOf (x : Pc) (s : State) : List HbmReq → Option HbmReq
  | [] => none
  | q :: rest =>
    match bestOf x s rest with
    | none => some q
    | some r =>
      let k (y : HbmReq) : Nat := 2 * urgency y s + b2n (rowHit x y s)
      if k q < k r then some r else some q

/-- Slots used in the current 1 µs window (R351). -/
def usedNow (x : Pc) (s : State) : List Nat := if x.win = s.time.free / 1000 then x.used else [0, 0, 0]

/-- What a share still has of its quota in the window, in units of 1/124 slot (R351). -/
def deficit (x : Pc) (share : Nat) (s : State) : Int :=
  (1000 * quota s.hbm.rate share : Int) - 124 * (usedNow x s).getD share 0

/-- The share has a request at this PC that could issue (R351). -/
def hasWork (x : Pc) (share : Nat) : Bool := (firstOfLine (x.reads ++ x.wq)).any fun q => shareOf q.req == share

/-- The share that lends to a share: telemetry and task spill to flow state, refresh, training and host to telemetry (R351). -/
def lender : Nat → Option Nat
  | 0 => some 1
  | 1 => some 2
  | _ => none

/-- A share has a slot: within its quota, or, beyond it, one of those that its lender has left and leaves idle now (R27,
R351). -/
def hasSlot (x : Pc) (share : Nat) (s : State) : Bool :=
  decide (0 < deficit x share s) ||
    match lender share with
    | some k => !hasWork x k && decide (0 < deficit x share s + max 0 (deficit x k s))
    | none => false

/-- The share may use a slot for one of its requests. -/
def mayIssue (x : Pc) (share : Nat) (s : State) : Bool := hasWork x share && hasSlot x share s

/-- The share that a slot goes to: the furthest below its quota (R356 step 3). -/
def pickShare (x : Pc) (s : State) : Option Nat :=
  ([0, 1, 2].filter fun k => mayIssue x k s).foldl (fun a k =>
    match a with
    | none => some k
    | some j => if deficit x j s < deficit x k s then some k else some j) none

/-- The request that an issue slot takes: the oldest with the panic mark; a write while the queue drains; the best of the
share that the slot goes to, reads before writes; a write in a slot that no share can use (R356, R357). -/
def pickReq (x : Pc) (s : State) : Option HbmReq :=
  let all := firstOfLine (x.reads ++ x.wq)
  let write := all.find? (·.write)
  match oldest s (all.filter fun q => tget 0 s.hbm.panic q.req != 0) with
  | some q => some q
  | none =>
    if x.drain && write.isSome then write
    else
      match pickShare x s with
      | some k =>
        let mine := all.filter fun q => shareOf q.req == k
        match bestOf x s (mine.filter fun q => !q.write) with
        | some q => some q
        | none => bestOf x s (mine.filter (·.write))
      | none => write

/-- One line operation of a PC: its bank's row and idle timer, the slot charged to the requester's share, the counters (R348, R351,
R366). -/
def access (i : Nat) (q : HbmReq) (s : State) : State :=
  let x := getPc i s
  let hit := rowHit x q s
  let sh := shareOf q.req
  let u := usedNow x s
  let borrow := decide (deficit x sh s ≤ 0)
  let bank := lineBank q.line s
  let s := setPc i { x with
    open_ := if x.idleClk = 0 then tdel x.open_ bank else tput x.open_ bank (placeOf s.hbm q.line).r,
    last := tput x.last bank (nowNs s), win := s.time.free / 1000, used := u.set sh (u.getD sh 0 + 1) } s
  let s := bump (if hit then .ROW_HIT else .ROW_MISS) i (bump (if q.write then .LINE_WR else .LINE_RD) i s)
  let s := bump .SHARE_OPS sh s
  let s := if borrow then bump .SHARE_BORROW sh s else s
  if tget 0 s.hbm.panic q.req != 0 then bump .PANIC_ISSUE i s else s

/-- One request issued: a read waits for its data, a write is done. -/
def issue (i : Nat) (q : HbmReq) (s : State) : State :=
  let x := getPc i s
  let wq := x.wq.erase q
  access i q (setPc i { x with reads := x.reads.erase q, wq := wq, drain := x.drain && decide (48 ≤ wq.length),
                               issued := if q.write then x.issued else x.issued ++ [q] } s)

/-- HBM_ISSUE_SLOT: a PC controller chooses and issues one request; while the stacks are stopped, none (R356, R359). -/
def execHbmIssueSlot (pc : Nat) (s : State) : Host.Outcome State Fault Refusal :=
  .next <|
    if s.hbm.stopped then s
    else
      let s := fastClock s
      match pickReq (getPc pc s) s with
      | some q => issue pc q s
      | none => s

/-- HBM_REFRESH_SLOT: a per-bank refresh is postponed behind panic requests and row hits up to 8 times, the ninth is issued
(R349); it closes its bank's row (R348). -/
def execHbmRefreshSlot (pc : Nat) (s : State) : Host.Outcome State Fault Refusal :=
  .next <|
    let x := getPc pc s
    let behind := (x.reads ++ x.wq).any fun q => tget 0 s.hbm.panic q.req != 0 || rowHit x q s
    if s.hbm.stopped then s
    else if behind && decide (x.owed < 8) then setPc pc { x with owed := x.owed + 1 } s
    else
      let n := if behind then 1 else x.owed + 1
      addCtr .REFRESH pc n
        (setPc pc { x with owed := if behind then x.owed else 0, refBank := (x.refBank + n) % 48,
                           open_ := x.open_.filter fun p => !(decide ((p.1 + 48 - x.refBank) % 48 < n)) } s)

/-! Retirement (R363, R364). -/

/-- The spare PC of a stack. -/
def spareIn (k : Nat) (s : State) : Option Nat := (List.range 32).find? fun j => (getPc (32 * k + j) s).st == .spare

/-- The PC is being retired, or is RETIRED (R363). -/
def retiring (i : Nat) (s : State) : Bool :=
  (getPc i s).st == .retired || (getStack (i / 32) s).retire.any fun x => physPc (i / 32) x.1 s == i

/-- A PC needs retirement: it starts, or F105 records that its stack has no spare (R363, R364); for a PC whose retirement runs or has
ended nothing more is done. -/
def retirePc (i : Nat) (s : State) : State :=
  let k := i / 32
  if retiring i s then s else
  match spareIn k s, logicalPc i s with
  | some j, some p =>
    if (getStack k s).retire.isSome then s
    else
      let s := setPc (32 * k + j) { getPc (32 * k + j) s with st := .migrating } s
      let s := setPc i { getPc i s with st := .migrating } s
      raise 103 i 0 (bump .PC_RETIRE 0 (setStack k { getStack k s with retire := some (p, 0) } s))
  | _, _ => raise 105 i 0 s

/-- A lane, or the spare that carries it, is repaired onto a spare lane and judged anew, or the spares are used up and the PC is retired
(R362). -/
def repairLane (i lane : Nat) (s : State) : State :=
  let x := getPc i s
  let y := { x with charge := tdel x.charge lane, low := tdel x.low lane }
  if x.repairs.length < 2 then
    raise 101 i 0 (bump .SPARE_SWAP 4 <| bump .LANE_REPAIR i (setPc i { y with repairs := x.repairs ++ [lane] } s))
  else retirePc i (raise 102 i 0 (setPc i y s))

/-- Line `j` of a logical PC in stripe `r`: 16 banks of 16 lines, by the digits of the stripe's order (R342–R344). -/
def stripeLine (stack p r j : Nat) (s : State) : Nat :=
  let b := j / 16 % 16
  let k := j % 16
  31744 * r + match orderOf s.hbm (r * 31744 * 64) with
    | 0 => 1024 * p + 256 * stack + 16 * b + k
    | 1 => 1024 * p + 256 * stack + 16 * k + b
    | 2 => 1984 * b + 64 * p + 16 * stack + k
    | _ => 1984 * k + 124 * (b ^^^ bits r 0 4) + 4 * ((p + 31 - bits r 6 5 % 31) % 31) + (stack ^^^ bits r 4 2)

/-- The lines of a logical PC in the last stripe, which is partial: those that exist (R346). -/
def lastLines (stack p : Nat) (s : State) : List Nat :=
  ((List.range 256).map fun j => stripeLine stack p 68664 j s).filter fun l => decide (l < 2179687500)

/-- How many lines a logical PC has: 17,578,125 where the order spreads the last stripe evenly (R346, R363; log 27). -/
def pcLines (stack p : Nat) (s : State) : Nat := 17577984 + (lastLines stack p s).length

/-- Line `c` of a logical PC in ascending local order (R363). -/
def pcLine (stack p c : Nat) (s : State) : Nat :=
  if c < 17577984 then stripeLine stack p (c / 256) (c % 256) s else (lastLines stack p s).getD (c - 17577984) 0

/-- PC_MIGRATION_COPY: the cursor moves one line, a read at the old PC and a write at the spare, both of requester 11 (R352,
R363). -/
def execPcMigrationCopy (stack : Nat) (s : State) : Host.Outcome State Fault Refusal :=
  .next <|
    let x := getStack stack s
    match x.retire, migrationTarget stack s with
    | some (p, c), some j =>
      if c < pcLines stack p s ∧ !s.hbm.stopped then
        let q : HbmReq := { req := 11, line := pcLine stack p c s, write := false, at_ := s.time.free }
        let s := addCtr .REQ_OPS 11 2 (setStack stack { x with retire := some (p, c + 1) } s)
        writeAt (32 * stack + j) { q with write := true } (readReq (physPc stack p s) q s)
      else s
    | _, _ => s

/-- The write queue of a PC has drained. -/
def queueEmpty (i : Nat) (s : State) : Bool := (getPc i s).wq.isEmpty && (getPc i s).waitW.isEmpty

/-- PC_REMAP: the cursor has ended and both write queues have drained; the remap entry names the spare and the old PC is
RETIRED; F104 (R363). -/
def execPcRemap (stack : Nat) (s : State) : Host.Outcome State Fault Refusal :=
  .next <|
    let x := getStack stack s
    match x.retire, migrationTarget stack s with
    | some (p, c), some j =>
      let i := physPc stack p s
      if c = pcLines stack p s ∧ queueEmpty i s ∧ queueEmpty (32 * stack + j) s then
        let s := setPc i { getPc i s with st := .retired } s
        let s := setPc (32 * stack + j) { getPc (32 * stack + j) s with st := .active } s
        let s := setHbm { s.hbm with remap := tset p s.hbm.remap (32 * stack + p) j } s
        let s := spareDone 4 i (otpAppend 5 stack i (32 * stack + j) s)
        raise 104 i 0 (setStack stack { getStack stack s with retire := none } s)
      else s
    | _, _ => s

/-! Errors (R361, R362). -/

/-- A corrected symbol charged to its lane; 256 within 1 s repair the lane (R361, R362). -/
def chargeLane (i lane : Nat) (s : State) : State :=
  let x := getPc i s
  let ts := s.time.free :: (tget [] x.charge lane).filter fun t => decide ((s.time.free + 2 ^ 64 - t) % 2 ^ 64 ≤ 1000000000)
  let s := setPc i { x with charge := tset [] x.charge lane ts } s
  if 256 ≤ ts.length then repairLane i lane s else s

/-- A line with a correctable unit: HBM_CE, F096, and the lane of each symbol is charged (R361). -/
def correctLine (i line : Nat) (s : State) : State :=
  forEach [2 * line, 2 * line + 1] (fun u s =>
    let m := tget 0 s.hbm.bad u
    if symCount m = 1 then
      chargeLane i (((List.range 36).find? fun k => bit m k).getD 0) (raise 96 i 0 (bump .HBM_CE i s))
    else s) s

/-- The requester of an instance: a graph that SPAWN or the host has started is charged as a host's, whatever its kind (R143). -/
def ctxReq (x : Ctx) : Nat := if x.spawned then 2 else if x.kind = 1 then 0 else if x.kind = 2 then 1 else 2

/-- The requester of a line operation of a node: the service caches' in the regions of the services (R143, R165). -/
def nodeReq (x : Ctx) (a : Nat) : Nat :=
  match regionOf a with
  | some g => if [6, 7, 8, 10].contains g.no then 4 else ctxReq x
  | none => ctxReq x

/-- Some HBM read of an instance is being retried (R155). -/
def retrying (x : Ctx) (s : State) : Bool :=
  x.ret.any fun p => p.2.reads.any fun l =>
    (getPc (linePc l s) s).retry.any fun q => q.req == nodeReq x (64 * l) && q.line == l

/-- The timer of an instance pauses while a read of it is being retried (R155). -/
def pauseTimer (s : State) (x : Ctx) : Ctx :=
  match x.pausedAt with
  | none => if retrying x s then { x with pausedAt := some s.time.free } else x
  | some t => if retrying x s then x else { x with pausedAt := none, pausedNs := x.pausedNs + (s.time.free - t) }

/-- The timers of every instance follow the retries. -/
def pauseTimers (s : State) : State :=
  { s with task := { s.task with ctx := s.task.ctx.map fun p => (p.1, pauseTimer s p.2) } }

/-- Some unit of a line has one bad symbol. -/
def correctable (line : Nat) (s : State) : Bool :=
  [2 * line, 2 * line + 1].any fun u => symCount (tget 0 s.hbm.bad u) == 1

/-- A read ends with data that are good or corrected; the patrol scrub and the copy write a corrected line back (R361). -/
def readEnds (pc : Nat) (q : HbmReq) (s : State) : State :=
  let c := correctable q.line s
  let s := freeTag pc (correctLine pc q.line (outstAdd q.req (-1) s))
  if q.req = 11 ∧ c then
    lineReq 11 true q.line (setHbm { s.hbm with bad := tdel (tdel s.hbm.bad (2 * q.line)) (2 * q.line + 1) } s)
  else s

/-- HBM_READ_RETURN: the oldest read that was issued returns; an uncorrectable line is read again (R361). -/
def execHbmReadReturn (pc : Nat) (s : State) : Host.Outcome State Fault Refusal :=
  .next <|
    let x := getPc pc s
    match x.issued with
    | q :: rest =>
      if spanUe (64 * q.line) 64 s then pauseTimers (setPc pc { x with issued := rest, retry := x.retry ++ [q] } s)
      else readEnds pc q (setPc pc { x with issued := rest } s)
    | [] => s

/-- HBM_READ_RETRY: the line is read again in a slot of its requester's share, up to 3 times; then HBM_UE, and F097 records the PC and
row (R351, R361).  While the stacks are stopped, or its share has no slot and it has no panic mark, it waits (R356, R359). -/
def execHbmReadRetry (pc : Nat) (s : State) : Host.Outcome State Fault Refusal :=
  .next <|
    if s.hbm.stopped then s else
    let s := fastClock s
    match (getPc pc s).retry with
    | q :: rest =>
      if !(hasSlot (getPc pc s) (shareOf q.req) s || tget 0 s.hbm.panic q.req != 0) then s else
      let s := access pc q s
      let x := getPc pc s
      if !spanUe (64 * q.line) 64 s then pauseTimers (readEnds pc q (setPc pc { x with retry := rest } s))
      else if q.tries + 1 < 3 then setPc pc { x with retry := { q with tries := q.tries + 1 } :: rest } s
      else
        pauseTimers (raise 97 (pc + 128 * (placeOf s.hbm q.line).r) 0
          (bump .HBM_UE pc (freeTag pc (outstAdd q.req (-1) (setPc pc { x with retry := rest } s)))))
    | [] => s

/-- PATROL_SCRUB: the next line is read, as a request of requester 11 (R352, R361); what it finds follows as its data return. -/
def execPatrolScrub (s : State) : Host.Outcome State Fault Refusal :=
  .next <|
    if s.hbm.stopped then s
    else
      let l := s.hbm.scrubLine
      lineReq 11 false l (setHbm { s.hbm with scrubLine := (l + 1) % 2179687500 } s)

/-! Training and temperature (R350, R358–R360). -/

/-- The delays of a PC as a visit moves them: each by at most one step, a free choice of the measurement (R358, log 2). -/
def movedDelays (v : Nat) (d : List (Int × Int)) : List (Int × Int) :=
  (List.range 38).map fun k =>
    let (a, b) := d.getD k (0, 0)
    (a + (v / 9 ^ k % 3 : Nat) - 1, b + (v / (3 * 9 ^ k) % 3 : Nat) - 1)

/-- RETRAINING_VISIT of a physical PC with the margins measured by lane: a lane below MARGIN_FLOOR for the third time keeps its last
good delays and is repaired (R358). -/
def execRetrainingVisit (pc : Nat) (margins : Bytes) (s : State) : Host.Outcome State Fault Refusal :=
  .next <|
    if s.hbm.stopped then s
    else
      let x := getPc pc s
      let moved := movedDelays (freeVal s) x.delay
      let below := (List.range 38).filter fun k => decide (k < margins.length ∧ fld margins k 1 < s.hbm.floor)
      let low := below.foldl (fun t k => tput t k (min (tget 0 x.low k + 1) 3)) []
      let good := (List.range 38).map fun k => if below.contains k then x.good.getD k (0, 0) else moved.getD k (0, 0)
      let delay := (List.range 38).map fun k => if tget 0 low k = 3 then good.getD k (0, 0) else moved.getD k (0, 0)
      let s := setPc pc { x with margins := margins.take 38, low := low, delay := delay, good := good } (tookFree s)
      forEach (below.filter fun k => tget 0 x.low k == 2) (fun k s => repairLane pc k (raise 100 pc 0 s)) s

/-- TEMPERATURE_POLL of a stack: a reading in 0.1 °C, or a failed one (R350). -/
def execTemperaturePoll (stack : Nat) (reading : Option Int) (s : State) : Host.Outcome State Fault Refusal :=
  .next <|
    let x := getStack stack s
    match reading with
    | none =>
      setStack stack { x with fails := min (x.fails + 1) 3, doubled := x.doubled || decide (3 ≤ x.fails + 1) } s
    | some t =>
      let d := if 850 < t then true else if t < 800 then false else x.doubled
      let s := setStack stack { x with temp := t, fails := 0, doubled := d } s
      let s := if 850 < t then raise 98 stack 0 s else s
      if 950 ≤ t then raise 99 stack 0 s else s

/-- FRUGAL in force, TIMED and ASSURED clear (R360), and no drained commit raises the rate (R481). -/
def slowHbm (s : State) : Bool :=
  inMode mFRUGAL s && !inMode mTIMED s && !inMode mASSURED s && s.ep.commit != .waitRate

/-- The rate that holds (R360). -/
def wantedRate (s : State) : Nat := if slowHbm s then 2 else s.hbm.setRate

/-- A rate change begins: issue stops and T0–T5 run; a change while the stacks are stopped is held, and a second one
replaces it (R360). -/
def startRate (s : State) : State :=
  if wantedRate s = s.hbm.rate ∧ s.hbm.target = none then s
  else setHbm { s.hbm with target := some (wantedRate s), stopped := true } s

/-- T5 ends at the new rate, issue resumes and the commands that waited are answered (R360); a drained commit that waited
for the rate stops ingress (R481). -/
def rateDone (s : State) : State :=
  match s.hbm.target with
  | some t =>
    let ws := s.hbm.waiting
    let s := bump .MEM_FREQ_CHANGE 0 (setHbm { s.hbm with rate := t, target := none, stopped := false, waiting := [] } s)
    let s := forEach ws (fun m s => finishRunning m (fun s => yOk [] s) s) s
    if s.ep.commit = .waitRate then { s with ep := { s.ep with commit := .draining } } else s
  | none => s

/-- A PC that cannot complete T1–T4: retired if its stack has a spare, without migration while memory holds nothing yet;
else F106, and the PC is FAILED (R359). -/
def trainFail (i : Nat) (s : State) : State :=
  let k := i / 32
  match spareIn k s, logicalPc i s with
  | some j, some p =>
    if s.pwr.trained then retirePc i s
    else
      let s := setPc i { getPc i s with st := .retired } s
      let s := setPc (32 * k + j) { getPc (32 * k + j) s with st := .active } s
      let s := setHbm { s.hbm with remap := tset p s.hbm.remap (32 * k + p) j } s
      bump .PC_RETIRE 0 (spareDone 4 i (otpAppend 5 k i (32 * k + j) s))
  | _, _ => raise 106 i 0 (setPc i { getPc i s with st := .failed } s)

/-- Margin of a lane as T3 to T5 measure it: below MARGIN_FLOOR for a lane that fails T5, else not; which one is free (R359,
log 2). -/
def t5Margin (floor : Nat) (fails : Bool) (v : Nat) : Byte :=
  BitVec.ofNat 8 (if fails then v % floor else floor + v % (101 - floor))

/-- T0–T5 of a PC: delays and margins measured anew, free values that agree with the lanes that fail T5 (R359); none of the old rate
is kept (R360). -/
def trainPc (lanes : List (Nat × Nat)) (i : Nat) (s : State) : State :=
  let v := freeVal s
  let d : List (Int × Int) := (List.range 38).map fun k => ((v / 2 ^ (24 * k) % 256 : Nat), (v / 2 ^ (24 * k + 8) % 256 : Nat))
  setPc i { getPc i s with
    margins := (List.range 38).map fun k => t5Margin s.hbm.floor (lanes.contains (i, k)) (v / 2 ^ (24 * k + 16) % 256),
    low := [], delay := d, good := d } (tookFree s)

/-- What full training finds: the PCs that fail T1–T4, and the lanes that fail T5, as PC and lane (R359, R362). -/
def trainResult (failed : List Nat) (lanes : List (Nat × Nat)) (s : State) : State :=
  let s := forEach ((List.range 128).filter fun i => !failed.contains i) (trainPc lanes) s
  forEach lanes (fun x s => repairLane x.1 x.2 s) (forEach failed trainFail s)

/-- FREQUENCY_CHANGE_DONE: a change waits for the end of standby (R360, R442). -/
def execFrequencyChangeDone (failed : List Nat) (lanes : List (Nat × Nat)) (s : State) :
    Host.Outcome State Fault Refusal :=
  .next (if s.pwr.standby = .inStandby ∨ s.pwr.standby = .leaving ∨ s.hbm.target = none then s
    else rateDone (trainResult failed lanes s))

/-! Commands (R413). -/

/-- Names of the PC states. -/
def pcCode : PcState → Nat
  | .active => 0
  | .spare => 1
  | .migrating => 2
  | .retired => 3
  | .failed => 4

/-- MEM_STATUS (0x0801).  DESIGN CHOICE (log 27): the property names; logical slot 31 for a PC with none. -/
def memStatusBody (s : State) : Bytes :=
  let pcs := List.range 128
  propList [pArr "PC_STATE" 8 (pcs.map fun i => pcCode (getPc i s).st),
    pArr "PC_LOGICAL" 1 (pcs.map fun i => (logicalPc i s).getD 31),
    pArr "PC_REPAIRS" 8 (pcs.map fun i => (getPc i s).repairs.length),
    pArr "PC_MARGIN" 1 (pcs.map fun i => ((getPc i s).margins.map (·.toNat)).foldl min 255),
    property "TEMP" 1 2 (((List.range 4).map fun k => leBytes 2 ((getStack k s).temp % (65536 : Nat)).toNat).flatten),
    pArr "REFRESH_DOUBLED" 8 ((List.range 4).map fun k => b2n (getStack k s).doubled), pNum "RATE" 1 s.hbm.rate]

def execMemStatus (r : YcpReq) (s : State) : Host.Outcome State Fault Refusal :=
  ycp 0x0801 r (emptyBody fun s => yRead (memStatusBody s) s) s

/-- MEM_MAP (0x0802): sets the order of HOST; 0xFF reads only; BUSY once a write has reached HOST (R345). -/
def execMemMap (r : YcpReq) (s : State) : Host.Outcome State Fault Refusal :=
  ycp 0x0802 r (formO 4 [] fun b s =>
    let v := fld b 0 4
    let body (s : State) : Bytes :=
      propList [pArr "ORDER" 1 (regions.map fun g => orderOf s.hbm g.base)]
    if v = 0xFF then yRead (body s) s
    else
      need (decide (v ≤ 3)) stRANGE s <|
      need (!s.hbm.hostWritten) stBUSY s <|
      let s' := setHbm { s.hbm with hostOrder := v } s
      yOk (body s') s') s

def pageCheck (_ : State) (i : Nat) (b : Bytes) : Nat := if 128 ≤ i ∨ 255 < fld b 0 4 then stRANGE else stOK

def pageApply (i : Nat) (b : Bytes) (s : State) : State := setPc i { getPc i s with idleClk := fld b 0 4 } s

/-- MEM_PAGE_SET (0x0803): IDLE_CLK per PC (R348). -/
def execMemPageSet (r : YcpReq) (s : State) : Host.Outcome State Fault Refusal :=
  ycp 0x0803 r (formL (fun _ => 4) pageCheck pageApply) s

/-- The QoS record. -/
def qosLayout : Layout where
  size := 8
  resv := [(9, 7), (48, 16)]
  rng := [(16, 8, 1, 64), (32, 16, 50, 65535)]

def qosCheck (_ : State) (i : Nat) (b : Bytes) : Nat :=
  if !qosLayout.clean b ∨ fld b 0 1 ≠ i then stINVALID
  else if 12 ≤ i ∨ !qosLayout.inRange b ∨ fld b 2 1 ≤ fld b 3 1 then stRANGE
  else stOK

def qosApply (i : Nat) (b : Bytes) (s : State) : State :=
  panicSync i (setHbm { s.hbm with qos := tset (qosDefault i) s.hbm.qos i b } s)

/-- MEM_QOS_SET (0x0804) (R353). -/
def execMemQosSet (r : YcpReq) (s : State) : Host.Outcome State Fault Refusal :=
  ycp 0x0804 r (formL (fun _ => 8) qosCheck qosApply) s

/-- MEM_TRAIN (0x0805): MARGIN_FLOOR (R358). -/
def execMemTrain (r : YcpReq) (s : State) : Host.Outcome State Fault Refusal :=
  ycp 0x0805 r (formO 4 [] fun b s =>
    need (decide (5 ≤ fld b 0 4 ∧ fld b 0 4 ≤ 40)) stRANGE s <|
    yOk [] (setHbm { s.hbm with floor := fld b 0 4 } s)) s

/-- MEM_FREQ_SET (0x0806): the response is sent when T5 ends; under the condition of R360 the rate is only recorded. -/
def memFreqSetH : YHandler := fun r => formO 4 [] (fun b s =>
  need (decide (fld b 0 4 ≤ 2)) stRANGE s <|
  let s := setHbm { s.hbm with setRate := fld b 0 4 } s
  if slowHbm s ∨ (wantedRate s = s.hbm.rate ∧ s.hbm.target = none) then yOk [] s
  else
    let s := startRate s
    { yOk [] (setHbm { s.hbm with waiting := s.hbm.waiting ++ [r.mbx] } s) with wait := true }) r

def execMemFreqSet (r : YcpReq) (s : State) : Host.Outcome State Fault Refusal := ycp 0x0806 r memFreqSetH s

/-- MEM_REPAIR (0x0807): BUSY while a retirement runs in the stack, NOSPACE without a spare (R363). -/
def execMemRepair (r : YcpReq) (s : State) : Host.Outcome State Fault Refusal :=
  ycp 0x0807 r (formO 4 [(2, 2)] fun b s =>
    let k := fld b 0 1
    let i := 32 * k + fld b 1 1
    need (decide (k < 4 ∧ fld b 1 1 < 32)) stRANGE s <|
    need (getStack k s).retire.isNone stBUSY s <|
    need (spareIn k s).isSome stNOSPACE s <|
    need (logicalPc i s).isSome stNOT_FOUND s <|
    yOk [] (retirePc i s)) s

/-- MEM_ACCESS (0x0808): reads any region, writes HOST only (R413). -/
def memAccessH : YHandler := fun _ b rm s =>
  let op := fld b 0 4
  let n := fld b 4 4
  let a := fld b 8 8
  need (decide (b.length < 4) || op == 1 || op == 2) stINVALID s <|
  need (decide (16 ≤ b.length) && b.length == (if op = 2 then 16 + n else 16) && decide (op = 2 ∨ n ≤ rm)) stLENGTH s <|
  need (decide (op ≠ 2 ∨ (baseHOST ≤ a ∧ a < hbmEnd))) stDENIED s <|
  need (decide (n ≤ 4016 ∧ a + n ≤ hbmEnd)) stRANGE s <|
  if op = 1 then
    if spanUe a n s then yFail stFAULTED (spanReq 10 false a n s)
    else let (d, s) := hbmRead 10 a n s; yRead d s
  else yOk [] (hbmWrite 10 a (slice b 16 n) s)

def execMemAccess (r : YcpReq) (s : State) : Host.Outcome State Fault Refusal := ycp 0x0808 r memAccessH s
def execMemAccessWrite (r : YcpReq) (s : State) : Host.Outcome State Fault Refusal := ycp 0x0808 r memAccessH s

/-- MEM_COUNTERS (0x0809): the ten counters of a physical PC, 8 bytes each (R366, log 27). -/
def pcCounters (s : State) (i : Nat) : Bytes :=
  (([Ctr.LINE_RD, .LINE_WR, .ROW_HIT, .ROW_MISS, .RAW_FWD, .PANIC_ISSUE, .REFRESH, .HBM_CE, .HBM_UE, .LANE_REPAIR].map
    fun c => leBytes 8 (getCtr c i s))).flatten

def execMemCounters (r : YcpReq) (s : State) : Host.Outcome State Fault Refusal :=
  ycp 0x0809 r (formS 128 80 pcCounters) s

/-- MEM_SCRUB_SET (0x080A): SCRUB_PERIOD in hours (R361). -/
def execMemScrubSet (r : YcpReq) (s : State) : Host.Outcome State Fault Refusal :=
  ycp 0x080A r (formO 4 [] fun b s =>
    need (decide (1 ≤ fld b 0 4 ∧ fld b 0 4 ≤ 168)) stRANGE s <|
    yOk [] (setHbm { s.hbm with scrubHours := fld b 0 4 } s)) s

end Sys2Proof.Machine
end

