-- ==== Sys2Proof/Machine/Buf.lean ====
section
/-!
DEFINITION. The commands of the buffer and the switch core: group 0x031x (R236, R237, R249, R259, R260, R411).
-/
namespace Sys2Proof.Machine

/-! BUF_POOL_SET (R236, R237). -/

/-- The pool record. -/
def poolLayout : Layout where
  size := 32
  resv := [(3, 5), (8, 24)]
  rng := [(192, 32, 0, 65535)]

/-- COUNT is read-only for pools 1, 4 and 5 (R237). -/
def poolFixed (k : Nat) : Bool := k == poolHEADROOM || k == poolFDESC || k == poolCDESC

/-- The COUNT that a record asks for. -/
def poolCountOf (k : Nat) (b : Bytes) (s : State) : Nat := if poolFixed k then (getPool k s).count else fld b 4 4

/-- SHARED balances the others (R236): a COUNT for SHARED other than the one it has is out of range (log 25). -/
def bufPoolCheck (s : State) (i : Nat) (b : Bytes) : Nat :=
  let c := poolCountOf i b s
  if !poolLayout.clean b ∨ bits (fld b 0 1) 0 3 ≠ i ∨ i = 6 ∨ i = 7 then stINVALID
  else if 8 ≤ i ∨ !poolLayout.inRange b ∨ ¬ (fld b 20 4 ≤ fld b 16 4 ∧ fld b 16 4 ≤ fld b 12 4 ∧ fld b 12 4 ≤ fld b 8 4 ∧
      fld b 8 4 ≤ c) ∨ (i = poolSHARED ∧ c ≠ (getPool poolSHARED s).count) then stRANGE
  else if (i = poolBOUNDED ∨ i = poolHOST) ∧ !resizeFits i c s then stNOSPACE
  else stOK

def bufPoolApply (k : Nat) (b : Bytes) (s : State) : State :=
  let c := poolCountOf k b s
  let s := if k = poolBOUNDED ∨ k = poolHOST then resizePool k c s else s
  let p := getPool k s
  bufSync (levelSync k (setPool k { p with warn := some (fld b 8 4), press := some (fld b 12 4), sev := some (fld b 16 4),
                                           exh := fld b 20 4, hyst := fld b 24 4 } s))

def execBufPoolSet (r : YcpReq) (s : State) : Host.Outcome State Fault Refusal :=
  ycp 0x0310 r (formLX (fun _ => 32) bufPoolCheck bufPoolApply
    (fun _ s' => if poolsFit s' then stOK else stNOSPACE)) s

/-! BUF_CLASS_SET (R249). -/

def classLayout : Layout where
  size := 16
  resv := [(4, 4), (13, 3), (96, 32)]
  rng := [(0, 4, 0, 9), (10, 3, 0, 6), (32, 32, 10, 1000000)]

def bufClassCheck (_ : State) (i : Nat) (b : Bytes) : Nat :=
  if !classLayout.clean b then stINVALID
  else if 16 ≤ i ∨ !classLayout.inRange b ∨ fld b 8 4 < 10 ∨ fld b 4 4 < fld b 8 4 then stRANGE
  else stOK

def bufClassApply (i : Nat) (b : Bytes) (s : State) : State :=
  bufSync (setBuf { s.buf with cls := tset classDefault s.buf.cls i b } s)

def execBufClassSet (r : YcpReq) (s : State) : Host.Outcome State Fault Refusal :=
  ycp 0x0311 r (formL (fun _ => 16) bufClassCheck bufClassApply) s

/-! PORT_BUF_SET (R260). -/

def portBufLayout : Layout where
  size := 24
  resv := [(2, 6), (11, 5), (144, 48)]
  rng := [(80, 16, 0, 10000), (112, 16, 64, 10240)]

def portBufCheck (s : State) (i : Nat) (b : Bytes) : Nat :=
  let pk := fld b 8 2
  if !portBufLayout.clean b ∨ (i < 64 ∧ portUnused i s) then stINVALID
  else if 64 ≤ i ∨ !portBufLayout.inRange b ∨ ¬ (pk = 0 ∨ (10 ≤ pk ∧ pk ≤ 1000)) then stRANGE
  else stOK

/-- The record is stored, and the HEADROOM allotments follow it (R236, R254). -/
def portBufApply (p : Nat) (b : Bytes) (s : State) : State :=
  let h := portHeadroom p s
  let s := setBuf { s.buf with port := tset portBufDefault s.buf.port p b } s
  bufSync (headroomSync h (portHeadroom p s) s)

def execPortBufSet (r : YcpReq) (s : State) : Host.Outcome State Fault Refusal :=
  ycp 0x0312 r (formLX (fun _ => 24) portBufCheck portBufApply
    (fun _ s' => if poolsFit s' then stOK else stNOSPACE)) s

/-! MC_GROUP_SET and MIRROR_SESSION_SET (R259, R411). -/

def groupLayout : Layout where
  size := 16
  resv := [(66, 6), (72, 56)]

def groupCheck (_ : State) (i : Nat) (b : Bytes) : Nat :=
  if !groupLayout.clean b then stINVALID else if 16384 ≤ i then stRANGE else stOK

/-- A write makes a group that failed parity good again (R259). -/
def groupApply (i : Nat) (b : Bytes) (s : State) : State :=
  setBuf { s.buf with group := tset (zeros 16) s.buf.group i b, groupBad := tdel s.buf.groupBad i } s

def execMcGroupSet (r : YcpReq) (s : State) : Host.Outcome State Fault Refusal :=
  ycp 0x0314 r (formL (fun _ => 16) groupCheck groupApply) s

def sessionLayout : Layout where
  size := 8
  resv := [(6, 2), (12, 3), (16, 48)]

def sessionCheck (s : State) (i : Nat) (b : Bytes) : Nat :=
  if !sessionLayout.clean b ∨ portUnused (bits (fld b 0 2) 0 6) s then stINVALID else if 16 ≤ i then stRANGE else stOK

def sessionApply (i : Nat) (b : Bytes) (s : State) : State :=
  setBuf { s.buf with session := tset (zeros 8) s.buf.session i b } s

def execMirrorSessionSet (r : YcpReq) (s : State) : Host.Outcome State Fault Refusal :=
  ycp 0x0315 r (formL (fun _ => 8) sessionCheck sessionApply) s

/-! Status.  DESIGN CHOICE (log 25): the property names of BUF_STATUS and the 24-byte record of QUEUE_STATUS. -/

/-- The pool record as BUF_STATUS returns it (R237). -/
def poolRecord (k : Nat) (s : State) : Bytes :=
  let p := getPool k s
  leBytes 1 k ++ zeros 3 ++ leBytes 4 p.count ++ leBytes 4 (levelValue p 0) ++ leBytes 4 (levelValue p 1) ++
  leBytes 4 (levelValue p 2) ++ leBytes 4 p.exh ++ leBytes 4 p.hyst ++ leBytes 4 (freeCount p)

def bufStatusBody (s : State) : Bytes :=
  propList [pStr "POOLS" (((List.range 6).map fun k => poolRecord k s).flatten),
    pArr "LEVELS" 8 ((List.range 6).map fun k => (getPool k s).levels),
    pArr "HEADROOM_USE" 8 ((List.range (lastUsed 512 fun i => hrUsed i s)).map fun i => hrUsed i s), pNum "RESIDUE" 8 s.buf.residue.length]

def execBufStatus (r : YcpReq) (s : State) : Host.Outcome State Fault Refusal :=
  ycp 0x0316 r (emptyBody fun s => yRead (bufStatusBody s) s) s

/-- DEPTH (4), LIMIT (4), source map (9), state (1): bit 0 congested, 1 parked; 0 (6). -/
def queueStatus (s : State) (q : Nat) : Bytes :=
  let x := queueSynced q s (getQueue q s)
  let parked := match queuePort q s with
    | some p => inMask s.buf.parked p
    | none => false
  leBytes 4 x.depth ++ leBytes 4 (queueLimit (queueClass q s) s) ++ leBytes 9 x.srcMap ++
  leBytes 1 (b2n x.congested + 2 * b2n parked) ++ zeros 6

def execQueueStatus (r : YcpReq) (s : State) : Host.Outcome State Fault Refusal :=
  ycp 0x0317 r (formS 132096 24 queueStatus) s

end Sys2Proof.Machine
end

