-- ==== Sys2Proof/Machine/Gates.lean ====
section
/-!
DEFINITION. Time gates and launch records (R279–R288): the gate lists, their adoption, and when a frame fits.
-/
namespace Sys2Proof.Machine

/-! D_TX and wire time (R278, R282, R324). -/

/-- D_TX in tenths of a ns: 53.3 ns plus the transmit latency (R324). -/
def dTx (p : Nat) (s : State) : Nat :=
  let r := portRec p s
  533 + match recRate r, recFec r with
    | 0, _ => 600
    | 1, _ => 800
    | 2, _ => 1200
    | 3, 1 => 1600
    | 3, _ => 700
    | _, _ => 900

/-- The start at the balls of a frame selected now, in 2^-48 ns of the active time (R278). -/
def startTime (p : Nat) (s : State) : Nat := activeTime s + dTx p s * uNs / 10

/-! Gate lists (R280, R281). -/

def gateInterval (e : Bytes) : Nat := fld e 0 4
def gateStates (e : Bytes) : Nat := fld e 4 2

/-- The entries of a list in order. -/
def gateEntries (l : GateList) : List Bytes := (List.range l.count).map fun k => tget (zeros 8) l.entries k

/-- Interval and gates of the entries as the cycle runs them: entries past its end are not executed, and a short list keeps
its last entry to the end (R281). -/
def gateCycle (left : Nat) : List Bytes → List (Nat × Nat)
  | [] => []
  | [e] => if left = 0 then [] else [(left, gateStates e)]
  | e :: rest =>
    if left = 0 then []
    else if left ≤ gateInterval e then [(left, gateStates e)]
    else (gateInterval e, gateStates e) :: gateCycle (left - gateInterval e) rest

def cycleOf (l : GateList) : List (Nat × Nat) := gateCycle l.cycle (gateEntries l)

/-- The sum of the intervals exceeds CYCLE_TIME (R281). -/
def gateTruncated (l : GateList) : Bool := decide (l.cycle < ((gateEntries l).map gateInterval).sum)

/-- The position in the cycle at a time, in 2^-48 ns (R281); a time before START counts backwards (R285). -/
def gatePos (l : GateList) (t : Nat) : Nat :=
  if l.cycle = 0 then 0 else (((t : Int) - l.start * uNs) % (l.cycle * uNs : Nat)).toNat

/-- The entry in force at a position (R281). -/
def entryAt (pos : Nat) : List (Nat × Nat) → Nat → Nat
  | [], k => k - 1
  | (d, _) :: rest, k => if pos < d * uNs then k else entryAt (pos - d * uNs) rest (k + 1)

/-- The cycle from a position on: what is left of the entry in force, then the entries after it, in 2^-48 ns. -/
def cycleFrom (pos : Nat) : List (Nat × Nat) → List (Nat × Nat)
  | [] => []
  | (d, g) :: rest =>
    if pos < d * uNs then (d * uNs - pos, g) :: rest.map (fun x => (x.1 * uNs, x.2)) else cycleFrom (pos - d * uNs) rest

/-- How long a class stays open from the head of a run of entries. -/
def openRun (c : Nat) : List (Nat × Nat) → Nat
  | [] => 0
  | (d, g) :: rest => if bit g c then d + openRun c rest else 0

/-- How long the class stays open from a position, across entries and the cycle end, at most one cycle (R282). -/
def openFor (l : GateList) (c pos : Nat) : Nat :=
  let cyc := cycleOf l
  openRun c (cycleFrom pos cyc ++ cyc.map fun x => (x.1 * uNs, x.2))

/-- The class is open all the time. -/
def alwaysOpen (l : GateList) (c : Nat) : Bool := (cycleOf l).all fun x => bit x.2 c

/-- The longest continuous open time of a class, in ns; none when it never closes (R283). -/
def longestOpen (l : GateList) (c : Nat) : Option Nat :=
  if alwaysOpen l c then none
  else
    let cyc := cycleOf l ++ cycleOf l
    some (((List.range (cycleOf l).length).map fun k => openRun c (cyc.drop k)).foldl max 0)

/-- The operational list of a port that may be used: one that failed parity is not (R279, R292). -/
def opList (p : Nat) (s : State) : Option GateList :=
  match tget? s.sched.gateOp p with
  | some l => if l.bad.isEmpty then some l else none
  | none => none

/-- START of the commit that is pending on a port (R284), in 2^-48 ns. -/
def pendStart (p : Nat) (s : State) : Option Nat :=
  if inMask s.sched.gateCommit p then some ((tget {} s.sched.gatePend p).start * uNs) else none

/-- The list that rules a start at time `t`: from START on, the one whose commit is pending (R279, R284). -/
def listAt (p t : Nat) (s : State) : Option GateList :=
  if (pendStart p s).any fun u => decide (u ≤ t) then (some (tget {} s.sched.gatePend p)).filter fun l => l.bad.isEmpty
  else opList p s

/-- The gate states of a port at a time (R279). -/
def gatesAt (p t : Nat) (s : State) : Nat :=
  if inSafe p s then 0
  else if !inMode mTIMED s then 0xFFFF
  else match listAt p t s with
    | some l =>
      let cyc := cycleOf l
      (cyc.getD (entryAt (gatePos l t) cyc 0) (0, 0)).2
    | none => fld (portSched p s) 2 2

/-- How long the list in force at `t` keeps a class open from there, which it does then; none for ever. -/
def listOpen (p c t : Nat) (s : State) : Option Nat :=
  match listAt p t s with
  | some l => if alwaysOpen l c then none else some (openFor l c (gatePos l t))
  | none => none

/-- How long the gate of a class, open at `t`, stays open: at START a cycle in progress ends, and the new list decides (R282, R284). -/
def gateOpen (p c t : Nat) (s : State) : Option Nat :=
  let n := listOpen p c t s
  match (pendStart p s).filter fun u => decide (t < u) with
  | none => n
  | some u =>
    if n.any fun n => decide (t + n < u) then n
    else if bit (gatesAt p u s) c then (listOpen p c u s).map (u - t + ·)
    else some (u - t)

/-- A frame of a class starting at `t` fits: the gate stays open for its wire time (LENGTH + 20) × 8 ÷ R ns (R282). -/
def gateFits (p c len t : Nat) (s : State) : Bool :=
  if !bit (gatesAt p t s) c then false
  else !inMode mTIMED s || (gateOpen p c t s).all fun n => decide ((len + 20) * 8 * uNs ≤ n * portGbps p s)

/-- The frame is longer than any open window of its class, which has one (R283). -/
def gateOversize (p c len : Nat) (s : State) : Bool :=
  inMode mTIMED s &&
  match listAt p (startTime p s) s with
  | some l => match longestOpen l c with
    | some n => decide (0 < n ∧ n * portGbps p s < (len + 20) * 8)
    | none => false
  | none => false

/-! GATE_LIST_WRITE and GATE_LIST_COMMIT (R280, R284). -/

def getPend (p : Nat) (s : State) : GateList := tget {} s.sched.gatePend p

/-- The gate commit of a port is pending. -/
def commitPending (p : Nat) (s : State) : Bool := inMask s.sched.gateCommit p

/-- The entries of a GATE_LIST_WRITE body. -/
def gwEntries (b : Bytes) : List Bytes := chunks 8 (fld b 6 2) (b.drop 32)

def gateListWriteH : YHandler := fun _ b _ s =>
  let p := fld b 0 1
  let first := fld b 4 2
  let n := fld b 6 2
  let es := gwEntries b
  need (fld b 1 3 == 0 && fld b 26 6 == 0) stINVALID s <|
  needAll es (fun e => fld e 6 1 == 0 && fld e 7 1 == 0) stINVALID s <|
  need (decide (p < 64) → !portUnused p s) stINVALID s <|
  need (b.length == 32 + 8 * n) stLENGTH s <|
  need (decide (p < 64 ∧ first + n ≤ 1024 ∧ fld b 8 8 < 2 ^ 48 ∧ fld b 16 4 < 1000000000 ∧
      1000 ≤ fld b 20 4 ∧ fld b 20 4 ≤ 1000000000 ∧ 1 ≤ fld b 24 2 ∧ fld b 24 2 ≤ 1024)) stRANGE s <|
  needAll es (fun e => decide (8 ≤ gateInterval e ∧ gateInterval e ≤ 1000000000)) stRANGE s <|
  need (!commitPending p s) stBUSY s <|
  let l := getPend p s
  let l := { l with baseSec := fld b 8 8, baseNsec := fld b 16 4, cycle := fld b 20 4, count := fld b 24 2,
                    bad := l.bad.filter fun k => !decide (first ≤ k ∧ k < first + n),
                    entries := es.zipIdx.foldl (fun t e => tset (zeros 8) t (first + e.2) e.1) l.entries }
  yOk [] (setSched { s.sched with gatePend := tset {} s.sched.gatePend p l } s)

def execGateListWrite (r : YcpReq) (s : State) : Host.Outcome State Fault Refusal := ycp 0x0605 r gateListWriteH s

/-- Every entry up to COUNT has been written, and the parameters lie in their ranges (R280, R284). -/
def gateListOk (l : GateList) : Bool :=
  decide (1 ≤ l.count ∧ 1000 ≤ l.cycle) && (gateEntries l).all fun e => decide (8 ≤ gateInterval e)

/-- START, in ns (R284). -/
def adoptStart (l : GateList) (now lead : Nat) : Nat :=
  let base := l.baseSec * 1000000000 + l.baseNsec
  let earliest := now + lead * uNs
  if earliest ≤ base * uNs then base
  else base + (earliest - base * uNs + l.cycle * uNs - 1) / (l.cycle * uNs) * l.cycle

def gateCommitH : YHandler :=
  formE 8 [(2, 6)] [(1, fun b s => decide (64 ≤ fld b 0 1) || !portUnused (fld b 0 1) s),
                    (2, fun b _ => decide (1 ≤ fld b 1 1 ∧ fld b 1 1 ≤ 2))] fun b s =>
  let p := fld b 0 1
  let l := getPend p s
  match fld b 1 1 with
  | 1 =>
    need (decide (p < 64)) stRANGE s <|
    need (!commitPending p s) stBUSY s <|
    need l.bad.isEmpty stFAULTED s <|
    need (gateListOk l) stINVALID s <|
    let s := fastClock s
    let st := adoptStart l (activeTime s) (fld (portSched p s) 4 4)
    yOk (leBytes 8 (st / 1000000000) ++ leBytes 4 (st % 1000000000) ++ zeros 4)
      (setSched { s.sched with gatePend := tset {} s.sched.gatePend p { l with start := st },
                               gateCommit := s.sched.gateCommit ||| portMask p } s)
  | 2 =>
    need (decide (p < 64)) stRANGE s <|
    need (commitPending p s) stINVALID s <|
    yOk (zeros 16) (setSched { s.sched with gateCommit := s.sched.gateCommit &&& ~~~(portMask p) } s)
  | _ => yFail stINVALID s

def execGateListCommit (r : YcpReq) (s : State) : Host.Outcome State Fault Refusal := ycp 0x0606 r gateCommitH s
def execGateListAbort (r : YcpReq) (s : State) : Host.Outcome State Fault Refusal := ycp 0x0606 r gateCommitH s

/-- GATE_LIST_START: the active time has reached START; the buffers swap and GATE_ADOPTED is posted (R284). -/
def execGateListStart (p : Nat) (s : State) : Host.Outcome State Fault Refusal :=
  .next <|
    let s := fastClock s
    let l := getPend p s
    if commitPending p s ∧ l.start * uNs ≤ activeTime s then
      let old := (tget? s.sched.gateOp p).getD {}
      let wake (s : State) : State := if inMode mTIMED s then wakeKeptPort p s else s
      wake <| postEvent 8 (leBytes 1 p ++ zeros 3 ++ leBytes 8 (l.start / 1000000000) ++ leBytes 4 (l.start % 1000000000))
        (setSched { s.sched with gateOp := tput s.sched.gateOp p l, gatePend := tset {} s.sched.gatePend p old,
                                 gateCommit := s.sched.gateCommit &&& ~~~(portMask p),
                                 gateEntry := tset 0 s.sched.gateEntry p 0 } s)
    else s

/-- GATE_ENTRY_CHANGE: the entry in force follows the position; a GATE record is traced (R281, R502). -/
def execGateEntryChange (p : Nat) (s : State) : Host.Outcome State Fault Refusal :=
  .next <|
    let s := fastClock s
    match opList p s with
    | some l =>
      let k := entryAt (gatePos l (activeTime s)) (cycleOf l) 0
      if k = tget 0 s.sched.gateEntry p then s
      else
        let s := setSched { s.sched with gateEntry := tset 0 s.sched.gateEntry p k } s
        if inMask s.obs.gatePorts p then
          traceRec 7 0 (leBytes 1 p ++ [0] ++ leBytes 2 k ++ leBytes 2 (gateStates (tget (zeros 8) l.entries k)) ++ zeros 10) s
        else s
    | none => s

/-- The parameters of GATE_STATUS and of SUMMARY section 9.  DESIGN CHOICE (log 26): the property names. -/
def gateParams (s : State) : List Bytes :=
  let op (p : Nat) : GateList := (tget? s.sched.gateOp p).getD {}
  let ps := List.range (lastUsed 64 fun p => (op p).count + (getPend p s).count)
  [pArr "START_SEC" 8 (ps.map fun p => (if commitPending p s then getPend p s else op p).start / 1000000000),
   pArr "START_NSEC" 4 (ps.map fun p => (if commitPending p s then getPend p s else op p).start % 1000000000),
   pArr "PENDING" 8 (ps.map fun p => b2n (commitPending p s)), pArr "ENTRY" 8 (ps.map fun p => tget 0 s.sched.gateEntry p),
   pArr "TRUNCATED" 8 (ps.map fun p => b2n (gateTruncated (op p))),
   pArr "LONGEST_OPEN" 8 ((ps.map fun p => (List.range 16).map fun c =>
     if (op p).count = 0 then 0 else (longestOpen (op p) c).getD (op p).cycle).flatten)]

/-- GATE_STATUS (0x0607); the lists of a port only where they hold entries (log 26). -/
def gateStatusBody (s : State) : Bytes :=
  let op (p : Nat) : GateList := (tget? s.sched.gateOp p).getD {}
  let lists := ((List.range 64).map fun p =>
    (if (op p).count = 0 then [] else [pStr ("OPER" ++ toString p) (gateEntries (op p)).flatten]) ++
    (if (getPend p s).count = 0 then [] else [pStr ("PEND" ++ toString p) (gateEntries (getPend p s)).flatten])).flatten
  propList (gateParams s ++ lists)

def execGateStatus (r : YcpReq) (s : State) : Host.Outcome State Fault Refusal :=
  ycp 0x0607 r (emptyBody fun s => yRead (gateStatusBody s) s) s

/-! Launch records (R286–R288). -/

def launchLayout : Layout where
  size := 16
  resv := [(2, 6), (8, 24), (96, 32)]
  rng := [(32, 32, 0, 1000000), (64, 32, 0, 1000000000)]

def launchCheck (_ : State) (i : Nat) (b : Bytes) : Nat :=
  if !launchLayout.clean b then stINVALID else if 16 ≤ i ∨ !launchLayout.inRange b then stRANGE else stOK

def launchApply (i : Nat) (b : Bytes) (s : State) : State :=
  clearBad (badLaunch i) (setSched { s.sched with launch := tset launchDefault s.sched.launch i b } s)

/-- LAUNCH_CLASS_SET (0x0608). -/
def execLaunchClassSet (r : YcpReq) (s : State) : Host.Outcome State Fault Refusal :=
  ycp 0x0608 r (formL (fun _ => 16) launchCheck launchApply) s

/-- How far a start lies after a frame's launch time, in ns (R288). -/
def afterLaunch (f : Frame) (t : Nat) : Int := stampDiff (stamp302 false t) f.launchTime

end Sys2Proof.Machine
end

