-- ==== Sys2Proof/Machine/Sched.lean ====
section
/-!
DEFINITION. The scheduling hierarchy, fair share, shapers and samplers (R269–R278, R289–R292): eligibility, selection and
the commands of group 0x06.
-/
namespace Sys2Proof.Machine

/-! Shapers (R274–R276). Token counts are in units of 1/8,000,000 byte, so that RATE kb/s is RATE units a nanosecond. -/

def shaperRec (n : Nat) (s : State) : Bytes := tget (zeros 16) s.sched.shaper n

def shaperRate (n : Nat) (s : State) : Nat := fld (shaperRec n s) 0 4
def shaperCap (n : Nat) (s : State) : Nat := fld (shaperRec n s) 4 3 * 8000000

/-- The tokens of a shaper now: they accrue at RATE up to BURST (R275). -/
def tokensNow (n : Nat) (s : State) : Int :=
  let t := tget {} s.sched.tokens n
  min (shaperCap n s : Int) (t.tok + (shaperRate n s * (s.time.free - t.at_) : Nat))

def setTokens (n : Nat) (v : Int) (s : State) : State :=
  setSched { s.sched with tokens := tset {} s.sched.tokens n { tok := v, at_ := s.time.free } } s

/-- The shaper lets a frame through: none, unshaped, or at least 0 tokens; one that failed parity does not (R272, R275,
R292). -/
def shaperOk (n : Nat) (s : State) : Bool :=
  n == 0xFFFF || (!isBad (badShaper n) s && (shaperRate n s == 0 || decide (0 ≤ tokensNow n s)))

/-- The debit of a selected frame (R275). -/
def debit (len : Nat) (n : Nat) (s : State) : State :=
  if n = 0xFFFF ∨ shaperRate n s = 0 then s else setTokens n (tokensNow n s - len * 8000000) s

/-- The shaping length L′ (R275). -/
def shapedLen (p len : Nat) (s : State) : Nat := (max 1 ((len : Int) + overhead p s)).toNat

/-! Eligibility (R272). -/

/-- An element may send: ENABLE, sound, its shaper not below 0 (R271, R272, R292). -/
def elemOk (e : Nat) (s : State) : Bool :=
  elemEnabled (elemRec e s) && !isBad e s && shaperOk (elemShaper (elemRec e s)) s

/-- The port may send: awake, not safe, its record sound, its shaper not below 0 (R272, R388, R437). -/
def portOk (p : Nat) (s : State) : Bool :=
  portAwake p s && !inSafe p s && !isBad (badPort p) s && shaperOk (fld (portSched p s) 8 2) s &&
  !inMask s.buf.parked p && !inMask s.buf.swapHeld p

/-- The gate and the launch time let the head frame, received whole, start at `t` (R262, R272, R282, R288). -/
def headOk (p t : Nat) (f : Frame) (s : State) : Bool :=
  f.arrived.isNone && gateFits p f.tc f.len t s && (!inMode mTIMED s || !f.launch || decide (0 ≤ afterLaunch f t))

/-- The queue is eligible at a start time `t`, given its path (R272). -/
def queueOk (p t q : Nat) (path : List Nat) (s : State) : Bool :=
  match (getQueue q s).list with
  | [] => false
  | d :: _ => !classPaused p (queueClass q s) s && path.all (fun e => elemOk e s) && headOk p t (getFrame d s) s

/-- The paths of a port's eligible queues, each from the queue up (R272). -/
def eligiblePaths (p : Nat) (s : State) : List (List Nat) :=
  if !portOk p s then []
  else
    let t := startTime p s
    s.buf.queue.filterMap fun x =>
      match queuePath x.1 s with
      | some (path, p') => if p' = p ∧ queueOk p t x.1 path s then some path else none
      | none => none

/-! Selection (R273). -/

/-- The elements of eligible paths, each with its parent, once. -/
def eligibleElems (p : Nat) (paths : List (List Nat)) : List (Nat × Nat) :=
  ((paths.map fun path => path.map fun e => (e, parentOf p path e)).flatten).eraseDups

/-- Children that have become eligible since the port was last looked at set S = max(S, V) (R273). -/
def wakeTags (p : Nat) (paths : List (List Nat)) (s : State) : State :=
  let es := eligibleElems p paths
  let s1 := forEach es (fun x s =>
    if tget 0 s.sched.elig x.1 = p + 1 then s
    else setTag x.1 (tagMax (getTag x.1 s) (getVt (vtKey x.2 x.1 s) s)) s) s
  let kept := s1.sched.elig.filter fun x => x.2 != p + 1
  setSched { s1.sched with elig := es.foldl (fun t x => tset 0 t x.1 (p + 1)) kept } s1

/-- The better of two children of one node: the higher band, then the smaller tag, then the lower element number (R273);
a queue and a group of one number are told apart by level (log 28). -/
def betterChild (s : State) (a b : Nat) : Bool :=
  let ba := elemBand (elemRec a s)
  let bb := elemBand (elemRec b s)
  if ba ≠ bb then decide (bb < ba)
  else if getTag a s ≠ getTag b s then tagBefore (getTag a s) (getTag b s)
  else if a % 262144 ≠ b % 262144 then decide (a % 262144 < b % 262144)
  else decide (a < b)

/-- The best of a list of children. -/
def bestChild (s : State) : List Nat → Option Nat
  | [] => none
  | e :: rest =>
    match bestChild s rest with
    | none => some e
    | some x => if betterChild s x e then some x else some e

/-- The selection passes from the port down: at each level the best child of what is left (R273). `paths` run from the top
down. -/
def descend (s : State) : Nat → List (List Nat) → Option Nat
  | 0, _ => none
  | n + 1, paths =>
    match bestChild s (paths.filterMap List.head?) with
    | none => none
    | some e =>
      if e < 262144 then some e
      else descend s n ((paths.filter fun x => x.head? == some e).map (List.drop 1))

/-- The queue that a port selects among its eligible paths (R273). -/
def selectQueue (paths : List (List Nat)) (s : State) : Option Nat := descend s 3 (paths.map List.reverse)

/-- Tags, virtual times and tokens after a selection (R273, R275). -/
def charge (p len : Nat) (path : List Nat) (s : State) : State :=
  let l := shapedLen p len s
  let s := forEach path (fun e s =>
    let v := getTag e s
    let w := max 1 (elemWeight (elemRec e s))
    debit l (elemShaper (elemRec e s)) (setTag e (v + l * 65536 / w) (setVt (vtKey (parentOf p path e) e s) v s))) s
  debit l (fld (portSched p s) 8 2) s

/-! SCHED_ELEM_SET, SHAPER_SET, PORT_SCHED_SET (R270, R274, R276, R277). -/

/-- The elements above a queue as far as they are attached. -/
def attachedAbove (q : Nat) (s : State) : List Nat :=
  if q < 1024 || !elemAttached (elemRec q s) then [q]
  else
    let sub := elemKey 1 (elemParent (elemRec q s))
    if !elemAttached (elemRec sub s) then [q, sub] else [q, sub, elemKey 2 (elemParent (elemRec sub s))]

/-- The element or an element below it holds a frame (R270). -/
def elemHolds (e : Nat) (s : State) : Bool :=
  s.buf.queue.any fun x => !x.2.list.isEmpty && (attachedAbove x.1 s).contains e

def elemLayout : Layout where
  size := 16
  resv := [(5, 3), (31, 1), (36, 4), (40, 24), (80, 48)]

/-- How many elements a level has (R269). -/
def levelCount (level : Nat) : Nat := [132096, 32768, 4096].getD level 0

/-- The range of PARENT of a level (R270). -/
def parentCount (level : Nat) : Nat := [32768, 4096, 64].getD level 0

def elemCheck (s : State) (i : Nat) (b : Bytes) : Nat :=
  let lv := i / 262144
  let portClass := decide (i < 1024)
  if !elemLayout.clean b ∨ (portClass ∧ fld b 2 2 ≠ 0) then stINVALID
  else if levelCount lv ≤ i % 262144 ∨ elemWeight b = 0 ∨ (!portClass ∧ parentCount lv ≤ elemParent b) then stRANGE
  else if !portClass ∧ (elemAttached b ≠ elemAttached (elemRec i s) ∨ elemParent b ≠ elemParent (elemRec i s)) ∧
      elemHolds i s then stBUSY
  else stOK

/-- The record as it is kept: a port-class queue is always attached and reads its port and class (R270). -/
def elemStored (i : Nat) (b : Bytes) : Bytes :=
  if i < 1024 then put (put (putF b 0 1 (putBits (fld b 0 1) 1 1 1)) 2 (leBytes 2 (i / 16))) 4 (leBytes 1 (i % 16)) else b

/-- The eligibility of an element now. -/
def elemEligible (e : Nat) (s : State) : Bool :=
  (List.range 64).any fun p => (eligibleElems p (eligiblePaths p s)).any fun x => x.1 == e

/-- The record written.  An element that is not eligible now takes its tag up anew when it is (R273). -/
def elemApply (i : Nat) (b : Bytes) (s : State) : State :=
  let s := if elemEligible i s then s else setSched { s.sched with elig := tdel s.sched.elig i } s
  clearBad i (setSched { s.sched with elem := tset (elemDefault i) s.sched.elem i (elemStored i b) } s)

/-- Shapers named by attached elements and by ports; a detached element names none (log 14). -/
def shapersNamed (s : State) : List Nat :=
  ((s.sched.elem.filter fun x => elemAttached x.2).map (fun x => elemShaper x.2) ++
   s.sched.port.map (fun x => fld x.2 8 2)).filter (· != 0xFFFF)

/-- No list entry appears twice. -/
def distinct : List Nat → Bool
  | [] => true
  | x :: xs => !xs.contains x && distinct xs

/-- A shaper is named at most once (R274). -/
def shapersOnce (s : State) : Bool := distinct (shapersNamed s)

/-- Leaves attached to a subscriber node (R269). -/
def leavesOf (sub : Nat) (s : State) : Nat :=
  (s.sched.elem.filter fun x => decide (1024 ≤ x.1 ∧ x.1 < 262144) && elemAttached x.2 && elemParent x.2 == sub).length

/-- No subscriber node holds more than 16 leaves (R269). -/
def leavesFit (s : State) : Bool :=
  (s.sched.elem.filter fun x => decide (1024 ≤ x.1 ∧ x.1 < 262144) && elemAttached x.2).all fun x =>
    decide (leavesOf (elemParent x.2) s ≤ 16)

/-- SCHED_ELEM_SET (0x0601). -/
def execSchedElemSet (r : YcpReq) (s : State) : Host.Outcome State Fault Refusal :=
  ycp 0x0601 r (formLX (fun _ => 16) elemCheck elemApply
    (fun _ s' => if !leavesFit s' then stNOSPACE else if !shapersOnce s' then stINVALID else stOK)) s

/-- The virtual time of an element's band at its parent. -/
def elemVt (e : Nat) (s : State) : Nat :=
  getVt (vtKey (elemKey (e / 262144 + (if e < 1024 then 3 else 1)) (elemParent (elemRec e s))) e s) s

/-- A record as SCHED_ELEM_READ gives it: element record, tag, virtual time, eligibility (R412; layout log 28). -/
def elemRead (s : State) (e : Nat) : Bytes :=
  if e % 262144 < levelCount (e / 262144) then
    elemRec e s ++ leBytes 6 (getTag e s) ++ leBytes 6 (elemVt e s) ++ leBytes 1 (b2n (elemEligible e s)) ++ zeros 3
  else zeros 32

/-- SCHED_ELEM_READ (0x0602). -/
def execSchedElemRead (r : YcpReq) (s : State) : Host.Outcome State Fault Refusal :=
  ycp 0x0602 r (formS 528384 32 elemRead) s

def shaperLayout : Layout where
  size := 16
  resv := [(56, 8), (65, 7), (72, 56)]
  rng := [(32, 24, 64, 16777215)]

def shaperCheck (_ : State) (i : Nat) (b : Bytes) : Nat :=
  let rate := fld b 0 4
  if !shaperLayout.clean b then stINVALID
  else if 65535 ≤ i ∨ !shaperLayout.inRange b ∨ (rate ≠ 0 ∧ (rate < 64 ∨ 1600000000 < rate)) then stRANGE
  else stOK

/-- Every write resets the tokens: to BURST with RESET_FULL, else to 0 (R276). -/
def shaperApply (n : Nat) (b : Bytes) (s : State) : State :=
  let s := clearBad (badShaper n) (setSched { s.sched with shaper := tset (zeros 16) s.sched.shaper n b } s)
  setTokens n (if bit (fld b 8 1) 0 then shaperCap n s else 0) s

/-- SHAPER_SET (0x0603). -/
def execShaperSet (r : YcpReq) (s : State) : Host.Outcome State Fault Refusal :=
  ycp 0x0603 r (formL (fun _ => 16) shaperCheck shaperApply) s

def portSchedLayout : Layout where
  size := 16
  resv := [(8, 8), (80, 48)]
  rng := [(32, 32, 1000, 100000000)]

def portSchedCheck (s : State) (i : Nat) (b : Bytes) : Nat :=
  if !portSchedLayout.clean b ∨ (i < 64 ∧ portUnused i s) then stINVALID
  else if 64 ≤ i ∨ !portSchedLayout.inRange b ∨ (128 ≤ fld b 0 1 ∧ fld b 0 1 < 192) then stRANGE
  else stOK

def portSchedApply (p : Nat) (b : Bytes) (s : State) : State :=
  clearBad (badPort p) (setSched { s.sched with port := tset portSchedDefault s.sched.port p b } s)

/-- PORT_SCHED_SET (0x0604). -/
def execPortSchedSet (r : YcpReq) (s : State) : Host.Outcome State Fault Refusal :=
  ycp 0x0604 r (formLX (fun _ => 16) portSchedCheck portSchedApply
    (fun _ s' => if shapersOnce s' then stOK else stINVALID)) s

/-- SCHED_STATUS (0x060C).  DESIGN CHOICE (log 28): the property names TOKENS (8 bytes signed by port) and ELIGIBLE. -/
def schedStatusBody (s : State) : Bytes :=
  let ps := List.range 64
  propList [pStr "TOKENS" ((ps.map fun p =>
      leBytes 8 ((tokensNow (fld (portSched p s) 8 2) s / 8000000) % (2 ^ 64 : Nat)).toNat).flatten),
    pArr "ELIGIBLE" 8 (ps.map fun p => (eligiblePaths p s).length), pCtr .SCHED_SELECT s]

def execSchedStatus (r : YcpReq) (s : State) : Host.Outcome State Fault Refusal :=
  ycp 0x060C r (emptyBody fun s => yRead (schedStatusBody s) s) s

/-! Rings in TELEMETRY (R195, R291): sample rings 0–7, and export rings at 8 + number. -/

/-- A ring's number in the table of rings. -/
def sampleRing (n : Nat) : Nat := n
def exportRing (n : Nat) : Nat := 8 + n

def getRing (k : Nat) (s : State) : Ring := tget {} s.sched.ring k
def setRing (k : Nat) (x : Ring) (s : State) : State := setSched { s.sched with ring := tset {} s.sched.ring k x } s

/-- Record units of 32 bytes that a ring holds after its first line (log 26). -/
def ringUnits (x : Ring) : Nat := (2 ^ x.log2 - 64) / 32

/-- Two rings share a byte. -/
def ringsMeet (x y : Ring) : Bool :=
  x.valid && y.valid && decide (x.base < y.base + 2 ^ y.log2 ∧ y.base < x.base + 2 ^ x.log2)

/-- A ring overlaps another one. -/
def ringOverlaps (k : Nat) (x : Ring) (s : State) : Bool :=
  s.sched.ring.any fun y => y.1 != k && ringsMeet x y.2

/-- Contents stored with no request of their own: they ride with a line that is written anyway. -/
def hbmStore (a : Nat) (b : Bytes) (s : State) : State :=
  setHbm { s.hbm with mem := memWrite s.hbm.mem a b } s

/-- The first line of a ring: PROD, CONS and DROPS (R195; layout log 26). -/
def ringHead (k : Nat) (s : State) : State :=
  let x := getRing k s
  hbmStore x.base (leBytes 4 x.prod ++ leBytes 4 x.cons ++ leBytes 8 x.drops) s

/-- The body of SAMPLE_RING_SET and TELEM_RING_SET: RING (4), SIZE_LOG2 (1), FLAGS (1), 0 (2), BASE (8). -/
def ringSetH (count first flagBits : Nat) : YHandler :=
  formE 16 [(6, 2)] [(6, fun b _ => decide (fld b 5 1 < 2 ^ flagBits))] fun b s =>
  let n := fld b 0 4
  let log2 := fld b 4 1
  let base := fld b 8 8
  let x : Ring := { valid := true, base := base, log2 := log2, flags := fld b 5 1 }
  need (decide (n < count ∧ 16 ≤ log2 ∧ log2 ≤ 30)) stRANGE s <|
  need (decide (base % 2 ^ log2 = 0)) stINVALID s <|
  need (decide (baseTELEMETRY + 16777216 ≤ base ∧ base + 2 ^ log2 ≤ baseTELEMETRY + 8589934592)) stRANGE s <|
  need (!ringOverlaps (first + n) x s) stINVALID s <|
  yOk [] (ringHead (first + n) (setRing (first + n) x s))

/-- SAMPLE_RING_ACK and TELEM_RING_ACK: CONS advances, at most to PROD (log 26). -/
def ringAckH (count first : Nat) : YHandler := formO 8 [] fun b s =>
  let n := fld b 0 4
  let x := getRing (first + n) s
  need (decide (n < count)) stRANGE s <|
  need (decide ((fld b 4 4 + 2 ^ 32 - x.cons) % 2 ^ 32 ≤ (x.prod + 2 ^ 32 - x.cons) % 2 ^ 32)) stRANGE s <|
  need x.valid stNOT_FOUND s <|
  yOk [] (ringHead (first + n) (setRing (first + n) { x with cons := fld b 4 4 } s))

/-- SAMPLE_RING_SET (0x060A): FLAGS [0] is WRAP (log 26). -/
def execSampleRingSet (r : YcpReq) (s : State) : Host.Outcome State Fault Refusal := ycp 0x060A r (ringSetH 8 0 1) s

/-- SAMPLE_RING_ACK (0x060B). -/
def execSampleRingAck (r : YcpReq) (s : State) : Host.Outcome State Fault Refusal := ycp 0x060B r (ringAckH 8 0) s

/-- TELEM_RING_SET (0x0D01): FLAGS are the accept flags (R195). -/
def execTelemRingSet (r : YcpReq) (s : State) : Host.Outcome State Fault Refusal := ycp 0x0D01 r (ringSetH 16 8 5) s

/-- TELEM_RING_ACK (0x0D02). -/
def execTelemRingAck (r : YcpReq) (s : State) : Host.Outcome State Fault Refusal := ycp 0x0D02 r (ringAckH 16 8) s

/-! Samplers (R289–R291). -/

def samplerPeriod (b : Bytes) : Nat := fld b 4 2
def samplerRing (b : Bytes) : Nat := fld b 6 1
def samplerOn (b : Bytes) : Bool := bit (fld b 7 1) 0

/-- The sum of 10^6 ÷ PERIOD over the enabled entries stays within 256,000,000, compared without rounding (R289). -/
def sampleRateOk (s : State) : Bool :=
  let ps := (s.sched.sampler.filter fun x => samplerOn x.2.record).map fun x => samplerPeriod x.2.record
  let sum := ps.foldl (fun (a : Nat × Nat) p => (a.1 * p + 1000000 * a.2, a.2 * p)) (0, 1)
  decide (sum.1 ≤ 256000000 * sum.2)

def sampleCheck (_ : State) (i : Nat) (b : Bytes) : Nat :=
  if fld b 8 8 ≠ 0 ∨ 2 ≤ fld b 7 1 then stINVALID
  else if 8192 ≤ i ∨ 132096 ≤ fld b 0 4 ∨ samplerPeriod b = 0 ∨ 1000 < samplerPeriod b ∨ 8 ≤ samplerRing b then stRANGE
  else stOK

def sampleApply (i : Nat) (b : Bytes) (s : State) : State :=
  setSched { s.sched with sampler := tset {} s.sched.sampler i { record := b } } s

/-- SAMPLE_SET (0x0609). -/
def execSampleSet (r : YcpReq) (s : State) : Host.Outcome State Fault Refusal :=
  ycp 0x0609 r (formLX (fun _ => 16) sampleCheck sampleApply (fun _ s' => if sampleRateOk s' then stOK else stRANGE)) s

/-- The FLAGS of a sample (R290). -/
def sampleFlags (q : Nat) (s : State) : Nat :=
  let x := queueSynced q s (getQueue q s)
  match queuePath q s with
  | none => b2n x.congested
  | some (path, p) =>
    let shaped := path.any (fun e => !shaperOk (elemShaper (elemRec e s)) s) || !shaperOk (fld (portSched p s) 8 2) s
    b2n x.congested + 2 * b2n (inMask s.buf.parked p) + 4 * b2n (classPaused p (queueClass q s) s) +
    8 * b2n (!bit (gatesAt p (activeTime s) s) (queueClass q s)) + 16 * b2n shaped

/-- The 32 bytes of a sample (R290). -/
def sampleBytes (e : Sampler) (prod : Nat) (s : State) : Bytes :=
  let q := fld e.record 0 4
  let t := activeTime s
  leBytes 4 q ++ leBytes 4 (secOf t) ++ leBytes 4 (nsecOf t) ++ leBytes 4 (getQueue q s).depth ++
  leBytes 4 (max e.depthMax (getQueue q s).depth) ++ leBytes 4 e.delay ++ leBytes 4 e.delayMax ++ leBytes 2 e.deq ++
  leBytes 1 (sampleFlags q s) ++ leBytes 1 (prod % 256)

/-- A record of whole units written at the ring's place (R195, R291).  Each line is written once, when it is complete: 1 line
operation for 64 bytes of records (R198). -/
def ringWrite (req k : Nat) (b : Bytes) (s : State) : State :=
  let x := getRing k s
  let n := b.length / 32
  let a := x.base + 64 + 32 * x.pos
  let s := spanReq req true (a / 64 * 64) (64 * ((x.pos % 2 + n) / 2)) (hbmPut a b s)
  ringHead k (setRing k { x with prod := (x.prod + n) % 2 ^ 32, pos := (x.pos + n) % ringUnits x } s)

/-- Units free before CONS. -/
def ringFree (x : Ring) : Nat := ringUnits x - (x.prod + 2 ^ 32 - x.cons) % 2 ^ 32

/-- The instant is a multiple of PERIOD within the second, taken within 100 ns (R289). -/
def sampleDue (e : Sampler) (s : State) : Bool :=
  let per := samplerPeriod e.record * 1000
  samplerOn e.record && decide (0 < per) && decide (nsecOf (activeTime s) % per ≤ 100)

/-- SAMPLE_INSTANT: a sample is taken and written; one that does not fit a STOP ring is dropped (R289–R291). -/
def execSampleInstant (i : Nat) (s : State) : Host.Outcome State Fault Refusal :=
  .next <|
    let s := fastClock s
    let e := tget {} s.sched.sampler i
    let k := samplerRing e.record
    let x := getRing k s
    if !sampleDue e s ∨ !x.valid then s
    else
      let b := sampleBytes e x.prod s
      let s := setSched { s.sched with sampler := tset {} s.sched.sampler i { record := e.record, delay := e.delay, depthMax := (getQueue (fld e.record 0 4) s).depth } } s
      if !bit x.flags 0 ∧ ringFree x = 0 then
        raise 68 k 0 (bump .SAMPLE_DROP k (ringHead k (setRing k { x with drops := (x.drops + 1) % 2 ^ 64 } s)))
      else bump .SAMPLE_REC k (ringWrite 6 k b s)

/-- The samplers of a queue note a dequeue and its delay (R290). -/
def samplerDeq (q : Nat) (f : Frame) (s : State) : State :=
  let delay := min 4294967295 (stampDiff (now302 s) f.stamp).toNat
  let note (p : Nat × Sampler) : Nat × Sampler :=
    if fld p.2.record 0 4 == q then
      (p.1, { p.2 with delay := delay, delayMax := max p.2.delayMax delay, deq := min 65535 (p.2.deq + 1) })
    else p
  setSched { s.sched with sampler := s.sched.sampler.map note } s

/-! The scrub (R292). -/

/-- A gate list whose entry `k` has failed (R292). -/
def failGate (k : Nat) (l : GateList) : GateList := { l with bad := k :: l.bad.erase k }

/-- The operational list of a port with a failed entry. -/
def badGates (p k : Nat) (t : Tbl GateList) : Tbl GateList :=
  match tget? t p with
  | some l => tput t p (failGate k l)
  | none => t

/-- SCHEDULER_SCRUB: `fail` names what failed parity: 0 element, 1 shaper, 2 port, 3 tag, 4 virtual time, 5 token count,
6 launch record, and its number; 7 operational list, 8 pending list, and port + 64 × entry (R292). -/
def execSchedulerScrub (fail : Option (Nat × Nat)) (s : State) : Host.Outcome State Fault Refusal :=
  .next (match fail with
    | none => s
    | some (0, e) => raise 64 e 0 (bump .SCHED_PARITY 0 (markBad e s))
    | some (1, n) => raise 64 n 0 (markBad (badShaper n) s)
    | some (2, p) => raise 64 p (portMask p) (markBad (badPort p) s)
    | some (3, e) => bump .SCHED_STATE_PE 0 (setTag e (elemVt e s) s)
    | some (4, _) => bump .SCHED_STATE_PE 0 s
    | some (5, n) => bump .SCHED_STATE_PE 0 (setTokens n 0 s)
    | some (6, c) => raise 64 c 0 (markBad (badLaunch c) s)
    | some (7, n) =>
      raise 65 (n % 64) (portMask (n % 64)) (setSched { s.sched with gateOp := badGates (n % 64) (n / 64) s.sched.gateOp } s)
    | some (8, n) =>
      raise 65 (n % 64) (portMask (n % 64)) (setSched { s.sched with gatePend := tset {} s.sched.gatePend (n % 64) (failGate (n / 64) (getPend (n % 64) s)) } s)
    | some _ => s)

end Sys2Proof.Machine
end

