-- ==== Sys2Proof/Machine/Cache.lean ====
section
/-!
DEFINITION. The service caches (R166): the subscriber-context cache, the port cache and the map cache, over the regions
SUBCTX (R209), PORT_POOL (R171) and XLAT_MAP (R173).  A changed line reaches HBM when it leaves its cache.
-/
namespace Sys2Proof.Machine

def setSvc (x : SvcState) (s : State) : State := { s with svc := x }

/-- Where the context of a subscriber lies (R209). -/
def subCtxAddr (sub : Nat) : Nat := regionBase 5 + 128 * sub

/-! PORT_POOL (R170–R172). -/

def basePool : Nat := regionBase 7
def poolDescAddr (p : Nat) : Nat := basePool + 64 * p
def addrEntAddr (a : Nat) : Nat := basePool + 0x1000 + 16 * a
def blockEntAddr (g : Nat) : Nat := basePool + 0x100000 + 8 * g
def bitmapAddr (g : Nat) : Nat := basePool + 0x2000000 + 64 * g
def dirAddr (sub : Nat) : Nat := basePool + 0xA000000 + 32 * sub
def mapAddr (m : Nat) : Nat := regionBase 6 + 64 * m

/-! What a cache shows. -/

/-- The cached value of a line, or what HBM holds (R166). -/
def cachePeek (a n : Nat) (s : State) : Bytes :=
  match tget? s.svc.cache a with
  | some l => l.data
  | none => hbmPeek a n s

/-- A line that is not cached is uncorrectable in HBM. -/
def cacheUe (a n : Nat) (s : State) : Bool := (tget? s.svc.cache a).isNone && spanUe a n s

/-- The objects of a cache, least recently used first. -/
def lru (k : SvcCache) (s : State) : List Nat :=
  match k with
  | .ctx => s.svc.ctxLru
  | .port => s.svc.portLru
  | .map => s.svc.mapLru

def setLru (k : SvcCache) (l : List Nat) (s : State) : State :=
  match k with
  | .ctx => setSvc { s.svc with ctxLru := l } s
  | .port => setSvc { s.svc with portLru := l } s
  | .map => setSvc { s.svc with mapLru := l } s

/-- Objects that a cache holds (R166). -/
def cacheSize (k : SvcCache) : Nat :=
  match k with
  | .ctx => 16384
  | .port => 16384
  | .map => 65536

/-- An operation of a graph on the object has not completed (R166). -/
def nodePins (k : SvcCache) (o : Nat) (s : State) : Bool :=
  s.task.ctx.any fun x => x.2.ret.any fun r => r.2.pin == some (k, o)

/-- The object is pinned (R166): an operation on it is pending; its confirmation awaits the context; a reservation that names it
has not been confirmed or undone. -/
def objPinned (k : SvcCache) (o : Nat) (s : State) : Bool :=
  nodePins k o s ||
  match k with
  | .ctx => s.flow.log.any fun p => p.2.phase == .subctx && p.2.sub == some o
  | .port => false
  | .map => (tget? s.svc.pend o).isSome || s.flow.log.any fun p => p.2.st != .replay && p.2.reuse == some o

/-- The cache is full of pinned objects: an operation on an object that it does not hold waits (R166). -/
def cacheFull (k : SvcCache) (s : State) : Bool :=
  decide (cacheSize k ≤ (lru k s).length) && (lru k s).all fun o => objPinned k o s

def mustWait (k : SvcCache) (o : Nat) (s : State) : Bool := cacheFull k s && !(lru k s).contains o

/-! Lines that enter and leave. -/

/-- A line leaves its cache; a dirty one is written back (R166). -/
def lineLeaves (a : Nat) (s : State) : State :=
  match tget? s.svc.cache a with
  | some l =>
    let s := setSvc { s.svc with cache := tdel s.svc.cache a } s
    if l.dirty then hbmWrite 4 a l.data s else s
  | none => s

/-- The lines of an object. -/
def linesOf (k : SvcCache) (o : Nat) (s : State) : List Nat :=
  (s.svc.cache.filter fun p => p.2.cache == k && p.2.obj == o).map (·.1)

/-- An object leaves its cache. -/
def leave (k : SvcCache) (o : Nat) (s : State) : State :=
  setLru k ((lru k s).erase o) (forEach (linesOf k o s) lineLeaves s)

/-- Room for one more object: the least recently used one that is not pinned leaves (R166). -/
def makeRoom (k : SvcCache) (s : State) : State :=
  if (lru k s).length < cacheSize k then s
  else
    match (lru k s).find? fun o => !objPinned k o s with
    | some o => leave k o s
    | none => s

/-- An object is used: it has a place in its cache, as the most recently used one.  An operation that would find the cache full of
pinned objects waits before it comes here (R166), and a command of the host is BUSY (DESIGN CHOICE, log 33). -/
def use (k : SvcCache) (o : Nat) (s : State) : State :=
  if (lru k s).contains o then setLru k ((lru k s).erase o ++ [o]) s
  else
    let s := makeRoom k s
    if (lru k s).length < cacheSize k then setLru k (lru k s ++ [o]) s else s

def putLine (k : SvcCache) (o a : Nat) (dirty : Bool) (d : Bytes) (s : State) : State :=
  setSvc { s.svc with cache := tput s.svc.cache a { cache := k, obj := o, data := d, dirty := dirty } } s

/-- A line of a used object fetched, where it is not held yet; the requester pays for it. -/
def fetchLine (req : Nat) (k : SvcCache) (o a n : Nat) (s : State) : State :=
  if (tget? s.svc.cache a).isSome then s
  else
    let (d, s) := hbmRead req a n s
    if (lru k s).contains o then putLine k o a false d s else s

/-- A line changed: in its cache, or in HBM where no cache holds it. -/
def svcStore (a : Nat) (b : Bytes) (s : State) : State :=
  match tget? s.svc.cache a with
  | some l => putLine l.cache l.obj a true b s
  | none => hbmWrite 4 a b s

/-- A line that starts on die without being read (R176). -/
def startLine (k : SvcCache) (o a : Nat) (b : Bytes) (s : State) : State :=
  if (lru k s).contains o then putLine k o a true b s else hbmWrite 4 a b s

/-- Line 0 of a context asked for, unless its cache holds it (R93, R166). -/
def askCtx (req sub : Nat) (s : State) : State :=
  if (tget? s.svc.cache (subCtxAddr sub)).isSome then s else spanReq req false (subCtxAddr sub) 64 s

/-- The lines that a port-cache fill reads. -/
def portLines (sub : Nat) (gs : List Nat) : List Nat := (dirAddr sub :: gs.map bitmapAddr).map (· / 64)

/-- Line 0 of a context that has returned takes its place in the cache. -/
def takeCtx (sub : Nat) (s : State) : State :=
  let a := subCtxAddr sub
  let s := use .ctx sub s
  if (tget? s.svc.cache a).isSome || !(lru .ctx s).contains sub then s else putLine .ctx sub a false (hbmPeek a 64 s) s

/-- The subscriber-context cache takes line 0 of a context. -/
def useCtx (req sub : Nat) (s : State) : State := fetchLine req .ctx sub (subCtxAddr sub) 64 (use .ctx sub s)

/-- The port cache takes a subscriber: its directory entry and the bitmaps of its blocks. -/
def usePort (sub : Nat) (gs : List Nat) (s : State) : State :=
  let s := fetchLine 4 .port sub (dirAddr sub) 32 (use .port sub s)
  forEach gs (fun g s => fetchLine 4 .port sub (bitmapAddr g) 64 s) s

/-- Dirty lines are written and the caches are empty: a warm reset's quiesce and the entry into standby (R442, R445). -/
def flushCaches (s : State) : State :=
  let s := forEach (s.svc.cache.map (·.1)) lineLeaves s
  setSvc { s.svc with ctxLru := [], portLru := [], mapLru := s.svc.mapLru.filter fun m => (tget? s.svc.pend m).isSome } s

/-- The caches lose what they hold: a reset (R445). -/
def dropCaches (s : State) : State :=
  setSvc { s.svc with cache := [], ctxLru := [], portLru := [], mapLru := [], pend := [] } s

end Sys2Proof.Machine
end

