-- ==== Sys2Proof/Machine/Graph.lean ====
section
/-!
DEFINITION. The default header graph, transitions and extraction (R532–R534).  A row of R532 that names only a length has
LEN_BASE, MIN_LEN and MAX_LEN at that length (DEDUCED, log 30).
-/
namespace Sys2Proof.Machine

/-- The bytes of a node descriptor (R34), by field. -/
structure NodeFields where
  ctrl : Nat := 1
  type : Nat
  lenCtrl : Nat := 0
  lenOff : Nat := 0
  lenW : Nat := 0
  base : Nat := 0
  minLen : Nat
  maxLen : Nat
  nextOff : Nat := 0
  nextW : Nat := 0
  dflt : Nat := 127
  count : Nat := 0
  first : Nat := 0
  flags : Nat := 0
  totOff : Nat := 0
  totAdd : Nat := 0
  pad : Nat := 0
  valOff : Nat := 0
  valW : Nat := 0
  reason : Nat := 0
  expect : Nat := 0
  mask : Nat := 0
  fragKind : Nat := 0
  longFlag : Nat := 0
  lenMask : Nat := 0

def NodeFields.bytes (n : NodeFields) : Bytes :=
  ([n.ctrl, n.type, n.lenCtrl, n.lenOff, n.lenW, n.base, n.minLen, n.maxLen, n.nextOff, n.nextW, n.dflt, n.count].map
    (BitVec.ofNat 8)) ++
  leBytes 2 n.first ++ leBytes 2 n.flags ++
  ([n.totOff, n.totAdd, n.pad, n.valOff, n.valW, n.reason].map (BitVec.ofNat 8)) ++
  leBytes 2 n.expect ++ leBytes 2 n.mask ++ ([n.fragKind, n.longFlag].map (BitVec.ofNat 8)) ++ leBytes 2 n.lenMask ++
  zeros 2

/-- Nodes 0–19 of R532. -/
def nodeFields : Nat → Option NodeFields
  -- ETH
  | 0 => some { type := 1, base := 14, minLen := 14, maxLen := 14, nextOff := 96, nextW := 16, count := 6 }
  -- VLAN_OUTER
  | 1 => some { type := 2, base := 4, minLen := 4, maxLen := 4,
                nextOff := 16, nextW := 16, count := 5, first := 6, flags := 0x1 }
  -- VLAN_INNER
  | 2 => some { type := 2, base := 4, minLen := 4, maxLen := 4,
                nextOff := 16, nextW := 16, count := 4, first := 11, flags := 0x2 }
  -- MPLS
  | 3 => some { type := 3, base := 4, minLen := 4, maxLen := 4,
                nextOff := 23, nextW := 13, count := 3, first := 15, flags := 0x4 }
  -- IPV4
  | 4 => some { ctrl := 0x75, type := 4, lenCtrl := 5, lenOff := 4, lenW := 4, minLen := 20, maxLen := 60, nextOff := 72, nextW := 8,
                count := 4, first := 18, flags := 0x8, totOff := 16, pad := 46, valW := 4, reason := 8, expect := 4, mask := 0xF, longFlag := 0x85 }
  -- IPV6
  | 5 => some { ctrl := 0x45, type := 5, base := 40, minLen := 40, maxLen := 40, nextOff := 48, nextW := 8, count := 8,
                first := 22, flags := 0x10, totOff := 32, totAdd := 40, pad := 46, valW := 4, reason := 8, expect := 6, mask := 0xF }
  -- IPV6_EXT
  | 6 => some { type := 6, lenCtrl := 7, lenOff := 8, lenW := 8, base := 8,
                minLen := 8, maxLen := 255, nextW := 8, count := 8, first := 22, flags := 0x20 }
  -- IPV6_FRAG
  | 7 => some { ctrl := 0x21, type := 7, base := 8, minLen := 8, maxLen := 8,
                nextW := 8, count := 8, first := 22, flags := 0x20, fragKind := 1 }
  -- TCP
  | 8 => some { type := 8, lenCtrl := 5, lenOff := 96, lenW := 4, minLen := 20, maxLen := 60, flags := 0x100 }
  -- UDP
  | 9 => some { ctrl := 0x5, type := 9, base := 8, minLen := 8, maxLen := 8, nextOff := 16,
                nextW := 16, count := 2, first := 30, flags := 0x200, totOff := 32, pad := 255 }
  -- ICMP
  | 10 => some { type := 10, base := 8, minLen := 8, maxLen := 8 }
  -- ICMPV6
  | 11 => some { type := 11, base := 8, minLen := 8, maxLen := 8 }
  -- GRE
  | 12 => some { ctrl := 0x41, type := 12, lenCtrl := 13, lenW := 4, base := 4, minLen := 4, maxLen := 16, nextOff := 16,
                 nextW := 16, count := 3, first := 32, flags := 0x40, valW := 16, reason := 8, mask := 0x4007, lenMask := 0xB }
  -- VXLAN
  | 13 => some { ctrl := 0x41, type := 13, base := 8, minLen := 8, maxLen := 8, dflt := 17,
                 flags := 0x40, valOff := 4, valW := 1, reason := 8, expect := 1, mask := 0x1 }
  -- GTPU
  | 14 => some { ctrl := 0x41, type := 14, lenCtrl := 21, lenOff := 5, lenW := 3, base := 8, minLen := 8, maxLen := 12, nextOff := 5,
                 nextW := 11, count := 2, first := 35, flags := 0x40, valW := 3, reason := 8, expect := 1, mask := 0x7, lenMask := 0x7 }
  -- GTPU_EXT
  | 15 => some { ctrl := 0x81, type := 15, lenCtrl := 5, lenW := 8, minLen := 4,
                 maxLen := 255, nextW := 8, dflt := 15, count := 1, first := 37 }
  -- GTPU_PDU
  | 16 => some { type := 16, minLen := 0, maxLen := 1, nextW := 4, count := 2, first := 38 }
  -- INNER_ETH
  | 17 => some { type := 1, base := 14, minLen := 14, maxLen := 14,
                 nextOff := 96, nextW := 16, count := 2, first := 40 }
  -- INNER_IPV4
  | 18 => some { ctrl := 0x75, type := 4, lenCtrl := 5, lenOff := 4, lenW := 4, minLen := 20, maxLen := 60, nextOff := 72, nextW := 8,
                 count := 3, first := 42, flags := 0x80, totOff := 16, pad := 46, valW := 4, reason := 8, expect := 4, mask := 0xF, longFlag := 0x85 }
  -- INNER_IPV6
  | 19 => some { ctrl := 0x45, type := 5, base := 40, minLen := 40, maxLen := 40, nextOff := 48, nextW := 8, count := 7,
                 first := 45, flags := 0x80, totOff := 32, totAdd := 40, pad := 46, valW := 4, reason := 8, expect := 6, mask := 0xF }
  | _ => none

/-- A node at reset (R532). -/
def nodeDefault (k : Nat) : Bytes := ((nodeFields k).map NodeFields.bytes).getD (zeros 32)

/-- VALUE, MASK and NEXT_NODE of transition entries 0–51 (R533). -/
def transTable : List (Nat × Nat × Nat) :=
  [(0x8100, 0xFFFF, 1), (0x88A8, 0xFFFF, 1), (0x8847, 0xFFFF, 3), (0x8848, 0xFFFF, 3), (0x800, 0xFFFF, 4),
   (0x86DD, 0xFFFF, 5), (0x8100, 0xFFFF, 2), (0x8847, 0xFFFF, 3), (0x8848, 0xFFFF, 3), (0x800, 0xFFFF, 4),
   (0x86DD, 0xFFFF, 5), (0x8847, 0xFFFF, 3), (0x8848, 0xFFFF, 3), (0x800, 0xFFFF, 4), (0x86DD, 0xFFFF, 5),
   (0, 0x1000, 3), (0x1004, 0x100F, 4), (0x1006, 0x100F, 5), (6, 0xFF, 8), (17, 0xFF, 9), (1, 0xFF, 10),
   (47, 0xFF, 12), (0, 0xFF, 6), (43, 0xFF, 6), (60, 0xFF, 6), (44, 0xFF, 7), (6, 0xFF, 8), (17, 0xFF, 9),
   (58, 0xFF, 11), (47, 0xFF, 12), (0x12B5, 0xFFFF, 13), (0x868, 0xFFFF, 14), (0x800, 0xFFFF, 18),
   (0x86DD, 0xFFFF, 19), (0x6558, 0xFFFF, 17), (0xFF, 0x4FF, 16), (0x4FF, 0x4FF, 15), (0, 0xFF, 16), (4, 0xF, 18),
   (6, 0xF, 19), (0x800, 0xFFFF, 18), (0x86DD, 0xFFFF, 19), (6, 0xFF, 8), (17, 0xFF, 9), (1, 0xFF, 10), (0, 0xFF, 6),
   (43, 0xFF, 6), (60, 0xFF, 6), (44, 0xFF, 7), (6, 0xFF, 8), (17, 0xFF, 9), (58, 0xFF, 11)]

/-- A transition entry at reset (R533). -/
def transDefault (k : Nat) : Bytes :=
  match transTable[k]? with
  | some (v, m, n) => leBytes 2 v ++ leBytes 2 m ++ leBytes 1 n ++ zeros 3
  | none => zeros 8

/-- NODE, OCC, SRC_BIT, WIDTH and DST_BIT of extraction instructions 0–23 (R534). -/
def extractTable : List (Nat × Nat × Nat × Nat × Nat) :=
  [(0, 0, 0, 32, 544), (0, 0, 32, 16, 528), (0, 0, 48, 32, 496), (0, 0, 80, 16, 480), (0, 0, 96, 16, 464),
   (1, 0, 0, 16, 448), (2, 0, 4, 12, 436), (3, 0, 0, 20, 416), (4, 0, 96, 32, 384), (4, 0, 128, 32, 352),
   (4, 0, 72, 8, 344), (4, 0, 8, 8, 336), (5, 0, 64, 32, 304), (5, 0, 96, 32, 272), (5, 0, 128, 32, 240),
   (5, 0, 160, 32, 208), (5, 0, 192, 32, 176), (5, 0, 224, 32, 144), (5, 0, 256, 32, 112), (5, 0, 288, 32, 80),
   (5, 0, 48, 8, 72), (8, 0, 0, 32, 40), (8, 0, 104, 8, 32), (9, 0, 0, 32, 0)]

/-- An extraction instruction at reset (R534). -/
def extractDefault (k : Nat) : Bytes :=
  match extractTable[k]? with
  | some (n, o, sb, w, d) => leBytes 1 n ++ leBytes 1 o ++ leBytes 2 sb ++ leBytes 1 w ++ [0] ++ leBytes 2 d
  | none => zeros 8

/-- A parse profile at reset (R534): profile 0 uses 24 instructions, the others are all zeros. -/
def profileDefault (k : Nat) : Bytes := if k = 0 then zeros 4 ++ [24] ++ zeros 11 else zeros 16

end Sys2Proof.Machine
end

