-- ==== Sys2Proof/Machine/Epoch.lean ====
section
/-!
DEFINITION. The epoch banks (R54–R58): access to their objects, the commands that write them (R35, R42, R43, R48–R52, R57,
R65) and read them (R412), and the TCAM copies of ASSURED (R65–R67).
-/
namespace Sys2Proof.Machine

def setEp (x : EpochState) (s : State) : State := { s with ep := x }

/-- The shadow epoch number (R55). -/
def shadowEpoch (s : State) : BitVec 32 := s.ep.epoch + 1

/-- The number of the shadow bank. -/
def shadowNo (s : State) : Bool := !s.ep.activeNo

/-- The state of a bank. -/
def bankSt (b : Bool) (s : State) : BankSt := if b then s.ep.st1 else s.ep.st0

def setBankSt (b : Bool) (x : BankSt) (s : State) : State :=
  setEp (if b then { s.ep with st1 := x } else { s.ep with st0 := x }) s

/-- The shadow bank may not be written now (R57, R60). -/
def shadowBusy (s : State) : Bool :=
  bankSt (shadowNo s) s == .draining || s.ep.commit != .none || s.ep.copyMbx.isSome

/-- What the epoch field of a request and the state of the shadow bank say (R57). -/
def epochCheck (r : YcpReq) (s : State) : Nat :=
  if r.epoch ≠ shadowEpoch s then stSTALE_EPOCH else if shadowBusy s then stBUSY else stOK

/-- The earlier of two failures in the order of R408. -/
def earlier (a b : Nat) : Nat :=
  if a = stOK then b else if b = stOK then a else if stOrder b < stOrder a then b else a

/-- A form-L command that writes epoch objects: the records and the epoch are checked together (R57, R408, R409). -/
def formLE (size : Nat → Nat) (chk : State → Nat → Bytes → Nat) (app : Nat → Bytes → State → State) : YHandler :=
  fun r b rm s =>
    let x := formL size (fun s i c => earlier (chk s i c) (epochCheck r s)) app r b rm s
    if x.status = stOK ∧ epochCheck r s ≠ stOK then yFail (epochCheck r s) s else x

/-- The shadow bank changed. -/
def onShadow (f : Bank → Bank) (s : State) : State :=
  setEp (s.ep.setBank (shadowNo s) (f s.ep.shadowBank)) s

/-! Records of a bank. -/

def bankNode (k : Bank) (n : Nat) : Bytes := tget (nodeDefault n) k.nodes n
def bankTrans (k : Bank) (n : Nat) : Bytes := tget (transDefault n) k.trans n
def bankProfile (k : Bank) (n : Nat) : Bytes := tget (profileDefault n) k.profiles n
def bankExtract (k : Bank) (n : Nat) : Bytes := tget (extractDefault n) k.extracts n
def bankCls (k : Bank) (n : Nat) : Bytes := tget (zeros 16) k.cls n
def bankRule (k : Bank) (n : Nat) : Bytes := tget (zeros 176) k.rules n

/-- Keys of parser-table parity marks (R53). -/
def parserKey (b : Bool) (table n : Nat) : Nat := (8 * b2n b + table) * 4096 + n

def clearParser (b : Bool) (table n : Nat) (s : State) : State :=
  setEp { s.ep with parserBad := tdel s.ep.parserBad (parserKey b table n) } s

def parserBad (b : Bool) (table n : Nat) (s : State) : Bool := tget 0 s.ep.parserBad (parserKey b table n) != 0

/-! The action word (R50). -/

def actKind (a : Nat) : Nat := bits a 0 3
def actProfile (a : Nat) : Nat := bits a 4 8
def actTC (a : Nat) : Nat := bits a 12 4
def actAssured (a : Nat) : Bool := bit a 16
def actClass (a : Nat) : Nat := bits a 17 3
def actDestMode (a : Nat) : Nat := bits a 20 2
def actDest (a : Nat) : Nat := bits a 22 16
def actMeter (a : Nat) : Nat := bits a 38 16
def actMirror (a : Nat) : Nat := bits a 54 4
def actPunt (a : Nat) : Nat := bits a 58 6

/-- The encoding of an action word (R50). -/
def actEncodes (a : Nat) : Bool := decide (actKind a < 5) && !bit a 3

/-- DEST_MODE 1 names a port that a MODE word and the join record allow (R50, R462). -/
def destAllowed (mode : BitVec 16) (members a : Nat) : Bool :=
  actDestMode a != 1 ||
    (if mode.getLsbD mJOINED then decide (actDest a < 256) && bit members (actDest a / 64) else decide (actDest a < 64))

/-! PARSE_GRAPH_WRITE (R34, R35). -/

/-- Reserved fields and encodings of a node, checked always (R35). A reserved code of LEN_FN is one of them, and the
reserved codes of FRAG_KIND and VALUE_REASON are looked at with VALID 1 alone (DESIGN CHOICE, log 68). -/
def nodeEncodes (r : Bytes) : Bool :=
  fld r 2 1 / 32 == 0 && bits (fld r 2 1) 3 2 != 3 && fld r 13 1 / 4 == 0 && fld r 15 1 / 4 == 0 &&
  bits (fld r 27 1) 4 3 == 0 && fld r 30 2 == 0

def nodeValid (r : Bytes) : Bool := bit (fld r 0 1) 0
def nodeTot (r : Bytes) : Bool := bit (fld r 0 1) 2
def nodeFrag (r : Bytes) : Bool := bit (fld r 0 1) 5
def nodeValue (r : Bytes) : Bool := bit (fld r 0 1) 6
def nodeNextEnd (r : Bytes) : Bool := bit (fld r 0 1) 7
def nodeLenMode (r : Bytes) : Bool := bit (fld r 2 1) 0

/-- Encodings of a node written with VALID 1; fields of a check that is not enabled are not looked at (R34, R35). -/
def nodeSound (r : Bytes) : Bool :=
  decide (fld r 12 2 + fld r 11 1 ≤ 1024) &&
  (!nodeLenMode r || decide (fld r 3 1 + fld r 4 1 ≤ 256)) &&
  (!nodeValue r || decide (fld r 19 1 + fld r 20 1 ≤ 256)) &&
  (!nodeTot r || decide (fld r 16 1 + 16 ≤ 256)) &&
  (if nodeNextEnd r then decide ((fld r 8 1 + fld r 9 1 + 7) / 8 ≤ fld r 6 1) else decide (fld r 8 1 + fld r 9 1 ≤ 256)) &&
  decide (fld r 6 1 ≤ fld r 7 1) &&
  (!bit (fld r 27 1) 7 || decide (bits (fld r 27 1) 0 4 ≤ 9)) &&
  (!nodeValue r || [8, 12, 13, 14, 15].contains (fld r 21 1)) && decide (fld r 26 1 ≤ 1)

/-- Ranges of a node written with VALID 1 (R34). -/
def nodeRanges (r : Bytes) : Bool :=
  (!nodeLenMode r || decide (1 ≤ fld r 4 1 ∧ fld r 4 1 ≤ 16)) && decide (1 ≤ fld r 7 1) && decide (fld r 9 1 ≤ 16) &&
  decide (fld r 10 1 ≤ 127) && decide (fld r 11 1 ≤ 16) &&
  (!nodeValue r || decide (1 ≤ fld r 20 1 ∧ fld r 20 1 ≤ 16))

/-- INDEX selects a node, or 0x1000 + a transition (R411). -/
def graphCheck (_ : State) (i : Nat) (b : Bytes) : Nat :=
  if i < 4096 then
    if !nodeEncodes b ∨ (nodeValid b ∧ !nodeSound b) then stINVALID
    else if 127 ≤ i ∨ (nodeValid b ∧ !nodeRanges b) then stRANGE else stOK
  else if fld b 5 3 ≠ 0 then stINVALID
  else if 4096 + 1024 ≤ i ∨ 128 ≤ fld b 4 1 then stRANGE else stOK

def graphApply (i : Nat) (b : Bytes) (s : State) : State :=
  if i < 4096 then
    clearParser (shadowNo s) 0 i (onShadow (fun k => { k with nodes := tset (nodeDefault i) k.nodes i b }) s)
  else
    let n := i - 4096
    clearParser (shadowNo s) 1 n (onShadow (fun k => { k with trans := tset (transDefault n) k.trans n b }) s)

/-- PARSE_GRAPH_WRITE (0x0504). -/
def execParseGraphWrite (r : YcpReq) (s : State) : Host.Outcome State Fault Refusal :=
  ycp 0x0504 r (formLE (fun i => if i < 4096 then 32 else 8) graphCheck graphApply) s

/-! PARSE_PROFILE_WRITE (R42, R43). -/

/-- INDEX selects a profile, or 0x1000 + an instruction (R411). -/
def profileCheck (_ : State) (i : Nat) (b : Bytes) : Nat :=
  if i < 4096 then
    if fld b 1 1 / 8 ≠ 0 ∨ bits (fld b 1 1) 1 2 = 3 ∨ fld b 6 10 ≠ 0 then stINVALID
    else if 16 ≤ i ∨ 127 ≤ fld b 0 1 ∨ 768 ≤ fld b 2 2 ∨ 48 < fld b 4 1 ∨ 64 ≤ fld b 5 1 then stRANGE else stOK
  else if fld b 1 1 / 4 ≠ 0 ∨ fld b 5 1 ≠ 0 ∨ 576 < fld b 6 2 + fld b 4 1 then stINVALID
  else if 4096 + 768 ≤ i ∨ 127 ≤ fld b 0 1 ∨ 2048 ≤ fld b 2 2 ∨ fld b 4 1 = 0 ∨ 32 < fld b 4 1 then stRANGE else stOK

def profileApply (i : Nat) (b : Bytes) (s : State) : State :=
  if i < 4096 then
    clearParser (shadowNo s) 2 i (onShadow (fun k => { k with profiles := tset (profileDefault i) k.profiles i b }) s)
  else
    let n := i - 4096
    clearParser (shadowNo s) 3 n (onShadow (fun k => { k with extracts := tset (extractDefault n) k.extracts n b }) s)

/-- PARSE_PROFILE_WRITE (0x0505). -/
def execParseProfileWrite (r : YcpReq) (s : State) : Host.Outcome State Fault Refusal :=
  ycp 0x0505 r (formLE (fun i => if i < 4096 then 16 else 8) profileCheck profileApply) s

/-- DEFAULT_ACTION in the format of R50 (R52). -/
def clsCheck (_ : State) (i : Nat) (b : Bytes) : Nat :=
  if fld b 8 8 ≠ 0 ∨ !actEncodes (fld b 0 8) then stINVALID else if 64 ≤ i then stRANGE else stOK

def clsApply (i : Nat) (b : Bytes) (s : State) : State :=
  clearParser (shadowNo s) 4 i (onShadow (fun k => { k with cls := tset (zeros 16) k.cls i b }) s)

/-- CLS_PROFILE_WRITE (0x0506). -/
def execClsProfileWrite (r : YcpReq) (s : State) : Host.Outcome State Fault Refusal :=
  ycp 0x0506 r (formLE (fun _ => 16) clsCheck clsApply) s

/-! Rules (R48, R50, R51, R65). -/

def ruleValue (r : Bytes) : Nat := fld r 0 80
def ruleMask (r : Bytes) : Nat := fld r 80 80
def ruleAction (r : Bytes) : Nat := fld r 160 8
def ruleValid (r : Bytes) : Bool := bit (fld r 168 1) 0

/-- ASSURED of the shadow MODE word. -/
def shadowAssured (s : State) : Bool := s.ep.shadowBank.mode.getLsbD mASSURED

/-- The upper halves hold twins, or are being cleared of them (R65, R67).  DESIGN CHOICE (log 83): after the boundary that clears
ASSURED, a write to an upper half is BUSY until the half is cleared. -/
def halvesTaken (s : State) : Bool := inMode mASSURED s || s.ep.dup != .off

def ruleCheck (s : State) (i : Nat) (b : Bytes) : Nat :=
  if !actEncodes (ruleAction b) ∨ 2 ≤ fld b 168 8 ∨ (actDestMode (ruleAction b) = 2 ∧ 16384 ≤ actDest (ruleAction b)) then
    stINVALID
  else if 65536 ≤ i ∨ (32768 ≤ i ∧ shadowAssured s) then stRANGE
  else if 32768 ≤ i ∧ halvesTaken s then stBUSY
  else if !destAllowed s.ep.shadowBank.mode s.join.members (ruleAction b) then late stINVALID
  else stOK

/-- VALUE bits where MASK is 0 are stored as 0 (R48). -/
def ruleStored (b : Bytes) : Bytes := leBytes 80 (ruleValue b &&& ruleMask b) ++ slice b 80 96

/-- A TCAM entry, by bank and number, written; its parity is sound. -/
def putEntry (b : Bool) (n : Nat) (x : Bytes) (s : State) : State :=
  let k := s.ep.bank b
  let e := s.ep.setBank b { k with rules := tset (zeros 176) k.rules n x }
  setEp { e with tcamBad := tdel e.tcamBad (65536 * b2n b + n) } s

/-- Rule `i` of the shadow epoch: the primary, and the twin when ASSURED is set in both words (R65); both counters of the
rule clear (R51). -/
def ruleApply (i : Nat) (b : Bytes) (s : State) : State :=
  let sh := shadowNo s
  let x := ruleStored b
  let s := putEntry sh i x s
  let s := if inMode mASSURED s && shadowAssured s then putEntry (!sh) (32768 + i) x s else s
  setGauge .RULE_BYTES (65536 * b2n sh + i) 0 (setGauge .RULE_PKTS (65536 * b2n sh + i) 0 s)

/-- RULE_WRITE (0x0501). -/
def execRuleWrite (r : YcpReq) (s : State) : Host.Outcome State Fault Refusal :=
  ycp 0x0501 r (formLE (fun _ => 176) ruleCheck ruleApply) s

/-- RULE_READ (0x0502): SEL is the bank. -/
def execRuleRead (r : YcpReq) (s : State) : Host.Outcome State Fault Refusal :=
  ycp 0x0502 r (formSel 2 65536 176 fun s b k => bankRule (s.ep.bank (b == 1)) k) s

/-- RULE_COUNTERS (0x0503): packets and bytes; SEL is the bank (DEDUCED, log 31). -/
def execRuleCounters (r : YcpReq) (s : State) : Host.Outcome State Fault Refusal :=
  ycp 0x0503 r (formSel 2 65536 16 fun s b k =>
    leBytes 8 (getCtr .RULE_PKTS (65536 * b + k) s) ++ leBytes 8 (getCtr .RULE_BYTES (65536 * b + k) s)) s

/-! TCAM parity and the twin copies (R53, R65–R67). -/

def tcamBad (b : Bool) (n : Nat) (s : State) : Bool := tget 0 s.ep.tcamBad (65536 * b2n b + n) != 0

def markTcam (b : Bool) (n : Nat) (s : State) : State :=
  setEp { s.ep with tcamBad := tput s.ep.tcamBad (65536 * b2n b + n) 1 } s

/-- The bank and rule whose copy a TCAM entry is in the ASSURED layout (R65). -/
def entryOwner (b : Bool) (n : Nat) : Bool × Nat := if n < 32768 then (b, n) else (!b, n - 32768)

/-- The other copy of an entry in the ASSURED layout. -/
def twinOf (b : Bool) (n : Nat) : Bool × Nat := if n < 32768 then (!b, n + 32768) else (!b, n - 32768)

/-- The entry is a copy of a rule that has two copies: the active epoch's once DUP_ACTIVE, and the shadow's when ASSURED is
set in both words (R65, R67). -/
def twinned (b : Bool) (n : Nat) (s : State) : Bool :=
  if (entryOwner b n).1 == s.ep.activeNo then s.ep.dup == .active
  else s.ep.dup == .active && (shadowAssured s || bankSt (shadowNo s) s == .draining)

/-- The entry serves an epoch that is active or draining. -/
def entryInUse (b : Bool) (n : Nat) (s : State) : Bool :=
  let o := if s.ep.dup == .off then b else (entryOwner b n).1
  bankSt o s != .shadow

/-- A TCAM entry fails parity (R53). -/
def tcamFail (b : Bool) (n : Nat) (s : State) : State :=
  raise (if entryInUse b n s then 18 else 19) (65536 * b2n b + n) 0 (markTcam b n s)

/-- TCAM_SCRUB: `fail` names what failed parity: table 0 TCAM entry, 1 node, 2 transition, 3 parse profile, 4 extraction
instruction, 5 classification profile; its bank and its number (R53).  A parser entry is reported when a packet meets it or
the scrub does. -/
def execTcamScrub (fail : Option (Nat × Bool × Nat)) (s : State) : Host.Outcome State Fault Refusal :=
  .next (match fail with
    | none => s
    | some (0, b, n) => tcamFail b n s
    | some (t, b, n) =>
      if t ≤ 5 then
        raise (if t ≤ 2 then 16 else 17) ((t - 1) * 4096 + n) 0
          (setEp { s.ep with parserBad := tput s.ep.parserBad (parserKey b (t - 1) n) 1 } s)
      else s)

/-- TWIN_REPAIR: a failed copy whose twin passes parity is rewritten from it (R53). -/
def execTwinRepair (b : Bool) (n : Nat) (s : State) : Host.Outcome State Fault Refusal :=
  .next <|
    let t := twinOf b n
    if tcamBad b n s && twinned b n s && !tcamBad t.1 t.2 s then putEntry b n (bankRule (s.ep.bank t.1) t.2) s else s

/-- A table's entries of the lower half, moved to the upper one. -/
def toUpper (t : Tbl Bytes) : Tbl Bytes := (t.filter fun x => decide (x.1 < 32768)).map fun x => (x.1 + 32768, x.2)

def lowerHalf (t : Tbl Bytes) : Tbl Bytes := t.filter fun x => decide (x.1 < 32768)
def upperHalf (t : Tbl Bytes) : Tbl Bytes := t.filter fun x => decide (32768 ≤ x.1)

/-- Parity marks of the upper half of a bank removed. -/
def soundUpper (b : Bool) (t : Tbl Nat) : Tbl Nat :=
  t.filter fun x => !decide (65536 * b2n b + 32768 ≤ x.1 ∧ x.1 < 65536 * b2n b + 65536)

/-- The active epoch's primaries copied into the other bank's upper half (R67).  DESIGN CHOICE (log 83): the twin of a primary
that has failed parity is stored sound, with the primary's contents. -/
def copyTwins (s : State) : State :=
  let a := s.ep.activeNo
  let o := s.ep.shadowBank
  let o := { o with rules := lowerHalf o.rules ++ toUpper s.ep.activeBank.rules }
  setEp { s.ep.setBank (!a) o with tcamBad := soundUpper (!a) s.ep.tcamBad } s

/-- TWIN_COPY_DONE: the twins are in place and DUP_ACTIVE is reported (R67). -/
def execTwinCopyDone (s : State) : Host.Outcome State Fault Refusal :=
  .next (if s.ep.dup = .pending then setEp { (copyTwins s).ep with dup := .active } s else s)

/-- TWIN_HALF_CLEAR_DONE: after ASSURED the half of twins is cleared, and the full TCAM serves again (R67).  DESIGN CHOICE
(log 83): the upper half of either bank is cleared, with its parity marks. -/
def execTwinHalfClearDone (s : State) : Host.Outcome State Fault Refusal :=
  .next (if s.ep.dup = .clearing then
      let k0 := { s.ep.bank0 with rules := lowerHalf s.ep.bank0.rules }
      let k1 := { s.ep.bank1 with rules := lowerHalf s.ep.bank1.rules }
      setEp { s.ep with bank0 := k0, bank1 := k1, dup := .off, tcamBad := soundUpper false (soundUpper true s.ep.tcamBad) } s
    else s)

end Sys2Proof.Machine
end

