-- ==== Sys2Proof/Machine/Parse.lean ====
section
/-!
DEFINITION. The parser (R31–R47): the header walk, its checks, the layer list, and the parse vector.
-/
namespace Sys2Proof.Machine

/-- Bits [off, off + w) of a frame in network order; a bit at or past byte `lim` reads 0 (R32). -/
def bitsAt (b : Bytes) (lim off w : Nat) : Nat :=
  let first := off / 8
  let last := (off + w + 7) / 8
  let v := ((List.range (last - first)).map (first + ·)).foldl
    (fun a i => a * 256 + (if i < lim then (b.getD i 0).toNat else 0)) 0
  (v >>> (last * 8 - off - w)) % 2 ^ w

/-- The number of 1 bits of a value. -/
def popCount : Nat → Nat → Nat
  | 0, _ => 0
  | n + 1, v => v % 2 + popCount n (v / 2)

/-- H (R33). -/
def hdrLen (r b : Bytes) (lim off : Nat) : Nat :=
  if !nodeLenMode r then fld r 5 1
  else
    let f := bitsAt b lim (8 * off + fld r 3 1) (fld r 4 1)
    let m := f &&& fld r 28 2
    let g := match bits (fld r 2 1) 3 2 with
      | 1 => popCount 16 m
      | 2 => if m = 0 then 0 else 1
      | _ => f
    fld r 5 1 + g <<< bits (fld r 2 1) 1 2

/-- Where the fragment fields lie (R36): the offset of 13 bits, and more-fragments. -/
def fragFields (r b : Bytes) (lim off : Nat) : Nat × Bool :=
  if fld r 26 1 = 0 then (bitsAt b lim (8 * off + 51) 13, bitsAt b lim (8 * off + 50) 1 == 1)
  else (bitsAt b lim (8 * off + 16) 13, bitsAt b lim (8 * off + 31) 1 == 1)

/-- Ones'-complement sum folded to 16 bits. -/
def foldSum : Nat → Nat → Nat
  | 0, v => v
  | n + 1, v => if v < 65536 then v else foldSum n (v / 65536 + v % 65536)

/-- The ones'-complement sum of `n` bytes from `off`, in 16-bit words, an odd last byte padded with 0. -/
def onesSum (b : Bytes) (lim off n : Nat) : Nat :=
  let word (k : Nat) : Nat :=
    bitsAt b lim (8 * (off + 2 * k)) 8 * 256 + (if 2 * k + 1 < n then bitsAt b lim (8 * (off + 2 * k + 1)) 8 else 0)
  foldSum 8 (((List.range ((n + 1) / 2)).map word).sum)

/-- The header that a node finds at an offset. `encl` is the end of the room the nearest enclosing total length gives. -/
def readHdr (n : Nat) (r b : Bytes) (lim off : Nat) (encl : Option Int) : Hdr where
  node := n
  rule := r
  off := off
  len := hdrLen r b lim off
  type := fld r 1 1
  tot := bitsAt b lim (8 * off + fld r 16 1) 16 + fld r 17 1
  encl := encl.map (· - off)
  frag := if nodeFrag r then 8 * (fragFields r b lim off).1 else 0
  valueOk :=
    (bitsAt b lim (8 * off + fld r 19 1) (fld r 20 1) &&& fld r 24 2) == (fld r 22 2 &&& fld r 24 2)
  csumOk := onesSum b lim off (hdrLen r b lim off) == 0xFFFF

/-- The checks of a header in the order of R45, given R: reason, whether R47 defers it, and whether it fails. -/
def hdrChecks (r : Bytes) (h : Hdr) (room : Int) : List (Nat × Bool × Bool) :=
  let c := fld r 0 1
  let totEn := bit c 2
  let exact := bit c 3
  let e := h.encl.getD room
  let t : Int := if totEn then (h.tot : Int) else e
  [(0x0, true, decide (room < h.len)),
   (0x1, false, decide (h.len < fld r 6 1)),
   (0x2, false, decide (fld r 7 1 < h.len)),
   (fld r 21 1, false, bit c 6 && !h.valueOk),
   (0xA, false, bit c 4 && !h.csumOk),
   (0x4, false, totEn && decide (h.tot < h.len)),
   (0x7, true, totEn && h.encl.isSome && decide (e < h.tot ∧ e < room)),
   (0x3, true, totEn && decide (room < h.tot)),
   (0x6, true, totEn && exact && (h.tot : Int) != e),
   (0x5, true, totEn && !exact && decide ((fld r 18 1 : Int) < room - h.tot)),
   (0xB, !totEn && h.encl.isNone, bit c 5 && decide (65535 < h.frag + (t - h.len)))]

/-- The first failing check: all of them when the frame's end is known, else those that are not deferred (R45, R47). -/
def hdrReason (r : Bytes) (h : Hdr) (room : Int) (known : Bool) : Option Nat :=
  ((hdrChecks r h room).find? fun c => (known || !c.2.1) && c.2.2).map (·.1)

/-- The next node (R32): the first transition that matches, DEFAULT_NEXT, or none on a STRICT node; `.error` a transition
that failed parity (R53). -/
def nextNode (bk : Bank) (bad : Nat → Bool) (r b : Bytes) (lim : Nat) (h : Hdr) : Except Nat (Option Nat) :=
  let w := fld r 9 1
  let o := if nodeNextEnd r then 8 * (h.off + h.len) - fld r 8 1 - w else 8 * h.off + fld r 8 1
  let v := bitsAt b lim o w
  let es := if w = 0 then [] else (List.range (fld r 11 1)).map (fld r 12 2 + ·)
  match es.find? (fun k => bad k || (v &&& fld (bankTrans bk k) 2 2) == (fld (bankTrans bk k) 0 2 &&& fld (bankTrans bk k) 2 2)) with
  | some k => if bad k then .error k else .ok (some (fld (bankTrans bk k) 4 1))
  | none => if bit (fld r 0 1) 1 ∧ w ≠ 0 then .ok none else .ok (some (fld r 10 1))

/-- What the walk found. -/
structure Parsed where
  hdrs : List Hdr := []
  flags : Nat := 0
  /-- The malformed reason (R45). -/
  reason : Option Nat := none
  /-- Table and index of an entry that failed parity (R53). -/
  parity : Option (Nat × Nat) := none
  deriving DecidableEq, Repr

/-- PARTIAL with the limit that was reached (R37). -/
def Parsed.stop (p : Parsed) (limitBit : Nat) : Parsed := { p with flags := p.flags ||| 1 ||| 2 ^ limitBit }

/-- PARTIAL (R37). -/
def Parsed.isPartial (p : Parsed) : Bool := bit p.flags 0

/-- The header accepted: it enters the layer list and sets its flags (R32, R34, R36). -/
def Parsed.accept (p : Parsed) (r : Bytes) (h : Hdr) (frag : Option (Nat × Bool)) : Parsed :=
  let lf := fld r 27 1
  let f1 := (fld r 14 2 % 1024) <<< 6
  let f2 := if bit lf 7 ∧ fld r 6 1 < h.len then 2 ^ (6 + bits lf 0 4) else 0
  let f3 := match frag with
    | some (0, true) => 16
    | some (0, false) => 0
    | some _ => 32
    | none => 0
  { p with hdrs := p.hdrs ++ [h], flags := p.flags ||| f1 ||| f2 ||| f3 }

/-- The walk (R32–R37). `n` bytes of frame without its FCS; `known` says whether that length is known (R47).  DESIGN CHOICE
(log 68): while it is not known, a header that ends beyond byte 255 is PARTIAL; a later fragment takes END before the
transitions are searched, so it cannot fail NEXT_UNKNOWN on a STRICT node. -/
def walk (bk : Bank) (bad : Nat → Nat → Bool) (b : Bytes) (n : Nat) (known : Bool) :
    Nat → Nat → Nat → Option Int → Parsed → Parsed
  | 0, _, _, _, p => p
  | fuel + 1, node, off, encl, p =>
    let r := bankNode bk node
    let lim := if known then min 256 n else 256
    if 127 ≤ node then p
    else if bad 0 node then { p with parity := some (0, node) }
    else if !nodeValid r then p
    else
      let h := readHdr node r b lim off encl
      let room : Int := (n : Int) - off
      if 256 < off + h.len ∧ (!known ∨ off + h.len < n) then p.stop 3
      else
        match hdrReason r h room known with
        | some c => { p with reason := some c }
        | none =>
          let frag := if nodeFrag r then some (fragFields r b lim off) else none
          let later := match frag with
            | some (o, _) => o != 0
            | none => false
          match (if later then .ok (some 127) else nextNode bk (bad 1) r b lim h) with
          | .error k => { p with parity := some (1, k) }
          | .ok none => { p with reason := some 0x9 }
          | .ok (some nx) =>
            if 16 ≤ p.hdrs.length then p.stop 2
            else
              let encl' := if nodeTot r then some ((off : Int) + h.tot) else encl
              walk bk bad b n known fuel nx (off + h.len) encl' (p.accept r h frag)

/-- A frame parsed from a start node (R32). -/
def parseFrame (bk : Bank) (bad : Nat → Nat → Bool) (start : Nat) (b : Bytes) (n : Nat) (known : Bool) : Parsed :=
  walk bk bad b n known 17 start 0 none {}

/-- The deferred checks at the end of a cut-through frame of `n` bytes without its FCS, headers in walk order, against what was
captured at parse time (R47). -/
def deferredReason (n : Nat) (hdrs : List Hdr) : Option Nat :=
  hdrs.findSome? fun h => ((hdrChecks h.rule h ((n : Int) - h.off)).find? fun c => c.2.1 && c.2.2).map (·.1)

/-- Where the payload begins, after the last accepted header (R31). -/
def payloadOff (p : Parsed) : Nat := (p.hdrs.getLast?.map fun h => h.off + h.len).getD 0

/-- The outer VLAN identifier, 0 for an untagged frame: the first header of kind 2 (R40, R531). -/
def outerVlan (b : Bytes) (p : Parsed) : Nat :=
  match p.hdrs.find? fun h => h.type == 2 with
  | some h => bitsAt b 256 (8 * h.off + 4) 12
  | none => 0

/-- PCP of the outer tag (R234). -/
def outerPcp (b : Bytes) (p : Parsed) : Option Nat :=
  (p.hdrs.find? fun h => h.type == 2).map fun h => bitsAt b 256 (8 * h.off) 3

/-! The parse vector (R41–R44). -/

/-- The instructions of a profile. Where EXTRACT_BASE + EXTRACT_COUNT passes 768, the instructions that exist run alone
(DESIGN CHOICE, log 68: R42 and R43 neither refuse such a profile nor give the rest a meaning). -/
def profileExtracts (prof : Bytes) : List Nat :=
  ((List.range (fld prof 4 1)).map (fld prof 2 2 + ·)).filter (· < 768)

/-- The field an instruction extracts, at its place in the vector (R43, R44). -/
def extractField (b : Bytes) (lim : Nat) (p : Parsed) (x : Bytes) : Nat :=
  match (p.hdrs.filter fun h => h.node == fld x 0 1)[bits (fld x 1 1) 0 2]? with
  | some h => bitsAt b lim (8 * h.off + fld x 2 2) (fld x 4 1) <<< fld x 6 2
  | none => 0

/-- Bits [575:0] of the vector (R41). -/
def parseVector (bk : Bank) (prof : Bytes) (b : Bytes) (n : Nat) (p : Parsed) : Nat :=
  (profileExtracts prof).foldl (fun v k => v ||| extractField b (min 256 n) p (bankExtract bk k)) 0

/-- Instructions of a profile that write one bit twice (R43). -/
def extractsOverlap (bk : Bank) (prof : Bytes) : Bool :=
  let spans := (profileExtracts prof).map fun k => (fld (bankExtract bk k) 6 2, fld (bankExtract bk k) 4 1)
  spans.zipIdx.any fun x => spans.zipIdx.any fun y =>
    decide (x.2 < y.2 ∧ x.1.1 < y.1.1 + y.1.2 ∧ y.1.1 < x.1.1 + x.1.2)

/-- The metadata container, bits [639:576] (R41). -/
def metadata (port flags service profile : Nat) (sub : Option Nat) : Nat :=
  port % 64 + (flags % 65536) <<< 6 + (service % 4096) <<< 22 + (profile % 64) <<< 34 +
  (match sub with
   | some x => (x % 8388608) <<< 40 + 1 <<< 63
   | none => 0)

/-! The classifier (R48, R49, R65–R67). -/

/-- An entry matches a key (R48). -/
def entryMatches (key : Nat) (r : Bytes) : Bool := ruleValid r && ((key ^^^ ruleValue r) &&& ruleMask r) == 0

/-- The first matching entry of a bank from `lo` up to `hi` (R49); one that failed parity never matches (R53). -/
def searchHalf (b : Bool) (lo hi key : Nat) (s : State) : Option (Nat × Nat) :=
  ((s.ep.bank b).rules.find? fun x =>
    decide (lo ≤ x.1 ∧ x.1 < hi) && !tcamBad b x.1 s && entryMatches key x.2).map fun x => (x.1 - lo, ruleAction x.2)

/-- The search of a packet stamped with bank `b` (R49, R66, R67): `.error` a mismatch of the two copies, else the rule and
its action word, none for the profile default. -/
def classify (b : Bool) (key : Nat) (s : State) : Except Unit (Option (Nat × Nat)) :=
  match s.ep.dup with
  | .off => .ok (searchHalf b 0 65536 key s)
  | .active =>
    let x := searchHalf b 0 32768 key s
    if x = searchHalf (!b) 32768 65536 key s then .ok x else .error ()
  | _ => .ok (searchHalf b 0 32768 key s)

end Sys2Proof.Machine
end

