-- ==== Sys2Proof/Machine/Lookup.lean ====
section
/-!
DEFINITION. The lookup tables (R203–R231): service lookup, subscriber contexts, the L2 table and its learn engine, the
key-search CAM, the commands of group 0x02 and the table command window.
-/
namespace Sys2Proof.Machine

def setLook (x : LookupState) (s : State) : State := { s with look := x }

/-- The ageing time base: the active time domain in ms, modulo 2^32 (R95). -/
def msNow (s : State) : Nat :=
  let t := activeTime s
  (secOf t * 1000 + nsecOf t / 1000000) % 2 ^ 32

/-- The idle time since `t`; one of 2^31 or more counts as 0 (R95). -/
def idleMs (now t : Nat) : Nat :=
  let d := (now + 2 ^ 32 - t) % 2 ^ 32
  if 2 ^ 31 ≤ d then 0 else d

/-! The service table (R203–R208). -/

def svcEntry (k : Nat) (s : State) : Bytes := tget (zeros 24) s.look.svc k

def svcValid (e : Bytes) : Bool := bit (fld e 0 1) 0
def svcL2En (e : Bytes) : Bool := bit (fld e 0 1) 1
def svcLearn (e : Bytes) : Bool := bit (fld e 0 1) 2
def svcSubReq (e : Bytes) : Bool := bit (fld e 0 1) 3
def svcMeterEn (e : Bytes) : Bool := bit (fld e 0 1) 4
def svcService (e : Bytes) : Nat := bits (fld e 2 2) 0 12
def svcClsProfile (e : Bytes) : Nat := bits (fld e 4 1) 0 6
def svcDefMode (e : Bytes) : Nat := bits (fld e 13 1) 0 2
def svcDefDest (e : Bytes) : Nat := fld e 14 2
def svcMeterBase (e : Bytes) : Nat := fld e 16 2

/-- The subscriber offset O and ID, or why the derivation fails: true for a sum that overflowed (R205). -/
def subDerive (e : Bytes) (vec flags vlan : Nat) : Except Bool (Nat × Nat) :=
  let base := bits (fld e 8 4) 0 23
  let sum (o : Nat) : Except Bool (Nat × Nat) := if 8388608 ≤ base + o then .error true else .ok (o, base + o)
  match bits (fld e 1 1) 0 3 with
  | 0 => .error false
  | 1 => .ok (0, base)
  | 2 =>
    let f := fld e 12 1
    if bit f 4 ∧ !bit flags (bits f 0 4) then .error false
    else sum (bits vec (bits (fld e 6 2) 0 10) (bits (fld e 5 1) 0 5))
  | _ => sum vlan

/-- Encodings of a service entry (R204). -/
def svcEncodes (b : Bytes) : Bool :=
  fld b 0 1 / 32 == 0 && decide (fld b 1 1 < 4) && fld b 3 1 / 16 == 0 && fld b 4 1 / 64 == 0 && fld b 5 1 / 32 == 0 &&
  fld b 7 1 / 4 == 0 && fld b 8 4 / 8388608 == 0 && fld b 12 1 / 32 == 0 && decide (fld b 13 1 < 3) && fld b 18 6 == 0

/-- Ranges of a service entry; SUB_W and SUB_OFF are looked at for VECTOR, DEF_DEST by its mode (R204). -/
def svcRanges (b : Bytes) : Bool :=
  let w := fld b 5 1
  (fld b 1 1 != 2 || decide (1 ≤ w ∧ w ≤ 23 ∧ fld b 6 2 + w ≤ 576)) &&
  (match svcDefMode b with
   | 1 => decide (svcDefDest b < 64)
   | 2 => decide (svcDefDest b < 16384)
   | _ => true)

def svcCheck (s : State) (i : Nat) (b : Bytes) : Nat :=
  if !svcEncodes b ∨ portUnused (i / 4096) s then stINVALID else if 262144 ≤ i ∨ !svcRanges b then stRANGE else stOK

/-- An entry written whole; its parity is sound (R228, R229). -/
def svcPut (i : Nat) (b : Bytes) (s : State) : State :=
  setLook { s.look with svc := tset (zeros 24) s.look.svc i b, svcBad := tdel s.look.svcBad i } s

/-- SVC_TABLE_WRITE (0x0201). -/
def execSvcTableWrite (r : YcpReq) (s : State) : Host.Outcome State Fault Refusal :=
  ycp 0x0201 r (formL (fun _ => 24) svcCheck svcPut) s

/-- SVC_TABLE_READ (0x0202). -/
def execSvcTableRead (r : YcpReq) (s : State) : Host.Outcome State Fault Refusal :=
  ycp 0x0202 r (formS 262144 24 fun s k => svcEntry k s) s

/-- What the service lookup gives a packet (R205–R208). -/
structure SvcResult where
  entry : Bytes
  service : Nat
  profile : Nat
  sub : Option Nat
  meter : Option Nat
  deriving DecidableEq, Repr

/-- The service lookup of a packet: its result, or none where the packet is dropped (R205–R207). -/
def serviceLookup (port vlan vec flags : Nat) (s : State) : Option SvcResult × State :=
  let k := port % 64 * 4096 + vlan
  let e := svcEntry k s
  if tget 0 s.look.svcBad k ≠ 0 then (none, raise 56 k (portMask port) (bump .SVC_PARITY port s))
  else if !svcValid e then (none, bump .SVC_INVALID port s)
  else
    match subDerive e vec flags vlan with
    | .ok (o, sub) =>
      (some ⟨e, svcService e, svcClsProfile e, some sub,
        if svcMeterEn e then some ((svcMeterBase e + o) % 65536) else none⟩, s)
    | .error past =>
      let s := if past then bump .SUB_RANGE port s else s
      if svcSubReq e then (none, bump .SUB_NONE port s)
      else (some ⟨e, svcService e, svcClsProfile e, none, none⟩, s)

/-! Subscriber contexts (R209–R211). -/

/-- Line 0 is rewritten as zeros when it is uncorrectable (R211). -/
def subCtxMend (sub : Nat) (s : State) : State :=
  if cacheUe (subCtxAddr sub) 64 s then
    raise 59 sub 0 (bump .SUBCTX_UE 0 (hbmWrite 4 (subCtxAddr sub) (zeros 64) s))
  else s

/-- The groups of line 0 that a write names, in the subscriber-context cache (R166, R210). -/
def subCtxLine0 (sub : Nat) (gs : List Nat) (b : Bytes) (s : State) : State :=
  let a := subCtxAddr sub
  let s := useCtx 4 sub (subCtxMend sub s)
  svcStore a (gs.foldl (fun l g => put l (16 * g) (slice b (8 + 16 * g) 16)) (cachePeek a 64 s)) s

/-- SUB_CTX_WRITE (0x0209).  Line 1 is not cached (R209). -/
def subCtxWriteH : YHandler := fun _ b _ s =>
  let sub := fld b 0 4
  let mask := fld b 4 4
  need (decide (mask < 256) && fld b (8 + 16) 4 / 2 == 0) stINVALID s <|
  need (b.length == 136) stLENGTH s <|
  need (mask % 16 == 0 || decide (8388608 ≤ sub) || !mustWait .ctx sub s) stBUSY s <|
  need (decide (sub < 8388608) && (!bit mask 0 || fld b 16 2 == 0 || fld b 18 2 != 0)) stRANGE s <|
  let gs := (List.range 8).filter (bit mask)
  let s := if mask &&& 15 ≠ 0 then subCtxLine0 sub (gs.filter (· < 4)) b s else s
  yOk [] (forEach (gs.filter (4 ≤ ·)) (fun g s =>
    hbmWrite 4 (subCtxAddr sub + 16 * g) (slice b (8 + 16 * g) 16) s) s)

def execSubCtxWrite (r : YcpReq) (s : State) : Host.Outcome State Fault Refusal := ycp 0x0209 r subCtxWriteH s

/-- SUB_CTX_READ (0x020A). -/
def subCtxReadH : YHandler := formO 4 [] fun b s =>
  let sub := fld b 0 4
  need (decide (sub < 8388608)) stRANGE s <|
  let s := subCtxMend sub s
  if spanUe (subCtxAddr sub + 64) 64 s then { yFail stFAULTED s with st := s }
  else
    let (h, s) := if (tget? s.svc.cache (subCtxAddr sub)).isSome then (cachePeek (subCtxAddr sub) 64 s, s)
      else hbmRead 4 (subCtxAddr sub) 64 s
    let (v, s) := hbmRead 4 (subCtxAddr sub + 64) 64 s
    yRead (h ++ v) s

def execSubCtxRead (r : YcpReq) (s : State) : Host.Outcome State Fault Refusal := ycp 0x020A r subCtxReadH s

/-! The L2 table (R212–R218). -/

def l2Entry (i : Nat) (s : State) : Bytes := tget (zeros 16) s.look.l2 i

def l2Mac (e : Bytes) : Bytes := slice e 0 6
def l2Fid (e : Bytes) : Nat := bits (fld e 6 2) 0 12
def l2Port (e : Bytes) : Nat := bits (fld e 8 1) 0 6
def l2Valid (e : Bytes) : Bool := bit (fld e 9 1) 0
def l2Static (e : Bytes) : Bool := bit (fld e 9 1) 1
def l2Hit (e : Bytes) : Bool := bit (fld e 9 1) 2
def l2SetTime (e : Bytes) : Nat := fld e 12 4

/-- An entry from its fields (R212). -/
def l2Make (mac : Bytes) (fid port ctrl cand time : Nat) : Bytes :=
  fit 6 mac ++ leBytes 2 fid ++ leBytes 1 port ++ leBytes 1 ctrl ++ leBytes 1 cand ++ [0] ++ leBytes 4 time

/-- The set of a key (R212). -/
def l2Set (fid : Nat) (mac : Bytes) (s : State) : Nat := crc32cI s.look.l2Seed (leBytes 2 fid ++ fit 6 mac) % 32768

/-- The indices of the ways of a key's set. -/
def l2Ways (fid : Nat) (mac : Bytes) (s : State) : List Nat := (List.range 8).map (8 * l2Set fid mac s + ·)

def l2IsBad (i : Nat) (s : State) : Bool := tget 0 s.look.l2Bad i != 0

/-- The entry of a key, sound or not. -/
def l2Find (fid : Nat) (mac : Bytes) (s : State) : Option Nat :=
  (l2Ways fid mac s).find? fun i => l2Valid (l2Entry i s) && l2Fid (l2Entry i s) == fid && l2Mac (l2Entry i s) == fit 6 mac

/-- What a lookup finds: an entry that fails parity is a miss (R218). -/
def l2Lookup (fid : Nat) (mac : Bytes) (s : State) : Option Nat :=
  match l2Find fid mac s with
  | some i => if l2IsBad i s then none else some i
  | none => none

/-- The lowest-numbered empty way of a key's set (R212). -/
def l2Empty (fid : Nat) (mac : Bytes) (s : State) : Option Nat :=
  (l2Ways fid mac s).find? fun i => !l2Valid (l2Entry i s)

def l2Put (i : Nat) (e : Bytes) (s : State) : State :=
  setLook { s.look with l2 := tset (zeros 16) s.look.l2 i e, l2Bad := tdel s.look.l2Bad i } s

/-- A group address: bit 0 of its first byte (R213). -/
def isGroup (mac : Bytes) : Bool := bit (mac.headD 0).toNat 0

/-- A learn request queued, or discarded at 4,096 (R214). -/
def learnPush (x : LearnReq) (s : State) : State :=
  if s.look.learnq.length < 4096 then setLook { s.look with learnq := s.look.learnq ++ [x] } s
  else bump .LEARN_DROP 0 s

/-- The learn request of an address (R215). An entry that failed parity is rewritten as a new learn, but a STATIC one is
left to the host (R218). -/
def learnOne (x : LearnReq) (s : State) : State :=
  let fresh := l2Make x.mac x.fid x.port 5 0 x.time
  match l2Find x.fid x.mac s with
  | none =>
    match l2Empty x.fid x.mac s with
    | some i => bump .LEARN_NEW 0 (l2Put i fresh s)
    | none => raise 60 (l2Set x.fid x.mac s) 0 (bump .LEARN_FULL 0 s)
  | some i =>
    let e := l2Entry i s
    if l2IsBad i s then if l2Static e then s else bump .LEARN_NEW 0 (l2Put i fresh s)
    else if l2Static e ∧ l2Port e ≠ x.port then bump .L2_STATIC_VIOL 0 s
    else if l2Port e = x.port then
      bump .LEARN_DUP 0 (l2Put i (putF e 9 1 ((fld e 9 1 ||| 4) &&& 7)) s)
    else if idleMs x.time (l2SetTime e) < s.look.hold then
      bump .L2_MOVE_CAND 0 (l2Put i (putF (putF e 9 1 (fld e 9 1 ||| 8)) 10 1 x.port) s)
    else
      let s := postEvent 7 (leBytes 2 x.fid ++ fit 6 x.mac ++ leBytes 1 (l2Port e) ++ leBytes 1 x.port) s
      bump .L2_MOVE 0 (l2Put i (l2Make x.mac x.fid x.port 5 (fld e 10 1) x.time) s)

/-- LEARN_APPLY: the oldest request of the learn queue (R214, R215). -/
def execLearnApply (s : State) : Host.Outcome State Fault Refusal :=
  .next (match s.look.learnq with
    | x :: rest => learnOne x (setLook { s.look with learnq := rest } s)
    | [] => s)

/-- An entry that fails parity is read: L2_PARITY and F057 (R218). -/
def l2Fails (i : Nat) (s : State) : State := raise 57 i 0 (bump .L2_PARITY 0 s)

/-- The scrub reads an entry that fails parity: it is invalidated, but a STATIC one waits for the host (R218). -/
def l2Scrubbed (i : Nat) (s : State) : State :=
  let s := l2Fails i s
  if l2Static (l2Entry i s) then setLook { s.look with l2Bad := tput s.look.l2Bad i 1 } s else l2Put i (zeros 16) s

/-- L2_AGEING_VISIT: HIT cleared, or the entry removed (R216).  A learned entry that fails parity is found as the scrub finds it
(R218; DEDUCED, log 34). -/
def execL2AgeingVisit (i : Nat) (s : State) : Host.Outcome State Fault Refusal :=
  .next <|
    let e := l2Entry i s
    if !l2Valid e || l2Static e then s
    else if l2IsBad i s then l2Scrubbed i s
    else if l2Hit e then l2Put i (putF e 9 1 (fld e 9 1 &&& 0xFB)) s
    else bump .L2_AGED 0 (l2Put i (zeros 16) s)

/-- A lookup that meets an entry which fails parity: L2_PARITY and F057 (R218). -/
def l2Met (fid : Nat) (mac : Bytes) (s : State) : State :=
  match (l2Find fid mac s).filter fun i => l2IsBad i s with
  | some i => l2Fails i s
  | none => s

/-- The learn request of a source address that is to be learned; a group address never is (R213). -/
def learnSource (learn : Bool) (fid port : Nat) (mac : Bytes) (s : State) : State :=
  if !learn then s else if isGroup mac then bump .L2_BAD_SMAC 0 s else learnPush ⟨fid, mac, port, msNow s⟩ s

/-- The source lookup of a packet: HIT, or a learn request (R213). -/
def sourceLookup (learn : Bool) (fid port : Nat) (mac : Bytes) (s : State) : State :=
  let s := l2Met fid mac s
  match l2Lookup fid mac s with
  | some i =>
    let e := l2Entry i s
    if l2Port e = port then l2Put i (putF e 9 1 (fld e 9 1 ||| 4)) s else learnSource learn fid port mac s
  | none => learnSource learn fid port mac s

/-- The destination lookup of a packet (R213): a port, a drop, or the default destination. -/
inductive L2Dest where
  | port (p : Nat)
  | drop
  | dflt
  deriving DecidableEq, Repr

def destLookup (fid port pl : Nat) (mac : Bytes) (s : State) : L2Dest × State :=
  if isGroup mac then (.dflt, s)
  else
    let s := l2Met fid mac s
    match l2Lookup fid mac s with
    | some i =>
      if l2Port (l2Entry i s) = port then (.drop, bump .L2_SAME_PORT pl s) else (.port (l2Port (l2Entry i s)), s)
    | none => (.dflt, bump .L2_DST_MISS pl s)

/-! Table operations shared by the window and YCP (R225): a status, the index, the entry, the state. -/

/-- The outcome of a table operation. -/
structure TblRes where
  status : Nat
  idx : Nat := 0
  entry : Bytes := []
  st : State

def tFail (st : Nat) (s : State) : TblRes := { status := st, st := s }

/-- Reserved fields of an L2 entry (R212). -/
def l2Encodes (b : Bytes) : Bool :=
  fld b 7 1 / 16 == 0 && fld b 8 1 / 64 == 0 && fld b 9 1 / 16 == 0 && fld b 10 1 / 64 == 0 && fld b 11 1 == 0

/-- A host write by key: VALID is set and PORT is taken as set now (R212, R225; log 34); it names no unused port (R317). -/
def l2Write (b : Bytes) (s : State) : TblRes :=
  if !l2Encodes b ∨ portUnused (l2Port b) s then tFail stINVALID s
  else
    let mac := l2Mac b
    let fid := l2Fid b
    let e := fit 12 (putF b 9 1 (fld b 9 1 ||| 1)) ++ leBytes 4 (msNow s)
    match (match l2Find fid mac s with
      | some i => some i
      | none => l2Empty fid mac s) with
    | some i => { status := stOK, idx := i, entry := e, st := l2Put i e s }
    | none => tFail stNOSPACE s

/-- An entry deleted by its key (R225). -/
def l2Delete (b : Bytes) (s : State) : TblRes :=
  match l2Find (l2Fid b) (l2Mac b) s with
  | some i => { status := stOK, idx := i, entry := zeros 16, st := l2Put i (zeros 16) s }
  | none => tFail stNOT_FOUND s

/-- An entry searched by its key (R225). -/
def l2Search (b : Bytes) (s : State) : TblRes :=
  match l2Lookup (l2Fid b) (l2Mac b) s with
  | some i => { status := stOK, idx := i, entry := l2Entry i s, st := s }
  | none => tFail stNOT_FOUND s

/-! The CAM (R219–R223). -/

def camEntry (i : Nat) (s : State) : Bytes := tget (zeros 32) s.look.cam i
def camProfile (p : Nat) (s : State) : Bytes := tget (zeros 32) s.look.camProf p

def camValue (e : Bytes) : Nat := fld e 0 20
def camLen (e : Bytes) : Nat := fld e 20 1
def camPrio (e : Bytes) : Nat := fld e 21 1
def camProf (e : Bytes) : Nat := bits (fld e 22 1) 0 4
def camValid (e : Bytes) : Bool := bit (fld e 22 1) 7

/-- The leading `len` bits of 160 (R219). -/
def camMask (len : Nat) : Nat := 2 ^ 160 - 2 ^ (160 - min 160 len)

/-- Entry `i` matches a search (R220, R223). -/
def camMatches (p key i : Nat) (e : Bytes) (s : State) : Bool :=
  camValid e && camProf e == p && bit (fld (camProfile p s) 20 1) (i / 4096) && tget 0 s.look.camBad i == 0 &&
  ((key ^^^ camValue e) &&& (fld (camProfile p s) 0 20 &&& camMask (camLen e))) == 0

/-- The winner of a search and whether it was a tie: highest PRIO, then lowest index (R220). -/
def camBest (p key : Nat) (s : State) : Option (Nat × Bool) :=
  (s.look.cam.filter fun x => camMatches p key x.1 x.2 s).foldl (fun best x =>
    match best with
    | none => some (x.1, false)
    | some (i, tie) =>
      if camPrio (camEntry i s) < camPrio x.2 then some (x.1, false)
      else if camPrio (camEntry i s) = camPrio x.2 then some (i, true) else some (i, tie)) none

/-- An entry that fails parity is found: it is marked invalid until it is rewritten, with CAM_PARITY and F058 (R223). -/
def camFails (i : Nat) (s : State) : State :=
  raise 58 i 0 (bump .CAM_PARITY 0 (setLook { s.look with camBad := tput s.look.camBad i 2 } s))

/-- The entries that fail parity in the banks of a search are found (R223). -/
def camMet (p : Nat) (s : State) : State :=
  let is := (s.look.camBad.filter fun x => x.2 == 1 && bit (fld (camProfile p s) 20 1) (x.1 / 4096)).map (·.1)
  forEach is (fun i s => camFails i s) s

/-- A search: CAM_SEARCHES, CAM_HITS and TIE of the profile (R220, R231). -/
def camSearch (p key : Nat) (s : State) : Option Nat × State :=
  let s1 := camMet p (bump .CAM_SEARCHES p s)
  match camBest p key s with
  | some (i, tie) =>
    let s2 := bump .CAM_HITS p s1
    (some i, if tie then bump .TIE p s2 else s2)
  | none => (none, s1)

def camPut (i : Nat) (e : Bytes) (s : State) : State :=
  setLook { s.look with cam := tset (zeros 32) s.look.cam i e, camBad := tdel s.look.camBad i } s

/-- VALUE bits outside the leading LEN bits are stored as 0 (R219). -/
def camStored (b : Bytes) : Bytes := leBytes 20 (camValue b &&& camMask (camLen b)) ++ slice b 20 12

/-- The reserved fields of a CAM entry are 0 (R219). -/
def camEncodes (b : Bytes) : Bool := bits (fld b 22 1) 4 3 == 0 && fld b 23 9 == 0

def camWrite (i : Nat) (b : Bytes) (s : State) : TblRes :=
  if !camEncodes b then tFail stINVALID s
  else if 32768 ≤ i ∨ 160 < camLen b then tFail stRANGE s
  else { status := stOK, idx := i, entry := camStored b, st := camPut i (camStored b) s }

def camDelete (i : Nat) (s : State) : TblRes :=
  if 32768 ≤ i then tFail stRANGE s
  else
    let e := putF (camEntry i s) 22 1 (fld (camEntry i s) 22 1 % 128)
    { status := stOK, idx := i, entry := e, st := camPut i e s }

/-- A read: an entry that fails parity gives the raw entry and says so (R225). -/
def tblRead (n i : Nat) (e : Bytes) (bad : Bool) (s : State) : TblRes :=
  if n ≤ i then tFail stRANGE s
  else { status := if bad then stFAULTED else stOK, idx := i, entry := e, st := s }

def camRead (i : Nat) (s : State) : TblRes := tblRead 32768 i (camEntry i s) (tget 0 s.look.camBad i != 0) s

def camProfEncodes (b : Bytes) : Bool := fld b 21 11 == 0

def camProfPut (p : Nat) (b : Bytes) (s : State) : State :=
  setLook { s.look with camProf := tset (zeros 32) s.look.camProf p b } s

/-- A search of the profile is in flight (R222). -/
def camBusy (p : Nat) (s : State) : Bool := s.look.camFlight.contains p

/-! Commands of group 0x02 (R413). -/

/-- An operation body OP (4) + entry, answered with INDEX (4) and entry (16). -/
def l2WriteH : YHandler := formE 20 [] [(4, opIn 1 3), (20, fun b _ => l2Encodes (slice b 4 16))] fun b s =>
  let e := slice b 4 16
  let ans (cfg : Bool) (t : TblRes) : YRes :=
    if t.status ≠ stOK then yFail t.status s
    else { yOk (leBytes 4 t.idx ++ t.entry) t.st with cfg := cfg }
  match fld b 0 4 with
  | 1 => ans true (l2Write e s)
  | 2 => ans true (l2Delete e s)
  | 3 => ans false (l2Search e s)
  | _ => yFail stINVALID s

def execL2Write (r : YcpReq) (s : State) : Host.Outcome State Fault Refusal := ycp 0x0203 r l2WriteH s
def execL2WriteDelete (r : YcpReq) (s : State) : Host.Outcome State Fault Refusal := ycp 0x0203 r l2WriteH s
def execL2WriteSearch (r : YcpReq) (s : State) : Host.Outcome State Fault Refusal := ycp 0x0203 r l2WriteH s

/-- L2_FLUSH (0x0204): learned entries that match a FID, a port or both (R217). -/
def l2FlushH : YHandler :=
  formE 8 [] [(4, fun b _ => bits (fld b 0 4) 12 19 == 0),
    (8, fun b s => bits (fld b 4 4) 6 25 == 0 && !(bit (fld b 4 4) 31 && portUnused (bits (fld b 4 4) 0 6) s))] fun b s =>
  let f := fld b 0 4
  let p := fld b 4 4
  let goes (e : Bytes) : Bool :=
    l2Valid e && !l2Static e && (bit f 31 || bit p 31) && (!bit f 31 || l2Fid e == bits f 0 12) &&
    (!bit p 31 || l2Port e == bits p 0 6)
  let gone := s.look.l2.filter fun x => goes x.2
  let s := forEach gone (fun x s => l2Put x.1 (zeros 16) s) s
  yOk (leBytes 4 gone.length) s

def execL2Flush (r : YcpReq) (s : State) : Host.Outcome State Fault Refusal := ycp 0x0204 r l2FlushH s

/-- L2_CONFIG (0x0205): HOLD_MS, L2_AGE_S, L2_SEED. -/
def l2ConfigH : YHandler := formO 16 [(12, 4)] fun b s =>
  need (decide (fld b 0 4 ≤ 100 ∧ 10 ≤ fld b 4 4 ∧ fld b 4 4 ≤ 3600)) stRANGE s <|
  need (fld b 8 4 == s.look.l2Seed || s.look.l2.isEmpty) stBUSY s <|
  yOk [] (setLook { s.look with hold := fld b 0 4, l2Age := fld b 4 4, l2Seed := fld b 8 4 } s)

def execL2Config (r : YcpReq) (s : State) : Host.Outcome State Fault Refusal := ycp 0x0205 r l2ConfigH s

/-- CAM_WRITE (0x0206): OP (4), INDEX (4), entry (32), answered with the entry; its reserved fields are 0 whatever OP is (R11). -/
def camWriteH : YHandler := formE 40 [] [(4, opIn 1 3), (40, fun b _ => camEncodes (slice b 8 32))] fun b s =>
  let i := fld b 4 4
  let ans (cfg : Bool) (t : TblRes) : YRes :=
    if t.status ≠ stOK then yFail t.status s else { yOk t.entry t.st with cfg := cfg }
  match fld b 0 4 with
  | 1 => ans true (camWrite i (slice b 8 32) s)
  | 2 => ans true (camDelete i s)
  | 3 => ans false (camRead i s)
  | _ => yFail stINVALID s

def execCamWrite (r : YcpReq) (s : State) : Host.Outcome State Fault Refusal := ycp 0x0206 r camWriteH s
def execCamWriteDelete (r : YcpReq) (s : State) : Host.Outcome State Fault Refusal := ycp 0x0206 r camWriteH s
def execCamWriteRead (r : YcpReq) (s : State) : Host.Outcome State Fault Refusal := ycp 0x0206 r camWriteH s

def camProfCheck (s : State) (i : Nat) (b : Bytes) : Nat :=
  if !camProfEncodes b then stINVALID else if 16 ≤ i then stRANGE else if camBusy i s then stBUSY else stOK

/-- CAM_PROFILE_SET (0x0207): BUSY while a search of that profile is in flight (R222). -/
def execCamProfileSet (r : YcpReq) (s : State) : Host.Outcome State Fault Refusal :=
  ycp 0x0207 r (formL (fun _ => 32) camProfCheck camProfPut) s

/-- CAM_SEARCH (0x0208). -/
def camSearchH : YHandler := formO 24 [] fun b s =>
  need (decide (fld b 0 4 < 16)) stRANGE s <|
  let (x, s') := camSearch (fld b 0 4) (fld b 4 20) s
  match x with
  | some i => yRead (leBytes 4 i ++ leBytes 1 (camPrio (camEntry i s)) ++ [1, 0, 0]) s'
  | none => yRead (zeros 8) s'

def execCamSearch (r : YcpReq) (s : State) : Host.Outcome State Fault Refusal := ycp 0x0208 r camSearchH s

/-- TABLE_STATUS (0x020B).  DESIGN CHOICE (log 34): the property names. -/
def tableStatusBody (s : State) : Bytes :=
  propList [pNum "L2_ENTRIES" 8 (s.look.l2.filter fun x => l2Valid x.2).length,
    pNum "CAM_ENTRIES" 8 (s.look.cam.filter fun x => camValid x.2).length,
    pNum "LEARN_QUEUE" 8 s.look.learnq.length, pCtr .TIE s, pNum "SCRUB_SVC" 8 s.look.scrubSvc, pNum "SCRUB_L2" 8 s.look.scrubL2,
    pNum "SCRUB_CAM" 8 s.look.scrubCam]

def execTableStatus (r : YcpReq) (s : State) : Host.Outcome State Fault Refusal :=
  ycp 0x020B r (emptyBody fun s => yRead (tableStatusBody s) s) s

/-! The scrub (R207, R218, R223). -/

/-- The scrubs have read on: every table's by one entry, or past the entry `i` that failed in one of them (log 34). -/
def scrubOn (fail : Option (Nat × Nat)) (s : State) : State :=
  let at_ (t old size : Nat) : Nat := match fail with
    | some (k, i) => if k = t then (i + 1) % size else old
    | none => (old + 1) % size
  setLook { s.look with scrubSvc := at_ 0 s.look.scrubSvc 262144, scrubL2 := at_ 1 s.look.scrubL2 262144,
                        scrubCam := at_ 2 s.look.scrubCam 32768 } s

/-- Failures that no row of the command table names (log 84).  Parity of the tables on die: 3 multicast group, 4 backend, 5 meter, 6
flow meter profile, 7 port record, 8 lane record; 9 L2 entry and 10 CAM entry before anything has read them (R197, R218, R223, R259,
R338).  Sources whose cause lies elsewhere: 11 an AON register (F011, R385), 12 queue or tags of a PC controller (F107, R366), 13 PCIe
(F193), 14 and 15 Clove memory (F200, F201, R429).  16 is a slot of the trace buffer (R497, R501), 17 an
entry of an admission queue or inbound list, by the packet's descriptor (R23, R487), 18 an action engine whose results fail the
residue check (R159), 19 the stage parity of a half of a pipeline, which its next packet meets (R391, R393), 20 an undo log, 21 a task slot by level + 8 ×
place (R368). -/
def tableUpset (k i : Nat) (s : State) : State :=
  match k with
  | 3 => setBuf { s.buf with groupBad := tput s.buf.groupBad i 1 } s
  | 4 => raise 53 i 0 (setSvc { s.svc with backendBad := tput s.svc.backendBad i 1 } s)
  | 5 =>
    let m : Meter := tget {} s.svc.meter i
    raise 53 i 0 (setSvc { s.svc with meter := tput s.svc.meter i { m with bad := true } } s)
  | 6 => raise 53 i 0 (setSvc { s.svc with flowMeterBad := tput s.svc.flowMeterBad i 1 } s)
  | 7 => raise 89 i (portMask i) s
  | 8 => raise 89 i 0 s
  | 9 => setLook { s.look with l2Bad := tput s.look.l2Bad i 1 } s
  | 10 => setLook { s.look with camBad := tput s.look.camBad i 1 } s
  | 11 => raise 11 i 0 s
  | 12 => raise 107 (i % 128) 0 (tagLost i s)
  | 13 => raise 193 0 0 s
  | 14 => raise 200 0 0 s
  | 15 => raise 201 0 0 s
  | 17 => setFrame i { getFrame i s with pkt := (getFrame i s).pkt.map fun k => { k with entryBad := true } } s
  | 18 => { s with task := { s.task with suspect := tset 0 s.task.suspect (i % 68) 1 } }
  | 20 =>
    match tget? s.flow.log i with
    | some u => { s with flow := { s.flow with log := tput s.flow.log i { u with bad := 3 } } }
    | none => s
  | 21 =>
    let l := tget {} s.task.level (i % 8)
    let slots := l.slots.mapIdx fun k t => if k = i / 8 then { t with bad := 3 } else t
    { s with task := { s.task with level := tset {} s.task.level (i % 8) { l with slots := slots } } }
  | 19 => { s with mace := { s.mace with stageBad := tset 0 s.mace.stageBad (i % 34) 1 } }
  | 16 => setObs { s.obs with slotBad := tput s.obs.slotBad (i % 262144) 1 } s
  | _ => s

/-- The scrub reads the L2 and CAM entries at its positions: one that fails parity and that nothing has met yet is found (R218,
R223). -/
def scrubReads (s : State) : State :=
  let i := s.look.scrubL2
  let j := s.look.scrubCam
  let s := if l2IsBad i s then l2Scrubbed i s else s
  if tget 0 s.look.camBad j = 1 then camFails j s else s

/-- The lookup tables that a warm reset has kept are scrubbed whole (R444, R449). -/
def lookScrubbed (s : State) : State :=
  let s := forEach (s.look.l2Bad.map (·.1)) (fun i s => l2Scrubbed i s) s
  forEach ((s.look.camBad.filter fun x => x.2 == 1).map (·.1)) (fun i s => camFails i s) s

/-- LOOKUP_TABLE_SCRUB: `fail` names what failed parity: 0 service entry, 1 L2 entry, 2 CAM entry, and its index; further numbers are
those of `tableUpset`. -/
def execLookupTableScrub (fail : Option (Nat × Nat)) (s : State) : Host.Outcome State Fault Refusal :=
  let s := scrubOn fail (if fail.isNone then scrubReads s else s)
  .next (match fail with
    | some (0, i) => raise 56 i (portMask (i / 4096)) (setLook { s.look with svcBad := tput s.look.svcBad i 1 } s)
    | some (1, i) => l2Scrubbed i s
    | some (2, i) => camFails i s
    | some (k, i) => tableUpset k i s
    | none => s)

/-! The table command window (R224–R227). -/

/-- RESULT of a status (R224). -/
def tcwCode (st : Nat) : Nat :=
  if st = stOK then 0 else if st = stRANGE then 2 else if st = stNOT_FOUND then 3 else if st = stNOSPACE then 4
  else if st = stFAULTED then 5 else 1

/-- The entry image in TCW_DATA0–7. -/
def tcwData (s : State) : Bytes := ((List.range 8).map fun k => leBytes 4 (tget 0 s.host.tcw (8 + k))).flatten

def tcwIndex (s : State) : Nat := tget 0 s.host.tcw 2 % 2 ^ 18

/-- A command of the window; one written while the window is busy is discarded, and sets OVR (R224). -/
def tcwRun (f : State → State) (s : State) : State := if tcwBusy s then tcwOvr s else f s

/-- The result of a window command: RESULT, DONE_SEQ, and on success or PARITY the index and the entry (R224, R225).  The window stays
BUSY for a free time within the bounds of R226: at most 2 AON ticks (log 12). -/
def tcwDone (setData : Bool) (t : TblRes) : State :=
  let h := { t.st.host with tcwLeft := freeVal t.st % 3 }
  let seq := (bits h.tcwStatus 16 16 + 1) % 65536
  let h := { h with tcwStatus := 2 * tcwCode t.status + 16 * bits h.tcwStatus 4 1 + 65536 * seq }
  let e := fit 32 t.entry
  let put (t' : Tbl Nat) : Tbl Nat := (List.range 8).foldl (fun a k => tset 0 a (8 + k) (fld e (4 * k) 4)) t'
  if (t.status = stOK ∨ t.status = stFAULTED) ∧ setData then
    setHost { h with tcw := put (tset 0 h.tcw 2 t.idx) } (tookFree t.st)
  else setHost h (tookFree t.st)

/-- The table of a window command. -/
def tcwTable (v : BitVec 32) : Nat := bits v.toNat 4 4

/-- READ of an entry or profile by its index (R225). -/
def tcwRead (table : Nat) (s : State) : TblRes :=
  let i := tcwIndex s
  match table with
  | 0 => tblRead 262144 i (svcEntry i s) (tget 0 s.look.svcBad i != 0) s
  | 1 => tblRead 262144 i (l2Entry i s) (l2IsBad i s) s
  | 2 => camRead i s
  | 3 => tblRead 16 i (camProfile i s) false s
  | _ => tFail stINVALID s

/-- WRITE of TCW_DATA (R225). -/
def tcwWrite (table : Nat) (s : State) : TblRes :=
  let i := tcwIndex s
  let d := tcwData s
  match table with
  | 0 =>
    let b := d.take 24
    if svcCheck s i b ≠ stOK then tFail (svcCheck s i b) s
    else { status := stOK, idx := i, entry := b, st := svcPut i b s }
  | 1 => l2Write (d.take 16) s
  | 2 => camWrite i d s
  | 3 =>
    if !camProfEncodes d then tFail stINVALID s
    else if 16 ≤ i then tFail stRANGE s
    else { status := stOK, idx := i, entry := d, st := camProfPut i d s }
  | _ => tFail stINVALID s

/-- DELETE by index or key (R225). -/
def tcwDelete (table : Nat) (s : State) : TblRes :=
  let i := tcwIndex s
  match table with
  | 0 => if 262144 ≤ i then tFail stRANGE s else { status := stOK, st := svcPut i (zeros 24) s }
  | 1 => l2Delete ((tcwData s).take 16) s
  | 2 => camDelete i s
  | _ => tFail stINVALID s

/-- SEARCH by the key in TCW_DATA (R225). -/
def tcwSearch (table : Nat) (s : State) : TblRes :=
  let d := tcwData s
  match table with
  | 1 => l2Search (d.take 16) s
  | 2 =>
    let (x, s') := camSearch (bits (fld d 22 1) 0 4) (fld d 0 20) s
    match x with
    | some i => { status := stOK, idx := i, entry := camEntry i s, st := s' }
    | none => tFail stNOT_FOUND s'
  | _ => tFail stINVALID s

def execTcwRead (v : BitVec 32) (s : State) : Host.Outcome State Fault Refusal :=
  .next (tcwRun (fun s => tcwDone true (tcwRead (tcwTable v) s)) s)

def execTcwWrite (v : BitVec 32) (s : State) : Host.Outcome State Fault Refusal :=
  .next (tcwRun (fun s => tcwDone true (tcwWrite (tcwTable v) s)) s)

def execTcwDelete (v : BitVec 32) (s : State) : Host.Outcome State Fault Refusal :=
  .next (tcwRun (fun s => tcwDone false (tcwDelete (tcwTable v) s)) s)

def execTcwSearch (v : BitVec 32) (s : State) : Host.Outcome State Fault Refusal :=
  .next (tcwRun (fun s => tcwDone true (tcwSearch (tcwTable v) s)) s)

/-- TCW_INVALID_OP: an OP or TABLE that is not defined completes with RESULT INVALID (R224). A defined one is another row. -/
def execTcwInvalidOp (v : BitVec 32) (s : State) : Host.Outcome State Fault Refusal :=
  let op := bits v.toNat 0 4
  .next (if (1 ≤ op ∧ op ≤ 4) ∧ tcwTable v < 4 then s else tcwRun (fun s => tcwDone false (tFail stINVALID s)) s)

end Sys2Proof.Machine
end

