-- ==== Sys2Proof/Machine/Key.lean ====
section
/-!
DEFINITION. Flow profiles, the canonical and compact keys, and the flow hash (R72–R77, R531).
-/
namespace Sys2Proof.Machine

/-! Flow profiles (R72, R113, R147). -/

/-- A flow profile of a bank; one that is not loaded reads as zeros. -/
def fpRec (b : Bool) (n : Nat) (s : State) : Bytes := tget (zeros 32) (s.ep.bank b).flowProf n

def fpKeySrc (r : Bytes) : Nat := bits (fld r 0 1) 0 2
def fpSym (r : Bytes) : Bool := bit (fld r 0 1) 2
def fpAuxEn (r : Bytes) : Bool := bit (fld r 0 1) 3
def fpFragL3 (r : Bytes) : Bool := bit (fld r 0 1) 4
def fpZone (r : Bytes) : Nat := bits (fld r 1 1) 0 2
def fpVecOff (r : Bytes) : Nat := fld r 2 2
def fpRuleTc (r : Bytes) : Bool := bit (fld r 4 1) 0
def fpRuleDest (r : Bytes) : Bool := bit (fld r 4 1) 1
def fpRuleMeter (r : Bytes) : Bool := bit (fld r 4 1) 2
def fpIdle (r : Bytes) : Nat := fld r 6 2
def fpFin (r : Bytes) : Nat := fld r 8 2
def fpRst (r : Bytes) : Nat := fld r 10 2
def fpAuxOff (r : Bytes) : Nat := fld r 12 2
def fpNewTpl (r : Bytes) : Nat := fld r 16 2
def fpEvictTpl (r : Bytes) : Nat := fld r 18 2
def fpAgeTpl (r : Bytes) : Nat := fld r 20 2
def fpTcpTpl (r : Bytes) : Nat := fld r 22 2
/-- Hold limit in ns (R113). -/
def fpHold (r : Bytes) : Nat := 10 * (if fld r 24 2 = 0 then 200 else fld r 24 2)
def fpClass (r : Bytes) : Nat := bits (fld r 26 1) 0 4
def fpMaxHeld (r : Bytes) : Nat := if fld r 27 1 = 0 then 64 else fld r 27 1

/-- Encodings of a flow profile (R72, R113, R147). -/
def fpEncodes (b : Bytes) : Bool :=
  fld b 0 1 / 32 == 0 && decide (fld b 1 1 < 3) && fld b 4 1 / 8 == 0 && fld b 5 1 == 0 && fld b 12 2 / 1024 == 0 &&
  fld b 14 2 == 0 && ([16, 18, 20, 22].all fun o => fld b o 2 / 1024 == 0) && fld b 26 1 / 16 == 0 && fld b 28 4 == 0

/-- Ranges of a flow profile (R72, R113). -/
def fpRanges (b : Bytes) : Bool :=
  decide (fld b 2 2 ≤ 320 ∧ fld b 12 2 ≤ 544) && (fld b 24 2 == 0 || decide (50 ≤ fld b 24 2 ∧ fld b 24 2 ≤ 1600)) &&
  decide (fld b 27 1 ≤ 64)

def flowProfCheck (_ : State) (i : Nat) (b : Bytes) : Nat :=
  if !fpEncodes b then stINVALID else if 256 ≤ i ∨ !fpRanges b then stRANGE else stOK

/-- A loaded profile is listed, whatever it holds (R59). -/
def flowProfApply (i : Nat) (b : Bytes) (s : State) : State :=
  onShadow (fun k => { k with flowProf := tput k.flowProf i b }) s

/-- FLOW_PROFILE_WRITE (0x0403) (R72, R113). -/
def execFlowProfileWrite (r : YcpReq) (s : State) : Host.Outcome State Fault Refusal :=
  ycp 0x0403 r (formLE (fun _ => 32) flowProfCheck flowProfApply) s

/-! The L3 and L4 headers of a key (R531). -/

def isTunnel (h : Hdr) : Bool := decide (12 ≤ h.type ∧ h.type ≤ 14)
def isL3 (h : Hdr) : Bool := h.type == 4 || h.type == 5

/-- The headers from the key's L3 header on. -/
def fromL3 (src : Nat) (hs : List Hdr) : List Hdr :=
  (if src = 0 then hs else (hs.dropWhile fun h => !isTunnel h).drop 1).dropWhile fun h => !isL3 h

/-- The key's L4 header, among those after its L3 header. -/
def keyL4 (after : List Hdr) : Option Hdr :=
  (after.takeWhile fun h => !isL3 h && !isTunnel h).find? fun h => decide (8 ≤ h.type ∧ h.type ≤ 11)

/-- The IPv4 protocol, or the IPv6 final next-header (R73). -/
def keyProto (b : Bytes) (l3 : Hdr) (after : List Hdr) : Nat :=
  if l3.type = 4 then bfld b (l3.off + 9) 1
  else
    match (after.takeWhile fun h => h.type == 6 || h.type == 7).getLast? with
    | some h => bfld b h.off 1
    | none => bfld b (l3.off + 6) 1

/-- TCP flags of a packet, none for a packet that is not TCP (R84). -/
def tcpFlags (src : Nat) (b : Bytes) (hs : List Hdr) : Option Nat :=
  let h := if src < 2 then (keyL4 ((fromL3 src hs).drop 1)).filter fun h => h.type == 8
    else hs.find? fun h => h.type == 8
  h.map fun h => bfld b (h.off + 13) 1

/-! The canonical key (R73–R75). -/

/-- The parts of a key. -/
structure KeyParts where
  ktype : Nat
  zone : Nat
  proto : Nat := 0
  sport : Bytes := [0, 0]
  dport : Bytes := [0, 0]
  saddr : Bytes := zeros 16
  daddr : Bytes := zeros 16
  aux : Nat := 0
  deriving DecidableEq, Repr

/-- The 48 bytes (R73). -/
def KeyParts.bytes (k : KeyParts) : Bytes :=
  leBytes 1 k.ktype ++ leBytes 3 k.zone ++ leBytes 1 k.proto ++ [0] ++ k.sport ++ k.dport ++ [0, 0] ++
  fit 16 k.saddr ++ fit 16 k.daddr ++ leBytes 4 k.aux

/-- What a key is built from. -/
structure KeySrc where
  frame : Bytes
  hdrs : List Hdr
  vec : Nat
  flags : Nat
  sub : Option Nat
  service : Nat

/-- ZONE (R73). -/
def zoneOf (r : Bytes) (x : KeySrc) : Nat :=
  match fpZone r, x.sub with
  | 0, some n => n % 8388608 + 8388608
  | 1, _ => x.service
  | _, _ => 0

/-- AUX of a key that is not L2 (R72, R73). -/
def auxOf (r : Bytes) (x : KeySrc) : Nat := if fpAuxEn r then bits x.vec (fpAuxOff r) 32 else 0

/-- Ports give 0 for a fragment under FRAG_L3, and for a later fragment, whose L4 header is not in the layer list (R75). -/
def noPorts (r : Bytes) (flags : Nat) : Bool := fpFragL3 r && (bit flags 4 || bit flags 5)

/-- The key parts before SYMMETRIC; none for NOKEY (R73, R75). -/
def keyParts (r : Bytes) (x : KeySrc) : Option KeyParts :=
  match fpKeySrc r with
  | 2 => some { ktype := 2, zone := zoneOf r x, saddr := slice x.frame 6 6, daddr := slice x.frame 0 6,
                aux := outerVlan x.frame { hdrs := x.hdrs } }
  | 3 => some { ktype := 3, zone := zoneOf r x, saddr := beBytes 16 (bits x.vec (fpVecOff r + 128) 128),
                daddr := beBytes 16 (bits x.vec (fpVecOff r) 128), aux := auxOf r x }
  | src =>
    match fromL3 src x.hdrs with
    | [] => none
    | l3 :: after =>
      let l4 := (keyL4 after).filter fun h => (h.type == 8 || h.type == 9) && !noPorts r x.flags
      let port (o : Nat) : Bytes := (l4.map fun h => slice x.frame (h.off + o) 2).getD [0, 0]
      let v4 := l3.type == 4
      some { ktype := if v4 then 0 else 1, zone := zoneOf r x, proto := keyProto x.frame l3 after,
             sport := port 0, dport := port 2,
             saddr := if v4 then slice x.frame (l3.off + 12) 4 else slice x.frame (l3.off + 8) 16,
             daddr := if v4 then slice x.frame (l3.off + 16) 4 else slice x.frame (l3.off + 24) 16,
             aux := auxOf r x }

/-- The swap of SYMMETRIC, and whether the packet is in reverse direction (R74). -/
def symmetric (on : Bool) (k : KeyParts) : KeyParts × Bool :=
  if on ∧ beNat (fit 16 k.daddr ++ k.dport) < beNat (fit 16 k.saddr ++ k.sport) then
    ({ k with saddr := k.daddr, sport := k.dport, daddr := k.saddr, dport := k.sport }, true)
  else (k, false)

/-- The compact key of a canonical key (R76). -/
def compactKey (fpSeed : Nat) (k : Bytes) : Bytes :=
  if fld k 0 1 % 16 = 0 then slice k 0 12 ++ slice k 12 4 ++ slice k 28 4 ++ slice k 44 4
  else
    let d := slice k 12 36
    slice k 0 12 ++ leBytes 4 (crc32cI (fpSeed % 2 ^ 32) d) ++ leBytes 4 (crc32I (fpSeed / 2 ^ 32) d) ++ zeros 4

/-! The hash (R77). -/

/-- The compact key with the seed folded in. -/
def seeded (seed : Nat) (ck : Bytes) : Bytes :=
  let s8 := leBytes 8 seed
  List.zipWith (· ^^^ ·) (fit 24 ck) (s8 ++ s8 ++ s8)

/-- h_lo and h_hi. -/
def flowHash (seed : Nat) (ck : Bytes) : Nat × Nat :=
  let k := seeded seed ck
  (crc32c k, crc32 k)

def hotSetOf (hlo : Nat) : Nat := hlo * 508416 / 2 ^ 32

def fp16Of (hlo : Nat) : Nat := hlo % 65536

def bucketOf (b hhi : Nat) : Nat := hhi >>> (32 - b)

def partnerOf (b hlo bucket : Nat) : Nat := bucket ^^^ (((fp16Of hlo ||| 1) <<< (b - 16)) % 2 ^ b)

end Sys2Proof.Machine
end

