-- ==== Sys2Proof/Machine/Task.lean ====
section
/-!
DEFINITION. Templates, contexts, the task lists and cancellation (R133–R155): what every part that starts or ends a graph
uses.
-/
namespace Sys2Proof.Machine

def setTask (x : TaskState) (s : State) : State := { s with task := x }

/-! Templates (R136, R137). -/

/-- A template of a bank; one never written reads NODE_COUNT 0 (R138). -/
def tplRec (b : Bool) (n : Nat) (s : State) : Bytes := tget (zeros 544) (s.ep.bank b).templates n

def tplCount (r : Bytes) : Nat := fld r 0 1
def tplKind (r : Bytes) : Nat := bits (fld r 1 1) 0 3
def tplPrio (r : Bytes) : Nat := bits (fld r 2 1) 0 3
def tplTimeout (r : Bytes) : Nat := fld r 4 2
def tplRegions (r : Bytes) : Nat := fld r 6 2

/-- Node j of a template. -/
def tplNode (r : Bytes) (j : Nat) : Bytes := slice r (32 + 16 * j) 16

def nodeOp (n : Bytes) : Nat := fld n 0 1
def nodeSpec (n : Bytes) : Bool := bit (fld n 1 1) 0
def nodePredEn (n : Bytes) : Bool := bit (fld n 1 1) 1
def nodePredNeg (n : Bytes) : Bool := bit (fld n 1 1) 2
def nodeGate (n : Bytes) : Bool := bit (fld n 1 1) 3
def nodePred (n : Bytes) : Nat := bits (fld n 2 1) 0 4
def nodeDst (n : Bytes) : Nat := bits (fld n 2 1) 4 4
def nodeSrcA (n : Bytes) : Nat := bits (fld n 3 1) 0 4
def nodeSrcB (n : Bytes) : Nat := bits (fld n 3 1) 4 4
def nodeWait (n : Bytes) : Nat := fld n 4 4
def nodeSub (n : Bytes) : Nat := fld n 8 1
def nodeImm (n : Bytes) : Nat := fld n 12 4

/-- TIMEOUT of an instance in µs: the template's, or the default of the kind (R136, R155). -/
def timeoutUs (r : Bytes) : Nat :=
  if tplTimeout r = 0 then [1000, 50, 20, 200, 20].getD (tplKind r) 1000 else tplTimeout r

/-! Contexts (R134, R135). -/

def getCtx (c : Nat) (s : State) : Option Ctx := tget? s.task.ctx c

def setCtx (c : Nat) (x : Ctx) (s : State) : State := setTask { s.task with ctx := tput s.task.ctx c x } s

/-- The lowest number that a table does not list. -/
def firstGap {α : Type} : Nat → Tbl α → Nat
  | n, [] => n
  | n, (k, _) :: t => if k = n then firstGap (n + 1) t else n

/-- Contexts of a pool in use. -/
def poolUsed (p : CtxPool) (s : State) : Nat := (s.task.ctx.filter fun x => x.2.pool == p).length

def poolSize (p : CtxPool) (s : State) : Nat :=
  match p with
  | .eviction => 4096
  | .admission => s.task.admitReserve
  | .shared => 65536 - 4096 - s.task.admitReserve

/-- Contexts of a pool in use beyond its size, after ADMIT_RESERVE has been changed under them. -/
def poolOver (p : CtxPool) (s : State) : Nat := poolUsed p s - poolSize p s

/-- Contexts that a pool still has.  DESIGN CHOICE (log 36): those that the admission reserve or the shared pool holds beyond its
new size are taken from the other, so that there are never more than 65,536 (R134, R164). -/
def poolLeft (p : CtxPool) (s : State) : Nat :=
  match p with
  | .eviction => poolSize p s - poolUsed p s
  | .admission => poolSize p s - poolUsed p s - poolOver .shared s
  | .shared => poolSize p s - poolUsed p s - poolOver .admission s

/-- The reserve of a kind (R134). -/
def kindPool (kind : Nat) : CtxPool := if kind = 1 then .admission else if kind = 2 then .eviction else .shared

/-- How many contexts a kind can still take: its reserve, then the shared pool (R134). -/
def ctxFree (kind : Nat) (s : State) : Nat :=
  if kindPool kind = .shared then poolLeft .shared s else poolLeft (kindPool kind) s + poolLeft .shared s

/-- A context allocated: the lowest-numbered free one (log 36). -/
def allocCtx (x : Ctx) (s : State) : Nat × State :=
  let c := firstGap 0 s.task.ctx
  let p := if 0 < poolLeft (kindPool x.kind) s then kindPool x.kind else .shared
  let (bad, s) := takeInjection injCONTEXT c s
  (c, bump .CTX_IN_USE x.kind (setCtx c { x with pool := p, since := s.time.free, bad := bad } s))

/-- A context released, with GEN increased (R135). -/
def releaseCtx (c : Nat) (s : State) : State :=
  match getCtx c s with
  | none => s
  | some x =>
    let g := (tget 0 s.task.gen c + 1) % 256
    setGauge .CTX_IN_USE x.kind (getCtr .CTX_IN_USE x.kind s - 1)
      (setTask { s.task with ctx := tdel s.task.ctx c, gen := tset 0 s.task.gen c g } s)

/-- V[k]; a slot that does not exist reads 0. -/
def Ctx.slot (x : Ctx) (k : Nat) : Nat := x.v.getD k 0

/-- DST: 15 discards the result (R137). -/
def Ctx.put (x : Ctx) (k n : Nat) : Ctx := if k < 12 then { x with v := x.v.set k (n % 2 ^ 64) } else x

/-- Operand B: V[SRCB], or IMM (R137). -/
def Ctx.opB (x : Ctx) (n : Bytes) : Nat := if nodeSrcB n = 15 then nodeImm n else x.slot (nodeSrcB n)

/-! The task lists (R148–R152). -/

def getLevel (l : Nat) (s : State) : LevelSt := tget {} s.task.level l

def setLevel (l : Nat) (x : LevelSt) (s : State) : State := setTask { s.task with level := tset {} s.task.level l x } s

/-- The order of tasks within a level: stamp, then node and retire tasks before start tasks, then context, then node
(R148). -/
def Task.before (a b : Task) : Bool :=
  let ka := b2n (a.ty == .start)
  let kb := b2n (b.ty == .start)
  if a.stamp ≠ b.stamp then decide (a.stamp < b.stamp)
  else if ka ≠ kb then decide (ka < kb)
  else if a.ctx ≠ b.ctx then decide (a.ctx < b.ctx)
  else decide (a.node < b.node)

/-- A task put in its place. -/
def insertTask (t : Task) : List Task → List Task
  | [] => [t]
  | x :: xs => if t.before x then t :: x :: xs else x :: insertTask t xs

/-- TYPE of a task (R149). -/
def TaskTy.code : TaskTy → Nat
  | .node => 0
  | .start => 1
  | .retire => 2

/-- The 32 bytes of a task descriptor (R149). -/
def Task.bytes (t : Task) : Bytes :=
  leBytes 1 (t.ty.code + 4 * t.level) ++ leBytes 1 t.node ++ leBytes 1 t.gen ++ leBytes 1 (b2n t.bank) ++
  leBytes 2 (if t.ty = .start then 0 else t.ctx) ++ leBytes 2 (if t.ty = .start then t.tpl else 0) ++ leBytes 8 t.stamp ++
  leBytes 8 t.arg0 ++ leBytes 8 t.arg1

/-- Where a level's spill ring lies (R150). -/
def spillAddr (l pos : Nat) : Nat := regionBase 9 + 134217728 * l + 32 * (pos % 4194304)

/-- Back-pressure of a level follows its ring (R152), and SPILL_DEPTH shows it. -/
def bpSync (l : Nat) (s : State) : State :=
  let x := getLevel l s
  let n := x.ring.length
  let s := setGauge .SPILL_DEPTH l n s
  if !x.bp && decide (x.spillBp ≤ n) then bump .BP_ENTER l (setLevel l { x with bp := true } s)
  else if x.bp && decide (n + 65536 < x.spillBp) then setLevel l { x with bp := false } s
  else s

/-- The level is in back-pressure. -/
def inBp (l : Nat) (s : State) : Bool := (getLevel l s).bp

/-- The line of a spill ring that a descriptor at its tail completes, with the descriptor before it: two share a line, and the one
that opens a line stays on die until the other comes (R150; DEDUCED, log 36). -/
def spillLine (t : Task) (s : State) : State :=
  let x := getLevel t.level s
  let pos := x.ringRead + x.ring.length
  if pos % 2 = 0 then s
  else hbmWrite 3 (spillAddr t.level (pos - 1)) (((x.ring.getLast?.map Task.bytes).getD (zeros 32)) ++ t.bytes) s

/-- A task becomes ready: it takes a slot, or the ring's tail while the slots are full or the ring is not empty (R150). -/
def pushTask (t : Task) (s : State) : State :=
  let x := getLevel t.level s
  let s := bump .TASK_READY t.level s
  if x.ring.isEmpty && decide (x.slots.length < 16384) then setLevel t.level { x with slots := insertTask t x.slots } s
  else
    let s := spillLine t s
    bpSync t.level (setLevel t.level { x with ring := x.ring ++ [t] } (bump .SPILL_WRITE t.level s))

/-- The stamp of a task that becomes ready now: the scheduler sees it on its next clock (R139, log 36). -/
def readyStamp (s : State) : Nat := (s.task.clk + 1) % 2 ^ 48

/-- Start tasks of a level in its ring (R151). -/
def startsInRing (l : Nat) (s : State) : Nat := ((getLevel l s).ring.filter fun t => t.ty == .start).length

/-- A start task of the level would pass the limit of R151. -/
def startRefused (l : Nat) (s : State) : Bool :=
  let x := getLevel l s
  (!x.ring.isEmpty || decide (16384 ≤ x.slots.length)) && decide (2097152 ≤ startsInRing l s)

/-- An instance started with its context (R118, R147): the start task becomes ready. -/
def startInst (x : Ctx) (s : State) : Nat × State :=
  let (c, s) := allocCtx { x with key := slice x.img 0 (if x.compact then 24 else 48), seq := s.task.starts } s
  let s := setTask { s.task with starts := s.task.starts + 1 } s
  let t : Task := { ty := .start, level := x.level, gen := tget 0 s.task.gen c, bank := x.bank, ctx := c, tpl := x.tpl,
                    stamp := readyStamp s, arg0 := x.slot 0, arg1 := x.slot 1, pre := true }
  (c, bump .GRAPH_START x.kind (pushTask t s))

/-- A node's task. -/
def nodeTask (c j : Nat) (x : Ctx) (s : State) : Task :=
  { ty := .node, level := x.level, node := j, gen := tget 0 s.task.gen c, bank := x.bank, ctx := c, stamp := readyStamp s }

def retireTask (c : Nat) (x : Ctx) (s : State) : Task :=
  { ty := .retire, level := x.level, gen := tget 0 s.task.gen c, bank := x.bank, ctx := c, stamp := readyStamp s }

/-- The task belongs to a context. -/
def ownTask (c : Nat) (t : Task) : Bool := t.ctx == c && (t.ty != .start || t.pre)

/-- Every task of a context removed from the on-die slots (R153). -/
def dropTasks (c : Nat) (s : State) : State :=
  match getCtx c s with
  | none => s
  | some x =>
    let l := getLevel x.level s
    setLevel x.level { l with slots := l.slots.filter fun t => !ownTask c t } s

/-! Engines and dispatch (R133, R148, R160). -/

def engineState (e : Nat) (s : State) : EngineSt := tget (if e < 64 then .working else .spare) s.task.engine e

def setEngine (e : Nat) (x : EngineSt) (s : State) : State := setTask { s.task with engine := tput s.task.engine e x } s

/-- The engines that take tasks, those that are not gated first (R160). -/
def workingEngines (s : State) : List Nat :=
  let l := (List.range 68).filter fun e => tget 0 s.task.suspect e ≠ 2
  l.filter (fun e => engineState e s == .working) ++ l.filter fun e => engineState e s == .gated

/-- The mark of an engine's fault. -/
def setSuspect (e n : Nat) (s : State) : State := setTask { s.task with suspect := tset 0 s.task.suspect e n } s

/-- A start task that waits for a context (R148). -/
def noContext (t : Task) (s : State) : Bool :=
  t.ty == .start && !t.pre && ctxFree (tplKind (tplRec t.bank t.tpl s)) s == 0

/-- The flow of an instance: what its IMAGE holds in a host run, else the flow that it was started for. -/
def ctxKey (x : Ctx) : Bytes := if x.kind = 0 then slice x.img 0 (if x.compact then 24 else 48) else x.key

def isStep (n : Bytes) : Bool := nodeOp n == 0x08

/-- A TCP_STEP node of an instance has still to take effect. -/
def stepLeft (x : Ctx) (s : State) : Bool :=
  let r := tplRec x.bank x.tpl s
  (x.st == .starting || x.st == .running) &&
    (List.range (min 32 (tplCount r))).any fun j => isStep (tplNode r j) && !bit x.doneM j

/-- A TCP_STEP waits for those of the instances that earlier packets of its flow have started (R156; the wait before dispatch is
DEDUCED, log 36). -/
def stepHeld (t : Task) (s : State) : Bool :=
  t.ty == .node &&
    match getCtx t.ctx s with
    | some x => isStep (tplNode (tplRec x.bank x.tpl s) t.node) &&
        s.task.ctx.any fun y => decide (y.2.seq < x.seq) && ctxKey y.2 == ctxKey x && y.2.kind != 0 && stepLeft y.2 s
    | none => false

/-! Node addresses (R142). -/

def nodeAddr (n : Bytes) (x : Ctx) : Nat :=
  let imm := nodeImm n
  regionBase (bits imm 0 4) + (x.slot (nodeSrcA n) % 2 ^ 36) <<< (bits imm 4 4) + 64 * bits imm 8 24

/-- The subscriber whose context has its line 0 at an address: nodes meet it in the subscriber-context cache (R166, R209). -/
def lineSub (a : Nat) : Option Nat :=
  match regionOf a with
  | some g => if g.no = 5 ∧ (a - g.base) % 128 = 0 then some ((a - g.base) / 128) else none
  | none => none

/-- A node whose operation finds its service cache full of pinned objects waits (R166): PORT_RESERVE needs a place for its subscriber
and for the PENDING entry, MAP_INSERT and MAP_REMOVE for their entry, an HBM node for line 0 of a context (before its dispatch: log
33). -/
def cacheHeld (t : Task) (s : State) : Bool :=
  t.ty == .node &&
    match getCtx t.ctx s with
    | none => false
    | some x =>
      let n := tplNode (tplRec x.bank x.tpl s) t.node
      let a := x.slot (nodeSrcA n)
      match nodeOp n with
      | 0x14 => cacheFull .map s || mustWait .port (a % 8388608) s
      | 0x18 => mustWait .map (bits a 6 11 * 65536 + bits a 17 16) s
      | 0x19 => mustWait .map (bits a 6 11 * 65536 + bits a 17 16) s
      | 0x09 => (lineSub (nodeAddr n x)).any fun sub => mustWait .ctx sub s
      | 0x0A => (lineSub (nodeAddr n x)).any fun sub => mustWait .ctx sub s
      | 0x0B => (lineSub (nodeAddr n x)).any fun sub => mustWait .ctx sub s
      | _ => false

/-- The first dispatchable task of a level: behind a start task that waits for a context, no other that needs one is taken, since
start tasks leave in stamp order (R148); one whose context was taken when it was queued needs none (DEDUCED, log 36).  In the quiesce
of a warm reset no instance starts (R445). -/
def firstTask (s : State) : Bool → List Task → Option Task
  | _, [] => none
  | held, t :: ts =>
    if s.task.clk < t.stamp then none
    else if t.ty == .start && !t.pre && (held || noContext t s || s.pwr.warm != .none) then firstTask s true ts
    else if stepHeld t s || cacheHeld t s then firstTask s held ts
    else some t

/-- The next task: the highest level first, within a level in order (R148). -/
def nextTask (s : State) : Option Task :=
  [7, 6, 5, 4, 3, 2, 1, 0].findSome? fun l => firstTask s false (getLevel l s).slots

def takeTask (t : Task) (s : State) : State :=
  let l := getLevel t.level s
  setLevel t.level { l with slots := l.slots.erase t } s

/-- The next clock of the scheduler. -/
def nextClk (s : State) : State := setTask { s.task with clk := (s.task.clk + 1) % 2 ^ 48 } s

/-- The tasks that a clock selects, one for each of `n` engines. -/
def selectTasks : Nat → State → List Task
  | 0, _ => []
  | n + 1, s =>
    match nextTask s with
    | some t => t :: selectTasks n (takeTask t s)
    | none => []

/-- A task of the context became ready on this clock, or is selected for dispatch on it (R154). The clock of a cancel is the
next one of the scheduler (DEDUCED, log 36). -/
def racing (c : Nat) (x : Ctx) (s : State) : Bool :=
  let l := getLevel x.level s
  ((l.slots ++ l.ring).any fun t => ownTask c t && t.stamp == readyStamp s) ||
    (selectTasks (min 16 (workingEngines s).length) (nextClk s)).any (ownTask c)

/-- An instance frozen: no task of it is dispatched from now on (R146). -/
def freezeInst (c : Nat) (s : State) : State :=
  match getCtx c s with
  | none => s
  | some x => dropTasks c (setCtx c { x with st := .frozen } s)

/-- A context in CLOSING is released when nothing is outstanding (R153). -/
def closeIf (c : Nat) (s : State) : State :=
  match getCtx c s with
  | some x => if x.st = .closing ∧ x.outst.isEmpty then releaseCtx c s else s
  | none => s

/-- An instance cancelled (R153, R154).  No task of it is dispatched any more, its retire task included, so that the engine cycles of
a squashed run are those of its start task and of the nodes that ran (DEDUCED, log 36: R157 gives totals with the retire). -/
def cancelInst (c : Nat) (s : State) : State :=
  match getCtx c s with
  | none => s
  | some x =>
    if x.st = .closing then s
    else
      let s := if racing c x s then bump .CANCEL_RACE 0 s else s
      let s := bump .GRAPH_CANCEL x.kind (dropTasks c s)
      closeIf c (setCtx c { x with st := .closing, cancelReq := true, timers := [], evictSlot := none } s)

/-- The nodes of a template as a list. -/
def tplNodes (r : Bytes) : List Nat := List.range (min 32 (tplCount r))

/-- The nodes that each node of a template depends on, directly or through others, as masks in node order (R138). -/
def depMasks (r : Bytes) : List Nat :=
  (tplNodes r).foldl (fun ms j =>
    let w := nodeWait (tplNode r j)
    ms ++ [(List.range j).foldl (fun a i => if bit w i then a ||| 2 ^ i ||| ms.getD i 0 else a) 0]) []

/-- The nodes named by a condition, as a mask. -/
def nodeMask (r : Bytes) (f : Bytes → Bool) : Nat :=
  (tplNodes r).foldl (fun a j => if f (tplNode r j) then a ||| 2 ^ j else a) 0

def isConfirmWait (n : Bytes) : Bool := nodeOp n == 0x0F && nodeSub n == 0

def isTimer (n : Bytes) : Bool := nodeOp n == 0x0F && nodeSub n != 0

/-- A commit node that is no GATE node, and that no GATE node needs, runs after the confirmation (R144). -/
def heldBack (r : Bytes) (x : Ctx) (j : Nat) : Bool :=
  x.log.isSome && !nodeGate (tplNode r j) &&
    (let ms := depMasks r
     let gates := nodeMask r nodeGate
     (ms.getD j 0 &&& nodeMask r isConfirmWait) != 0 &&
       !((tplNodes r).any fun i => bit gates i && bit (ms.getD i 0) j))

/-- Node j waits for nothing more, its event aside (R139, R144). -/
def nodeReady (r : Bytes) (x : Ctx) (j : Nat) : Bool :=
  let n := tplNode r j
  !bit x.issued j && (nodeWait n &&& x.doneM) == nodeWait n && (!isConfirmWait n || x.event) && !heldBack r x j

/-- The nodes that have become ready are queued; with every node done, the retire task is (R139). -/
def readyNodes (c : Nat) (s : State) : State :=
  match getCtx c s with
  | none => s
  | some x =>
    if x.st ≠ .running then s
    else
      let r := tplRec x.bank x.tpl s
      let js := (tplNodes r).filter (nodeReady r x)
      let at_ := (js.filter fun j => isTimer (tplNode r j)).foldl (fun t j => tput t j s.time.free) x.readyAt
      let s := setCtx c { x with issued := js.foldl (fun a j => a ||| 2 ^ j) x.issued, readyAt := at_ } s
      let s := forEach js (fun j s => pushTask (nodeTask c j x s) s) s
      match getCtx c s with
      | none => s
      | some y =>
        if ((tplNodes r).all fun j => bit y.doneM j) && !bit y.issued 32 then
          pushTask (retireTask c y s) (setCtx c { y with issued := y.issued + 2 ^ 32 } s)
        else s

end Sys2Proof.Machine
end

