-- ==== Sys2Proof/Machine/Hot.lean ====
section
/-!
DEFINITION. The hot tier (R78–R88): entry images, lookup, the pseudo-LRU, placement and eviction.
-/
namespace Sys2Proof.Machine

def setFlow (x : FlowState) (s : State) : State := { s with flow := x }

/-! Images (R78–R80). -/

/-- The image of a standard record. -/
def isStd (img : Bytes) : Bool := decide (64 < img.length)

def offCTRL (img : Bytes) : Nat := if isStd img then 48 else 24
def offSLOT (img : Bytes) : Nat := if isStd img then 52 else 28
def offLAST (img : Bytes) : Nat := if isStd img then 56 else 32
def offPKTS (img : Bytes) : Nat := if isStd img then 64 else 36
def offBYTES (img : Bytes) : Nat := if isStd img then 69 else 41
def offTCP (img : Bytes) : Nat := if isStd img then 75 else 47
def offMETER (img : Bytes) : Nat := if isStd img then 80 else 48
def offAD (img : Bytes) : Nat := if isStd img then 88 else 56

def imgCtrl (img : Bytes) : Nat := fld img (offCTRL img) 4
def imgSlotWord (img : Bytes) : Nat := fld img (offSLOT img) 4
def imgLast (img : Bytes) : Nat := fld img (offLAST img) 4
def imgTcp (img : Bytes) : Nat := fld img (offTCP img) 1 % 16
def imgMeter (img : Bytes) : Nat := fld img (offMETER img) 8
def imgAd (img : Bytes) : Nat := fld img (offAD img) 8
def imgProfile (img : Bytes) : Nat := bits (imgCtrl img) 8 8
def imgProv (img : Bytes) : Bool := bit (imgCtrl img) 2
def imgDirty (img : Bytes) : Bool := bit (imgCtrl img) 3
def imgBody (img : Bytes) : Bool := bit (imgCtrl img) 4
def imgUndo (img : Bytes) : Nat := bits (imgCtrl img) 16 16
def imgNoslot (img : Bytes) : Bool := bit (imgSlotWord img) 31
def imgSlot (img : Bytes) : Nat := imgSlotWord img % 2 ^ 30

/-- An alias: KTYPE 4 (R178). -/
def imgAlias (img : Bytes) : Bool := !isStd img && fld img 0 1 % 16 == 4

def setCtrl (v : Nat) (img : Bytes) : Bytes := putF img (offCTRL img) 4 v
def ctrlBit (n : Nat) (on : Bool) (img : Bytes) : Bytes := setCtrl (putBits (imgCtrl img) n 1 (b2n on)) img
def setSlotWord (v : Nat) (img : Bytes) : Bytes := putF img (offSLOT img) 4 v
def setAd (v : Nat) (img : Bytes) : Bytes := putF img (offAD img) 8 v
def setMeter (v : Nat) (img : Bytes) : Bytes := putF img (offMETER img) 8 v
def setTcp (v : Nat) (img : Bytes) : Bytes := putF img (offTCP img) 1 (putBits (fld img (offTCP img) 1) 0 4 v)

/-- The image as a write-back stores it: VALID 1, hot-only bits 0 (R78, R87). -/
def storedImage (img : Bytes) : Bytes :=
  setSlotWord (imgSlot img) (setCtrl ((imgCtrl img % 65536 ||| 1) &&& (65535 - 28)) img)

/-- The key that the image stores (R79, R80). -/
def imgKey (img : Bytes) : Bytes := if isStd img then slice img 0 48 else slice img 0 24

/-! Places. -/

/-- HOT_LOC of a place (R123). -/
def hotLoc (k : Nat) : Nat := k / 8 + (k % 8) * 2 ^ 19

/-- The place that a HOT_LOC names. -/
def locPlace (v : Nat) : Nat := 8 * (v % 2 ^ 19) + v / 2 ^ 19 % 8

def hotGet (k : Nat) (s : State) : Option HotEntry := tget? s.flow.hot k

def hotDel (k : Nat) (s : State) : State := setFlow { s.flow with hot := tdel s.flow.hot k } s

/-- The two units of each 64-byte entry (R103). -/
def hotUnits (k : Nat) (img : Bytes) : List Nat := (List.range (img.length / 32)).map (2 * k + ·)

/-- An entry written: its units take a pending injection (R372). -/
def hotPut (k : Nat) (e : HotEntry) (s : State) : State :=
  let (bad, s) := (hotUnits k e.img).foldl (fun (a : Nat × State) u =>
    let (n, s) := takeInjection injHOT u a.2
    (max a.1 n, s)) (e.bad, s)
  setFlow { s.flow with hot := tput s.flow.hot k { e with bad := bad } } s

/-- The place of the entry that covers a way. -/
def coverOf (k : Nat) (s : State) : Option Nat :=
  if (hotGet k s).isSome then some k
  else if k % 2 = 1 then
    match hotGet (k - 1) s with
    | some e => if isStd e.img then some (k - 1) else none
    | none => none
  else none

/-- The places of a set. -/
def setPlaces (set : Nat) : List Nat := (List.range 8).map (8 * set + ·)

/-- The place that holds a flow: the canonical key against a standard pair, the compact key against a compact entry (R83). -/
def hotFind (set : Nat) (key ck : Bytes) (s : State) : Option Nat :=
  (setPlaces set).find? fun k =>
    match hotGet k s with
    | some e => if isStd e.img then slice e.img 0 48 == fit 48 key else !imgAlias e.img && slice e.img 0 24 == fit 24 ck
    | none => false

/-- The sets in which a flow or an alias with this compact key can stand: that of the present HASH_SEED, then those of the earlier
ones (R83; log 59). -/
def hotSets (ck : Bytes) (s : State) : List Nat :=
  ((s.flow.hashSeed :: s.flow.seeds).map fun e => hotSetOf (flowHash e ck).1).eraseDups

/-- The place of a flow, if it is hot (R83). -/
def hotPlace (key ck : Bytes) (s : State) : Option Nat := (hotSets ck s).findSome? fun set => hotFind set key ck s

/-- The place of an alias (R178). -/
def aliasFind (set : Nat) (ak : Bytes) (s : State) : Option Nat :=
  (setPlaces set).find? fun k =>
    match hotGet k s with
    | some e => imgAlias e.img && slice e.img 0 24 == fit 24 ak
    | none => false

/-! Pseudo-LRU (R86; the sense of its bits is the model's, log 35). -/

/-- A way marked most recently used: the bits on its path point away from it. -/
def lruTouch (w t : Nat) : Nat :=
  let half := w / 4
  let pair := w / 2
  putBits (putBits (putBits t 0 1 (1 - half)) (1 + half) 1 (1 - pair % 2)) (3 + pair) 1 (1 - w % 2)

/-- The pair and the way that the walk chooses. -/
def lruPair (t : Nat) : Nat := let half := bits t 0 1; 2 * half + bits t (1 + half) 1
def lruWay (t : Nat) : Nat := let p := lruPair t; 2 * p + bits t (3 + p) 1

def touch (k : Nat) (s : State) : State :=
  setFlow { s.flow with lru := tset 0 s.flow.lru (k / 8) (lruTouch (k % 8) (tget 0 s.flow.lru (k / 8))) } s

/-! Errors (R103). -/

/-- The start of an undo: the log is UNDOING and its instance frozen (R119, R146). -/
def beginUndo (l : Nat) (why : UndoWhy) (s : State) : State :=
  match tget? s.flow.log l with
  | none => s
  | some u =>
    let s := setFlow { s.flow with log := tput s.flow.log l { u with st := .undoing, why := why } } s
    match u.ctx with
    | some c => freezeInst c s
    | none => s

/-- An uncorrectable entry is invalidated; a provisional one has its undo log applied and its packets re-run (R103). -/
def hotUe (k : Nat) (e : HotEntry) (s : State) : State :=
  let s := raise 25 k 0 (bump .HOT_UE 0 (hotDel k s))
  if imgProv e.img then beginUndo (imgUndo e.img) .hotUe s else s

/-- An entry as a lookup, an update or the scrub finds it (R103). -/
def hotCheck (k : Nat) (s : State) : State :=
  match hotGet k s with
  | some e =>
    if e.bad = 0 then s
    else if e.bad = 1 then
      raise 24 k 0 (bump .HOT_CE 0 (setFlow { s.flow with hot := tput s.flow.hot k { e with bad := 0 } } s))
    else hotUe k e s
  | none => s

/-- A set as a lookup reads it. -/
def setCheck (set : Nat) (s : State) : State := forEach (setPlaces set) hotCheck s

/-- The sets of a compact key as a lookup reads them. -/
def setsCheck (ck : Bytes) (s : State) : State := forEach (hotSets ck s) setCheck s

/-- The place of an alias key, as a lookup finds it. -/
def aliasPlace (ak : Bytes) (s : State) : Option Nat := (hotSets ak s).findSome? fun set => aliasFind set ak s

/-! Placement and eviction (R86, R87). -/

/-- The entry of a way is pinned. -/
def pinned (k : Nat) (s : State) : Bool :=
  match coverOf k s with
  | some k' => ((hotGet k' s).map fun e => imgProv e.img).getD false
  | none => false

/-- The entries that cover a way. -/
def covering (k : Nat) (s : State) : List Nat := (coverOf k s).toList

/-- Where a new entry goes and which entries it evicts; none when every candidate is pinned (R86). -/
def findPlace (std : Bool) (set : Nat) (s : State) : Option (Nat × List Nat) :=
  let t := tget 0 s.flow.lru set
  if std then
    let pairs := (List.range 4).map fun p => 8 * set + 2 * p
    let empty (k : Nat) : Bool := (coverOf k s).isNone && (coverOf (k + 1) s).isNone
    let free (k : Nat) : Bool := !pinned k s && !pinned (k + 1) s
    match pairs.find? empty with
    | some k => some (k, [])
    | none =>
      let w := 8 * set + 2 * lruPair t
      let v := if free w then some w else pairs.find? free
      v.map fun k => (k, (covering k s ++ covering (k + 1) s).eraseDups)
  else
    match (setPlaces set).find? fun k => (coverOf k s).isNone with
    | some k => some (k, [])
    | none =>
      let w := 8 * set + lruWay t
      let v := if !pinned w s then some w else (setPlaces set).find? fun k => !pinned k s
      v.map fun k => (k, covering k s)

/-- The eviction template of an entry; 0 for an alias or the null template (R147, R178). -/
def evictTplOf (bank : Bool) (k : Nat) (s : State) : Nat :=
  match hotGet k s with
  | some e => if imgAlias e.img then 0 else fpEvictTpl (fpRec bank (imgProfile e.img) s)
  | none => 0

/-- A context is free for each entry evicted, and no level concerned is in back-pressure (R134, R152). -/
def canEvict (bank : Bool) (ks : List Nat) (s : State) : Bool :=
  let ts := (ks.map fun k => evictTplOf bank k s).filter (· != 0)
  decide (ts.length ≤ ctxFree 2 s) && ts.all fun t => !inBp (tplPrio (tplRec bank t s)) s

/-- A place for an entry in the sense of R115. -/
def placeFor (bank std : Bool) (set : Nat) (s : State) : Option (Nat × List Nat) :=
  (findPlace std set s).filter fun x => canEvict bank x.2 s

/-- The wrap counts of a flow that leaves the hot tier (R196). -/
def saveWraps (e : HotEntry) (s : State) : State :=
  if imgNoslot e.img then s
  else setFlow { s.flow with wraps := tset (0, 0) s.flow.wraps (imgSlot e.img) e.wraps } s

/-- An entry leaves its set, and its eviction graph starts with the image (R87, R147). An alias starts none, and so does the
null template. -/
def evict (bank : Bool) (k : Nat) (s : State) : State :=
  match hotGet k s with
  | none => s
  | some e =>
    let t := evictTplOf bank k s
    let s := bump .HOT_EVICT 0 (hotDel k s)
    if imgAlias e.img then s
    else
      let s := saveWraps e s
      if t = 0 then s
      else
        let r := tplRec bank t s
        let v : List Nat := [imgSlotWord e.img, imgCtrl e.img, 0, 0, hotLoc k] ++ List.replicate 7 0
        let slot := if imgDirty e.img && !imgNoslot e.img then some (imgSlot e.img) else none
        (startInst { tpl := t, bank := bank, kind := 2, level := tplPrio r, profile := imgProfile e.img, v := v,
                     img := fit 128 e.img, evictSlot := slot, wraps := e.wraps, compact := !isStd e.img } s).2

/-- An entry placed; what it evicts leaves first (R86). -/
def placeAt (bank : Bool) (x : Nat × List Nat) (e : HotEntry) (s : State) : State :=
  let s := forEach x.2 (evict bank) s
  let n := s.flow.placed + 1
  touch x.1 (hotPut x.1 { e with serial := n } (setFlow { s.flow with placed := n } s))

/-! Blocks (R82, R88). -/

def physBlock (b : Nat) (s : State) : Nat := tget b s.flow.remap b

/-- A logical block is moved to the lowest reserve block left (R88). -/
def retireBlock (n : Nat) (s : State) : State :=
  match s.flow.reserve with
  | [] => s
  | t :: rest => raise 31 n 0 (setFlow { s.flow with moving := some { logical := n, target := t }, reserve := rest } s)

/-- HOT_BLOCK_RETIRE (0x0408): BUSY while another block is copied (DESIGN CHOICE, log 46). -/
def hotBlockRetireH : YHandler := formO 4 [] fun b s =>
  let n := fld b 0 4
  need (decide (n < 993)) stRANGE s <|
  need s.flow.moving.isNone stBUSY s <|
  need (!s.flow.reserve.isEmpty) stNOSPACE s <|
  yOk [] (retireBlock n s)

def execHotBlockRetire (r : YcpReq) (s : State) : Host.Outcome State Fault Refusal := ycp 0x0408 r hotBlockRetireH s

/-- HOT_BLOCK_SET_COPY: the next set of the retiring block is copied under its lock; after the last one the remap table
names the new block (R88). -/
def execHotBlockSetCopy (s : State) : Host.Outcome State Fault Refusal :=
  .next (match s.flow.moving with
    | none => s
    | some m =>
      let s := setCheck (512 * m.logical + m.next) s
      if m.next = 511 then
        let s := spareDone 6 m.logical (otpAppend 7 m.logical (physBlock m.logical s) m.target s)
        setFlow { s.flow with moving := none, remap := tset m.logical s.flow.remap m.logical m.target } s
      else setFlow { s.flow with moving := some { m with next := m.next + 1 } } s)

/-- HOT_TIER_SCRUB: the scrub reads a set; `bad` gives the ways whose entries it finds with bad symbols, and `meta` a parity
error of the pseudo-LRU state (R103). -/
def execHotTierScrub (bad : List (Nat × Nat)) (lruBad : Bool) (s : State) : Host.Outcome State Fault Refusal :=
  .next <|
    let set := s.flow.scrubAt
    let s := forEach bad (fun x s =>
      match coverOf (8 * set + x.1 % 8) s with
      | some k =>
        match hotGet k s with
        | some e => setFlow { s.flow with hot := tput s.flow.hot k { e with bad := max e.bad x.2 } } s
        | none => s
      | none => s) s
    let s := setCheck set s
    let s := if lruBad then bump .HOT_META_PE 0 (setFlow { s.flow with lru := tdel s.flow.lru set } s) else s
    setFlow { s.flow with scrubAt := (set + 1) % 508416 } s

end Sys2Proof.Machine
end

