-- ==== Sys2Proof/Machine/Bulk.lean ====
section
/-!
DEFINITION. The bulk tier (R89–R94) and the end of flows (R95–R98, R535): rings, index lines, records, expiry, removal.
-/
namespace Sys2Proof.Machine

/-! Errors on lines of flow state (R103). -/

/-- Most bad symbols among the units of a span. -/
def spanBad (a n : Nat) (s : State) : Nat :=
  ((List.range ((n + 31) / 32)).map fun k => symCount (tget 0 s.hbm.bad (a / 32 + k))).foldl max 0

/-- A span whose data have returned to flow state: none when it is uncorrectable; corrected data are counted (R103). -/
def flowResult (a n : Nat) (s : State) : Option Bytes × State :=
  match spanBad a n s with
  | 0 => (some (hbmPeek a n s), s)
  | 1 => (some (hbmPeek a n s), raise 26 (a / 64) 0 (bump .BULK_CE 0 s))
  | _ => (none, s)

/-- A span read by flow state. -/
def flowRead (req a n : Nat) (s : State) : Option Bytes × State := flowResult a n (spanReq req false a n s)

/-! Rings (R90). -/

/-- Entries of a ring. -/
def SlotRing.size (r : SlotRing) : Nat := r.front.length + (r.wr - r.rd) + r.back.length

def getSlots (single : Bool) (s : State) : SlotRing := if single then s.flow.singles else s.flow.pairs

def setSlots (single : Bool) (r : SlotRing) (s : State) : State :=
  setFlow (if single then { s.flow with singles := r } else { s.flow with pairs := r }) s

/-- Where a ring place lies (R90, R102). -/
def ringAddr (single : Bool) (pos : Nat) : Nat :=
  if single then regionBase 4 + 4 * (pos % 2 ^ 30) else regionBase 3 + 4 * (pos % 2 ^ 29)

/-- The pointers of a ring line. -/
def ringPtrs (b : Bytes) : List Nat := (List.range 16).map fun k => fld b (4 * k) 4

/-- The next line of a ring read onto the die; the pointers of an uncorrectable one are discarded (R94, R103). -/
def ringLine (single : Bool) (s : State) : State :=
  let r := getSlots single s
  let a := ringAddr single r.rd
  let (d, s) := hbmRead 2 a 64 s
  if spanUe a 64 s then raise 27 (a / 64) 0 (bump .RING_UE 0 (setSlots single { r with rd := r.rd + 16 } s))
  else setSlots single { r with rd := r.rd + 16, front := ringPtrs d } s

/-- Lines read until one brings pointers or none is left; every line that brings none has a bad unit. -/
def ringRefill (single : Bool) : Nat → State → State
  | 0, s => s
  | n + 1, s =>
    let r := getSlots single s
    if r.front ≠ [] ∨ r.wr ≤ r.rd then s else ringRefill single n (ringLine single s)

/-- A pointer popped: the oldest. -/
def ringPop (single : Bool) (s : State) : Option Nat × State :=
  let s := ringRefill single (s.hbm.bad.length + 1) s
  let r := getSlots single s
  match r.front, r.back with
  | n :: ns, _ => (some n, setSlots single { r with front := ns } s)
  | [], n :: ns => (some n, setSlots single { r with back := ns } s)
  | [], [] => (none, s)

/-- Pointers as a ring line stores them. -/
def ringBytes (l : List Nat) : Bytes := (l.map (leBytes 4)).flatten

/-- A pointer pushed. Where the die holds the 1,008 that it has room for beside the line of a refill, the sixteen oldest of them
leave it as a line (R90, R94; log 85). -/
def ringPush (single : Bool) (n : Nat) (s : State) : State :=
  let r := getSlots single s
  let l := r.back ++ [n]
  if l.length ≤ 1008 then setSlots single { r with back := l } s
  else
    hbmWrite 2 (ringAddr single r.wr) (ringBytes (l.take 16)) (setSlots single { r with wr := r.wr + 16, back := l.drop 16 } s)

/-- A record slot popped for a format (R90). -/
def popSlot (std : Bool) (s : State) : Option Nat × State :=
  if std then ringPop false s
  else
    match ringPop true s with
    | (some n, s) => (some n, s)
    | (none, s) =>
      match ringPop false s with
      | (some n, s) => (some n, ringPush true (n + 1) s)
      | (none, s) => (none, s)

/-- A record slot freed (R90). -/
def freeSlot (n : Nat) (pair : Bool) (s : State) : State :=
  ringPush (!pair) n (setFlow { s.flow with wraps := tdel s.flow.wraps n } s)

/-! Index lines (R89). -/

def idxBase (region1 : Bool) : Nat := if region1 then regionBase 2 else regionBase 1
def lineAddr (region1 : Bool) (bucket : Nat) : Nat := idxBase region1 + 64 * bucket

def lineCount (l : Bytes) : Nat := bits (fld l 0 1) 0 4
def lineOvf (l : Bytes) : Nat := bits (fld l 0 1) 4 4
def slotAt (l : Bytes) (j : Nat) : Nat := fld l (4 + 6 * j) 6
def slotFp (v : Nat) : Nat := bits v 0 16
def slotPtr (v : Nat) : Nat := bits v 16 30
def slotOcc (v : Nat) : Bool := bit v 46
def slotPair (v : Nat) : Bool := bit v 47
/-- An index slot in use (R89). -/
def slotMake (fp ptr : Nat) (pair : Bool) : Nat := fp + ptr * 2 ^ 16 + 2 ^ 46 + b2n pair * 2 ^ 47

def setLineCount (n : Nat) (l : Bytes) : Bytes := putF l 0 1 (n + 16 * lineOvf l)
def setLineOvf (n : Nat) (l : Bytes) : Bytes := putF l 0 1 (lineCount l + 16 * n)
def putSlot (j v : Nat) (l : Bytes) : Bytes := putF l (4 + 6 * j) 6 v

/-! The bucket cache (R92). -/

/-- A bucket in the cache. -/
def bucketKey (r1 : Bool) (bucket : Nat) : Nat := bucket + b2n r1 * 2 ^ 28

def setWork (w : Option BucketWork) (s : State) : State := setFlow { s.flow with work := w } s

/-- The cache has no room for the line of another bucket (R92, R112). -/
def bucketFull (k : Nat) (s : State) : Bool :=
  (tget? s.flow.bucket k).isNone && decide (65536 ≤ s.flow.bucket.length)

/-- A line in the cache. One that finds no room is used without a place in it (log 33). -/
def cacheLine (k : Nat) (l : Option Bytes) (s : State) : State :=
  if bucketFull k s then s else setFlow { s.flow with bucket := tput s.flow.bucket k l } s

/-- A visit of the sweep or of the copy holds the bucket. -/
def workHolds (k : Nat) (s : State) : Bool := s.flow.work.any fun w => w.key == k

/-- A lookup has an operation on the bucket. -/
def lookupHolds (k : Nat) (s : State) : Bool := s.flow.log.any fun x => x.2.lines.contains k

/-- Lines on whose buckets the last operation has ended leave the cache. -/
def leaveBuckets (s : State) : State :=
  setFlow { s.flow with bucket := s.flow.bucket.filter fun x => workHolds x.1 s || lookupHolds x.1 s } s

/-- The line of a bucket as it stands: cached, or in HBM. -/
def lineNow (r1 : Bool) (bucket : Nat) (s : State) : Bytes :=
  match tget? s.flow.bucket (bucketKey r1 bucket) with
  | some (some d) => d
  | _ => hbmPeek (lineAddr r1 bucket) 64 s

/-- A line whose data have returned: a corrected one is rewritten, an uncorrectable one is rewritten empty with OVF_OUT 15
(R103). -/
def lineResult (req : Nat) (r1 : Bool) (bucket : Nat) (s : State) : Bytes × State :=
  let a := lineAddr r1 bucket
  let (d, s') := flowResult a 64 s
  match d with
  | some d => (d, if spanBad a 64 s = 0 then s' else hbmWrite req a d s')
  | none =>
    let d := setLineOvf 15 (zeros 64)
    (d, raise 27 bucket 0 (bump .IDX_UE 0 (hbmWrite req a d s')))

/-- A line as an operation of the bucket engine takes it: from the cache, else from HBM into the cache. -/
def readLine (req : Nat) (r1 : Bool) (bucket : Nat) (s : State) : Bytes × State :=
  let k := bucketKey r1 bucket
  match tget? s.flow.bucket k with
  | some (some d) => (d, s)
  | some none =>
    let (d, s) := lineResult req r1 bucket s
    (d, cacheLine k (some d) s)
  | none =>
    let (d, s) := lineResult req r1 bucket (spanReq req false (lineAddr r1 bucket) 64 s)
    (d, cacheLine k (some d) s)

/-- A cached line changed and written once; that of a visit is written as the visit ends. -/
def writeLine (req : Nat) (r1 : Bool) (bucket : Nat) (l : Bytes) (s : State) : State :=
  let k := bucketKey r1 bucket
  let s := cacheLine k (some l) s
  match s.flow.work with
  | some w => if w.key = k then setWork (some { w with dirty := true }) s else hbmWrite req (lineAddr r1 bucket) l s
  | none => hbmWrite req (lineAddr r1 bucket) l s

/-- A visit ends: its line is written if it has changed. -/
def endWork (s : State) : State :=
  match s.flow.work with
  | none => s
  | some w =>
    let s := setWork none s
    let r1 := decide (2 ^ 28 ≤ w.key)
    let bucket := w.key % 2 ^ 28
    leaveBuckets (if w.dirty then hbmWrite (if w.copy then 9 else 2) (lineAddr r1 bucket) (lineNow r1 bucket s) s else s)

/-- Where the index keeps a flow: region, B, hashes, home bucket and partner. -/
structure IdxPlace where
  r1 : Bool
  b : Nat
  hlo : Nat
  bucket : Nat
  partner : Nat
  deriving DecidableEq, Repr

def idxPlace (r1 : Bool) (b seed : Nat) (ck : Bytes) : IdxPlace :=
  let h := flowHash seed ck
  let k := bucketOf b h.2
  { r1 := r1, b := b, hlo := h.1, bucket := k, partner := partnerOf b h.1 k }

/-- The active index. -/
def oldPlace (ck : Bytes) (s : State) : IdxPlace := idxPlace s.flow.idx1 s.flow.bucketBits s.flow.hashSeed ck

/-- The index that a migration builds. -/
def newPlace (m : Migration) (ck : Bytes) (s : State) : IdxPlace := idxPlace (!s.flow.idx1) m.newB m.newSeed ck

/-- The index that a lookup or confirmation uses (R106). -/
def placeOfKey (ck : Bytes) (s : State) : IdxPlace :=
  let p := oldPlace ck s
  match s.flow.mig with
  | some m => if m.copy && decide (p.bucket < m.cursor) then newPlace m ck s else p
  | none => p

/-- The compact key of a stored key (R76). -/
def ckOf (key : Bytes) (s : State) : Bytes :=
  if 24 < key.length then compactKey s.flow.fpSeed key else key

/-- Slots of a line whose fingerprint matches: pointer, PAIR and slot (R91). -/
def lineMatches (fp : Nat) (l : Bytes) : List (Nat × Bool × Nat) :=
  (List.range 10).filterMap fun j =>
    let v := slotAt l j
    if slotOcc v && slotFp v == fp then some (slotPtr v, slotPair v, j) else none

/-- A slot of a line cleared and COUNT decreased. -/
def clearAt (j : Nat) (l : Bytes) : Bytes := setLineCount (lineCount l - 1) (putSlot j 0 l)

/-- The slot of a line that names a record. -/
def slotOf (ptr : Nat) (l : Bytes) : Option Nat :=
  (List.range 10).find? fun j => slotOcc (slotAt l j) && slotPtr (slotAt l j) == ptr

/-- The slot of a record cleared from the index: in the home line, or in the partner's with OVF_OUT of the home line
decreased unless it is 15 (R97). -/
def unindex (req : Nat) (p : IdxPlace) (ptr : Nat) (s : State) : State :=
  let (h, s) := readLine req p.r1 p.bucket s
  match slotOf ptr h with
  | some j => writeLine req p.r1 p.bucket (clearAt j h) s
  | none =>
    let (q, s) := readLine req p.r1 p.partner s
    match slotOf ptr q with
    | none => s
    | some j =>
      let s := writeLine req p.r1 p.partner (clearAt j q) s
      if lineOvf h = 15 ∨ lineOvf h = 0 then s else writeLine req p.r1 p.bucket (setLineOvf (lineOvf h - 1) h) s

/-- The slot of a line that a confirmation claims: the lowest that is not occupied.  DESIGN CHOICE (log 35): the spec says a
slot. -/
def emptySlot (l : Bytes) : Option Nat := (List.range 10).find? fun j => !slotOcc (slotAt l j)

/-- A slot claimed in a line and COUNT increased. -/
def claimAt (j v : Nat) (l : Bytes) : Bytes := setLineCount (lineCount l + 1) (putSlot j v l)

/-- A record entered in the index: the home line, else the partner's; whether it found room (R93). -/
def index (req : Nat) (p : IdxPlace) (ptr : Nat) (pair : Bool) (s : State) : Bool × State :=
  let v := slotMake (fp16Of p.hlo) ptr pair
  let (h, s) := readLine req p.r1 p.bucket s
  match (if lineCount h < 10 then emptySlot h else none) with
  | some j => (true, writeLine req p.r1 p.bucket (claimAt j v h) s)
  | none =>
    let (q, s) := readLine req p.r1 p.partner s
    match (if lineCount q < 10 then emptySlot q else none) with
    | none => (false, s)
    | some j =>
      let s := writeLine req p.r1 p.partner (claimAt j v q) s
      (true, bump .BULK_OVF_INSERT 0 (writeLine req p.r1 p.bucket (setLineOvf (min 15 (lineOvf h + 1)) h) s))

/-! Records (R79, R80, R90). -/

def recAddr (n : Nat) : Nat := 64 * n

/-- The eviction context whose image a read of the slot takes (R87). -/
def evictCtx (n : Nat) (s : State) : Option (Nat × Ctx) := s.task.ctx.find? fun x => x.2.evictSlot == some n

/-- Bytes of a record. -/
def recSize (pair : Bool) : Nat := if pair then 128 else 64

/-- A lookup asks for a record; one whose image an eviction context has costs nothing (R87). -/
def askRead (req n : Nat) (pair : Bool) (s : State) : State :=
  if (evictCtx n s).isSome then s else spanReq req false (recAddr n) (recSize pair) s

/-- A record as a lookup takes it: from an eviction context, or from HBM; none when it is uncorrectable (R87, R103). -/
def recordResult (n : Nat) (pair : Bool) (s : State) : Option Bytes × State :=
  match evictCtx n s with
  | some x => (some (storedImage (fit (recSize pair) x.2.img)), s)
  | none => flowResult (recAddr n) (recSize pair) s

/-- A record read in one step. -/
def readRecord (req n : Nat) (pair : Bool) (s : State) : Option Bytes × State := recordResult n pair (askRead req n pair s)

/-- What a record is to a lookup of a key (R91). -/
inductive RecRes where
  | found | other | lost
  deriving DecidableEq, Repr

def recJudge (n : Nat) (key ck : Bytes) (img : Option Bytes) : RecRes :=
  match img with
  | none => .lost
  | some b =>
    if !bit (imgCtrl b) 0 then .other
    else if imgSlot b ≠ n ∨ bit (fld b (offSLOT b) 4) 31 then .lost
    else if imgKey b == (if isStd b then fit 48 key else fit 24 ck) then .found else .other

/-- A record that is uncorrectable, or whose SLOT differs from PTR: its slot is cleared from the index and not freed
(R91, R103). -/
def recLost (req : Nat) (p : IdxPlace) (n : Nat) (s : State) : State :=
  raise 27 n 0 (bump .REC_UE 0 (unindex req p n s))

/-- Line 0 of a record rewritten with VALID 0 (R97). -/
def tombstone (req n : Nat) (pair : Bool) (s : State) : State :=
  let b := hbmPeek (recAddr n) 64 s
  let o := if pair then 48 else 24
  hbmWrite req (recAddr n) (putF b o 4 (putBits (fld b o 4) 0 1 0)) s

/-- An image written to its record slot (R87, R98, R105). -/
def writeBody (req : Nat) (img : Bytes) (s : State) : State :=
  bump .HOT_WB 0 (hbmWrite req (recAddr (imgSlot img)) (storedImage img) s)

/-! Lookup in one step, as the commands and the sweeps make it (R91). -/

/-- A match that did not yield the record (R91, R103). -/
def falseMatch (req : Nat) (p : IdxPlace) (n : Nat) (res : RecRes) (s : State) : State :=
  let s := bump .BULK_FALSE_FP 0 s
  if res = .lost then recLost req p n s else s

/-- The flow's record among the matches of one line. -/
def findIn (req : Nat) (p : IdxPlace) (key ck : Bytes) :
    List (Nat × Bool × Nat) → State → Option (Nat × Bool × Bytes) × State
  | [], s => (none, s)
  | (n, pair, _) :: rest, s =>
    let (b, s) := readRecord req n pair s
    match recJudge n key ck b, b with
    | .found, some img => (some (n, pair, img), s)
    | res, _ => findIn req p key ck rest (falseMatch req p n res s)

/-- The record of a key: slot, PAIR, image. -/
def bulkFind (req : Nat) (key : Bytes) (s : State) : Option (Nat × Bool × Bytes) × State :=
  let ck := ckOf key s
  let p := placeOfKey ck s
  let (h, s) := readLine req p.r1 p.bucket s
  match findIn req p key ck (lineMatches (fp16Of p.hlo) h) s with
  | (some x, s) => (some x, s)
  | (none, s) =>
    if lineOvf h = 0 then (none, s)
    else
      let (q, s) := readLine req p.r1 p.partner s
      findIn req p key ck (lineMatches (fp16Of p.hlo) q) (bump .BULK_OVF_READ 0 s)

/-! Expiry (R95, R96). -/

/-- The timeouts that count for a TCP state, in seconds, with the reason of R147: 0 idle, 1 FIN, 2 RST. -/
def timeouts (fp : Bytes) (tcp : Nat) : List (Nat × Nat) :=
  ((if tcp = 7 then [(fpRst fp, 2)] else []) ++ (if 4 ≤ tcp ∧ tcp ≤ 6 then [(fpFin fp, 1)] else []) ++
    [(fpIdle fp, 0)]).filter fun x => x.1 != 0

/-- The effective timeout with its reason; none for a flow that never expires (R96). -/
def effTimeout (fp : Bytes) (tcp : Nat) : Option (Nat × Nat) :=
  (timeouts fp tcp).foldl (fun best x =>
    match best with
    | none => some x
    | some b => if x.1 < b.1 then some x else some b) none

/-- The reason for which an image has expired, if it has (R96). -/
def expiredImg (img : Bytes) (s : State) : Option Nat :=
  match effTimeout (fpRec s.ep.activeNo (imgProfile img) s) (imgTcp img) with
  | some (t, why) => if t * 1000 ≤ idleMs (msNow s) (imgLast img) then some why else none
  | none => none

/-! Removal (R97, R535). -/

/-- An ageing instance, or the record slot pushed at once where the profile's AGE_TPL is null (R97, R147). -/
def startAgeing (profile v0 ctrl reason : Nat) (img : Bytes) (compact : Bool) (line1 : Option Nat)
    (push : Option (Nat × Bool)) (wraps : Nat × Nat) (s : State) : State :=
  let bank := s.ep.activeNo
  let t := fpAgeTpl (fpRec bank profile s)
  if t = 0 then
    match push with
    | some (n, pair) => freeSlot n pair s
    | none => s
  else
    let v : List Nat := [v0, ctrl, reason] ++ List.replicate 9 0
    (startInst { tpl := t, bank := bank, kind := 3, level := tplPrio (tplRec bank t s), profile := profile, v := v,
                 img := fit 128 img, pushSlot := push, line1 := line1, wraps := wraps, compact := compact } s).2

/-- The profile of the ageing graph of a record that is removed: its FLOW_PROFILE. -/
def recProfile (pair : Bool) (img : Bytes) : Nat := bits (fld img (if pair then 48 else 24) 4) 8 8

/-- The ageing graph of a profile can start: no template, or a context free and the level not in back-pressure (R97,
R152). -/
def canAge (profile : Nat) (s : State) : Bool :=
  let t := fpAgeTpl (fpRec s.ep.activeNo profile s)
  t == 0 || (decide (0 < ctxFree 3 s) && !inBp (tplPrio (tplRec s.ep.activeNo t s)) s)

/-- A record removed: index, tombstone, ageing graph (R97). `line1` says whether its line 1 is in `img`. -/
def removeRecord (req : Nat) (p : IdxPlace) (n : Nat) (pair : Bool) (reason : Nat) (img : Bytes) (line1 : Bool) (s : State) :
    State :=
  let ctrl := fld img (if pair then 48 else 24) 4
  let w := tget (0, 0) s.flow.wraps n
  let s := bump .AGE_EXPIRED 0 (tombstone req n pair (unindex req p n s))
  startAgeing (recProfile pair img) n ctrl reason img (!pair) (if pair && !line1 then some n else none) (some (n, pair)) w s

end Sys2Proof.Machine
end

