-- ==== Sys2Proof/Machine/Meter.lean ====
section
/-!
DEFINITION. Meters (R188–R190), their commands, and flow-attributed counters (R193).
-/
namespace Sys2Proof.Machine

/-! Meter parameters (R188). -/

def mCir (r : Bytes) : Nat := fld r 0 4
def mPir (r : Bytes) : Nat := fld r 4 4
def mCbs (r : Bytes) : Nat := fld r 8 3
def mPbs (r : Bytes) : Nat := fld r 11 3
def mEnable (r : Bytes) : Bool := bit (fld r 14 1) 0
def mAware (r : Bytes) : Bool := bit (fld r 14 1) 1
def mYellow (r : Bytes) : Nat := bits (fld r 14 1) 2 2
def mRed (r : Bytes) : Bool := bit (fld r 14 1) 4

/-- Token units of one byte. -/
def meterUnit : Nat := 8000000

def getMeter (k : Nat) (s : State) : Meter := tget {} s.svc.meter k

def setMeter2 (k : Nat) (m : Meter) (s : State) : State := setSvc { s.svc with meter := tset {} s.svc.meter k m } s

/-- Both buckets refilled up to now: CIR and PIR in kb/s are units per ns (R188). -/
def Meter.refill (m : Meter) (now : Nat) : Meter :=
  let dt := now - m.at_
  { m with c := min (mCbs m.record * meterUnit) (m.c + mCir m.record * dt)
           p := min (mPbs m.record * meterUnit) (m.p + mPir m.record * dt)
           at_ := now }

/-- A record's encodings and ranges (R188). YELLOW 3 is not defined (log 37). -/
def meterCheck (b : Bytes) : Nat :=
  if fld b 14 1 / 32 ≠ 0 ∨ mYellow b = 3 ∨ fld b 15 1 ≠ 0 then stINVALID
  else if mCir b = 0 ∨ mPir b < mCir b ∨ mCbs b < 64 ∨ mPbs b < 64 then stRANGE else stOK

/-- The meters of the first three sets (R188). -/
def meterExists (k : Nat) : Bool := decide (k < 131072 + 4096)

def meterSetCheck (_ : State) (k : Nat) (b : Bytes) : Nat :=
  if meterCheck b = stINVALID then stINVALID else if meterExists k then meterCheck b else stRANGE

/-- A write fills both buckets (R188). -/
def meterSetApply (k : Nat) (b : Bytes) (s : State) : State :=
  setMeter2 k { record := b, c := mCbs b * meterUnit, p := mPbs b * meterUnit, at_ := s.time.free } s

/-- METER_SET (0x0510). -/
def execMeterSet (r : YcpReq) (s : State) : Host.Outcome State Fault Refusal :=
  ycp 0x0510 r (formL (fun _ => 16) meterSetCheck meterSetApply) s

def flowMeterRec (n : Nat) (s : State) : Bytes :=
  if tget 0 s.svc.flowMeterBad n != 0 then zeros 16 else tget (zeros 16) s.svc.flowMeter n

def flowMeterCheck (_ : State) (k : Nat) (b : Bytes) : Nat :=
  if meterCheck b = stINVALID then stINVALID else if 1 ≤ k ∧ k ≤ 15 then meterCheck b else stRANGE

def flowMeterApply (k : Nat) (b : Bytes) (s : State) : State :=
  setSvc { s.svc with flowMeter := tset (zeros 16) s.svc.flowMeter k b, flowMeterBad := tdel s.svc.flowMeterBad k } s

/-- FLOW_METER_PROFILE_SET (0x0511). -/
def execFlowMeterProfileSet (r : YcpReq) (s : State) : Host.Outcome State Fault Refusal :=
  ycp 0x0511 r (formL (fun _ => 16) flowMeterCheck flowMeterApply) s

/-! A packet at a meter (R189). -/

/-- The colour of a packet of `len` bytes, in any unit: 0 green, 1 yellow, 2 red (RFC 2698). -/
def colourOf (aware : Bool) (pre c p len : Nat) : Nat :=
  let pre := if aware then pre else 0
  if pre = 2 ∨ p < len then 2 else if pre = 1 ∨ c < len then 1 else 0

/-- What a meter does to a colour: drop, and mark (R188). -/
def meterDrops (r : Bytes) (col : Nat) : Bool := (col == 1 && mYellow r == 2) || (col == 2 && !mRed r)
def meterMarks (r : Bytes) (col : Nat) : Bool := (col == 1 && mYellow r == 1) || (col == 2 && mRed r)

/-- What the meters decide for a packet. -/
structure MeterRes where
  colour : Nat := 0
  drop : Bool := false
  mark : Bool := false
  /-- Debits in bytes: meter key, committed, peak. -/
  debits : List (Nat × Nat × Nat) := []
  /-- Colour counters: meter key and colour. -/
  colours : List (Nat × Nat) := []
  /-- METER_STATE of the flow after the packet. -/
  flowState : Nat := 0
  deriving DecidableEq, Repr

/-- A packet at one meter of the first three sets (R189); a meter that is not enabled, or failed parity, passes it (R197). -/
def atMeter (len : Nat) (s : State) (k : Nat) (x : MeterRes) : MeterRes :=
  let m := getMeter k s
  if x.drop || m.bad || !mEnable m.record then x
  else
    let m := m.refill s.time.free
    let col := colourOf (mAware m.record) x.colour m.c m.p (len * meterUnit)
    { x with colour := max x.colour col, drop := meterDrops m.record col, mark := x.mark || meterMarks m.record col,
             debits := if col = 2 then x.debits else x.debits ++ [(k, if col = 0 then len else 0, len)],
             colours := x.colours ++ [(k, col)] }

/-- METER_STATE refilled up to now: `last` is LAST_SEEN before the packet (R190; whole bytes, log 37). -/
def flowRefill (r : Bytes) (st last : Nat) (s : State) : Nat × Nat :=
  let ms := idleMs (msNow s) last
  let ns := if ms < 4 then 1024 * ((s.time.free / 1024 + 4096 - bits st 48 12) % 4096) else ms * 1000000
  (min (mCbs r) (bits st 0 24 + mCir r * ns / meterUnit), min (mPbs r) (bits st 24 24 + mPir r * ns / meterUnit))

/-- A packet at its flow meter (R189, R190). -/
def atFlowMeter (len st last : Nat) (s : State) (x : MeterRes) : MeterRes :=
  let n := bits st 60 4
  let r := flowMeterRec n s
  if n = 0 ∨ !mEnable r then { x with flowState := st }
  else
    let (c, p) := flowRefill r st last s
    let col := colourOf (mAware r) x.colour c p len
    let c := if col = 0 then c - len else c
    let p := if col = 2 then p else p - len
    { x with colour := max x.colour col, drop := meterDrops r col, mark := x.mark || meterMarks r col,
             flowState := c + p * 2 ^ 24 + (s.time.free / 1024 % 4096) * 2 ^ 48 + n * 2 ^ 60 }

/-- The meters of a packet in order: flow, rule, subscriber, service (R189). -/
def meterPass (len : Nat) (flow : Option (Nat × Nat)) (rule sub : Option Nat) (service : Nat) (s : State) : MeterRes :=
  let x : MeterRes := {}
  let x := match flow with
    | some (st, last) => atFlowMeter len st last s x
    | none => x
  let x := match rule with
    | some m => atMeter len s m x
    | none => x
  let x := match sub with
    | some m => atMeter len s (65536 + m) x
    | none => x
  atMeter len s (131072 + service) x

/-- A debit of a meter. -/
def debitMeter (k c p : Nat) (s : State) : State :=
  let m := (getMeter k s).refill s.time.free
  setMeter2 k { m with c := m.c - c * meterUnit, p := m.p - p * meterUnit } s

/-- METER_CREDIT undone: the credit clamps at the burst sizes in force (R126). -/
def creditMeter (k c p : Nat) (s : State) : State :=
  let m := (getMeter k s).refill s.time.free
  setMeter2 k { m with c := min (m.c + c * meterUnit) (mCbs m.record * meterUnit),
                       p := min (m.p + p * meterUnit) (mPbs m.record * meterUnit) } s

/-- The colour counters of a packet advance (R122, R189). -/
def countColours (len : Nat) (l : List (Nat × Nat)) (s : State) : State :=
  forEach l (fun x s =>
    match x.2 with
    | 0 => addCtr .METER_GREEN_BYTES x.1 len (bump .METER_GREEN_PKTS x.1 s)
    | 1 => addCtr .METER_YELLOW_BYTES x.1 len (bump .METER_YELLOW_PKTS x.1 s)
    | _ => addCtr .METER_RED_BYTES x.1 len (bump .METER_RED_PKTS x.1 s)) s

/-! Flow-attributed counters (R193). -/

def accGet (id : Nat) (s : State) : Int × Int := tget (0, 0) s.svc.acc id

/-- COUNT_ADD and its undo: the on-die accumulator (R193). -/
def accAdd (id : Nat) (p b : Int) (s : State) : State :=
  let a := accGet id s
  setSvc { s.svc with acc := tset (0, 0) s.svc.acc id (a.1 + p, a.2 + b) } s

def ctrPairAddr (id : Nat) : Nat := baseTELEMETRY + 16 * id

/-- A counter with its accumulator added. -/
def pairValue (id : Nat) (s : State) : Nat × Nat :=
  let b := hbmPeek (ctrPairAddr id) 16 s
  let a := accGet id s
  ((((fld b 0 8 : Nat) : Int) + a.1) % 2 ^ 64 |>.toNat, (((fld b 8 8 : Nat) : Int) + a.2) % 2 ^ 64 |>.toNat)

/-- Counts of an uncorrectable line are lost (R197). -/
def mendPair (id : Nat) (s : State) : State :=
  if spanUe (ctrPairAddr id) 16 s then raise 51 id 0 (hbmWrite 5 (ctrPairAddr id / 64 * 64) (zeros 64) s) else s

/-- One accumulator folded into HBM (R193). -/
def foldOne (id : Nat) (s : State) : State :=
  let s := mendPair id s
  let (p, b) := pairValue id s
  setSvc { s.svc with acc := tdel s.svc.acc id } (hbmStore (ctrPairAddr id) (leBytes 8 p ++ leBytes 8 b) s)

/-- COUNTER_FOLD: every accumulator is folded into HBM, 2 lines for 4 counters (R193). -/
def execCounterFold (s : State) : Host.Outcome State Fault Refusal :=
  .next <|
    let ids := s.svc.acc.map (·.1)
    let lines := (ids.map fun i => ctrPairAddr i / 64).eraseDups
    let s := forEach ids foldOne s
    forEach lines (fun l s => atomicReq 5 (64 * l) 64 s) s

/-- The lines of the counters `first` to `first + n - 1` read: each is a line operation, and a bad one loses its counts (R165, R197). -/
def readPairs (first n : Nat) (s : State) : State :=
  let ids := (List.range n).map (first + ·)
  forEach ((ids.map fun i => ctrPairAddr i / 64).eraseDups) (fun l s => spanReq 5 false (64 * l) 64 s) (forEach ids mendPair s)

/-- Counter pairs as SVC_COUNTER_READ answers them. -/
def pairRecord (s : State) (k : Nat) : Bytes := leBytes 8 (pairValue k s).1 ++ leBytes 8 (pairValue k s).2

/-- SVC_COUNTER_READ: the HBM value plus the accumulator (R193, R412). The counts of a bad line are lost before it answers. -/
def svcCounterReadH : YHandler := fun r b rm s =>
  let x := formS 1048576 16 pairRecord r b rm s
  if x.status ≠ stOK then x
  else formS 1048576 16 pairRecord r b rm (readPairs (fld b 0 4) (fld x.body 0 4) s)

/-- SVC_COUNTER_READ (0x0D10). -/
def execSvcCounterRead (r : YcpReq) (s : State) : Host.Outcome State Fault Refusal := ycp 0x0D10 r svcCounterReadH s

end Sys2Proof.Machine
end

