-- ==== Sys2Proof/Machine/Export.lean ====
section
/-!
DEFINITION. Flow telemetry: export records and their rings (R195, R196).
-/
namespace Sys2Proof.Machine

/-- Seconds [31:0] of the active domain. -/
def secNow (s : State) : Nat := secOf (activeTime s) % 2 ^ 32

/-- The header of a record (R196). -/
def recHeader (type units reason profile flags seq : Nat) (s : State) : Bytes :=
  leBytes 1 type ++ leBytes 1 units ++ leBytes 1 reason ++ leBytes 1 profile ++
  leBytes 2 (flags + 16 * s.host.devid) ++ zeros 2 ++ leBytes 4 seq ++ leBytes 4 (secNow s)

/-- The accept flag of a record type (R195). -/
def acceptBit (type : Nat) : Nat := if type = 1 then 0 else if type = 2 then 1 else if type = 3 then 2 else 3

/-- One record written, with the next SEQ of the ring (R196). -/
def putRecord (k type units reason profile flags : Nat) (body : Bytes) (s : State) : State :=
  let seq := (tget 0 s.svc.seq k + 1) % 2 ^ 32
  let s := setSvc { s.svc with seq := tset 0 s.svc.seq k seq } s
  ringWrite 5 (exportRing k) (fit (32 * units) (recHeader type units reason profile flags seq s ++ body)) s

/-- A record for an export ring: not accepted, it costs nothing; one that does not fit before CONS is dropped; a PAD record fills the
end of the ring before one that would cross it (R195). -/
def exportRec (k type reason profile flags : Nat) (body : Bytes) (s : State) : State :=
  let x := getRing (exportRing k) s
  if !x.valid || !bit x.flags (acceptBit type) then s
  else
    let units := (16 + body.length + 31) / 32
    let toEnd := ringUnits x - x.pos
    let pad := if toEnd < units then toEnd else 0
    if ringFree x < pad + units then
      let s := raise 51 k 0 (bump .EXPORT_DROP k s)
      ringHead (exportRing k) (setRing (exportRing k) { x with drops := x.drops + 1 } s)
    else
      let s := if pad = 0 then s else putRecord k 0 pad 0 0 0 [] s
      bump .EXPORT_REC k (putRecord k type units reason profile flags body s)

/-- What an EXPORT takes its fields from: the image of a record, in its format. -/
structure ExportSrc where
  key : Bytes
  img : Bytes
  wraps : Nat × Nat
  deriving DecidableEq, Repr

/-- FLAGS of a flow record (R196). -/
def recFlags (img : Bytes) (hist : Bool) : Nat :=
  let c := imgCtrl img
  b2n (!isStd img) + 2 * b2n (bit c 5) + 4 * b2n (bit c 6) + 8 * b2n hist

/-- The body of a START or RESET record (R196). -/
def startBody (ck img : Bytes) : Bytes :=
  fit 24 ck ++ leBytes 8 (imgAd img) ++ (if isStd img then slice img 60 4 else zeros 4) ++ leBytes 1 (imgTcp img) ++ zeros 11

/-- PKTS and BYTES with their wraps (R196). -/
def pkts64 (img : Bytes) (w : Nat × Nat) : Nat := fld img (offPKTS img) 5 + 2 ^ 40 * w.1
def bytes64 (img : Bytes) (w : Nat × Nat) : Nat := fld img (offBYTES img) 6 + 2 ^ 48 * w.2

/-- The body of an END record (R196). -/
def endBody (hist : Bool) (key ck img : Bytes) (w : Nat × Nat) : Bytes :=
  let p := leBytes 8 (pkts64 img w) ++ leBytes 8 (bytes64 img w)
  if isStd img then
    let t := slice img 60 4 ++ slice img 56 4 ++ leBytes 1 (imgTcp img) ++ slice img 76 2 ++ zeros 5
    fit 48 key ++ p ++ t ++ (if hist then slice img 96 32 else [])
  else fit 24 ck ++ p ++ leBytes 4 (imgLast img) ++ leBytes 1 (imgTcp img) ++ zeros 3

/-- EXPORT of a flow record: 0 START, 1 END, 2 RESET (R195, R196). -/
def exportFlow (k sel reason profile : Nat) (key ck img : Bytes) (w : Nat × Nat) (s : State) : State :=
  let hist := sel == 1 && isStd img && bit (getRing (exportRing k) s).flags 4
  let body := if sel = 1 then endBody hist key ck img w else startBody ck img
  exportRec k (sel + 1) (if sel = 1 then reason else 0) profile (recFlags img hist) body s

/-- A block record (R196). -/
def exportBlock (k : Nat) (alloc : Bool) (sub g port pool : Nat) (s : State) : State :=
  let body := leBytes 4 (sub % 8388608) ++ leBytes 4 g ++ leBytes 2 port ++ leBytes 1 pool ++ zeros 5
  exportRec k (if alloc then 4 else 5) 0 0 0 body s

end Sys2Proof.Machine
end

