-- ==== Sys2Proof/Machine/Xlat.lean ====
section
/-!
DEFINITION. Address translation and load balancing (R169–R187): pools, blocks, ports, map entries, aliases and backends.
-/
namespace Sys2Proof.Machine

/-! PORT_POOL (R170–R172). -/

def xpoolDesc (p : Nat) (s : State) : Bytes := hbmPeek (poolDescAddr p) 64 s
def xpBase (d : Bytes) : Nat := bits (fld d 0 2) 0 11
def xpCount (d : Bytes) : Nat := fld d 2 2
def xpEim (d : Bytes) : Bool := bit (fld d 4 1) 0
def xpApdf (d : Bytes) : Bool := bit (fld d 4 1) 1
def xpDet (d : Bytes) : Bool := bit (fld d 4 1) 2
def xpBlkLog (d : Bytes) : Nat := fld d 5 1
def xpMaxBlk (d : Bytes) : Nat := fld d 6 1
def xpLogRing (d : Bytes) : Nat := bits (fld d 7 1) 0 4
/-- MAP_HOLD: 120 s by default, which a descriptor not yet written shows as 0 (R170). -/
def xpHold (d : Bytes) : Nat := if fld d 8 4 = 0 then 120 else fld d 8 4
def xpSeed (d : Bytes) : Nat := fld d 12 4
def xpDetBase (d : Bytes) : Nat := fld d 16 4
def xpDetCount (d : Bytes) : Nat := fld d 20 4
/-- Ports of a block, and blocks of an address (R170). -/
def blkSize (d : Bytes) : Nat := 2 ^ xpBlkLog d
def bpaOf (d : Bytes) : Nat := 64512 / blkSize d

/-- The address entry: IPv4 bytes, pool, VALID (R171). -/
def addrEnt (a : Nat) (s : State) : Bytes := hbmPeek (addrEntAddr a) 16 s
def addrValid (e : Bytes) : Bool := bit (fld e 4 1) 7
def addrPool (e : Bytes) : Nat := bits (fld e 4 1) 0 6

/-- The external address that an IPv4 address matches (R179). -/
def addrMatch (ip : Bytes) (s : State) : Option Nat :=
  (List.range 2048).find? fun a => let e := addrEnt a s; addrValid e && slice e 0 4 == fit 4 ip

/-- A global block's address and first port (R170). -/
def blkAddr (g : Nat) : Nat := g / 1024
def blkPort (d : Bytes) (g : Nat) : Nat := 1024 + g % 1024 * blkSize d

/-- The block of a port of an address. -/
def blkOfPort (d : Bytes) (a port : Nat) : Nat := a * 1024 + (port - 1024) / blkSize d

/-- A block-table entry: owner when VALID (R171). -/
def blockOwner (g : Nat) (s : State) : Option Nat :=
  let v := fld (hbmPeek (blockEntAddr g) 8 s) 0 4
  if bit v 23 then some (v % 8388608) else none

/-- The directory entry, as the port cache shows it. -/
def dirEnt (sub : Nat) (s : State) : Bytes := cachePeek (dirAddr sub) 32 s
def dirValid (e : Bytes) : Bool := bit (fld e 0 1) 0
def dirPool (e : Bytes) : Nat := bits (fld e 0 1) 1 6
def dirNblk (e : Bytes) : Nat := bits (fld e 1 1) 0 3
def dirBlk (e : Bytes) (j : Nat) : Nat := bits (fld e (4 + 4 * j) 4) 0 21

/-- The blocks of a directory entry. -/
def dirBlocks (e : Bytes) : List Nat := (List.range (min 4 (dirNblk e))).map (dirBlk e)

/-- A directory entry with the blocks given. -/
def dirWith (e : Bytes) (bs : List Nat) : Bytes :=
  slice e 0 1 ++ leBytes 1 bs.length ++ zeros 2 ++ fit 16 ((bs.map (leBytes 4)).flatten) ++ zeros 12

/-- The bitmap of a block, as the port cache shows it. -/
def bitmapOf (g : Nat) (s : State) : Bytes := cachePeek (bitmapAddr g) 64 s

def bitSet (g i : Nat) (s : State) : Bool := bit (fld (bitmapOf g s) (i / 8) 1) (i % 8)

/-- A bit of a block's bitmap written. -/
def putBitmap (g i : Nat) (on : Bool) (s : State) : State :=
  let l := bitmapOf g s
  svcStore (bitmapAddr g) (putF l (i / 8) 1 (putBits (fld l (i / 8) 1) (i % 8) 1 (b2n on))) s

/-- A port's bit written. -/
def putPort (d : Bytes) (a port : Nat) (on : Bool) (s : State) : State :=
  putBitmap (blkOfPort d a port) ((port - 1024) % blkSize d) on s

/-! Map entries (R173). -/

def mapNo (a port : Nat) : Nat := a * 65536 + port
def mapState (e : Bytes) : Nat := bits (fld e 0 1) 0 2
def mapNoidx (e : Bytes) : Bool := bit (fld e 0 1) 2
def mapSub (e : Bytes) : Nat := bits (fld e 1 3) 0 23
def mapProto (e : Bytes) : Nat := fld e 4 1
def mapFlows (e : Bytes) : Nat := fld e 12 4

/-- An entry from its fields. -/
def mapMake (st : Nat) (noidx : Bool) (sub proto : Nat) (port addr : Bytes) (flows last created : Nat) : Bytes :=
  leBytes 1 (st + 4 * b2n noidx) ++ leBytes 3 sub ++ leBytes 1 proto ++ [0] ++ fit 2 port ++ fit 4 addr ++
  leBytes 4 flows ++ leBytes 4 last ++ leBytes 4 created ++ zeros 40

/-- The map cache holds the entry (R166). -/
def mapCached (m : Nat) (s : State) : Bool := (lru .map s).contains m

/-- An entry that HBM holds and that is uncorrectable: its port counts as taken until the audit, F049 (R197). -/
def mapBad (m : Nat) (s : State) : State :=
  raise 49 m 0 (setSvc { s.svc with mapLost := tput s.svc.mapLost m 1 } s)

/-- A line of a map entry that HBM holds with an error that is corrected is rewritten (R197). -/
def mapMend (m : Nat) (s : State) : State :=
  if correctable (mapAddr m / 64) s then hbmWrite 4 (mapAddr m) (hbmPeek (mapAddr m) 64 s) s else s

/-- A map entry read through the map cache; none where it is uncorrectable (R166, R197). -/
def readMap (m : Nat) (s : State) : Option Bytes × State :=
  if cacheUe (mapAddr m) 64 s then (none, mapBad m (spanReq 4 false (mapAddr m) 64 s))
  else
    let held := (tget? s.svc.cache (mapAddr m)).isSome
    let s := fetchLine 4 .map m (mapAddr m) 64 (use .map m s)
    (some (cachePeek (mapAddr m) 64 s), if held then s else mapMend m s)

/-- A map entry asked for, unless the map cache holds it. -/
def askMap (m : Nat) (s : State) : State :=
  if (tget? s.svc.cache (mapAddr m)).isSome then s else spanReq 4 false (mapAddr m) 64 s

/-- A map entry whose data have returned takes its place in the map cache; none where it is uncorrectable (R166, R197). -/
def takeMap (m : Nat) (s : State) : Option Bytes × State :=
  if cacheUe (mapAddr m) 64 s then (none, mapBad m s)
  else
    let held := (tget? s.svc.cache (mapAddr m)).isSome
    let s := use .map m s
    let e := cachePeek (mapAddr m) 64 s
    let s := if held || !(lru .map s).contains m then s else putLine .map m (mapAddr m) false e s
    (some e, if held then s else mapMend m s)

/-- A map entry changed by a requester: its line is written at once, and the cached copy follows (R177, R181; log 33). -/
def writeMapBy (req m : Nat) (e : Bytes) (s : State) : State :=
  hbmWrite req (mapAddr m) e (if mapCached m s then putLine .map m (mapAddr m) false e s else s)

def writeMap (m : Nat) (e : Bytes) (s : State) : State := writeMapBy 4 m e s

/-- An entry that the sweep reads, past the map cache (R176). -/
def sweepMap (m : Nat) (s : State) : Option Bytes × State :=
  let (d, s) := hbmRead 4 (mapAddr m) 64 s
  if spanUe (mapAddr m) 64 s then (none, mapBad m s) else (some d, mapMend m s)

/-- A HOLD entry that has expired (R173). -/
def mapExpired (hold : Nat) (e : Bytes) (s : State) : Bool :=
  mapState e == 2 && decide (hold * 1000 ≤ idleMs (msNow s) (fld e 16 4))

/-- The entry belongs to an endpoint (R174). -/
def mapIs (e : Bytes) (sub proto : Nat) (addr port : Bytes) : Bool :=
  mapSub e == sub && mapProto e == proto && slice e 8 4 == fit 4 addr && slice e 6 2 == fit 2 port

def pendIs (x : PendMap) (sub proto : Nat) (addr port : Bytes) : Bool :=
  x.sub == sub && x.proto == proto && x.addr == fit 4 addr && x.port == fit 2 port

/-! The key of a translated flow (R169, R174). -/

/-- The compact key of an IMAGE that holds a key; an echo identifier takes the place of both ports (R169). -/
def xlatKey (ck : Bytes) : Bytes :=
  if fld ck 4 1 = 1 then put ck 6 (beBytes 2 (fld ck 20 4 % 65536) ++ beBytes 2 (fld ck 20 4 % 65536)) else ck

/-- A flow that can be translated (R169): IPv4, a valid subscriber, and TCP, UDP or ICMP echo under AUX_EN; `echo` says that its
first packet is an echo whose identifier AUX_OFF names. -/
def translatable (echo : Bool) (fp ck : Bytes) : Bool :=
  fld ck 0 1 % 16 == 0 && bit (fld ck 1 3) 23 && fpZone fp == 0 &&
    (fld ck 4 1 == 6 || fld ck 4 1 == 17 || (fld ck 4 1 == 1 && fpAuxEn fp && echo))

/-- The packet is an ICMP echo or echo reply whose identifier is in AUX[15:0] (R169). -/
def isEcho (frame : Bytes) (l4 : Option Hdr) (aux : Nat) : Bool :=
  match l4 with
  | some h => h.type == 10 && (bfld frame h.off 1 == 0 || bfld frame h.off 1 == 8) && aux % 65536 == bfld frame (h.off + 4) 2
  | none => false

/-! Binding of a subscriber (R172, R183, R469). -/

/-- HOME_MAP in force: empty for a device whose flows all home locally (R455, R458). -/
def homeOf (i : Nat) (s : State) : Nat := s.join.homeMap.getD (i % 16) s.host.devid

/-- The subscriber's home moved to this member at a loss, and firmware has not rebound it yet (R469). -/
def rebound (sub : Nat) (s : State) : Bool :=
  inMode mJOINED s && s.join.moved.contains (sub % 16) && homeOf sub s == s.host.devid

/-- The deterministic block of a subscriber; none outside the range (R183). -/
def detBlock (d : Bytes) (sub : Nat) : Option Nat :=
  if xpDetBase d ≤ sub ∧ sub < xpDetBase d + xpDetCount d ∧ 0 < bpaOf d then
    let o := sub - xpDetBase d
    some ((xpBase d + o / bpaOf d) * 1024 + o % bpaOf d)
  else none

/-- What PORT_RESERVE works with: pool and blocks; none where the subscriber has no valid directory entry. -/
def binding (sub : Nat) (s : State) : Option (Nat × List Nat) :=
  let e := dirEnt sub s
  if !dirValid e then none
  else
    let p := dirPool e
    let q := fld s.join.fallback p 1
    if rebound sub s ∧ q ≠ 0xFF then some (q, (detBlock (xpoolDesc q s) sub).toList)
    else if xpDet (xpoolDesc p s) then some (p, (detBlock (xpoolDesc p s) sub).toList)
    else some (p, dirBlocks e)

/-! Blocks (R176, R459). -/

def getBlocks (p : Nat) (s : State) : BlockRing := tget {} s.svc.blocks p

def setBlocks (p : Nat) (x : BlockRing) (s : State) : State := setSvc { s.svc with blocks := tset {} s.svc.blocks p x } s

/-- HOME_MAP is about to change: the blocks of the old map stay the only ones in the rings until firmware pushes the newly
owned ones (R459). -/
def holdBlocks (s : State) : State :=
  if s.svc.blockMap.isEmpty then setSvc { s.svc with blockMap := (List.range 16).map fun i => homeOf i s } s else s

/-- The i-th block of a pool's filling order: by b, then by address (R176). -/
def fillBlock (d : Bytes) (i : Nat) : Nat := (xpBase d + i % xpCount d) * 1024 + i / xpCount d

/-- The member allocates from a block's address now, and did when the rings were last filled (R459). -/
def blockOwned (g : Nat) (s : State) : Bool :=
  let a := blkAddr g
  homeOf a s == s.host.devid && (s.svc.blockMap.isEmpty || s.svc.blockMap.getD (a % 16) 0 == s.host.devid)

/-- Where a place of a pool's ring lies (R171). -/
def blockRingAddr (p pos : Nat) : Nat := basePool + 0x1A000000 + 8388608 * p + 4 * (pos % 2097152)

/-- Free blocks that a ring holds. -/
def BlockRing.size (r : BlockRing) : Nat := r.front.length + (r.wr - r.rd) + r.back.length

/-- The next line of a ring read onto the die; the pointers of an uncorrectable one are lost, F051 (R176, R197). -/
def blockLine (p : Nat) (s : State) : State :=
  let r := getBlocks p s
  let a := blockRingAddr p r.rd
  let n := min 16 (r.wr - r.rd)
  let (d, s) := hbmRead 4 a 64 s
  if spanUe a 64 s then raise 51 (a / 64) 0 (setBlocks p { r with rd := r.rd + n } s)
  else setBlocks p { r with rd := r.rd + n, front := (List.range n).map fun k => fld d (4 * k) 4 } s

/-- The oldest block of a ring. -/
def takeBlock (p : Nat) : Nat → State → Option Nat × State
  | 0, s => (none, s)
  | k + 1, s =>
    let r := getBlocks p s
    match r.front, r.back with
    | g :: gs, _ => (some g, setBlocks p { r with front := gs } s)
    | [], b => if r.rd < r.wr then takeBlock p k (blockLine p s)
      else match b with
        | g :: gs => (some g, setBlocks p { r with back := gs } s)
        | [] => (none, s)

/-- A block of another member's address leaves the ring for the blocks set aside (R459). -/
def asideBlock (p g : Nat) (s : State) : State :=
  let r := getBlocks p s
  setBlocks p { r with aside := r.aside ++ [g] } s

/-- Blocks popped until one is the member's own. -/
def popOwned (p : Nat) : Nat → State → Option Nat × State
  | 0, s => (none, s)
  | k + 1, s =>
    match takeBlock p (s.hbm.bad.length + 2) s with
    | (some g, s) => if blockOwned g s then (some g, s) else popOwned p k (asideBlock p g s)
    | (none, s) => (none, s)

/-- A block popped from a pool's ring (R176, R459). -/
def popBlock (p : Nat) (s : State) : Option Nat × State := popOwned p ((getBlocks p s).size + 1) s

/-- A block pushed: sixteen of them make a line, which is written (R176). -/
def pushBlock (p g : Nat) (s : State) : State :=
  let r := getBlocks p s
  let l := r.back ++ [g]
  if l.length < 16 then setBlocks p { r with back := l } s
  else hbmWrite 4 (blockRingAddr p r.wr) (l.map (leBytes 4)).flatten (setBlocks p { r with wr := r.wr + 16, back := [] } s)

/-- A pool's ring filled with its blocks in order of b, then of address; the pointers of an incomplete line stay on the die (R176). -/
def fillRing (p : Nat) (d : Bytes) (s : State) : State :=
  let n := if xpDet d then 0 else xpCount d * bpaOf d
  let l := (List.range n).map (fillBlock d)
  let k := n / 16 * 16
  let s := setBlocks p { wr := k, back := l.drop k } s
  if k = 0 then s else hbmWrite 4 (blockRingAddr p 0) ((l.take k).map (leBytes 4)).flatten s

/-- The blocks set aside that the member owns now are pushed (R459). -/
def unasideBlocks (p : Nat) (s : State) : State :=
  let r := getBlocks p s
  let s' := setBlocks p { r with aside := r.aside.filter fun g => !blockOwned g s } s
  forEach (r.aside.filter fun g => blockOwned g s) (pushBlock p) s'

/-- A block allocated to a subscriber (R176): block table, directory, empty bitmap, BLOCK_ALLOC record. -/
def allocBlock (sub p : Nat) (s : State) : Option Nat × State :=
  match popBlock p s with
  | (none, s) => (none, s)
  | (some g, s) =>
    let d := xpoolDesc p s
    let e := dirEnt sub s
    let s := hbmWrite 4 (blockEntAddr g) (leBytes 4 (sub + 8388608) ++ leBytes 4 (secNow s)) s
    let s := svcStore (dirAddr sub) (dirWith e (dirBlocks e ++ [g])) s
    let s := startLine .port sub (bitmapAddr g) (zeros 64) s
    let s := bump .XLAT_BLOCK_ALLOC p s
    (some g, exportBlock (xpLogRing d) true sub g (blkPort d g) p s)

/-! PORT_RESERVE (R174, R175). -/

/-- What a reservation gives. -/
inductive Reserve where
  /-- NONE: the flow is not translatable (3), or there is no port (1). -/
  | none (reason : Nat)
  /-- A port: pool, address, port, REUSE, NOIDX, and whether undo returns it. -/
  | port (pool a port : Nat) (reuse noidx undo : Bool)
  deriving DecidableEq, Repr

/-- The probe hash (R174). -/
def probeHash (d key : Bytes) : Nat :=
  crc32cI (xpSeed d) (if xpEim d then slice key 1 4 ++ slice key 6 2 ++ slice key 12 4 else slice key 1 19)

/-- What the probe of one held block finds: a reuse, a candidate, or nothing (R174). -/
inductive Probe where
  | reuse (undo : Bool)
  | cand
  | taken
  deriving DecidableEq, Repr

def probe (d : Bytes) (sub proto : Nat) (addr port : Bytes) (g off : Nat) (s : State) : Probe × State :=
  let m := mapNo (blkAddr g) (blkPort d g + off)
  if tget 0 s.svc.mapLost m ≠ 0 then (.taken, s)
  else if !bitSet g off s then (.cand, s)
  else if !xpEim d then (.taken, s)
  else
    match tget? s.svc.pend m with
    | some x => (if pendIs x sub proto addr port then .reuse true else .taken, s)
    | none =>
      match readMap m s with
      | (none, s) => (.taken, s)
      | (some e, s) =>
        if (mapState e = 1 ∨ mapState e = 2) ∧ mapIs e sub proto addr port then (.reuse false, s)
        else if mapExpired (xpHold d) e s then (.cand, s) else (.taken, s)

/-- The probe positions of the held blocks in order: a reuse ends the search, the first candidate is kept (R174). -/
def probeAll (d : Bytes) (sub proto : Nat) (addr port : Bytes) (off : Nat) :
    List Nat → Option Nat → State → Option (Nat × Bool) × Option Nat × State
  | [], cand, s => (none, cand, s)
  | g :: gs, cand, s =>
    match probe d sub proto addr port g off s with
    | (.reuse undo, s) => (some (g, undo), cand, s)
    | (.cand, s) => probeAll d sub proto addr port off gs (if cand.isNone then some g else cand) s
    | (.taken, s) => probeAll d sub proto addr port off gs cand s

/-- The first clear bit of a block from `off` upward, wrapping (R174). -/
def clearBit (d : Bytes) (g off : Nat) (s : State) : Option Nat :=
  ((List.range (blkSize d)).map fun k => (off + k) % blkSize d).find? fun i =>
    !bitSet g i s && tget 0 s.svc.mapLost (mapNo (blkAddr g) (blkPort d g + i)) == 0

/-- A port taken: its bit, and its PENDING entry in the map cache (R166, R174). -/
def takePort (d : Bytes) (sub proto : Nat) (addr port : Bytes) (g i : Nat) (noidx : Bool) (s : State) : State :=
  let m := mapNo (blkAddr g) (blkPort d g + i)
  let s := use .map m (putBitmap g i true s)
  setSvc { s.svc with pend := tput s.svc.pend m { sub := sub, proto := proto, addr := fit 4 addr, port := fit 2 port,
                                                  noidx := noidx } } s

/-- A new reservation of bit `i` of block `g`. -/
def reserveNew (d : Bytes) (p sub proto : Nat) (addr port : Bytes) (g i : Nat) (noidx : Bool) (s : State) : Reserve × State :=
  let s := bump .XLAT_NEW p (takePort d sub proto addr port g i noidx s)
  let s := if noidx then bump .XLAT_NOIDX p s else s
  (.port p (blkAddr g) (blkPort d g + i) false noidx true, s)

/-- No port: XLAT_NOPORT, and F048 for a flow that is translatable (R184). -/
def noPort (p : Option Nat) (reason : Nat) (s : State) : Reserve × State :=
  let s := match p with
    | some p => bump .XLAT_NOPORT p s
    | none => s
  (.none reason, if reason = 1 then raise 48 (p.getD 0) 0 s else s)

/-- The subscriber's blocks count as full until the audit, F049 (R197). -/
def loseSub (sub : Nat) (s : State) : State := raise 49 sub 0 (setSvc { s.svc with subLost := tput s.svc.subLost sub 1 } s)

/-- The directory line of a subscriber or the bitmap line of a block is uncorrectable (R197). -/
def subBad (sub : Nat) (gs : List Nat) (s : State) : Bool :=
  cacheUe (dirAddr sub) 32 s || gs.any fun g => cacheUe (bitmapAddr g) 64 s

/-- A reservation for a subscriber and a flow (R174, R175, R184). -/
def portReserve (echo : Bool) (fp : Bytes) (sub : Nat) (ck : Bytes) (s : State) : Reserve × State :=
  match binding sub s with
  | none => noPort none (if translatable echo fp ck then 1 else 3) s
  | some (p, gs) =>
    if !translatable echo fp ck then noPort (some p) 3 s
    else if tget 0 s.svc.subLost sub ≠ 0 then noPort (some p) 1 s
    else if subBad sub gs s then noPort (some p) 1 (loseSub sub s)
    else
      let s := usePort sub gs s
      let d := xpoolDesc p s
      let key := xlatKey ck
      let proto := fld key 4 1
      let addr := slice key 12 4
      let port := slice key 6 2
      let off := probeHash d key % blkSize d
      match probeAll d sub proto addr port off gs none s with
      | (some (g, undo), _, s) =>
        let m := mapNo (blkAddr g) (blkPort d g + off)
        let more (x : PendMap) : PendMap := { x with count := x.count + 1 }
        let s := match tget? s.svc.pend m with
          | some x => setSvc { s.svc with pend := tput s.svc.pend m (more x) } (use .map m s)
          | none => s
        (.port p (blkAddr g) (blkPort d g + off) true false undo, bump .XLAT_REUSE p s)
      | (none, some g, s) => reserveNew d p sub proto addr port g off false s
      | (none, none, s) =>
        match gs.findSome? fun g => (clearBit d g off s).map fun i => (g, i) with
        | some (g, i) => reserveNew d p sub proto addr port g i true s
        | none =>
          if !xpDet d ∧ gs.length < xpMaxBlk d then
            match allocBlock sub p s with
            | (some g, s) => reserveNew d p sub proto addr port g off false s
            | (none, s) => noPort (some p) 1 s
          else noPort (some p) 1 s

/-- PORT_RETURN undone (R126, R175): `i` is the address index within the pool of the subscriber. -/
def portReturn (sub i port : Nat) (s : State) : State :=
  match binding sub s with
  | none => bump .UNDO_STALE 0 s
  | some (p, gs) =>
    let d := xpoolDesc p s
    let a := xpBase d + i
    let g := blkOfPort d a port
    if !gs.contains g then bump .UNDO_STALE 0 s
    else
      let m := mapNo a port
      let bad := subBad sub gs s
      let s := if bad then loseSub sub s else usePort sub gs s
      match tget? s.svc.pend m with
      | none => s
      | some x =>
        if x.count ≤ 1 ∧ !x.wait then
          let s := leave .map m (setSvc { s.svc with pend := tdel s.svc.pend m } s)
          if bad then s else putPort d a port false s
        else setSvc { s.svc with pend := tput s.svc.pend m { x with count := x.count - 1 } } s

/-! ACTION_DATA (R168). -/

def adSvc (v : Nat) : Nat := bits v 0 2
def adTc (v : Nat) : Nat := bits v 2 4
def adA (v : Nat) : Nat := bits v 6 11
def adPort (v : Nat) : Nat := bits v 17 16
def adNoidx (v : Nat) : Bool := bit v 33
def adBackend (v : Nat) : Nat := bits v 6 16
def adLbSvc (v : Nat) : Nat := bits v 22 12

def adXlat (tc a port : Nat) (noidx inbound : Bool) : Nat :=
  1 + tc * 4 + a * 2 ^ 6 + port * 2 ^ 17 + b2n noidx * 2 ^ 33 + b2n inbound * 2 ^ 34
def adLb (tc backend svc : Nat) : Nat := 2 + tc * 4 + backend * 2 ^ 6 + svc * 2 ^ 22
def adBlocked (tc reason : Nat) : Nat := 3 + tc * 4 + reason * 2 ^ 6

/-! Aliases (R177, R178). -/

/-- The alias key of a translated flow seen from outside: remote address and port, external address and port. -/
def aliasKey (a proto : Nat) (rport xport raddr xaddr : Bytes) : Bytes :=
  [4] ++ leBytes 3 a ++ leBytes 1 proto ++ [0] ++ fit 2 rport ++ fit 2 xport ++ [0, 0] ++ fit 4 raddr ++ fit 4 xaddr ++ zeros 4

/-- The alias key of a flow from its primary key; the external identifier stands for both ports of ICMP (R169). -/
def flowAlias (ck : Bytes) (a port : Nat) (s : State) : Bytes :=
  let x := beBytes 2 port
  aliasKey a (fld ck 4 1) (if fld ck 4 1 = 1 then x else slice ck 8 2) x (slice ck 16 4) (slice (addrEnt a s) 0 4)

/-- The alias image (R178). -/
def aliasImg (ak ck : Bytes) (m : Nat) (s : State) : Bytes :=
  fit 24 ak ++ leBytes 4 3 ++ leBytes 4 m ++ leBytes 4 (msNow s) ++ fit 24 ck ++ zeros 4

/-- An alias placed without pinning, in the place it already has or under R86; without a place none is placed (R177). -/
def placeAlias (bank : Bool) (ak ck : Bytes) (m : Nat) (s : State) : State :=
  let set := hotSetOf (flowHash s.flow.hashSeed ak).1
  let e : HotEntry := { img := aliasImg ak ck m s }
  match aliasPlace ak s with
  | some k => touch k (hotPut k e s)
  | none =>
    match placeFor bank false set s with
    | some x => placeAt bank x e s
    | none => s

def dropAlias (ak : Bytes) (s : State) : State :=
  match aliasPlace ak s with
  | some k => hotDel k s
  | none => s

/-! MAP_INSERT, MAP_REMOVE, PORT_RELEASE (R177, R181). -/

/-- A flow counted in the shadow FLOWS of its map entry, once (R197; log 42). -/
def Audit.addFlow (ck : Bytes) (m : Nat) (a : Audit) : Audit :=
  if a.mapped.contains ck then a else { a with flows := tput a.flows m (tget 0 a.flows m + 1), mapped := ck :: a.mapped }

def Audit.dropFlow (ck : Bytes) (m : Nat) (a : Audit) : Audit :=
  if a.mapped.contains ck then { a with flows := tput a.flows m (tget 0 a.flows m - 1), mapped := a.mapped.erase ck } else a

/-- A flow counted in the shadow ACTIVE of its backend, once (R197; log 42). -/
def Audit.addPick (ck : Bytes) (b : Nat) (a : Audit) : Audit :=
  if a.picked.contains ck then a else { a with active := tput a.active b (tget 0 a.active b + 1), picked := ck :: a.picked }

def Audit.dropPick (ck : Bytes) (b : Nat) (a : Audit) : Audit :=
  if a.picked.contains ck then { a with active := tput a.active b (tget 0 a.active b - 1), picked := a.picked.erase ck } else a

/-- The shadows follow a live operation (R197, R199). -/
def shadow (f : Audit → Audit) (s : State) : State :=
  match s.svc.audit with
  | some a => setSvc { s.svc with audit := some (f a) } s
  | none => s

/-- SHADOW of an entry written (R173, R197). -/
def setShadow (n : Nat) (e : Bytes) : Bytes := putF e 24 4 n

/-- SHADOW of a map entry brought to the count (R173, R197). -/
def writeShadow (m : Nat) (a : Audit) (s : State) : State :=
  if cacheUe (mapAddr m) 64 s then s
  else
    let s := if (tget? s.svc.cache (mapAddr m)).isSome then s else spanReq 9 false (mapAddr m) 64 s
    writeMapBy 9 m (setShadow (tget 0 a.flows m) (cachePeek (mapAddr m) 64 s)) s

/-- One flow added to the shadows, by its compact key and ACTION_DATA. -/
def auditFlow (ck : Bytes) (ad : Nat) (x : Audit × State) : Audit × State :=
  if adSvc ad = 1 then
    let m := mapNo (adA ad) (adPort ad)
    if x.1.mapped.contains ck then x else (x.1.addFlow ck m, writeShadow m (x.1.addFlow ck m) x.2)
  else if adSvc ad = 2 then (x.1.addPick ck (adBackend ad), x.2)
  else x

/-- A flow that becomes known while an audit runs, which the walk may have passed, is added as well (R199). -/
def liveFlow (ck : Bytes) (ad : Nat) (s : State) : State :=
  match s.svc.audit with
  | some a => let (a, s) := auditFlow ck ad (a, s); setSvc { s.svc with audit := some a } s
  | none => s

/-- The entry as it is written while an audit runs, with its shadow. -/
def withShadow (m : Nat) (e : Bytes) (s : State) : Bytes :=
  match s.svc.audit with
  | some a => setShadow (tget 0 a.flows m) e
  | none => e

/-- The reverse mapping of a flow written: its key, and ACTION_DATA that names the mapping (R177; log 38). A new mapping stays PENDING
until its write is accepted. Answers DST. -/
def mapInsert (ck : Bytes) (ad : Nat) (s : State) : Nat × State :=
  if adSvc ad ≠ 1 then (0, s)
  else
    let m := mapNo (adA ad) (adPort ad)
    let now := msNow s
    let put (e : Bytes) (s : State) : Nat × State :=
      let s := shadow (Audit.addFlow ck m) s
      (1, writeMap m (withShadow m e s) s)
    match (tget? s.svc.pend m).filter fun x => !x.wait with
    | some x =>
      let wait (x : PendMap) : PendMap := { x with wait := true }
      let s := setSvc { s.svc with pend := tput s.svc.pend m (wait x) } (use .map m s)
      put (mapMake 1 x.noidx x.sub x.proto x.port x.addr 1 now (secNow s)) s
    | none =>
      match readMap m s with
      | (none, s) => (0, bump .XLAT_MAPFAIL 0 s)
      | (some e, s) => put (putF (putF (putF e 0 1 (putBits (fld e 0 1) 0 2 1)) 12 4 (mapFlows e + 1)) 16 4 now) s

/-- The write of a MAP_INSERT has been accepted: the entry is MAPPED, and the alias is placed (R177, R199). -/
def mapInserted (bank : Bool) (ck : Bytes) (m : Nat) (s : State) : State :=
  let s := setSvc { s.svc with pend := tdel s.svc.pend m } s
  placeAlias bank (flowAlias (xlatKey ck) (m / 65536) (m % 65536) s) ck m s

/-- The reverse mapping of a flow removed (R181). -/
def mapRemove (ck : Bytes) (ad : Nat) (s : State) : State :=
  if adSvc ad ≠ 1 then s
  else
    let m := mapNo (adA ad) (adPort ad)
    let d := xpoolDesc (addrPool (addrEnt (adA ad) s)) s
    let s := dropAlias (flowAlias (xlatKey ck) (adA ad) (adPort ad) s) s
    match readMap m s with
    | (none, s) => s
    | (some e, s) =>
      let n := mapFlows e - 1
      let st := if n = 0 then (if xpEim d then 2 else 0) else mapState e
      let e := putF (putF (putF e 0 1 (putBits (fld e 0 1) 0 2 st)) 12 4 n) 16 4 (msNow s)
      let s := shadow (Audit.dropFlow ck m) s
      writeMap m (withShadow m e s) s

/-- PORT_RELEASE of a port of an address: its bit is cleared through the port cache when the entry is FREE (R181). -/
def portRelease (a port : Nat) (s : State) : State :=
  let m := mapNo a port
  let d := xpoolDesc (addrPool (addrEnt a s)) s
  if (tget? s.svc.pend m).isNone && mapState (cachePeek (mapAddr m) 64 s) == 0 && tget 0 s.svc.mapLost m == 0 &&
      decide (1024 ≤ port) then
    match blockOwner (blkOfPort d a port) s with
    | some sub =>
      let gs := dirBlocks (dirEnt sub s)
      if subBad sub gs s then loseSub sub s else putPort d a port false (usePort sub gs s)
    | none => s
  else s

/-! Load balancing (R185–R187). -/

def backendRec (b : Nat) (s : State) : Bytes := tget (zeros 16) s.svc.backend b

/-- STATE of a backend; one that failed parity is DOWN (R197). -/
def backendState (b : Nat) (s : State) : Nat :=
  if tget 0 s.svc.backendBad b ≠ 0 then 0 else bits (fld (backendRec b s) 0 1) 0 2
def backendPort (r : Bytes) : Nat := bits (fld r 2 2) 0 6
def backendActive (r : Bytes) : Nat := fld r 8 4
def backendService (r : Bytes) : Nat := bits (fld r 12 2) 0 12

def setBackend (b : Nat) (r : Bytes) (s : State) : State :=
  setSvc { s.svc with backend := tset (zeros 16) s.svc.backend b r } s

def addActive (b : Nat) (up : Bool) (n : Nat) (s : State) : State :=
  let r := backendRec b s
  let a := if up then backendActive r + n else backendActive r - n
  setBackend b (putF r 8 4 (a % 2 ^ 32)) s

def lbSlotAddr (svc i : Nat) : Nat := regionBase 8 + 262144 * svc + 4 * i

/-- LB_PICK for a flow (R186): the backend, or none. -/
def lbPick (svc hash : Nat) (ck : Bytes) (s : State) : Option Nat × State :=
  let i := hash % 65536
  let a := lbSlotAddr svc (i / 16 * 16)
  let ue := spanUe a 64 s
  let (l, s) := hbmRead 4 a 64 s
  let order := (List.range 16).map fun k => (i + k) % 16
  let ok (k : Nat) : Bool := let v := fld l (4 * k) 4; bit v 16 && backendState (v % 65536) s == 1
  match (if ue then none else order.find? ok) with
  | some k =>
    let b := fld l (4 * k) 4 % 65536
    (some b, shadow (Audit.addPick ck b) (bump .LB_PICK svc (addActive b true 1 s)))
  | none => (none, raise 50 svc 0 (bump .LB_NOBACKEND svc s))

/-- LB_RELEASE: ACTIVE saturates at 0 (R187). -/
def lbRelease (b n : Nat) (ck : Bytes) (s : State) : State := shadow (Audit.dropPick ck b) (addActive b false n s)

end Sys2Proof.Machine
end

