-- ==== Sys2Proof/Machine/SvcCmd.lean ====
section
/-!
DEFINITION. The commands of the flow services, the map sweep and the pool audit (R167–R197).
-/
namespace Sys2Proof.Machine

/-! SVC_PROFILE_SET (R167). -/

def svcProf (n : Nat) (s : State) : Bytes := tget (zeros 8) s.svc.prof n
def spDir (r : Bytes) : Nat := bits (fld r 0 1) 0 2
def spHairpin (r : Bytes) : Bool := bit (fld r 0 1) 2
def spRing (r : Bytes) : Nat := bits (fld r 1 1) 0 4
def spNomapPunt (r : Bytes) : Bool := bit (fld r 2 1) 0
def spIcmpPunt (r : Bytes) : Bool := bit (fld r 2 1) 1
def spLbDrop (r : Bytes) : Bool := bit (fld r 2 1) 2
def spPuntCode (r : Bytes) : Nat := bits (fld r 3 1) 0 6
def spHairProfile (r : Bytes) : Nat := fld r 4 1

def svcProfCheck (_ : State) (i : Nat) (b : Bytes) : Nat :=
  if fld b 0 1 / 8 ≠ 0 ∨ spDir b = 3 ∨ fld b 1 1 / 16 ≠ 0 ∨ fld b 2 1 / 8 ≠ 0 ∨ fld b 3 1 / 64 ≠ 0 ∨ fld b 5 3 ≠ 0 then stINVALID
  else if 256 ≤ i then stRANGE else stOK

def svcProfApply (i : Nat) (b : Bytes) (s : State) : State := setSvc { s.svc with prof := tset (zeros 8) s.svc.prof i b } s

/-- SVC_PROFILE_SET (0x0420). -/
def execSvcProfileSet (r : YcpReq) (s : State) : Host.Outcome State Fault Refusal :=
  ycp 0x0420 r (formL (fun _ => 8) svcProfCheck svcProfApply) s

/-! XLAT_POOL_SET (R170, R176, R183). -/

/-- The entries of a table in HBM that hold a byte other than the default, as their numbers. -/
def listedEntries (base size count : Nat) (s : State) : List Nat :=
  ((s.hbm.mem.filter fun c => decide (base ≤ c.1 ∧ c.1 < base + size * count)).map fun c => (c.1 - base) / size).eraseDups

/-- The allocated blocks, rising (R171). -/
def allocatedBlocks (s : State) : List Nat :=
  (listedEntries (blockEntAddr 0) 8 2097152 s).filter fun g => (blockOwner g s).isSome

/-- A pool's addresses hold an allocated block. -/
def poolInUse (d : Bytes) (s : State) : Bool :=
  (allocatedBlocks s).any fun g => decide (xpBase d ≤ blkAddr g ∧ blkAddr g < xpBase d + xpCount d)

/-- The fields that fix a pool's blocks: ADDR_BASE, ADDR_COUNT, BLOCK_LOG2, MODE, DET_BASE (R170). -/
def poolShape (d : Bytes) : Bytes := slice d 0 6 ++ slice d 16 4

/-- Two pools share an address. -/
def poolsMeet (d e : Bytes) : Bool :=
  decide (0 < xpCount d ∧ 0 < xpCount e ∧ xpBase d < xpBase e + xpCount e ∧ xpBase e < xpBase d + xpCount d)

def poolEncodes (b : Bytes) : Bool :=
  fld b 0 2 / 2048 == 0 && fld b 4 1 / 8 == 0 && fld b 7 1 / 16 == 0 && fld b 16 4 / 8388608 == 0 && (slice b 24 40).all (· == 0)

def poolRanges (b : Bytes) : Bool :=
  decide (xpCount b ≤ 512 ∧ xpBase b + xpCount b ≤ 2048 ∧ 6 ≤ xpBlkLog b ∧ xpBlkLog b ≤ 9 ∧ 1 ≤ xpMaxBlk b ∧
    xpMaxBlk b ≤ (if xpDet b then 1 else 4) ∧ 1 ≤ xpHold b ∧ xpHold b ≤ 86400) &&
  (!xpDet b || decide (xpDetCount b ≤ xpCount b * bpaOf b))

def xlatPoolCheck (s : State) (i : Nat) (b : Bytes) : Nat :=
  if 0x1000 ≤ i then
    if bit (fld b 4 1) 6 ∨ fld b 5 11 ≠ 0 then stINVALID else if 2048 ≤ i - 0x1000 then stRANGE else stOK
  else if !poolEncodes b then stINVALID
  else if 64 ≤ i ∨ !poolRanges b then stRANGE
  else if poolShape b ≠ poolShape (xpoolDesc i s) ∧ poolInUse (xpoolDesc i s) s then stBUSY
  else if (List.range 64).any fun k => k != i && poolsMeet b (xpoolDesc k s) then late stINVALID
  else stOK

/-- A descriptor written; a new shape fills the free-block ring (R176, R183). -/
def xlatPoolApply (i : Nat) (b : Bytes) (s : State) : State :=
  if 0x1000 ≤ i then hbmWrite 4 (addrEntAddr (i - 0x1000)) b s
  else
    let fresh := poolShape b != poolShape (xpoolDesc i s)
    let s := hbmWrite 4 (poolDescAddr i) b s
    if fresh then fillRing i b s else s

/-- The descriptors of one command do not overlap among themselves either (R170). -/
def xlatPoolPost (_ s' : State) : Nat :=
  if (List.range 64).any fun i => (List.range 64).any fun k => decide (k < i) && poolsMeet (xpoolDesc i s') (xpoolDesc k s') then
    stINVALID else stOK

/-- XLAT_POOL_SET (0x0421). -/
def execXlatPoolSet (r : YcpReq) (s : State) : Host.Outcome State Fault Refusal :=
  ycp 0x0421 r (formLX (fun i => if 0x1000 ≤ i then 16 else 64) xlatPoolCheck xlatPoolApply xlatPoolPost) s

/-! XLAT_SUB_SET (R172, R183). -/

/-- A record of XLAT_SUB_SET. It is BUSY as well while the port cache is full of pinned subscribers (log 33). -/
def xlatSubCheck (s : State) (i : Nat) (b : Bytes) : Nat :=
  if bit (fld b 0 1) 7 ∨ fld b 2 2 ≠ 0 ∨ (slice b 20 12).any (· != 0) then stINVALID
  else if 8388608 ≤ i then stRANGE
  else if dirNblk (dirEnt i s) ≠ 0 ∧ dirPool b ≠ dirPool (dirEnt i s) then stBUSY
  else if mustWait .port i s then stBUSY else stOK

/-- CTRL written; the blocks are the device's own, and a DET pool gives BLK0 by its rule (R183; log 40). -/
def xlatSubApply (i : Nat) (b : Bytes) (s : State) : State :=
  let d := xpoolDesc (dirPool b) s
  let old := dirBlocks (dirEnt i s)
  match (if xpDet d && dirValid b then detBlock d i else none) with
  | some g =>
    let s := hbmWrite 4 (blockEntAddr g) (leBytes 4 (i + 8388608) ++ leBytes 4 (secNow s)) s
    svcStore (dirAddr i) (dirWith b [g]) (usePort i old s)
  | none => svcStore (dirAddr i) (dirWith b old) (usePort i old s)

/-- XLAT_SUB_SET (0x0422). -/
def execXlatSubSet (r : YcpReq) (s : State) : Host.Outcome State Fault Refusal :=
  ycp 0x0422 r (formL (fun _ => 32) xlatSubCheck xlatSubApply) s

/-- XLAT_SWEEP_SET (0x0423): MAP_SWEEP in seconds (R176). -/
def execXlatSweepSet (r : YcpReq) (s : State) : Host.Outcome State Fault Refusal :=
  ycp 0x0423 r (formO 4 [] fun b s =>
    need (decide (10 ≤ fld b 0 4 ∧ fld b 0 4 ≤ 3600)) stRANGE s <|
    yOk [] (setSvc { s.svc with mapSweep := fld b 0 4 } s)) s

/-! Backends and slots (R185, R186). -/

def backendCheck (_ : State) (i : Nat) (b : Bytes) : Nat :=
  if fld b 0 1 / 4 ≠ 0 ∨ fld b 0 1 = 3 ∨ fld b 2 2 / 64 ≠ 0 ∨ fld b 12 2 / 4096 ≠ 0 ∨ fld b 14 2 ≠ 0 then stINVALID
  else if 65536 ≤ i ∨ fld b 1 1 = 0 then stRANGE else stOK

/-- ACTIVE is read-only. -/
def backendApply (i : Nat) (b : Bytes) (s : State) : State :=
  setBackend i (putF b 8 4 (backendActive (backendRec i s))) (setSvc { s.svc with backendBad := tdel s.svc.backendBad i } s)

/-- LB_BACKEND_SET (0x0424). -/
def execLbBackendSet (r : YcpReq) (s : State) : Host.Outcome State Fault Refusal :=
  ycp 0x0424 r (formL (fun _ => 16) backendCheck backendApply) s

def lbSlotCheck (_ : State) (i : Nat) (b : Bytes) : Nat :=
  if fld b 0 4 / 131072 ≠ 0 then stINVALID else if 268435456 ≤ i then stRANGE else stOK

def lbSlotApply (i : Nat) (b : Bytes) (s : State) : State := hbmWrite 4 (lbSlotAddr (i / 65536) (i % 65536)) b s

/-- LB_TABLE_WRITE (0x0426). -/
def execLbTableWrite (r : YcpReq) (s : State) : Host.Outcome State Fault Refusal :=
  ycp 0x0426 r (formL (fun _ => 4) lbSlotCheck lbSlotApply) s

/-- The backends of a service that LB_BUILD fills for, rising: UP and DRAIN (R186). -/
def buildSet (svc : Nat) (s : State) : List Nat :=
  (s.svc.backend.map (·.1)).filter fun b =>
    backendService (backendRec b s) == svc && (backendState b s == 1 || backendState b s == 2)

/-- The quotas: floor of the share, and one more slot each for the lowest-numbered backends (R186). -/
def quotas (bs : List Nat) (s : State) : List (Nat × Nat) :=
  let w (b : Nat) : Nat := fld (backendRec b s) 1 1
  let sum := (bs.map w).sum
  let base := bs.map fun b => (b, 65536 * w b / sum)
  let left := 65536 - (base.map (·.2)).sum
  base.zipIdx.map fun x => (x.1.1, x.1.2 + (if x.2 < left then 1 else 0))

/-- crc32c(slot, b): the slot and the backend, two bytes each (R186, log 41). -/
def slotCrc (slot b : Nat) : Nat := crc32c (leBytes 2 slot ++ leBytes 2 b)

/-- A slot put into a list that rises by its CRC. -/
def insertSlot (b x : Nat) : List Nat → List Nat
  | [] => [x]
  | y :: ys => if slotCrc x b < slotCrc y b then x :: y :: ys else y :: insertSlot b x ys

def sortSlots (b : Nat) (l : List Nat) : List Nat := l.foldl (fun a x => insertSlot b x a) []

/-- The slots that a backend holds in the table as it stands. -/
def heldSlots (svc b : Nat) (s : State) : List Nat :=
  (List.range 65536).filter fun i =>
    let v := fld (hbmPeek (lbSlotAddr svc i) 4 s) 0 4
    bit v 16 && v % 65536 == b

/-- The new table: each backend keeps its slots up to its quota, giving up those of the largest CRC; freed slots go to the
backends below quota, lowest index first, in ascending order of CRC (R186). -/
def buildTable (svc : Nat) (s : State) : List (Nat × Nat) :=
  let qs := quotas (buildSet svc s) s
  let kept := qs.map fun q => (q.1, q.2, (sortSlots q.1 (heldSlots svc q.1 s)).take q.2)
  let own := (kept.map (·.2.2)).flatten
  let free := (List.range 65536).filter fun i => !own.contains i
  (kept.foldl (fun (a : List (Nat × Nat) × List Nat) k =>
    let got := (sortSlots k.1 a.2).take (k.2.1 - k.2.2.length)
    (a.1 ++ (k.2.2 ++ got).map (fun i => (i, k.1)), a.2.filter fun i => !got.contains i)) ([], free)).1

/-- The 64 KiB × 4 of a service's table. -/
def tableBytes (t : List (Nat × Nat)) : Bytes :=
  ((List.range 65536).map fun i =>
    match t.find? fun x => x.1 == i with
    | some x => leBytes 4 (65536 + x.2)
    | none => zeros 4).flatten

/-- LB_BUILD (0x0425): firmware reads the table and writes it, each line whole (R165, R186). -/
def execLbBuild (r : YcpReq) (s : State) : Host.Outcome State Fault Refusal :=
  ycp 0x0425 r (formO 4 [] fun b s =>
    let svc := fld b 0 4
    need (decide (svc < 4096)) stRANGE s <|
    yOk [] (hbmWrite 4 (lbSlotAddr svc 0) (tableBytes (buildTable svc s)) (spanReq 4 false (lbSlotAddr svc 0) 262144 s))) s

/-! XLAT_QUERY (R413). -/

/-- A map entry as the map cache shows it: PENDING entries exist on die only (R166, R173). -/
def mapSeen (m : Nat) (s : State) : Bytes :=
  match tget? s.svc.pend m with
  | some x => mapMake 3 x.noidx x.sub x.proto x.port x.addr 0 0 0
  | none => cachePeek (mapAddr m) 64 s

/-- A read of a line that no service cache holds (R165). -/
def askLine4 (a n : Nat) (s : State) : State := if (tget? s.svc.cache a).isSome then s else spanReq 4 false a n s

/-- XLAT_QUERY (0x0428): KEY is A × 65,536 + port, or the subscriber; by subscriber, the directory entry (log 40). -/
def execXlatQuery (r : YcpReq) (s : State) : Host.Outcome State Fault Refusal :=
  ycp 0x0428 r (formE 8 [] [(4, opIn 0 1)] fun b s =>
    let k := fld b 4 4
    if fld b 0 4 = 0 then
      need (decide (k < 134217728)) stRANGE s <|
      yRead (mapSeen k s) (if (tget? s.svc.pend k).isSome then s else askLine4 (mapAddr k) 64 s)
    else need (decide (k < 8388608)) stRANGE s (yRead (dirEnt k s) (askLine4 (dirAddr k) 32 s))) s

/-! The map sweep (R176). -/

/-- The pool of a block's owner. -/
def blockPool (g : Nat) (s : State) : Nat := dirPool (dirEnt ((blockOwner g s).getD 0) s)

/-- The set bits of a block. -/
def setBits (d : Bytes) (g : Nat) (s : State) : List Nat := (List.range (blkSize d)).filter fun i => bitSet g i s

/-- One port of a block: the bit of an expired HOLD entry is to be cleared; an entry in the map cache is skipped (R176). -/
def sweepPort (d : Bytes) (g : Nat) (x : List Nat × State) (i : Nat) : List Nat × State :=
  let s := x.2
  let m := mapNo (blkAddr g) (blkPort d g + i)
  if mapCached m s ∨ (tget? s.svc.pend m).isSome ∨ tget 0 s.svc.mapLost m ≠ 0 then x
  else
    match sweepMap m s with
    | (some e, s) => (if mapExpired (xpHold d) e s then x.1 ++ [i] else x.1, s)
    | (none, s) => (x.1, s)

/-- Bits of a block cleared in one write of its line. -/
def clearBits (g : Nat) (l : List Nat) (s : State) : State :=
  if l.isEmpty then s
  else svcStore (bitmapAddr g)
    (l.foldl (fun b i => putF b (i / 8) 1 (putBits (fld b (i / 8) 1) (i % 8) 1 0)) (bitmapOf g s)) s

/-- A block returned to its ring: block table, directory, BLOCK_FREE record (R176); the block of a DET pool has neither ring nor
record (R183). -/
def returnBlock (g : Nat) (s : State) : State :=
  match blockOwner g s with
  | none => s
  | some sub =>
    let p := blockPool g s
    let d := xpoolDesc p s
    let e := dirEnt sub s
    let s := lineLeaves (bitmapAddr g) (svcStore (dirAddr sub) (dirWith e ((dirBlocks e).filter (· != g))) s)
    let s := hbmWrite 4 (blockEntAddr g) (zeros 8) s
    if xpDet d then s
    else exportBlock (xpLogRing d) false sub g (blkPort d g) p (pushBlock p g (bump .XLAT_BLOCK_FREE p s))

/-- One block visited by the map sweep (R176); an uncorrectable line of its own loses its subscriber's blocks (R197). -/
def sweepBlock (g : Nat) (s : State) : State :=
  let d := xpoolDesc (blockPool g s) s
  let sub := (blockOwner g s).getD 0
  let s := askLine4 (bitmapAddr g) 64 s
  if spanUe (blockEntAddr g) 8 s || subBad sub [g] s then loseSub sub s else
  let (l, s) := (setBits d g s).foldl (sweepPort d g) ([], s)
  let s := clearBits g l s
  let now := setBits d g s
  if now.isEmpty && dirBlk (dirEnt sub s) 0 != g && (dirBlocks (dirEnt sub s)).contains g then returnBlock g s else s

/-- MAP_SWEEP_VISIT: the next allocated block, in ascending order, wrapping (R176). -/
def execMapSweepVisit (s : State) : Host.Outcome State Fault Refusal :=
  .next <|
    let bs := allocatedBlocks s
    match (bs.find? fun g => decide (s.svc.sweepAt ≤ g)).orElse fun _ => bs.head? with
    | none => s
    | some g => setSvc { (sweepBlock g s).svc with sweepAt := (g + 1) % 2097152 } (sweepBlock g s)

/-! The pool audit (R197). -/

/-- The property list that POOL_AUDIT answers (names: log 42). -/
def auditProps (s : State) : Bytes :=
  let a := s.svc.audit.getD {}
  propList [pNum "RUNNING" 8 (b2n s.svc.audit.isSome), pNum "AUDIT_RATE" 4 s.svc.auditRate, pNum "HOT_POS" 8 a.hotAt,
            pNum "BUCKET_POS" 8 a.slotAt, pCtr .AUDIT_FIX s]

/-- POOL_AUDIT (0x0427). A start while an audit runs returns BUSY (log 42). -/
def poolAuditH : YHandler := formE 8 [] [(4, opIn 1 3)] fun b s =>
  let op := fld b 0 4
  need (op != 2 || decide (4 ≤ fld b 4 4 ∧ fld b 4 4 ≤ 256)) stRANGE s <|
  if op = 1 then
    need s.svc.audit.isNone stBUSY s <|
    let s := { setSvc { s.svc with audit := some {} } s with pwr := { s.pwr with auditDue := false } }
    yOk (auditProps s) s
  else if op = 2 then
    let s := setSvc { s.svc with auditRate := fld b 4 4 } s
    yOk (auditProps s) s
  else yRead (auditProps s) s

def execPoolAudit (r : YcpReq) (s : State) : Host.Outcome State Fault Refusal := ycp 0x0427 r poolAuditH s
def execPoolAuditRate (r : YcpReq) (s : State) : Host.Outcome State Fault Refusal := ycp 0x0427 r poolAuditH s
def execPoolAuditStatus (r : YcpReq) (s : State) : Host.Outcome State Fault Refusal := ycp 0x0427 r poolAuditH s

/-- A hot place added to the shadows: a flow, not an alias. One that is provisional follows when it is confirmed (R199). -/
def auditPlace (x : Audit × State) (k : Nat) : Audit × State :=
  match hotGet k x.2 with
  | some e => if imgAlias e.img || imgProv e.img then x else auditFlow (ckOf (imgKey e.img) x.2) (imgAd e.img) x
  | none => x

/-- The flow of an image is hot. -/
def hotPlaceOf (key : Bytes) (s : State) : Option Nat := hotPlace key (ckOf key s) s

/-- The records of a bucket added to the shadows, a hot flow's by its entry; a standard record's line 1 is read (R197). A flow that
has been counted is not counted again. -/
def auditBucket (bkt : Nat) (s : State) (a : Audit) : Audit × State :=
  let (l, s) := readLine 9 s.flow.idx1 bkt s
  (List.range 10).foldl (fun (x : Audit × State) j =>
    let v := slotAt l j
    if !slotOcc v then x
    else
      match readRecord 9 (slotPtr v) (slotPair v) x.2 with
      | (some img, s) =>
        if !bit (imgCtrl img) 0 then (x.1, s)
        else
          let hot := (hotPlaceOf (imgKey img) s).bind fun k => (hotGet k s).filter fun e => !imgProv e.img
          auditFlow (ckOf (imgKey img) s) (imgAd ((hot.map (·.img)).getD img)) (x.1, s)
      | (none, s) => (x.1, s)) (a, s)

/-- POOL_AUDIT_WALK: `n` hot places, then `n` buckets. An audit that firmware owes starts here (R197, R445). -/
def execPoolAuditWalk (n : Nat) (s : State) : Host.Outcome State Fault Refusal :=
  .next <|
    let s := if s.svc.audit.isNone && s.pwr.auditDue then
        { setSvc { s.svc with audit := some {} } s with pwr := { s.pwr with auditDue := false } }
      else s
    match s.svc.audit with
    | none => s
    | some a =>
      if a.hotAt < 4067328 then
        let ks := ((List.range n).map (a.hotAt + ·)).filter (· < 4067328)
        let (a', s) := ks.foldl auditPlace (a, s)
        setSvc { s.svc with audit := some { a' with hotAt := a.hotAt + ks.length } } s
      else
        let bs := ((List.range n).map (a.slotAt + ·)).filter (· < 2 ^ s.flow.bucketBits)
        let bs := bs.takeWhile fun k => !workHolds (bucketKey s.flow.idx1 k) s
        let (a', s) := bs.foldl (fun (x : Audit × State) k => let y := auditBucket k x.2 x.1; (y.1, leaveBuckets y.2)) (a, s)
        setSvc { s.svc with audit := some { a' with slotAt := a.slotAt + bs.length } } s

/-- A map entry at the end of the audit: FLOWS from the shadow; left at 0 it becomes HOLD, or FREE in a non-EIM pool; an
uncorrectable one is rewritten FREE. The number of entries whose FLOWS or STATE has changed (R197). -/
def auditMap (a : Audit) (x : Nat × State) (m : Nat) : Nat × State :=
  let s := if (tget? x.2.svc.cache (mapAddr m)).isSome then x.2 else spanReq 9 false (mapAddr m) 64 x.2
  if cacheUe (mapAddr m) 64 s then (x.1 + 1, writeMapBy 9 m (zeros 64) s)
  else
    let e := cachePeek (mapAddr m) 64 s
    let n := tget 0 a.flows m
    let d := xpoolDesc (addrPool (addrEnt (m / 65536) s)) s
    if mapState e = 0 then (x.1, s)
    else
      let st := if n ≠ 0 then 1 else if xpEim d then 2 else 0
      let e' := putF (putF e 0 1 (putBits (fld e 0 1) 0 2 st)) 12 4 n
      let s := if setShadow n e' = e then s else writeMapBy 9 m (setShadow n e') s
      (x.1 + b2n (e' != e), s)

/-- An entry claims the port `i` of a block. -/
def portClaimed (d : Bytes) (g i : Nat) (s : State) : Bool :=
  let m := mapNo (blkAddr g) (blkPort d g + i)
  (tget? s.svc.pend m).isSome || mapState (cachePeek (mapAddr m) 64 s) != 0

/-- Bits that no entry claims are cleared; an uncorrectable bitmap line is written anew from the entries (R197). -/
def auditBits (x : Nat × State) (g : Nat) : Nat × State :=
  let d := xpoolDesc (blockPool g x.2) x.2
  let s := if (tget? x.2.svc.cache (bitmapAddr g)).isSome then x.2 else spanReq 9 false (bitmapAddr g) 64 x.2
  let on (b : Bytes) (i : Nat) : Bytes := putF b (i / 8) 1 (putBits (fld b (i / 8) 1) (i % 8) 1 1)
  if cacheUe (bitmapAddr g) 64 s then
    (x.1 + 1, svcStore (bitmapAddr g) (((List.range (blkSize d)).filter fun i => portClaimed d g i s).foldl on (zeros 64)) s)
  else
    (setBits d g s).foldl (fun (y : Nat × State) i =>
      if portClaimed d g i y.2 then y else (y.1 + 1, putBitmap g i false y.2)) (x.1, s)

/-- Units with an uncorrectable error between two addresses. -/
def badUnits (lo hi : Nat) (s : State) : List Nat :=
  (s.hbm.bad.filter fun p => decide (2 ≤ symCount p.2) && decide (lo ≤ 32 * p.1 ∧ 32 * p.1 < hi)).map (·.1)

/-- An uncorrectable unit of the block table written anew: its owners are those that the directory names; the allocation times are
free values (R197; log 42). -/
def auditTable (x : Nat × State) (u : Nat) : Nat × State :=
  let g0 := (32 * u - blockEntAddr 0) / 8
  let ent (g : Nat) : Bytes := match blockOwner g x.2 with
    | some sub => if (dirBlocks (dirEnt sub x.2)).contains g then leBytes 4 (sub + 8388608) ++ leBytes 4 (freeVal x.2) else zeros 8
    | none => zeros 8
  (x.1 + 1, tookFree (hbmWrite 9 (32 * u) (((List.range 4).map fun k => ent (g0 + k)).flatten) x.2))

/-- An uncorrectable directory entry written anew from the block table: its blocks, and the pool of their address (R197; log 42). -/
def auditDir (x : Nat × State) (u : Nat) : Nat × State :=
  let sub := (32 * u - dirAddr 0) / 32
  if (tget? x.2.svc.cache (dirAddr sub)).isSome then x
  else
    let gs := ((allocatedBlocks x.2).filter fun g => blockOwner g x.2 == some sub).take 4
    let ctrl := match gs with
      | g :: _ => 1 + 2 * addrPool (addrEnt (blkAddr g) x.2)
      | [] => 0
    (x.1 + 1, hbmWrite 9 (32 * u) (dirWith (fit 32 (leBytes 1 ctrl)) gs) x.2)

/-- A block that its owner's directory entry does not name is returned (R197). -/
def auditBlock (x : Nat × State) (g : Nat) : Nat × State :=
  match blockOwner g x.2 with
  | some sub => if (dirBlocks (dirEnt sub x.2)).contains g then x else (x.1 + 1, returnBlock g x.2)
  | none => x

def auditBackend (a : Audit) (x : Nat × State) (b : Nat) : Nat × State :=
  let r := backendRec b x.2
  let n := tget 0 a.active b
  if backendActive r = n then x else (x.1 + 1, setBackend b (putF r 8 4 n) x.2)

/-- POOL_AUDIT_END: the shadows replace FLOWS and ACTIVE, once the walk has covered both tiers (R197). -/
def execPoolAuditEnd (s : State) : Host.Outcome State Fault Refusal :=
  .next (match s.svc.audit with
    | none => s
    | some a =>
      if a.hotAt < 4067328 ∨ a.slotAt < 2 ^ s.flow.bucketBits then s
      else
        let ms := (listedEntries (mapAddr 0) 64 134217728 s ++ s.svc.mapLru ++ s.svc.mapLost.map (·.1)).eraseDups
        let x := ms.foldl (auditMap a) (0, s)
        let x := (badUnits (blockEntAddr 0) (blockEntAddr 2097152) x.2).foldl auditTable x
        let x := (badUnits (dirAddr 0) (dirAddr 8388608) x.2).foldl auditDir x
        let x := (allocatedBlocks x.2).foldl auditBits x
        let x := (allocatedBlocks x.2).foldl auditBlock x
        let (n, s) := (s.svc.backend.map (·.1)).foldl (auditBackend a) x
        let s := setSvc { s.svc with audit := none, mapLost := [], subLost := [] } s
        if n = 0 then s else raise 52 0 0 (addCtr .AUDIT_FIX 0 n s))

end Sys2Proof.Machine
end

