-- ==== Sys2Proof/Machine/Templates.lean ====
section
/-!
DEFINITION. The shipped templates (R157), and the check of a template that is written (R138). R157 gives the nodes of each
shipped template and not their operands; the operands are the model's (log 38).
-/
namespace Sys2Proof.Machine

/-- A node descriptor (R137). -/
structure NodeDef where
  op : Nat
  flags : Nat := 0
  pred : Nat := 0
  dst : Nat := 15
  a : Nat := 0
  b : Nat := 15
  wait : Nat := 0
  sub : Nat := 0
  imm : Nat := 0

def NodeDef.bytes (n : NodeDef) : Bytes :=
  leBytes 1 n.op ++ leBytes 1 n.flags ++ leBytes 1 (n.pred + 16 * n.dst) ++ leBytes 1 (n.a + 16 * n.b) ++
  leBytes 4 n.wait ++ leBytes 1 n.sub ++ zeros 3 ++ leBytes 4 n.imm

def fSPEC : Nat := 1
def fPRED : Nat := 2
def fNEG : Nat := 4
def fGATE : Nat := 8

/-- A template from its header fields and nodes (R136). -/
def tplMake (kind level regions : Nat) (name : String) (ns : List NodeDef) : Bytes :=
  fit 544 (leBytes 1 ns.length ++ leBytes 1 kind ++ leBytes 1 level ++ zeros 3 ++ leBytes 2 regions ++ fit 8 (ascii name) ++
    zeros 16 ++ (ns.map NodeDef.bytes).flatten)

/-- NEW_PLAIN: V6 takes ACTION_DATA. -/
def tplNewPlain : Bytes := tplMake 1 6 0 "NEWPLAIN"
  [{ op := 0x01, sub := 0x80, dst := 6, a := 3 },
   { op := 0x07, sub := 3, a := 4, b := 6, wait := 1 },
   { op := 0x0E, wait := 2 },
   { op := 0x0F },
   { op := 0x0C, sub := 0x80, b := 0, wait := 8 },
   { op := 0x0D, imm := 0x10, wait := 8 }]

/-- NEW_XLAT: V7 takes the subscriber, V8 the port, V6 ACTION_DATA. -/
def tplNewXlat : Bytes := tplMake 1 6 0 "NEWXLAT"
  [{ op := 0x01, sub := 2, dst := 7, a := 1, imm := 0x7FFFFF },
   { op := 0x14, flags := fSPEC, dst := 8, a := 7, wait := 1 },
   { op := 0x01, sub := 0x81, dst := 6, a := 8, b := 3, wait := 2 },
   { op := 0x07, sub := 3, a := 4, b := 6, wait := 4 },
   { op := 0x0E, wait := 8 },
   { op := 0x0F },
   { op := 0x18, flags := fGATE, dst := 9, a := 6, wait := 32 },
   { op := 0x0C, sub := 0x80, b := 0, wait := 64 },
   { op := 0x0D, imm := 0x10, wait := 64 }]

/-- NEW_LB: V7 takes the backend, V6 ACTION_DATA. -/
def tplNewLb : Bytes := tplMake 1 6 0 "NEWLB"
  [{ op := 0x16, flags := fSPEC, dst := 7, a := 2, b := 0 },
   { op := 0x01, sub := 0x82, dst := 6, a := 7, b := 3, wait := 1 },
   { op := 0x07, sub := 3, a := 4, b := 6, wait := 2 },
   { op := 0x0E, wait := 4 },
   { op := 0x0F },
   { op := 0x0C, sub := 0x80, b := 0, wait := 16 },
   { op := 0x0D, imm := 0x10, wait := 16 }]

/-- EVICT, as the worked trace of the chapter gives it. -/
def tplEvict : Bytes := tplMake 2 5 1 "EVICT"
  [{ op := 0x04, dst := 2, imm := 48 },
   { op := 0x01, sub := 2, dst := 3, a := 2, imm := 8, wait := 1 },
   { op := 0x01, sub := 10, dst := 4, a := 0, imm := 0x80000000 },
   { op := 0x02, dst := 3, a := 3, b := 4, wait := 6 },
   { op := 0x0A, flags := fPRED, pred := 3, a := 0, sub := 1, imm := 0x60, wait := 8 },
   { op := 0x11, flags := fPRED + fNEG, pred := 4, imm := 0x30400, wait := 4 }]

/-- AGE_PLAIN. -/
def tplAgePlain : Bytes := tplMake 3 2 0 "AGEPLAIN"
  [{ op := 0x04, dst := 5, imm := 64 },
   { op := 0x0C, sub := 0x81, a := 5, b := 5, wait := 1 },
   { op := 0x0D, imm := 0x30, wait := 2 }]

/-- AGE_XLAT: V6 takes ACTION_DATA. -/
def tplAgeXlat : Bytes := tplMake 3 2 0 "AGEXLAT"
  [{ op := 0x04, dst := 5, imm := 64 },
   { op := 0x04, dst := 6, imm := 88 },
   { op := 0x19, a := 6, wait := 2 },
   { op := 0x15, sub := 0x80, a := 6, b := 6, wait := 4 },
   { op := 0x0C, sub := 0x81, a := 5, b := 5, wait := 1 },
   { op := 0x0D, imm := 0x30, wait := 16 }]

/-- AGE_LB: V6 takes ACTION_DATA. -/
def tplAgeLb : Bytes := tplMake 3 2 0 "AGELB"
  [{ op := 0x04, dst := 6, imm := 88 },
   { op := 0x17, sub := 0x80, a := 6, b := 6, wait := 1 },
   { op := 0x0C, sub := 0x81, a := 6, b := 6, wait := 1 },
   { op := 0x0D, imm := 0x30, wait := 4 }]

/-- TCP_TRACK: V6 takes old and new state, V7 whether the new state is RESET. -/
def tplTcpTrack : Bytes := tplMake 4 4 0 "TCPTRACK"
  [{ op := 0x08, dst := 6, a := 4, b := 5 },
   { op := 0x01, sub := 0x83, dst := 7, a := 6, wait := 1 },
   { op := 0x0D, flags := fPRED, pred := 7, imm := 0x50, wait := 2 }]

/-- The shipped set (R157). -/
def shippedTemplates : Tbl Bytes :=
  [(1, tplNewPlain), (2, tplNewXlat), (3, tplNewLb), (8, tplEvict), (9, tplAgePlain), (10, tplAgeXlat), (11, tplAgeLb),
   (12, tplTcpTrack)]

/-- The set loaded into both banks at start-up (R138). -/
def loadTemplates (s : State) : State :=
  let f (k : Bank) : Bank := { k with templates := shippedTemplates.foldl (fun t x => tput t x.1 x.2) k.templates }
  { s with ep := { s.ep with bank0 := f s.ep.bank0, bank1 := f s.ep.bank1 } }

/-! The check of a template (R138). -/

/-- The highest SUB of each operation that has sub-operations (R141). -/
def subTop (op : Nat) : Option Nat :=
  match op with
  | 0x01 => some 11
  | 0x07 => some 3
  | 0x09 => some 3
  | 0x0A => some 3
  | 0x0E => some 1
  | 0x0F => some 1
  | 0x12 => some 2
  | _ => none

/-- The node addresses a region (R142). -/
def hbmOp (op : Nat) : Bool := op == 0x09 || op == 0x0A || op == 0x0B

/-- The IMAGE range of a node stays within byte 127 (R138). -/
def imageFits (n : Bytes) : Bool :=
  let imm := nodeImm n
  let sub := nodeSub n
  match nodeOp n with
  | 0x09 => decide (64 * (bits sub 1 1 + bits sub 0 1 + 1) ≤ 128)
  | 0x0A => decide (64 * (bits sub 1 1 + bits sub 0 1 + 1) ≤ 128)
  | 0x03 => decide (bits imm 0 8 + bits imm 8 8 ≤ 128)
  | 0x04 => decide (bits imm 0 7 ≤ 120)
  | 0x05 => decide (bits imm 0 7 ≤ 120)
  | 0x13 => decide (4 * bits imm 8 7 + 20 ≤ 128)
  | _ => true

/-- SUB holds a value that R141 defines for the operation; bits it does not define are 0 (R11). -/
def subDefined (n : Bytes) : Bool :=
  match nodeOp n with
  | 0x0B => bits (nodeSub n) 2 3 == 0
  | 0x0D => decide (bits (nodeImm n) 5 2 < 3)
  | op => match subTop op with
    | some t => decide (nodeSub n ≤ t)
    | none => true

/-- Node j of a template is sound (R137, R138). -/
def nodeOk (r : Bytes) (kind j : Nat) : Bool :=
  let n := tplNode r j
  let slotOk (v : Nat) : Bool := decide (v < 12)
  decide (nodeOp n ≤ 0x1A) && fld n 1 1 / 16 == 0 && fld n 9 3 == 0 && decide (nodeWait n < 2 ^ j) &&
    slotOk (nodePred n) && (slotOk (nodeDst n) || nodeDst n == 15) && slotOk (nodeSrcA n) &&
    (slotOk (nodeSrcB n) || nodeSrcB n == 15) &&
    (!hbmOp (nodeOp n) || bit (tplRegions r) (bits (nodeImm n) 0 4)) && imageFits n && subDefined n &&
    (kind == 1 || !(nodeSpec n || nodeGate n || isConfirmWait n))

def countNodes (r : Bytes) (f : Bytes → Bool) : Nat := ((tplNodes r).filter fun j => f (tplNode r j)).length

def isDone (n : Bytes) : Bool := nodeOp n == 0x0E && nodeSub n == 0

/-- The parts of a KIND 1 template (R138, R144). -/
def admissionOk (r : Bytes) : Bool :=
  let ms := depMasks r
  let w := nodeMask r isConfirmWait
  countNodes r isDone == 1 && decide (countNodes r isConfirmWait ≤ 1 ∧ countNodes r nodeSpec ≤ 2) &&
    (tplNodes r).all fun j => !(isDone (tplNode r j) || nodeSpec (tplNode r j)) || (ms.getD j 0 &&& w) == 0

/-- What a template that is written must fulfil (R136, R138). -/
def tplOk (i : Nat) (r : Bytes) : Bool :=
  let kind := tplKind r
  fld r 1 1 / 8 == 0 && fld r 2 1 / 8 == 0 && fld r 3 1 == 0 && fld r 6 2 / 8192 == 0 && (slice r 16 16).all (· == 0) &&
    (decide (1 ≤ tplCount r) || i == 0) && decide (tplCount r ≤ 32 ∧ kind ≤ 4) && tplPrio r != 7 &&
    ([1, 2, 3, 4, 9, 11].all fun k => !bit (tplRegions r) k) &&
    (tplTimeout r == 0 || decide ((if kind = 1 then 20 else 10) ≤ tplTimeout r)) &&
    (tplNodes r).all (nodeOk r kind) && (kind != 1 || admissionOk r)

end Sys2Proof.Machine
end

