-- ==== Sys2Proof/Machine/Engine.lean ====
section
/-!
DEFINITION. The action engines and the task scheduler (R133–R160): what a node does, dispatch, completion, failure.
-/
namespace Sys2Proof.Machine

/-! Undo entries (R124, R125). -/

def getLog (l : Nat) (s : State) : Option UndoLog := tget? s.flow.log l

def setLog (l : Nat) (u : UndoLog) (s : State) : State := setFlow { s.flow with log := tput s.flow.log l u } s

/-- The place of an entry of the same KIND and OBJECT; PORT_RETURN entries name ports and never merge. -/
def sameEnt (u : UndoLog) (kind obj : Nat) : Option Nat :=
  if kind = 2 then none else u.ents.findIdx? fun e => e.kind == kind && e.obj == obj

/-- An entry claimed or increased; none when the packet entries are used up. With it, its SEQ (R125). -/
def claimEnt (e : UndoEnt) (u : UndoLog) : Option (Nat × UndoLog) :=
  match sameEnt u e.kind e.obj with
  | some i => some (i, { u with ents := u.ents.modify i fun x => { x with amt := x.amt + e.amt } })
  | none =>
    if e.byPkt && decide (6 ≤ (u.ents.filter (·.byPkt)).length) then none
    else some (u.ents.length, { u with ents := u.ents ++ [e] })

/-- A claim of a SPEC node while the log is attached (R145). -/
def specClaim (x : Ctx) (n : Bytes) (kind obj amt : Nat) (filled : Bool) (s : State) : Option Nat × State :=
  match (if nodeSpec n then x.log else none) with
  | none => (none, s)
  | some l =>
    match getLog l s with
    | none => (none, s)
    | some u =>
      match claimEnt { kind := kind, obj := obj, amt := amt, filled := filled, byPkt := false } u with
      | some (q, u) => (some q, setLog l u s)
      | none => (none, s)

/-- The claimed entry filled as the operation returns; a return with no port leaves KIND 0 (R145, R175). -/
def fillEnt (l q amt : Nat) (s : State) : State :=
  match getLog l s with
  | none => s
  | some u =>
    let f (e : UndoEnt) : UndoEnt := { e with filled := true, amt := amt, kind := if amt = 0 then 0 else e.kind }
    setLog l { u with ents := u.ents.modify q f } s

/-! The hot entry of an instance. -/

/-- The entry at a location, if it still holds the flow of the instance (R141). -/
def heldEntry (x : Ctx) (k : Nat) (s : State) : Option HotEntry :=
  (hotGet k s).filter fun e => !imgAlias e.img && imgKey e.img == ctxKey x

/-- The entry's image changed; the entry becomes DIRTY (R78). -/
def editHot (k : Nat) (e : HotEntry) (f : Bytes → Bytes) (s : State) : State :=
  hotPut k { e with img := ctrlBit 3 true (f e.img) } s

/-! TCP_STATE (R156). -/

/-- The next TCP_STATE: the first row of the table that matches. -/
def tcpNext (st flags : Nat) (rev finOpp : Bool) : Nat :=
  let fin := bit flags 0
  let syn := bit flags 1
  let ack := bit flags 4
  if bit flags 2 then 7
  else if (st = 0 ∨ st = 6 ∨ st = 7) ∧ syn ∧ !ack ∧ !rev then 1
  else match st with
    | 0 => 3
    | 1 => if syn && ack && rev then 2 else if ack && !syn && !rev then 3 else 1
    | 2 => if ack && !syn && !rev then 3 else 2
    | 3 => if fin then 4 else 3
    | 4 => if fin && finOpp then 5 else 4
    | 5 => if ack && !fin then 6 else 5
    | n => n

/-- A FIN has been seen in the direction opposite to a packet's (R156). -/
def finOpposite (img : Bytes) (rev : Bool) : Bool :=
  if isStd img then bit (fld img (if rev then 76 else 77) 1) 0 else bit (fld img 47 1) (if rev then 4 else 5)

def tcpStepped (flags : Nat) (rev : Bool) (img : Bytes) : Bytes :=
  setTcp (tcpNext (imgTcp img) flags rev (finOpposite img rev)) img

/-! What nodes address (R142). -/

/-- SUB stands for what the shipped templates need beyond R141 (log 38); no template that a host writes has it. -/
def ownSub (x : Ctx) (n : Bytes) (v : Nat) : Bool := decide (x.tpl < 64) && nodeSub n == v

/-- Lines of a node; the write-back of a compact image by the shipped template is one (R87, R157). -/
def nodeLines (n : Bytes) (x : Ctx) : Nat :=
  if nodeOp n = 0x0B then 1
  else if nodeOp n = 0x0A ∧ x.tpl < 64 ∧ x.kind = 2 ∧ x.compact then 1 else bits (nodeSub n) 0 1 + 1

/-- The address is a line's, and every line lies in an allowed region (R142). -/
def nodeAddrOk (r n : Bytes) (x : Ctx) : Bool :=
  let a := nodeAddr n x
  a % 64 == 0 && (List.range (nodeLines n x)).all fun i =>
    match regionOf (a + 64 * i) with
    | some g => bit (tplRegions r) g.no
    | none => false

/-! Ends (R126, R153, R155). -/

/-- The end of a host run: GRAPH_END, and the response of a GRAPH_RUN that waits (R155, R413). -/
def endRun (id status : Nat) (out : Bytes) (s : State) : State :=
  match tget? s.task.run id with
  | none => s
  | some h =>
    let s := setTask { s.task with run := tdel s.task.run id } s
    let s := postEvent 14 (leBytes 4 id ++ leBytes 2 status) s
    match h.mbx with
    | none => s
    | some m =>
      finishRunning m (fun s =>
        if status = stOK then { yRead (leBytes 4 id ++ zeros 4 ++ out) s with cfg := true } else yFail status s) s

/-- The record slot of an ageing instance pushed (R97, R155). -/
def pushRecord (x : Ctx) (s : State) : State :=
  match x.pushSlot with
  | some (n, pair) => freeSlot n pair s
  | none => s

/-- An instance that fails or times out (R142, R153, R155, R159): an admission whose log is attached is abandoned, an ageing
instance pushes its slot, a host run reports its end. -/
def failInst (c status : Nat) (s : State) : State :=
  match getCtx c s with
  | none => s
  | some x =>
    match (if x.kind = 1 then x.log else none) with
    | some l => beginUndo l .abandon s
    | none => endRun x.runId status [] (pushRecord x (cancelInst c s))

/-- A node address outside its template's regions (R142). -/
def nodeFault (c j : Nat) (x : Ctx) (s : State) : State :=
  failInst c stFAULTED (raise 38 (x.tpl * 32 + j) 0 (bump .NODE_FAULT 0 s))

/-! Completion of nodes (R139). -/

/-- Node j of an instance has completed or been skipped. -/
def nodeDone (c j : Nat) (f : Ctx → Ctx) (s : State) : State :=
  match getCtx c s with
  | none => s
  | some x => readyNodes c (setCtx c { f x with doneM := x.doneM ||| 2 ^ j } s)

/-- An operation of node j is outstanding. -/
def nodePend (c j : Nat) (r : NodeRet) (s : State) : State :=
  match getCtx c s with
  | none => s
  | some x => setCtx c { x with outst := x.outst ++ [j], ret := tput x.ret j r } s

/-! What nodes do (R141). -/

def allOnes32 : Nat := 0xFFFFFFFF

/-- The flow profile of an instance. -/
def ctxProfile (x : Ctx) (s : State) : Bytes := fpRec x.bank x.profile s

/-- The compact key in IMAGE (R76, R174). -/
def ctxCk (x : Ctx) (s : State) : Bytes := if x.compact then slice x.img 0 24 else compactKey s.flow.fpSeed (slice x.img 0 48)

/-- Map entry that an inbound packet's admission found (R180). -/
def ctxInbound (x : Ctx) (s : State) : Option Nat := (x.log.bind fun l => getLog l s).bind (·.inbound)

/-- The admission's packet is an ICMP echo (R169). -/
def ctxEcho (x : Ctx) (s : State) : Bool := ((x.log.bind fun l => getLog l s).map (·.echo)).getD false

/-- ACTION_DATA of the shipped NEW_XLAT from a PORT_RESERVE result (R168, R180, R184; log 38). -/
def xlatAd (x : Ctx) (res act : Nat) (s : State) : Nat :=
  let tc := actTC act
  if res % 2 ^ 32 = allOnes32 then adBlocked tc (if translatable (ctxEcho x s) (ctxProfile x s) (ctxCk x s) then 1 else 3)
  else
    let i := res / 65536 % 65536
    match ctxInbound x s with
    | some m => adXlat tc (m / 65536) (res % 65536) (bit res 33) true
    | none =>
      let p := ((binding (x.slot 1 % 8388608) s).map (·.1)).getD 0
      adXlat tc (xpBase (xpoolDesc p s) + i) (res % 65536) (bit res 33) false

/-- The result of an ALU node; SUB from 0x80 stands for what the shipped templates compute (log 38). -/
def aluResult (x : Ctx) (n : Bytes) (s : State) : Nat :=
  let a := x.slot (nodeSrcA n)
  let b := x.opB n
  match nodeSub n with
  | 0 => (a + b) % 2 ^ 64
  | 1 => (a + 2 ^ 64 - b) % 2 ^ 64
  | 2 => a &&& b
  | 3 => a ||| b
  | 4 => a ^^^ b
  | 5 => if 64 ≤ b then 0 else (a <<< b) % 2 ^ 64
  | 6 => if 64 ≤ b then 0 else a >>> b
  | 7 => min a b
  | 8 => max a b
  | 9 => b2n (a == b)
  | 10 => b2n (decide (a < b))
  | 11 => b
  | 0x80 => 4 * actTC a
  | 0x81 => xlatAd x a b s
  | 0x82 => if a = allOnes32 then adBlocked (actTC b) 2 else adLb (actTC b) a (x.slot 2 % 4096)
  | 0x83 => b2n (a / 256 == 7)
  | _ => b

/-- Offset of a field of the standard record in the image that the context holds (log 38). -/
def imgOffset (x : Ctx) (o : Nat) : Nat :=
  if x.compact && decide (x.tpl < 64) then (if o = 48 then 24 else if o = 64 then 36 else if o = 88 then 56 else o) else o

/-- HOT_UPDATE (R141): DST, and the state. -/
def hotUpdate (x : Ctx) (n : Bytes) (s : State) : Nat × State :=
  let k := locPlace (x.slot (nodeSrcA n))
  let v := x.opB n
  let s := hotCheck k s
  match heldEntry x k s with
  | none => (0, bump .HOT_GONE 0 s)
  | some e =>
    let f (img : Bytes) : Bytes :=
      match nodeSub n with
      | 0 => setAd v img
      | 1 => setMeter v img
      | 2 => ctrlBit 5 true img
      | _ =>
        let img := setMeter 0 (setAd v img)
        match x.first.1 with
        | some fl => tcpStepped fl x.first.2 (setTcp 0 img)
        | none => setTcp 0 img
    (1, editHot k e f s)

/-- TCP_STEP (R156). -/
def tcpStep (x : Ctx) (n : Bytes) (s : State) : Nat × State :=
  let k := locPlace (x.slot (nodeSrcA n))
  let info := x.opB n
  let s := hotCheck k s
  match heldEntry x k s with
  | none => (0, bump .HOT_GONE 0 s)
  | some e =>
    let img := tcpStepped (bits info 10 8) (bit info 18) e.img
    (imgTcp e.img + 256 * imgTcp img, editHot k e (fun _ => img) s)

/-- COUNT_ADD: counter, packets, bytes (R193; SUB from 0x80, log 38). -/
def countAdds (x : Ctx) (n : Bytes) : List (Nat × Nat × Nat) :=
  let v := x.opB n
  if ownSub x n 0x80 then [(4 * x.profile, 1, 0)]
  else if ownSub x n 0x81 then
    let img := fit (if x.compact then 64 else 128) x.img
    [(4 * x.profile + 1, pkts64 img x.wraps, bytes64 img x.wraps), (4 * x.profile + 2, 1, 0)]
  else [(x.slot (nodeSrcA n) % 1048576, v % 2 ^ 24, bits v 24 40)]

def countAdd (x : Ctx) (n : Bytes) (s : State) : State :=
  forEach (countAdds x n) (fun a s =>
    let s := (specClaim x n 4 a.1 (a.2.1 % 2 ^ 24 + a.2.2 % 2 ^ 40 * 2 ^ 24) true s).2
    accAdd a.1 a.2.1 a.2.2 s) s

/-- What an EXPORT is built from: IMAGE of the context, in the format of its flow (R141, R195, R196; log 39). -/
def exportImg (x : Ctx) : Bytes × (Nat × Nat) := (fit (if x.compact then 64 else 128) x.img, x.wraps)

/-- EXPORT (R195, R196); IMM[6:5] 3 selects no record, and none is written (DESIGN CHOICE, log 26). -/
def exportNode (x : Ctx) (n : Bytes) (s : State) : State :=
  let imm := nodeImm n
  let k := if bit imm 4 then spRing (svcProf x.profile s) else bits imm 0 4
  let (img, w) := exportImg x
  let key := slice img 0 48
  let ck := if isStd img then compactKey s.flow.fpSeed key else slice img 0 24
  if bits imm 5 2 = 3 then s else exportFlow k (bits imm 5 2) (x.slot 2 % 256) x.profile key ck img w s

/-- SPAWN (R141, R151).  DESIGN CHOICE (log 36): a template whose NODE_COUNT is 0 starts nothing; DST is 0, with no SPAWN_DROP and no
F036. -/
def spawn (x : Ctx) (n : Bytes) (s : State) : Nat × State :=
  let t := bits (nodeImm n) 0 10
  let r := tplRec x.bank t s
  let l := tplPrio r
  if tplCount r = 0 then (0, s)
  else if startRefused l s then (0, raise 36 t 0 (bump .SPAWN_DROP 0 s))
  else
    let a := x.slot (nodeSrcA n)
    let b := x.opB n
    (1, pushTask { ty := .start, level := l, bank := x.bank, tpl := t, stamp := readyStamp s, arg0 := a, arg1 := b } s)

/-- RING (R90, R141). -/
def ringNode (x : Ctx) (n : Bytes) (s : State) : Nat × State :=
  match nodeSub n with
  | 0 => (0, ringPush (x.opB n == 0) (x.slot (nodeSrcA n) % 2 ^ 30) s)
  | 1 => let (v, s) := ringPop false s; (v.getD allOnes32, s)
  | _ => let (v, s) := ringPop true s; (v.getD allOnes32, s)

/-- The DST word of a reservation: index within the pool, port, REUSE, NOIDX (R174). -/
def reserveWord (p a port : Nat) (reuse noidx : Bool) (s : State) : Nat :=
  (a - xpBase (xpoolDesc p s)) * 65536 + port + b2n reuse * 2 ^ 32 + b2n noidx * 2 ^ 33

/-- The reservation of an admission names a MAPPED or HOLD entry (R166, R175). -/
def setReuse (x : Ctx) (m : Nat) (s : State) : State :=
  match x.log with
  | none => s
  | some l =>
    match getLog l s with
    | some u => setLog l { u with reuse := some m } s
    | none => s

/-- PORT_RESERVE (R174, R180): DST, the undo entry's OBJECT and AMOUNT, and the state. -/
def reserveNode (x : Ctx) (n : Bytes) (s : State) : Nat × Nat × Nat × State :=
  let sub := x.slot (nodeSrcA n) % 8388608
  match ctxInbound x s with
  | some m =>
    let a := m / 65536
    let p := addrPool (addrEnt a s)
    let e := cachePeek (mapAddr m) 64 s
    (reserveWord p a (m % 65536) true (mapNoidx e) s, sub, 0, setReuse x m (bump .XLAT_REUSE p s))
  | none =>
    match portReserve (ctxEcho x s) (ctxProfile x s) sub (ctxCk x s) s with
    | (.none _, s) => (allOnes32, sub, 0, s)
    | (.port p a port reuse noidx undo, s) =>
      let i := a - xpBase (xpoolDesc p s)
      let s := if reuse && !undo then setReuse x (mapNo a port) s else s
      (reserveWord p a port reuse noidx s, sub + i * 8388608, if undo then port else 0, s)

/-- The lines whose data a reservation needs: the port-cache fill, and the entries that it may probe (R174, R198). -/
def reserveLines (x : Ctx) (n : Bytes) (s : State) : List Nat :=
  let sub := x.slot (nodeSrcA n) % 8388608
  match binding sub s with
  | none => []
  | some (p, gs) =>
    let d := xpoolDesc p s
    let off := probeHash d (xlatKey (ctxCk x s)) % blkSize d
    portLines sub gs ++ gs.map fun g => mapAddr (mapNo (blkAddr g) (blkPort d g + off)) / 64

/-- The port that a PORT_RELEASE names: address and port (R181; SUB 0x80, log 38). -/
def releasePort (x : Ctx) (n : Bytes) (s : State) : Option (Nat × Nat) :=
  let v := x.slot (nodeSrcA n)
  if ownSub x n 0x80 then (if adSvc v = 1 then some (adA v, adPort v) else none)
  else
    let w := x.opB n
    (binding (v % 8388608) s).map fun b => (xpBase (xpoolDesc b.1 s) + w / 65536 % 65536, w % 65536)

/-- PORT_RELEASE (R181): it ends when the port cache has its lines. -/
def releaseNode (c j : Nat) (x : Ctx) (n : Bytes) (s : State) : State :=
  match releasePort x n s with
  | none => nodePend c j {} s
  | some (a, port) =>
    let sub := blockOwner (blkOfPort (xpoolDesc (addrPool (addrEnt a s)) s) a port) s
    nodePend c j { pin := sub.map fun k => (.port, k),
                   reads := (sub.map fun k => portLines k (dirBlocks (dirEnt k s))).getD [] } (portRelease a port s)

/-- LB_RELEASE (R187; SUB 0x80, log 38). -/
def lbReleaseNode (x : Ctx) (n : Bytes) (s : State) : State :=
  let v := x.slot (nodeSrcA n)
  if ownSub x n 0x80 then (if adSvc v = 2 then lbRelease (adBackend v) 1 (ctxCk x s) s else s)
  else lbRelease (x.opB n % 65536) 1 (ctxCk x s) s

/-- The map entry that ACTION_DATA in V[SRCA] names. -/
def adMap (v : Nat) : Nat := mapNo (adA v) (adPort v)

/-- MAP_INSERT and MAP_REMOVE end when the write of their line has been accepted (R177, R181). -/
def mapNode (c j m : Nat) (val : Option Nat) (s : State) : State :=
  nodePend c j { val := val, pin := some (.map, m), reads := [mapAddr m / 64], writes := [mapAddr m / 64] } s

/-- One line that a node reads: its bytes, and whether it has been asked of HBM.  An uncorrectable line 0 of a context is mended
(R211); another uncorrectable line brings a free value (log 36). -/
def nodeRead (req a : Nat) (s : State) : Bytes × Bool × State :=
  match lineSub a with
  | some sub =>
    let s := subCtxMend sub s
    let out := (tget? s.svc.cache a).isNone
    let s := useCtx req sub s
    (cachePeek a 64 s, out, s)
  | none =>
    let ue := spanUe a 64 s
    let (d, s) := hbmRead req a 64 s
    if ue then (leBytes 64 (freeVal s), true, tookFree s) else (d, true, s)

/-- One line that a node writes, and whether it has been asked of HBM. -/
def nodeWrite (req a : Nat) (d : Bytes) (s : State) : Bool × State :=
  match lineSub a with
  | some sub => (false, startLine .ctx sub a d (use .ctx sub s))
  | none => (true, hbmWrite req a d s)

/-- The lines that a node reads, from an address upwards: their bytes, and those asked of HBM. -/
def nodeReads (req : Nat) : Nat → Nat → State → Bytes × List Nat × State
  | _, 0, s => ([], [], s)
  | a, k + 1, s =>
    let (d, out, s) := nodeRead req a s
    let (ds, ls, s) := nodeReads req (a + 64) k s
    (d ++ ds, if out then a / 64 :: ls else ls, s)

/-- The lines that a node writes, and those asked of HBM. -/
def nodeWrites (req : Nat) : Nat → List Bytes → State → List Nat × State
  | _, [], s => ([], s)
  | a, d :: ds, s =>
    let (out, s) := nodeWrite req a d s
    let (ls, s) := nodeWrites req (a + 64) ds s
    (if out then a / 64 :: ls else ls, s)

/-- What an HBM node keeps pinned: the context whose line 0 it works on (R166). -/
def linePin (a : Nat) : Option (SvcCache × Nat) := (lineSub a).map fun sub => (.ctx, sub)

/-- The 64-bit operation of HBM_ATOMIC (R141). -/
def atomicNew (sub old b : Nat) : Nat :=
  match bits sub 0 2 with
  | 0 => (old + b) % 2 ^ 64
  | 1 => old ||| b
  | 2 => old &&& (2 ^ 64 - 1 - b)
  | _ => if old = b % 2 ^ 32 then b / 2 ^ 32 else old

/-- HBM_ATOMIC: a read and a write of the line (R141, R357). -/
def atomicNode (c j : Nat) (x : Ctx) (n : Bytes) (s : State) : State :=
  let a := nodeAddr n x
  let o := 8 * bits (nodeSub n) 5 3
  let (d, out, s) := nodeRead (nodeReq x a) a s
  let old := fld d o 8
  let d := putF d o 8 (atomicNew (nodeSub n) old (x.opB n))
  match lineSub a with
  | some _ => nodePend c j { val := some old, reads := if out then [a / 64] else [], pin := linePin a } (svcStore a d s)
  | none => nodePend c j { val := some old, reads := [a / 64], writes := [a / 64] } (hbmWrite (nodeReq x a) a d s)

/-- An HBM node at its issue: what its return will bring (R141, R142). -/
def hbmNode (c j : Nat) (x : Ctx) (n : Bytes) (s : State) : State :=
  let a := nodeAddr n x
  let k := nodeLines n x
  let at_ := 64 * bits (nodeSub n) 1 1
  match nodeOp n with
  | 0x09 =>
    let (d, ls, s) := nodeReads (nodeReq x a) a k s
    nodePend c j { data := d, at_ := at_, reads := ls, pin := linePin a } s
  | 0x0A =>
    let back := x.kind == 2 && x.evictSlot.map recAddr == some a
    let d := if back then put x.img 0 (storedImage (fit (if x.compact then 64 else 128) x.img)) else x.img
    let (ls, s) := nodeWrites (nodeReq x a) a ((List.range k).map fun i => slice d (at_ + 64 * i) 64) s
    nodePend c j { writes := ls, pin := linePin a } s
  | _ => atomicNode c j x n s

/-- CAM_SEARCH: the search is in flight until it returns (R222). -/
def camNode (c j : Nat) (x : Ctx) (n : Bytes) (s : State) : State :=
  let imm := nodeImm n
  let p := bits imm 0 4
  let (i, s) := camSearch p (fld x.img (4 * bits imm 8 7) 20) s
  let v := match i with
    | some i => i + camPrio (camEntry i s) * 2 ^ 16 + 2 ^ 24
    | none => 0
  nodePend c j { val := some v } (setLook { s.look with camFlight := s.look.camFlight ++ [p] } s)

/-- SIGNAL (R141, R144). -/
def signalNode (x : Ctx) (n : Bytes) (s : State) : State :=
  if nodeSub n = 0 then
    match x.log with
    | some l =>
      match getLog l s with
      | some u => setLog l { u with specDone := true } s
      | none => s
    | none => s
  else postEvent 13 (leBytes 4 x.runId ++ leBytes 8 (x.slot (nodeSrcA n))) s

/-- The effect of a node that runs on an engine. -/
def nodeEffect (c j : Nat) (x : Ctx) (r n : Bytes) (s : State) : State :=
  let dst (v : Nat) (s : State) : State := nodeDone c j (fun y => y.put (nodeDst n) v) s
  let imm := nodeImm n
  let a := x.slot (nodeSrcA n)
  match nodeOp n with
  | 0x01 => dst (aluResult x n s) s
  | 0x02 => dst (if a = 0 then imm else x.opB n) s
  | 0x03 => dst (crc32cI (a % 2 ^ 32) (slice x.img (bits imm 0 8) (bits imm 8 8))) s
  | 0x04 => dst (fld x.img (imgOffset x (bits imm 0 7)) 8) s
  | 0x05 => nodeDone c j (fun y => { y with img := putF y.img (bits imm 0 7) 8 a }) s
  | 0x06 =>
    let k := locPlace a
    let s := hotCheck k s
    let e := (coverOf k s).bind fun k => hotGet k s
    let d := ((e.map (·.img)).getD (zeros 64))
    nodeDone c j (fun y => { y with img := put y.img 0 d, compact := !isStd d }) s
  | 0x07 => let (v, s) := hotUpdate x n s; dst v s
  | 0x08 => let (v, s) := tcpStep x n s; dst v s
  | 0x09 => if nodeAddrOk r n x then hbmNode c j x n s else nodeFault c j x s
  | 0x0A => if nodeAddrOk r n x then hbmNode c j x n s else nodeFault c j x s
  | 0x0B => if nodeAddrOk r n x then hbmNode c j x n s else nodeFault c j x s
  | 0x0C => nodeDone c j id (countAdd x n s)
  | 0x0D => nodeDone c j id (exportNode x n s)
  | 0x0E => nodeDone c j id (signalNode x n s)
  | 0x0F =>
    if nodeSub n = 0 then nodeDone c j id s
    else setCtx c { x with timers := tput x.timers j (tget s.time.free x.readyAt j + imm) } s
  | 0x10 => let (v, s) := spawn x n s; dst v s
  | 0x11 => nodeDone c j (fun y => { y with chain := some imm }) s
  | 0x12 => let (v, s) := ringNode x n s; if nodeSub n = 0 then nodeDone c j id s else dst v s
  | 0x13 => camNode c j x n s
  | 0x14 =>
    let ls := reserveLines x n s
    let (v, obj, amt, s) := reserveNode x n s
    let (q, s) := specClaim x n 2 obj 0 false s
    nodePend c j { val := some v, fill := q.map fun q => (q, amt), pin := some (.port, a % 8388608), reads := ls } s
  | 0x15 => releaseNode c j x n s
  | 0x16 =>
    let svc := a % 4096
    let line := lbSlotAddr svc (x.opB n % 65536) / 64
    let (b, s) := lbPick svc (x.opB n) (ctxCk x s) s
    match b with
    | some b => nodePend c j { val := some b, reads := [line] } (specClaim x n 3 (svc + b * 4096) 1 true s).2
    | none => nodePend c j { val := some allOnes32, reads := [line] } s
  | 0x17 => nodePend c j {} (lbReleaseNode x n s)
  | 0x18 => let (v, s) := mapInsert (ctxCk x s) a s; mapNode c j (adMap a) (some v) s
  | 0x19 => mapNode c j (adMap a) none (mapRemove (ctxCk x s) a s)
  | 0x1A =>
    let out := if x.kind = 0 then slice x.img 0 (bits imm 0 7) else x.out
    nodeDone c j (fun y => { y with out := out }) s
  | _ => nodeDone c j id s

/-- The predicate of a node forbids it (R140). -/
def skipped (x : Ctx) (n : Bytes) : Bool := nodePredEn n && (x.slot (nodePred n) != 0) == nodePredNeg n

/-- Engine cycles of each operation by OP (R141). -/
def opCycles : List Nat := [1, 2, 2, 6, 1, 1, 4, 4, 4, 3, 3, 4, 3, 12, 3, 0, 4, 4, 3, 4, 8, 24, 10, 6, 48, 24, 2]

def nodeCycles (x : Ctx) (n : Bytes) : Nat :=
  if skipped x n then 1 else opCycles.getD (nodeOp n) 1 + (if nodeOp n = 0x0A then nodeLines n x else 0)

/-! Start and retire (R139, R147). -/

/-- A start task loads its context; line 1 of a standard record is read within it (R139, R147). -/
def startCtx (c : Nat) (s : State) : State :=
  match getCtx c s with
  | none => s
  | some x =>
    let s := setCtx c { x with st := .running } s
    match x.line1 with
    | none => readyNodes c s
    | some n =>
      let (d, s) := hbmRead 2 (recAddr n + 64) 64 s
      nodePend c 32 { data := d, at_ := 64, reads := [recAddr n / 64 + 1] } s

/-- The context of a start task that waits for one: a host run, or a SPAWN. -/
def spawnCtx (t : Task) (s : State) : Ctx :=
  let r := tplRec t.bank t.tpl s
  let v := match tget? s.task.run t.runId with
    | some h => fit12 h.v
    | none => fit12 [t.arg0, t.arg1]
  { tpl := t.tpl, bank := t.bank, kind := tplKind r, level := t.level, v := v, runId := t.runId,
    spawned := true }
where
  fit12 (l : List Nat) : List Nat := l.take 12 ++ List.replicate (12 - l.length) 0

/-- A start task executed. -/
def startTask (t : Task) (s : State) : State :=
  if t.pre then startCtx t.ctx s
  else
    let x := spawnCtx t s
    let (c, s) := allocCtx x s
    let s := match tget? s.task.run t.runId with
      | some h => setTask { s.task with run := tput s.task.run t.runId { h with ctx := some c } } s
      | none => s
    startCtx c (bump .GRAPH_START x.kind s)

/-- The chained template starts in the context (R139, R141); V2 takes IMM[23:16].  DESIGN CHOICE (log 36): a chain to the null
template, or to one whose NODE_COUNT is 0, starts nothing; the context is released, and a host run has no GRAPH_END. -/
def chainCtx (c imm : Nat) (x : Ctx) (s : State) : State :=
  let t := if bit imm 10 then fpAgeTpl (ctxProfile x s) else bits imm 0 10
  let r := tplRec x.bank t s
  if t = 0 ∨ tplCount r = 0 then releaseCtx c s
  else
    let y : Ctx := { tpl := t, bank := x.bank, kind := tplKind r, level := tplPrio r, profile := x.profile, pool := x.pool,
                     v := x.v.set 2 (bits imm 16 8), img := x.img, wraps := x.wraps, compact := x.compact,
                     key := x.key, seq := x.seq, since := s.time.free, runId := x.runId, out := x.out, bad := x.bad, first := x.first,
                     spawned := x.spawned }
    let s := setGauge .CTX_IN_USE x.kind (getCtr .CTX_IN_USE x.kind s - 1) s
    let s := bump .GRAPH_START y.kind (bump .CTX_IN_USE y.kind (setCtx c y s))
    pushTask { ty := .start, level := y.level, gen := tget 0 s.task.gen c, bank := y.bank, ctx := c, tpl := t,
               stamp := readyStamp s, arg0 := y.slot 0, arg1 := y.slot 1, pre := true } s

/-- A log loses its instance, which ends before it. -/
def detachLog (l : Nat) (s : State) : State :=
  match getLog l s with
  | some u => setLog l { u with ctx := none } s
  | none => s

/-- A retire task: the context is released, or starts the chained template (R139). -/
def retireCtx (c : Nat) (s : State) : State :=
  match getCtx c s with
  | none => s
  | some x =>
    let s := bump .GRAPH_RETIRE x.kind s
    let s := match x.log with
      | some l => detachLog l s
      | none => s
    let s := pushRecord x s
    match x.chain with
    | some imm => chainCtx c imm x s
    | none => releaseCtx c (endRun x.runId stOK x.out s)

/-! Engines (R133, R159, R160). -/

def addCycles (e n : Nat) (s : State) : State := addCtr .ENGINE_CYCLES e n s

/-! Dispatch (R148). -/

/-- The context of a task as the engine finds it: uncorrectable data cancel it (R159). -/
def ctxLost (c : Nat) (s : State) : Bool := ((getCtx c s).map fun x => decide (2 ≤ x.bad)).getD false

/-- A task executed on an engine; one whose slot is uncorrectable is lost, and its instance ends by timeout, as for a spill-ring line
(R368; DESIGN CHOICE, log 84). -/
def runTask (e : Nat) (t : Task) (s : State) : State :=
  if 2 ≤ symCount t.bad then takeTask t s else
  let s := bump .TASK_DISPATCH t.level (takeTask t s)
  let s := if engineState e s = .gated then setEngine e .working s else s
  if (t.ty != .start || t.pre) && ctxLost t.ctx s then failInst t.ctx stFAULTED (raise 35 e 0 (bump .NODE_FAULT 0 s))
  else match t.ty with
    | .start => startTask t (addCycles e 4 s)
    | .retire => retireCtx t.ctx (addCycles e 2 s)
    | .node =>
      match getCtx t.ctx s with
      | none => s
      | some x =>
        let r := tplRec x.bank x.tpl s
        let n := tplNode r t.node
        let s := addCycles e (nodeCycles x n) s
        if skipped x n then nodeDone t.ctx t.node id s else nodeEffect t.ctx t.node x r n s

/-- The task that an engine was executing returns to its level with its stamp (R159). -/
def returnTask (t : Task) (s : State) : State :=
  let l := getLevel t.level s
  setLevel t.level { l with slots := insertTask t l.slots } s

/-- One task to each engine of the list, up to 16 (R148).  On an engine that has a fault the residue check fails: the task commits
nothing, F035 records the engine, and the task goes back with its stamp for another engine to take (R159).  The fault is one that a
self-test has found, or an upset that no test has met (DESIGN CHOICE, log 84). -/
def dispatchTo : List Nat → State → State
  | [], s => s
  | e :: es, s =>
    match nextTask s with
    | some t =>
      if tget 0 s.task.suspect e = 0 then dispatchTo es (runTask e t s)
      else
        let s := setSuspect e 2 (bump .TASK_DISPATCH t.level (takeTask t s))
        returnTask t (dispatchTo es (raise 35 e 0 (bump .NODE_FAULT 0 s)))
    | none => s

/-- TASK_DISPATCH: one clock of the task scheduler (R148, log 36), which standby switches off with ACT (R442).  The engines'
requests cross the fabric: one in an uncorrectable flit is issued once more (R371). -/
def execTaskDispatch (s : State) : Host.Outcome State Fault Refusal :=
  .next <|
    if s.pwr.standby = .inStandby then s else
    let s := nextClk s
    dispatchTo ((workingEngines s).take 16) (flit linkACT s).2

/-! Returns (R141, R145, R146, R153). -/

/-- The context after the return of node j: no longer outstanding, with its data and DST. -/
def returned (j : Nat) (r : NodeRet) (dst : Nat) (x : Ctx) : Ctx :=
  let y := { x with outst := x.outst.filter (· != j), ret := tdel x.ret j, img := put x.img r.at_ r.data }
  match r.val with
  | some v => y.put dst v
  | none => y

/-- The service search of a CAM node ends. -/
def camReturn (n : Bytes) (s : State) : State :=
  if nodeOp n = 0x13 then setLook { s.look with camFlight := s.look.camFlight.erase (bits (nodeImm n) 0 4) } s else s

/-- The write of a MAP_INSERT has been accepted (R177). -/
def insertReturn (x : Ctx) (r : NodeRet) (n : Bytes) (s : State) : State :=
  match r.val, r.pin with
  | some 1, some (.map, m) => if nodeOp n = 0x18 then mapInserted x.bank (ctxCk x s) m s else s
  | _, _ => s

/-- The write-back of an eviction has been accepted (R87). -/
def backAccepted (c : Nat) (n : Bytes) (s : State) : State :=
  match getCtx c s with
  | some x =>
    if nodeOp n = 0x0A ∧ x.kind = 2 ∧ x.evictSlot.map recAddr = some (nodeAddr n x) then
      bump .HOT_WB 0 (setCtx c { x with evictSlot := none } s)
    else s
  | none => s

/-- HBM still owes something to the operation of a node: data of a read, or the acceptance of a write (R139, R141). -/
def owed (x : Ctx) (r : NodeRet) (s : State) : Bool :=
  (r.reads.any fun l => readOut (nodeReq x (64 * l)) l s) || r.writes.any fun l => writeOut (nodeReq x (64 * l)) l s

/-- HBM_NODE_COMPLETION: the operation of node `node` of context `c` returns or is accepted; node 32 is the start task's
read of line 1 (R139, R141, R147). -/
def execHbmNodeCompletion (c node : Nat) (s : State) : Host.Outcome State Fault Refusal :=
  .next (match getCtx c s with
    | none => s
    | some x =>
      let r := tget {} x.ret node
      if !x.outst.contains node || owed x r s then s
      else
        let n := tplNode (tplRec x.bank x.tpl s) node
        let s := if node < 32 then insertReturn x r n (camReturn n s) else s
        let s := match x.log, r.fill with
          | some l, some (q, amt) => fillEnt l q amt s
          | _, _ => s
        let s := setCtx c (returned node r (nodeDst n) x) s
        let s := if node < 32 ∧ x.st ≠ .closing then backAccepted c n s else s
        match x.st with
        | .closing => closeIf c s
        | .frozen => s
        | _ => if node < 32 then nodeDone c node id s else readyNodes c s)

/-- WAIT_EVENT_TIMER: the timer of a node has run out (R141). -/
def execWaitEventTimer (c node : Nat) (s : State) : Host.Outcome State Fault Refusal :=
  .next (match getCtx c s with
    | none => s
    | some x =>
      match tget? x.timers node with
      | some t =>
        if t ≤ s.time.free ∧ x.st = .running then nodeDone c node (fun y => { y with timers := tdel y.timers node }) s else s
      | none => s)

/-! The spill ring (R150, R161). -/

/-- A task read back still belongs to its context (R150), or to a host run that has not been cancelled (R153). -/
def taskAlive (s : State) (t : Task) : Bool :=
  if t.ty = .start ∧ !t.pre then t.runId == 0 || (tget? s.task.run t.runId).isSome
  else match getCtx t.ctx s with
    | some x => tget 0 s.task.gen t.ctx == t.gen && (x.st == .starting || x.st == .running)
    | none => false

/-- SPILL_RING_REFILL: 16 descriptors are read from the ring's head into free slots, two to a line; those in an uncorrectable line
are lost, and one whose line has not been written is taken on die (R150, R161).  An emptied ring goes on with a new line. -/
def execSpillRingRefill (level : Nat) (s : State) : Host.Outcome State Fault Refusal :=
  .next <|
    let l := level % 8
    let x := getLevel l s
    let n := min 16 x.ring.length
    if n = 0 ∨ 16368 < x.slots.length then s
    else
      let lost (i : Nat) : Bool := decide (i / 2 < n / 2) && spanUe (spillAddr l (x.ringRead + i) / 64 * 64) 64 s
      let ts := x.ring.take n
      let kept := (ts.zipIdx.filter fun p => !lost p.2 && taskAlive s p.1).map (·.1)
      let anyLost := (List.range n).any lost
      let s := forEach (List.range (n / 2)) (fun i s => spanReq 3 false (spillAddr l (x.ringRead + 2 * i)) 64 s) s
      let s := addCtr .SPILL_READ l n s
      let s := if anyLost then raise 37 l 0 s else s
      let y : LevelSt := { x with slots := kept.foldl (fun a t => insertTask t a) x.slots, ring := x.ring.drop n,
                                  ringRead := x.ringRead + n + n % 2 }
      bpSync l (setLevel l y s)

/-! Engine events (R159, R160). -/

/-- A replaced engine is judged by its self-tests: after 16 in succession it is a spare, and at a failed one it is FAILED
for good (R486, R488). -/
def judgeEngine (e : Nat) (ok : Bool) (s : State) : State :=
  match tget? s.spare.engineJudge e with
  | none => s
  | some n =>
    if !ok then otpAppend 9 (4 * 256) e 0 (setSpare { s.spare with engineJudge := tdel s.spare.engineJudge e } s)
    else if n + 1 < 16 then setSpare { s.spare with engineJudge := tput s.spare.engineJudge e (n + 1) } s
    else setEngine e .spare (setSpare { s.spare with engineJudge := tdel s.spare.engineJudge e } s)

/-- ENGINE_SELF_TEST: an engine runs its self-test; a fault is reported (R159). -/
def execEngineSelfTest (engine : Nat) (ok : Bool) (s : State) : Host.Outcome State Fault Refusal :=
  .next (if engineState engine s = .failed then judgeEngine engine ok s
    else if ok then setSuspect engine 0 s
    else raise 35 engine 0 (bump .NODE_FAULT 0 (setSuspect engine (max 1 (tget 0 s.task.suspect engine)) s)))

/-- Four working engines stay ungated: gated ones wake in their place (R160). -/
def keepUngated (s : State) : State :=
  let free := ((List.range 68).filter fun k => engineState k s == .working).length
  forEach (((List.range 68).filter fun k => engineState k s == .gated).take (4 - free)) (fun k s => setEngine k .working s) s

/-- The swap of an engine under CONTAIN: it takes no task, and a spare is called (R159); four engines stay ungated (R160). -/
def engineSwap (e : Nat) (s : State) : State :=
  if 68 ≤ e ∨ engineState e s = .failed then s
  else
    let spare := engineState e s == .spare
    let s := keepUngated (setSuspect e 0 (setEngine e .failed s))
    let s := setSpare { s.spare with engineJudge := tput s.spare.engineJudge e 0 } s
    if spare then s
    else if ((List.range 68).filter fun k => engineState k s == .spare).length ≤ s.task.joining then raise 39 e 0 s
    else setTask { s.task with joining := s.task.joining + 1 } (setSpare { s.spare with engineOut := s.spare.engineOut ++ [e] } s)

/-- The spare engines in the order in which they join: those not AGED first (R486). -/
def joinOrder (s : State) : List Nat :=
  let l := (List.range 68).filter fun k => engineState k s == .spare
  l.filter (fun k => !s.spare.agedEngines.contains k) ++ l.filter fun k => s.spare.agedEngines.contains k

/-- SPARE_ENGINE_JOIN: a spare joins the working set (R159). -/
def execSpareEngineJoin (s : State) : Host.Outcome State Fault Refusal :=
  .next (if s.task.joining = 0 then s
    else match joinOrder s with
      | k :: _ =>
        let e := s.spare.engineOut.headD 68
        let aged := isProactive 3 e s
        let s := setTask { s.task with joining := s.task.joining - 1, engine := tput s.task.engine k .working } s
        let s := setSpare { s.spare with engineOut := s.spare.engineOut.drop 1 } s
        let s := spareDone 3 e (otpAppend 4 0 e k s)
        if aged then
          let s := setSpare { s.spare with agedEngines := s.spare.agedEngines ++ [e], engineJudge := tdel s.spare.engineJudge e } s
          otpAppend 9 (4 * 256) e 2 (setEngine e .spare s)
        else s
      | [] => s)

/-- ENGINE_CLOCK_GATE: an engine idle for 10 µs under FRUGAL is gated while four others stay ungated (R160). -/
def execEngineClockGate (engine : Nat) (s : State) : Host.Outcome State Fault Refusal :=
  .next (if inMode mFRUGAL s ∧ engineState engine s = .working ∧
      4 < ((List.range 68).filter fun k => engineState k s == .working).length then setEngine engine .gated s else s)

end Sys2Proof.Machine
end

