-- ==== Sys2Proof/Machine/Impair.lean ====
section
/-!
DEFINITION. The impairment units (R506–R508): which frames a unit chooses, and what it does to them.
-/
namespace Sys2Proof.Machine

/-- A unit as reset leaves it: REORDER_WAIT 100, every other field 0 (R506; log 11). -/
def impReset : ImpUnit := { record := zeros 6 ++ leBytes 2 100 ++ zeros 24 }

def impUnit (p : Nat) (s : State) : ImpUnit := tget impReset s.obs.imp p

def setImp (p : Nat) (u : ImpUnit) (s : State) : State := setObs { s.obs with imp := tset impReset s.obs.imp p u } s

/-! The record (R506). -/

def impDir (r : Bytes) : Bool := bit (fld r 0 1) 0
def impAction (r : Bytes) : Nat := bits (fld r 0 1) 1 2
def impSel (r : Bytes) : Nat := bits (fld r 0 1) 3 2
def impRuleEn (r : Bytes) : Bool := bit (fld r 0 1) 5
def impKeepFcs (r : Bytes) : Bool := bit (fld r 0 1) 6
def impCorrupt (r : Bytes) : Nat := bits (fld r 1 1) 0 2
def impBurst (r : Bytes) : Nat := fld r 2 1
def impDepth (r : Bytes) : Nat := fld r 3 1
def impBitOff (r : Bytes) : Nat := fld r 4 2
def impThresh (r : Bytes) : Nat := fld r 8 4
def impSeed (r : Bytes) : Nat := fld r 12 4
def impPeriod (r : Bytes) : Nat := fld r 16 4
def impCount (r : Bytes) : Nat := fld r 20 4
def impRule (r : Bytes) : Nat := bits (fld r 24 4) 0 16
/-- ARM_TIME in seconds: 0 means 3,600. -/
def impArmTime (r : Bytes) : Nat := if fld r 28 4 = 0 then 3600 else fld r 28 4

/-! Choice (R507). -/

/-- One step of the LFSR x^32 + x^22 + x^2 + x + 1 (R507; its form log 29). -/
def lfsrNext (v : Nat) : Nat :=
  let b := b2n (bit v 31 ^^ bit v 21 ^^ bit v 1 ^^ bit v 0)
  (v * 2 + b) % 2 ^ 32

/-- The unit looks at one eligible frame: whether SEL chooses it, and the unit after it. -/
def impChoose (u : ImpUnit) : Bool × ImpUnit :=
  let r := u.record
  match impSel r with
  | 0 => (true, { u with seen := u.seen + 1 })
  | 1 =>
    let v := lfsrNext u.lfsr
    (decide (v < impThresh r), { u with lfsr := v, seen := u.seen + 1 })
  | _ => (decide (u.seen % (max 1 (impPeriod r)) < impCount r), { u with seen := u.seen + 1 })

/-- The frame is eligible at the unit of its egress port (R507). -/
def impEligible (p : Nat) (f : Frame) (r : Bytes) (s : State) : Bool :=
  !f.launch && !inSafe p s && !f.assured &&
    (!impRuleEn r || (match f.rule with
      | some (_, n) => n == impRule r
      | none => false))

/-! Corruption (R508). -/

/-- Bit `n` of a frame inverted: bits of a byte are counted from the first sent, the least significant (log 29). -/
def flipBit (b : Bytes) (n : Nat) : Bytes := put b (n / 8) [(b.getD (n / 8) 0) ^^^ BitVec.ofNat 8 (2 ^ (n % 8))]

/-- The bits that single-bit or burst corruption inverts. -/
def impBits (r : Bytes) (len : Nat) : List Nat :=
  let n := max 1 (8 * (len - 4))
  (List.range (if impCorrupt r = 1 then impBurst r else 1)).map fun i => (impBitOff r + i) % n

/-- The FCS of a frame recomputed over the bytes before it. -/
def withFcs (b : Bytes) : Bytes :=
  let n := b.length - 4
  b.take n ++ leBytes 4 (crc32 (b.take n))

/-- The bitwise inverse of the FCS. -/
def invertFcs (b : Bytes) : Bytes :=
  let n := b.length - 4
  b.take n ++ (b.drop n).map (~~~ ·)

/-- A frame, FCS included, as a corrupting unit sends it on (R508). -/
def corrupted (r : Bytes) (b : Bytes) : Bytes :=
  if impCorrupt r = 2 then invertFcs b
  else
    let x := (impBits r b.length).foldl flipBit b
    if !impDir r && impKeepFcs r then withFcs x else x

/-- The IMPAIR trace record of an action (R502, R508). -/
def impTrace (p len : Nat) (r : Bytes) (s : State) : State :=
  traceRec 10 (impAction r) (leBytes 1 p ++ leBytes 1 (b2n (impDir r)) ++ zeros 2 ++ leBytes 2 len ++ zeros 10) s

/-! Ingress (R507). -/

/-- A frame as received, past the ingress unit of its port: none when the unit drops it. -/
def impIngress (p : Nat) (b : Bytes) (s : State) : Option Bytes × State :=
  let u := impUnit p s
  let r := u.record
  if !u.armed || !impDir r then (some b, s)
  else
    let (hit, u') := impChoose u
    let s := setImp p u' s
    if !hit then (some b, s)
    else
      let s := impTrace p b.length r s
      if impAction r = 0 then (none, bump .IMP_DROP p s) else (some (corrupted r b), bump .IMP_CORRUPT p s)

/-! Egress (R507, R508). -/

/-- What the egress unit of a port does with a frame. -/
inductive ImpVerdict where
  | pass | drop | corrupt (r : Bytes) | hold
  deriving DecidableEq, Repr

/-- The egress unit looks at a selected frame; a unit that holds a frame chooses no other (R508). -/
def impEgress (p d : Nat) (s : State) : ImpVerdict × State :=
  let u := impUnit p s
  let r := u.record
  let f := getFrame d s
  if !u.armed || impDir r || !impEligible p f r s then (.pass, s)
  else
    let (hit, u') := impChoose u
    let s := setImp p u' s
    if !hit || u'.held.isSome then (.pass, s)
    else
      let s := impTrace p f.len r s
      match impAction r with
      | 0 => (.drop, bump .IMP_DROP p s)
      | 1 => (.corrupt r, bump .IMP_CORRUPT p s)
      | _ => (.hold, setImp p { u' with held := some d, heldLeft := impDepth r } (bump .IMP_REORDER p s))

/-- An egress unit is armed at the port: no frame to it is cut through (R508). -/
def impBlocksCut (p : Nat) (s : State) : Bool := let u := impUnit p s; u.armed && !impDir u.record

end Sys2Proof.Machine
end

