-- ==== Sys2Proof/Machine/Egress.lean ====
section
/-!
DEFINITION. The egress half and the port scheduler (R17, R21, R85, R194, R257, R260, R272–R288, R304–R306, R377, R507,
R508): selection, mirror copies, rewrite, timestamps and transmission.
-/
namespace Sys2Proof.Machine

/-! PTP event frames (R304). -/

/-- A VLAN tag's EtherType (R533). -/
def isTagType (v : Nat) : Bool := v == 0x8100 || v == 0x88A8

/-- Where the EtherType after at most two VLAN tags lies (R304). -/
def etherOff (b : Bytes) : Nat :=
  if !isTagType (bfld b 12 2) then 12 else if !isTagType (bfld b 16 2) then 16 else 20

/-- The PTP header of a frame by its transport: 0 Ethernet, 1 UDP over IPv4, 2 UDP over IPv6. -/
def ptpHeader (b : Bytes) : Option (Nat × Nat) :=
  let o := etherOff b + 2
  let et := bfld b (o - 2) 2
  if et = 0x88F7 then some (o, 0)
  else if et = 0x0800 then
    if fld b o 1 = 0x45 ∧ bfld b (o + 6) 2 % 8192 = 0 ∧ fld b (o + 9) 1 = 17 ∧ bfld b (o + 22) 2 = 319 then some (o + 28, 1)
    else none
  else if et = 0x86DD then
    if fld b (o + 6) 1 = 17 ∧ bfld b (o + 42) 2 = 319 then some (o + 48, 2) else none
  else none

/-- The PTP header of a PTP event frame: Sync, Delay_Req, Pdelay_Req or Pdelay_Resp, with its messageType within the first
64 bytes (R304; DEDUCED, log 22). -/
def ptpEvent (b : Bytes) : Option (Nat × Nat) :=
  match ptpHeader b with
  | some (o, t) => if o < 64 ∧ o < b.length ∧ fld b o 1 % 16 < 4 then some (o, t) else none
  | none => none

/-- The time domain of a PTP frame, by its domainNumber (R306). -/
def ptpDomain (b : Bytes) (o : Nat) (s : State) : Bool :=
  let n := fld b (o + 4) 1
  if n = s.time.d0.domNum then false else if n = s.time.d1.domNum then true else s.time.active

/-- The PTP record of a port: CTRL, RX_LAT, TX_LAT and ASYM (R306, R411). -/
def ptpRec (p : Nat) (s : State) : Bytes := tget (zeros 16) s.time.ptpPort p

def tcEn (p : Nat) (s : State) : Bool := bit (fld (ptpRec p s) 0 4) 0

/-- A signed field of 4 bytes. -/
def sfld (b : Bytes) (o : Nat) : Int := (BitVec.ofNat 32 (fld b o 4)).toInt

/-- Wire time of 8 bytes on the port, from the first bit to the end of the start-of-frame delimiter (R304). -/
def wire8 (p : Nat) (s : State) : Nat := 64 * uNs / max 1 (portGbps p s)

/-- The received timestamp of a domain, at the reference plane of the port (R304, R306; log 22). -/
def rxTime (dom : Bool) (p : Nat) (s : State) : Nat :=
  timeNorm (domTime dom s + (sfld (ptpRec p s) 12 - sfld (ptpRec p s) 4) * (uNs : Nat))

/-- The transmit timestamp of a domain for a frame that is selected now (R278, R304, R305; log 22). -/
def txTime (dom : Bool) (p : Nat) (s : State) : Nat :=
  timeNorm (domTime dom s + (dTx p s * uNs / 10 + wire8 p s : Nat) + sfld (ptpRec p s) 8 * (uNs : Nat))

/-- The egress stamp in the active time (R194, R304). -/
def txStamp (p : Nat) (s : State) : Nat :=
  stamp302 s.time.active (timeNorm (activeTime s + (dTx p s * uNs / 10 + wire8 p s : Nat)))

/-- The same for a frame: one that is cut through carries what was taken as its head left (R262, R306). -/
def sentStamp (p : Nat) (f : Frame) (s : State) : Nat := (f.sent.map (·.1)).getD (txStamp p s)
def sentTime (dom : Bool) (p : Nat) (f : Frame) (s : State) : Nat :=
  (f.sent.map fun x => if dom then x.2.2 else x.2.1).getD (txTime dom p s)

/-! Checksums. -/

/-- The sum of the 16-bit words of a byte string of even length. -/
def wordSum : Bytes → Nat
  | a :: b :: rest => a.toNat * 256 + b.toNat + wordSum rest
  | [a] => a.toNat * 256
  | [] => 0

/-- A ones'-complement checksum updated for words that change (incremental update). -/
def csumUpdate (c : Nat) (old new : Bytes) : Nat :=
  let comp := old.map (~~~ ·)
  65535 - foldSum 8 (65535 - c + wordSum comp + wordSum new)

/-- A field of a PTP header replaced: over UDP the checksum becomes 0 for IPv4 and is updated for IPv6 (R305, R306). -/
def ptpPut (b : Bytes) (o t at_ : Nat) (v : Bytes) : Bytes :=
  let b' := put b (o + at_) v
  match t with
  | 1 => put b' (o - 2) [0, 0]
  | 2 =>
    let c := csumUpdate (bfld b (o - 2) 2) (slice b (o + at_) v.length) v
    put b' (o - 2) (beBytes 2 (if c = 0 then 65535 else c))
  | _ => b'

/-! The egress rewrite. -/

/-- A time in units of 2^-16 ns. -/
def unit16 (v : Nat) : Nat := v / 2 ^ 32

/-- The ingress timestamp of a PTP record in a domain, in units of 2^-16 ns (R303). -/
def record16 (r : Bytes) (dom : Bool) : Nat :=
  let o := if dom then 12 else 0
  (fld r o 6 * 1000000000 + fld r (o + 6) 4) * 65536 + fld r (o + 10) 2

/-- The residence time added to correctionField on a port with TC_EN (R306). -/
def tcUpdate (p : Nat) (f : Frame) (b : Bytes) (s : State) : Bytes × State :=
  match f.ptp, ptpEvent b with
  | some r, some (o, t) =>
    if !tcEn p s then (b, s)
    else
      let dom := ptpDomain b o s
      let res : Int := (unit16 (sentTime dom p f s) : Int) - record16 r dom
      let v := (((bfld b (o + 8) 8 : Nat) : Int) + res) % (2 ^ 64 : Nat)
      (ptpPut b o t 8 (beBytes 8 v.toNat), bump .PTP_TC p s)
  | _, _ => (b, s)

/-- ONE_STEP: originTimestamp and correctionField written (R305). -/
def oneStepUpdate (p : Nat) (f : Frame) (b : Bytes) (s : State) : Bytes × State :=
  match ptpHeader b with
  | some (o, t) =>
    if !f.oneStep then (b, s)
    else
      let v := sentTime (ptpDomain b o s) p f s
      let b := ptpPut b o t 34 (beBytes 6 (secOf v) ++ beBytes 4 (nsecOf v))
      (ptpPut b o t 8 (beBytes 8 (fracOf v)), bump .PTP_ONESTEP p s)
  | none => (b, s)

/-- TS_REQ: the transmit report, an event of the ring (R305).  One that is dropped counts in EVR_DROP and in TS_DROP (R414;
DEDUCED, log 17: the full ring of R305 is the one whose backlog is full). -/
def txReport (p : Nat) (f : Frame) (s : State) : State :=
  if !f.tsReq then s
  else
    let s := bump .PTP_TX_TS p s
    let s := if evrLoses s then raise 79 p (portMask p) (bump .TS_DROP p s) else s
    postEvent 11 (leBytes 2 f.tag ++ leBytes 1 p ++ [0] ++ ptpRecord (sentTime false p f s) (sentTime true p f s)) s

/-- The frame as it leaves: the rewrite of its pass, the PTP fields, and the FCS recomputed when a byte has changed (R168,
R305, R306). -/
def egressBytes (p d : Nat) (s : State) : Bytes × State :=
  let f := getFrame d s
  let b := f.edits.foldl (fun b e => put b e.1 e.2) f.data
  let (b, s) := tcUpdate p f b s
  let (b, s) := oneStepUpdate p f b s
  (if b = f.data then b else withFcs b, txReport p f s)

/-! Latency (R85, R194). -/

/-- The bin of a latency in ns (R194). -/
def histBin (ns : Nat) : Nat := if ns < 256 then 0 else min 15 (Nat.log2 ns - 7)

/-- An image with one bin of HIST one higher, saturating, and DIRTY set. -/
def histAdd (bin : Nat) (img : Bytes) : Bytes :=
  let o := 96 + 2 * bin
  ctrlBit 3 true (putF img o 2 (min 65535 (fld img o 2 + 1)))

/-- The latency sample of a frame whose pass used a standard entry: the entry is looked at first (R85, R103), and a sample for one
that has left its place, or gone from it and come back, is discarded. -/
def histSample (p : Nat) (f : Frame) (s : State) : State :=
  match f.pkt with
  | some k =>
    match k.loc with
    | some (v, n) =>
      let s := hotCheck v s
      match (hotGet v s).filter fun e => e.serial == n with
      | some e => editHot v e (histAdd (histBin (stampDiff (sentStamp p f s) f.stamp).toNat)) s
      | none => bump .HIST_MISSED 0 s
    | none => s
  | none => s

/-! Transmission. -/

/-- The assured class of a frame's rule (R50). -/
def frameClass (f : Frame) : Nat := (f.pkt.map fun k => actClass k.action).getD 0

/-- The payload of a frame of which ingress took the CRC-32C (R377). -/
def pairPayload (f : Frame) (b : Bytes) : Bytes := slice b f.payOff (b.length - 4 - f.payOff)

/-- The frame is under the payload check of assured operation (R377). -/
def checked (f : Frame) (s : State) : Bool := f.assured && inMode mASSURED s

/-- The frame leaves the port, corrupted where a unit says so: PAIR check, latency sample, trace, check-value units, and its
cells are freed (R85, R373, R377, R503, R508).  The stream of an assured class is that of its frames here (DESIGN CHOICE, log 71). -/
def transmit (p d : Nat) (bad : Option Bytes) (s : State) : State :=
  let f := getFrame d s
  let (b, s) := egressBytes p d s
  let (stomp, s) := if checked f s then pairCheck (frameClass f) p f.pairCrc (crc32c (pairPayload f b)) s else (false, s)
  let b := if stomp then invertFcs b else match bad with
    | some r => corrupted r b
    | none => b
  let s := if f.mirror then s else histSample p f s
  let s := tracePkt { point := 2, inPort := f.inPort, outPort := p, tc := f.tc, rule := f.rule.map (·.2), queue := f.queue,
                      len := f.len, flags := f.flags, data := b } s
  let s := cvuFrame 1 p b (if checked f s then cvuFrame 6 (frameClass f) b s else s)
  bufSync (freeFrame d (setBuf { s.buf with tx := s.buf.tx ++ [{ port := p, data := b, stomped := stomp }] } s))

/-! The held frame of an egress unit (R508). -/

/-- The port can send the frame that its unit holds: parked, paused or gated ports hold it with their queues. -/
def heldCanGo (p d : Nat) (s : State) : Bool :=
  let f := getFrame d s
  portAwake p s && !inSafe p s && !inMask s.buf.parked p && !inMask s.buf.swapHeld p && !classPaused p f.tc s &&
    (tget? s.buf.inTx p).isNone && gateFits p f.tc f.len (startTime p s) s

/-- The held frame is sent, or discarded once its age has passed (R257, R508). -/
def releaseHeld (p : Nat) (s : State) : State :=
  let u := impUnit p s
  match u.held with
  | some d =>
    if expired (getFrame d s) s then ageDrop p d (setImp p { u with held := none, heldLeft := 0 } s)
    else if heldCanGo p d s then transmit p d none (setImp p { u with held := none, heldLeft := 0 } s)
    else setImp p { u with heldLeft := 0 } s
  | none => s

/-- The port has sent a frame: the held one follows the next DEPTH of them (R508). -/
def afterSend (p : Nat) (s : State) : State :=
  let u := impUnit p s
  if u.held.isNone then s
  else if u.heldLeft ≤ 1 then releaseHeld p s
  else setImp p { u with heldLeft := u.heldLeft - 1 } s

/-- REORDER_RELEASE: REORDER_WAIT has passed (R508). -/
def execReorderRelease (p : Nat) (s : State) : Host.Outcome State Fault Refusal := .next (releaseHeld p (fastClock s))

/-! Mirror copies (R21, R245, R260). -/

def sessionPort (r : Bytes) : Nat := bits (fld r 0 8) 0 6
def sessionClass (r : Bytes) : Nat := bits (fld r 0 8) 8 4
def sessionOn (r : Bytes) : Bool := bit (fld r 0 8) 15

/-- No mirror or host copy is made of a frame of a pool at PRESSURE, or while CDESC is (R245). -/
def copySuppressed (d : Nat) (s : State) : Bool :=
  atLevel poolCDESC 1 s || atLevel (getCell (getFrame d s).head s).pool 1 s

/-- The mirror copy of a frame that leaves its queue: it references the cells and takes no rewrite (R260). -/
def mirrorCopy (p d : Nat) (s : State) : State :=
  let f := getFrame d s
  match f.mirrorTo with
  | none => s
  | some n =>
    let r := tget (zeros 8) s.buf.session n
    if !sessionOn r then s
    else if copySuppressed d s then bump .MIRROR_SKIP p s
    else
      let edit (g : Frame) : Frame :=
        { g with mirror := true, mirrorTo := none, edits := [], tc := sessionClass r, launch := false, tsReq := false,
                 oneStep := false, ptp := none, cut := false, sent := none, waited := false, marked := false, chain := none }
      match copyFrame d ownREPL edit s with
      | some (c, s) => (enqueue c (portQueue (sessionPort r) (sessionClass r)) s).2.2
      | none => bump .MC_REF_LIMIT 0 s

/-! Selection (R272–R288). -/

/-- The head of a queue that nothing but its gate keeps from being selected, and that no window of its class can hold (R272,
R283). -/
def oversizeHead (p q : Nat) (s : State) : Option Nat :=
  match (getQueue q s).list, queuePath q s with
  | d :: _, some (path, _) =>
    let f := getFrame d s
    if portOk p s && !classPaused p (queueClass q s) s && path.all (fun e => elemOk e s) && f.arrived.isNone &&
        (!f.launch || decide (0 ≤ afterLaunch f (startTime p s))) && gateOversize p f.tc f.len s then some d
    else none
  | _, _ => none

/-- Such heads are discarded (R283). -/
def dropOversize (p : Nat) (s : State) : State :=
  forEach (portQueues p s) (fun q s =>
    match oversizeHead p q s with
    | some d =>
      let c := (getFrame d s).tc
      raise 67 p (portMask p) (bump .GATE_OVERSIZE (16 * p + c) (discard d (unlinkHead q s)))
    | none => s) s

/-- The frame would start later than its launch time allows (R288). -/
def launchLate (p : Nat) (f : Frame) (s : State) : Bool :=
  inMode mTIMED s && f.launch && decide ((fld (launchRec f.tc s) 4 4 : Int) < afterLaunch f (startTime p s))

/-- A sequence number of an 8-lane port (R17). -/
def numberFrame (p : Nat) (s : State) : State :=
  if recWidth (portRec p s) = 8 then setBuf { s.buf with txSeq := tset 0 s.buf.txSeq p (tget 0 s.buf.txSeq p + 1) } s
  else s

/-- A half of a pipeline meets a stage parity error with its next packet (R391). -/
def stageFails (pl half : Nat) (s : State) : Bool := tget 0 s.mace.stageBad (2 * pl + half) == 1

/-- The packet is dropped, and the pipeline's source among F112–F128 raised (R393). -/
def stageDrop (d pl half : Nat) (s : State) : State :=
  let s := { s with mace := { s.mace with stageBad := tdel s.mace.stageBad (2 * pl + half) } }
  discard d (raise (112 + pl) pl (pipeScope pl s) s)

/-- The selected frame leaves its queue: tags and tokens, number, samplers, mirror copy, the read of its cells, and the
port's impairment unit (R17, R243, R247, R260, R273, R275, R290, R507). -/
def dequeue (p q d : Nat) (path : List Nat) (s : State) : State :=
  let f := getFrame d s
  let s := charge p f.len path (unlinkHead q s)
  let s := samplerDeq q f (numberFrame p (bump .SCHED_SELECT p s))
  let s := mirrorCopy p d s
  let (ok, s) := readFrame d s
  if !ok then bufSync (dropBad d s)
  else
    match (portPipes p s).find? fun pl => stageFails pl 1 s with
    | some pl => bufSync (stageDrop d pl 1 s)
    | none =>
    match impEgress p d s with
    | (.pass, s) => afterSend p (transmit p d none s)
    | (.drop, s) => bufSync (discard d s)
    | (.corrupt r, s) => afterSend p (transmit p d (some r) s)
    | (.hold, s) => bufSync s

/-- What selection itself discards: an expired frame, a late one of a class with LATE_DROP, an assured one with no usable
PAIR unit (R257, R288, R377). -/
def selectDrop (p d : Nat) (s : State) : Option State :=
  let f := getFrame d s
  if expired f s then some (ageDrop p d s)
  else if launchLate p f s && bit (fld (launchRec f.tc s) 0 1) 0 then
    some (raise 66 p (portMask p) (bump .LAUNCH_LATE_DROP (16 * p + f.tc) (discard d s)))
  else if checked f s && (pairUnit (frameClass f) s).isNone then
    some (raise 184 (frameClass f) 0 (bump .ASSURED_UNCHECKED (frameClass f) (discard d s)))
  else none

/-- A frame that is late and sent all the same (R288). -/
def noteLate (p d : Nat) (s : State) : State :=
  let f := getFrame d s
  if launchLate p f s then raise 66 p (portMask p) (bump .LAUNCH_LATE_SENT (16 * p + f.tc) s) else s

/-- The scheduler selects until a frame is sent or no queue is eligible (R257, R273). -/
def selectFrom (p : Nat) : Nat → State → State
  | 0, s => s
  | n + 1, s =>
    let s := dropOversize p s
    let paths := eligiblePaths p s
    let s := wakeTags p paths s
    match selectQueue paths s with
    | none => bufSync s
    | some q =>
      match (getQueue q s).list, paths.find? (fun x => x.head? == some q) with
      | d :: _, some path =>
        match selectDrop p d s with
        | some _ => selectFrom p n ((selectDrop p d (unlinkHead q s)).getD s)
        | none => dequeue p q d path (noteLate p d s)
      | _, _ => s

/-- Frames in the queues of a port. -/
def portFrames (p : Nat) (s : State) : Nat := ((portQueues p s).map fun q => (getQueue q s).list.length).sum

/-- A port selects (R273), once the egress half of its pipeline is awake and has run the sentinel it owes (R393, R438), and
compares times by its fast clock (R298); one that is cutting a frame through selects none.  The frame crosses the egress half
within the command, so none waits for it between two commands, and internal traffic finds every clock free (R19; DEDUCED,
log 79). -/
def portSelect (p : Nat) (s : State) : State :=
  if (tget? s.buf.inTx p).isSome then s
  else
    let s := if portFrames p s = 0 then s else forEach (portPipes p s) (fun pl s => wakeHalf pl 1 s) s
    if (portPipes p s).any fun pl => sentinelDue pl 1 s then s else selectFrom p (portFrames p s + 1) (fastClock s)

end Sys2Proof.Machine
end

