-- ==== Sys2Proof/Machine/Resolve.lean ====
section
/-!
DEFINITION. Action resolution (R21, R50, R168, R182, R187, R189) and what a frame's last stage does with it: punt, copy to
host, rewrite, destination, cut-through (R261), chain queues (R457, R460, R461) and enqueue.
-/
namespace Sys2Proof.Machine

/-! The packet of a descriptor. -/

def getPkt (d : Nat) (s : State) : Pkt := (getFrame d s).pkt.getD {}

def editPkt (d : Nat) (f : Pkt → Pkt) (s : State) : State :=
  let x := getFrame d s
  setFrame d { x with pkt := some (f (x.pkt.getD {})) } s

/-- The flow profile of a packet, in the bank of its epoch bit (R58). -/
def pktProfile (d : Nat) (s : State) : Bytes := fpRec (getFrame d s).bank (getPkt d s).profile s

/-- The packet is no longer in flight (R56). -/
def landed (f : Frame) : Frame := { f with pkt := f.pkt.map fun k => { k with live := false } }

/-! Punts (R46, R117, R167, R307, R417). -/

/-- An item at the tail of its code's punt queue. -/
def pushPunt (q : Nat) (x : PuntItem) (s : State) : State :=
  setBuf { s.buf with puntq := tput s.buf.puntq q (tget [] s.buf.puntq q ++ [x]) } s

/-- A frame or copy as the punt DMA takes it. -/
def puntItem (d code kind reason : Nat) (s : State) : PuntItem :=
  let f := getFrame d s
  ⟨f.data, f.inPort, code, kind, reason, f.stamp, f.ptp, some d⟩

/-- A frame goes to the host alone: PUNT_MAP gives the queue, code 0 that of KIND 5 (R417). -/
def puntFrame (d code kind reason : Nat) (s : State) : State :=
  let s := passOwner d ownPUNT s
  let s := setFrame d { landed (getFrame d s) with held := false, punt := some code } s
  pushPunt (tget 0 s.host.puntMap (if kind = 5 then 0 else code)) (puntItem d code kind reason s) s

/-- A copy for the host (R21, R243, R245). The frame that is copied is shared from then on. -/
def copyToHost (d code : Nat) (s : State) : State :=
  if copySuppressed d s then bump .PUNT_SKIP ((getFrame d s).inPort % 64) s
  else
    match copyFrame d ownPUNT (fun g => { landed g with punt := some code, mirrorTo := none, edits := [] }) s with
    | none => bump .MC_REF_LIMIT 0 s
    | some (c, s) =>
      let s := setFrame d { getFrame d s with owner := ownREPL } s
      pushPunt (tget 0 s.host.puntMap code) (puntItem c code 1 0 s) s

/-! Meters (R188, R189). -/

/-- The meters of a packet: the flow's METER_STATE with LAST_SEEN, and the rule meter where the rule's is used (R72). -/
def meterOf (d : Nat) (flow : Option (Nat × Nat)) (useRule : Bool) (s : State) : MeterRes :=
  let k := getPkt d s
  let m := actMeter k.action
  meterPass (getFrame d s).len flow (if useRule && m != 0xFFFF then some m else none) k.meter k.service s

def applyDebits (x : MeterRes) (s : State) : State := forEach x.debits (fun m s => debitMeter m.1 m.2.1 m.2.2 s) s

/-- The colour counters of a packet advance, once (R122, R189). -/
def countPkt (d : Nat) (s : State) : State :=
  let s' := countColours (getFrame d s).len (getPkt d s).colours s
  editPkt d (fun k => { k with colours := [] }) s'

/-- What the meters said of a packet, kept with it. -/
def markPkt (d : Nat) (x : MeterRes) (s : State) : State :=
  let s := editPkt d (fun k => { k with colour := x.colour, colours := x.colours, metered := x.drop }) s
  setFrame d { getFrame d s with marked := x.mark } s

/-! The egress rewrite of translation and load balancing (R168, R169, R185).  Checksums follow by incremental update
(PRESUMED, log 43). -/

/-- A new port or identifier in the L4 header `h`, and the checksum that covers it and the address. -/
def l4Edits (b : Bytes) (h : Hdr) (src : Bool) (oldA newA : Bytes) (port : Bytes) : List (Nat × Bytes) :=
  let po := h.off + (if src then 0 else 2)
  let sum (at_ o : Nat) : Nat := csumUpdate (bfld b at_ 2) (oldA ++ slice b o 2) (newA ++ port)
  match h.type with
  | 8 => [(po, port), (h.off + 16, beBytes 2 (sum (h.off + 16) po))]
  | 9 =>
    if bfld b (h.off + 6) 2 = 0 then [(po, port)]
    else
      let c := sum (h.off + 6) po
      [(po, port), (h.off + 6, beBytes 2 (if c = 0 then 65535 else c))]
  | 10 => [(h.off + 4, port), (h.off + 2, beBytes 2 (csumUpdate (bfld b (h.off + 2) 2) (slice b (h.off + 4) 2) port))]
  | _ => []

/-- An IPv4 address replaced, and with it the port or identifier where one is given. -/
def addrEdits (b : Bytes) (hs : List Hdr) (src : Bool) (addr : Bytes) (port : Option Bytes) : List (Nat × Bytes) :=
  match hs with
  | l3 :: after =>
    if l3.type ≠ 4 then []
    else
      let o := l3.off + (if src then 12 else 16)
      let old := slice b o 4
      let sum := csumUpdate (bfld b (l3.off + 10) 2) old addr
      let l4 := match keyL4 after with
        | some h =>
          let keep := slice b (h.off + (if src then 0 else 2)) 2
          match h.type, port with
          | 10, none => []
          | _, _ => l4Edits b h src old addr (port.getD keep)
        | none => []
      (o, addr) :: (l3.off + 10, beBytes 2 sum) :: l4
  | [] => []

/-- The internal address and port of a translated flow: the side of its key that the packet does not come from (R74,
R169). -/
def internalSide (key : Bytes) (src sport : Bytes) : Bytes × Bytes :=
  if fld key 4 1 = 1 then (if slice key 12 4 == src then slice key 28 4 else slice key 12 4, beBytes 2 (fld key 44 4 % 65536))
  else if slice key 12 4 == src && slice key 6 2 == sport then (slice key 28 4, slice key 8 2)
  else (slice key 12 4, slice key 6 2)

/-- The packet runs against its flow's outbound direction (R74, R169, R179). -/
def inboundPkt (k : Pkt) (s : State) : Bool :=
  let dir := spDir (svcProf k.profile s)
  dir == 2 || (dir == 0 && k.rev)

/-- The edits of a packet whose flow's ACTION_DATA is `ad` (R168). -/
def adEdits (d ad : Nat) (s : State) : List (Nat × Bytes) :=
  let f := getFrame d s
  let k := getPkt d s
  let hs := fromL3 (if spDir (svcProf k.profile s) = 2 then 0 else min 1 (fpKeySrc (pktProfile d s))) k.hdrs
  match adSvc ad with
  | 1 =>
    if inboundPkt k s then
      let o := (hs.headD (readHdr 0 [] [] 0 0 none)).off
      let port := ((keyL4 (hs.drop 1)).map fun h => slice f.data h.off 2).getD [0, 0]
      let x := internalSide k.key (slice f.data (o + 12) 4) port
      addrEdits f.data hs false x.1 (some x.2)
    else addrEdits f.data hs true (slice (addrEnt (adA ad) s) 0 4) (some (beBytes 2 (adPort ad)))
  | 2 =>
    let a := slice (backendRec (adBackend ad) s) 4 4
    if k.rev ∨ leNat a = 0 then [] else addrEdits f.data hs false a none
  | _ => []

/-! Destinations (R50, R168, R204, R213, R462). -/

/-- Where a frame goes. -/
inductive Dest where
  | drop
  | port (p : Nat)
  | member (m p : Nat)
  | group (g : Nat)
  deriving DecidableEq, Repr

def dfltDest (x : Nat × Nat) : Dest :=
  match x.1 with
  | 1 => .port (x.2 % 64)
  | 2 => .group x.2
  | _ => .drop

/-- DEST_MODE and DEST of the rule (R50); under JOINED a port names its member (R462). -/
def ruleDest (k : Pkt) (s : State) : Dest :=
  let n := actDest k.action
  match actDestMode k.action with
  | 0 => if k.l2 < 64 then .port k.l2 else if k.l2 = 64 then .drop else dfltDest k.dflt
  | 1 => if n / 64 = s.host.devid ∨ !inMode mJOINED s then .port (n % 64) else .member (n / 64) (n % 64)
  | 2 => .group n
  | _ => dfltDest k.dflt

/-! Chain queues (R457, R460, R466). -/

/-- The members of the ring, ascending (R454). -/
def ringMembers (s : State) : List Nat := (List.range 4).filter (bit s.join.members)

/-- The map of homes over a list of members (R458, R467). -/
def homesOver (ms : List Nat) : List Nat := (List.range 16).map fun i => ms.getD (i % ms.length) 0

/-- Steps from one member to another by ascending ID, which is the way of LG8 (R455). -/
def stepsUp (a b : Nat) (s : State) : Nat :=
  let ms := ringMembers s
  (ms.idxOf b + ms.length - ms.idxOf a) % max 1 ms.length

def getChain (g : Nat) (s : State) : ChainGroup := tget {} s.join.group g

def setJoin (x : JoinState) (s : State) : State := { s with join := x }

def setChain (g : Nat) (x : ChainGroup) (s : State) : State := setJoin { s.join with group := tset {} s.join.group g x } s

/-- A group of a member may be used: it is not wrapped, here or by the LINKS of the member's CONTROL frames (R457, R466). -/
def usable (m g : Nat) (s : State) : Bool :=
  if m = s.host.devid then !(getChain g s).wrapped else bit (tget 3 s.join.links m) g

/-- The neighbour of a member on a group (R453). -/
def neighbour (m g : Nat) (s : State) : Nat :=
  let ms := ringMembers s
  ms.getD ((ms.idxOf m + (if g = 0 then 1 else ms.length - 1)) % max 1 ms.length) m

/-- The links of a way of `n` hops from a member are usable at both ends. -/
def wayOpen (g : Nat) : Nat → Nat → State → Bool
  | 0, _, _ => true
  | n + 1, m, s => let b := neighbour m g s; usable m g s && usable b (1 - g) s && wayOpen g n b s

/-- The chain group toward a member and whether the frame goes the longer way: the shorter way, LG8 at equal distance, the
other way round where a wrap closes that one (R460, R466). -/
def routeTo (m : Nat) (s : State) : Nat × Bool :=
  let up := stepsUp s.host.devid m s
  let down := (ringMembers s).length - up
  let g := if up ≤ down then 0 else 1
  let n := if g = 0 then up else down
  if !wayOpen g n s.host.devid s && wayOpen (1 - g) (up + down - n) s.host.devid s then (1 - g, true) else (g, false)

def fastClass (c : Nat) (s : State) : Bool := bit s.join.fastClasses c

/-- The chain header of a frame (R457); network order. -/
def chainHeader (type dst : Nat) (wrapped : Bool) (f : Frame) (s : State) : Bytes :=
  leBytes 1 (type + 8 * s.host.devid + 32 * dst + 128 * b2n wrapped) ++
  leBytes 1 (b2n (fastClass f.tc s) + 2 * b2n f.assured + 4 * (f.pkt.map fun k => actClass k.action).getD 0 +
    32 * b2n (checked f s)) ++
  beBytes 2 f.len ++ beBytes 8 f.stamp ++ beBytes 4 (if checked f s then f.pairCrc else 0)

/-- A frame linked into a chain queue of a group (R460); its cells stay charged and owned as reception. -/
def chainLink (d g : Nat) (bytes : Bytes) (s : State) : State :=
  let s := setFrame d { landed (getFrame d s) with held := false, chain := some bytes } s
  let x := getChain g s
  setChain g (if fastClass (getFrame d s).tc s then { x with fastq := x.fastq ++ [d] } else { x with normq := x.normq ++ [d] }) s

/-- A frame for another member, or the loss of one that is not present (R462, R467). -/
def chainSend (d type dst : Nat) (block : Bytes) (s : State) : State :=
  if !bit s.join.present dst then discard d (bump .CHAIN_HOME_LOST 0 s)
  else
    let (g, w) := routeTo dst s
    let s := chainLink d g (chainHeader type dst w (getFrame d s) s ++ block) s
    bump (if type = 0 then .FLOW_FWD else .RESULT_FWD) g s

/-- The block of a RESULT frame (R457): the port-class queue at its destination, and ACTION_DATA. -/
def resultBlock (q ad : Nat) : Bytes := beBytes 4 q ++ beBytes 8 ad ++ zeros 4

/-! Cut-through (R261, R262). -/

/-- The frame as a whole frame at the tail of its queue, to ask what the scheduler would do. -/
def asWhole (d : Nat) (s : State) : State := setFrame d { getFrame d s with arrived := none } s

/-- The conditions of R261 for a frame on its way to queue `q` of port `p`. -/
def canCut (d q p : Nat) (s : State) : Bool :=
  let f := offsetLaunch (getFrame d s) s
  decide (f.src < 64) && cutEn f.inPort s && classCut f.tc s && !f.launch && !f.held && !f.waited && f.pass == 0 &&
  !(f.assured && inMode mASSURED s) && decide (portGbps p s ≤ portGbps f.inPort s) &&
  ((portQueues p s).all fun x => (getQueue x s).list.isEmpty) && (tget? s.buf.inTx p).isNone && !classPaused p f.tc s &&
  !impBlocksCut p s && (tget? s.obs.imp p).all (fun u => u.held.isNone) &&
  (let s' := linkQueue d q p (asWhole d s)
   selectQueue (eligiblePaths p s') s' == some q)

/-- The frame is selected at once and its head leaves, with its mirror copy and its egress timestamps (R260, R262, R273, R306); one
that is stored whole leaves whole. -/
def startCut (d q p : Nat) (s : State) : State :=
  let n := (getFrame d s).arrived
  let s := linkQueue d q p (asWhole d s)
  let s := setFrame d { getFrame d s with cut := true } s
  let paths := eligiblePaths p s
  let path := (paths.find? fun x => x.head? == some q).getD [q]
  let f := getFrame d s
  if n.isNone then dequeue p q d path (wakeTags p paths s) else
  let s := charge p f.len path (unlinkHead q (wakeTags p paths s))
  let s := samplerDeq q f (numberFrame p (bump .SCHED_SELECT p s))
  let s := mirrorCopy p d (setFrame d { getFrame d s with arrived := n } s)
  let s := setFrame d { getFrame d s with sent := some (txStamp p s, txTime false p s, txTime true p s) } s
  bufSync (setBuf { s.buf with inTx := tput s.buf.inTx p d } s)

/-- A frame at its destination: enqueue, cut-through at the port's fast clock (R298), replication, the chain, or its end. -/
def sendTo (d tc ad : Nat) (x : Dest) (s : State) : State :=
  let s := setFrame d { getFrame d s with tc := tc } s
  match x with
  | .drop => discard d s
  | .group g => sendGroup d g s
  | .member m p => chainSend d 1 m (resultBlock (portQueue p tc) ad) s
  | .port p =>
    let q := portQueue p tc
    let now := fastClock s
    if canCut d q p now then startCut d q p now else (enqueue d q s).2.2

/-- A packet that uses no flow state: TC, DEST and METER of its rule (R75, R117). -/
def forwardRule (d : Nat) (s : State) : State :=
  let x := meterOf d none true s
  let s := countPkt d (markPkt d x (applyDebits x s))
  let k := getPkt d s
  if x.drop then discard d s else sendTo d (actTC k.action) 0 (ruleDest k s) s

/-- The admission class record (R114). -/
def admClass (c : Nat) (s : State) : Bytes := tget (zeros 4) s.flow.cls c

/-- The miss-overflow action of an admission class (R114, R117). -/
def overflow (c d : Nat) (s : State) : State :=
  let r := admClass c s
  match bits (fld r 1 1) 0 2 with
  | 1 => puntFrame d (bits (fld r 2 1) 0 6) 3 0 s
  | 2 => discard d s
  | _ => forwardRule d s

/-- MISS_OVF, then the overflow action. -/
def missOvf (c d : Nat) (s : State) : State := overflow c d (bump .MISS_OVF c s)

/-! Release of a flow's packet. -/

/-- The pass after this one (R64): a frame that would make a fifth is dropped. -/
def recirculate (d profile : Nat) (data : Bytes) (s : State) : State :=
  let f := getFrame d s
  if 3 ≤ f.pass then discard d (bump .RECIRC_LIMIT (f.inPort % 64) s)
  else
    let s := setFrame d { f with data := data, edits := [], pass := f.pass + 1 } s
    let s := editPkt d (fun k => { k with profile := profile, key := [], map := none, loc := none }) s
    let p := (getPkt d s).pipe
    setFlow { s.flow with recircq := tput s.flow.recircq p (tget [] s.flow.recircq p ++ [d]) } s

/-- An outbound packet whose destination is an external address is hairpinned (R182). -/
def isHairpin (d ad : Nat) (s : State) : Bool :=
  let f := getFrame d s
  let k := getPkt d s
  let r := svcProf k.profile s
  spDir r == 1 && spHairpin r && adSvc ad == 1 &&
    (match fromL3 (min 1 (fpKeySrc (pktProfile d s))) k.hdrs with
     | l3 :: _ => l3.type == 4 && (addrMatch (slice f.data (l3.off + 16) 4) s).isSome
     | [] => false)

/-- The traffic class of a flow's packet (R72, R168). -/
def flowTC (d ad : Nat) (s : State) : Nat :=
  if fpRuleTc (pktProfile d s) then actTC (getPkt d s).action else adTc ad

/-- The destination of a flow's packet (R72, R168). -/
def flowDest (d ad : Nat) (s : State) : Dest :=
  if !fpRuleDest (pktProfile d s) && adSvc ad == 2 then .port (backendPort (backendRec (adBackend ad) s))
  else ruleDest (getPkt d s) s

/-- A flow's packet leaves the flow stage, or its hold, under ACTION_DATA (R127, R168, R182, R187); one that a meter drops is
discarded. -/
def releaseFlow (d ad : Nat) (s : State) : State :=
  let s := countPkt d s
  let k := getPkt d s
  if k.metered then discard d s
  else if adSvc ad = 3 then discard d (bump .FLOW_BLOCKED k.pipe s)
  else if adSvc ad = 2 ∧ backendState (adBackend ad) s = 0 ∧ spLbDrop (svcProf k.profile s) then
    discard d (bump .LB_DOWN_DROP (adLbSvc ad) s)
  else
    let es := adEdits d ad s
    let b := es.foldl (fun b e => put b e.1 e.2) (getFrame d s).data
    if isHairpin d ad s then
      recirculate d (spHairProfile (svcProf k.profile s)) (withFcs b)
        (bump .XLAT_HAIRPIN (addrPool (addrEnt (adA ad) s)) s)
    else
      let w := flowDest d ad s
      let s := editPkt d (fun k => { k with ad := some ad, rerun := none }) s
      let s := setFrame d { getFrame d s with held := false } s
      match w with
      | .member _ _ =>
        -- a reverse-direction rewrite needs what only the home holds
        if inboundPkt k s || k.rev then
          sendTo d (flowTC d ad s) 0 w (setFrame d { getFrame d s with data := withFcs b } s)
        else sendTo d (flowTC d ad s) ad w s
      | _ => sendTo d (flowTC d ad s) ad w (setFrame d { getFrame d s with edits := es } s)

end Sys2Proof.Machine
end

