-- ==== Sys2Proof/Machine/Admit.lean ====
section
/-!
DEFINITION. Optimistic admission (R84, R113–R133, R156): hits, holds, the start of a miss, the undo, the outcomes.
-/
namespace Sys2Proof.Machine

/-! Log and trace helpers. -/

/-- An ADM trace record (R502). -/
def admTrace (sub l : Nat) (s : State) : State :=
  match getLog l s with
  | some u =>
    traceRec 1 sub (leBytes 1 u.pipe ++ [0] ++ leBytes 2 l ++ leBytes 4 (hotLoc u.loc) ++ leBytes 4 u.hlo ++
      leBytes 1 u.cls ++ zeros 3) s
  | none => s

/-- Packets on the hold list that are RESOLVED, and those still to be run (R123). -/
def resolvedOf (u : UndoLog) : Nat := (u.hold.filter (·.2)).length
def deferredOf (u : UndoLog) : Nat := (u.hold.filter fun x => !x.2).length + u.rerunsLeft

/-- The entry of a log, while it still is the log's (R118). -/
def logEntry (l : Nat) (s : State) : Option (Nat × HotEntry) :=
  match getLog l s with
  | some u =>
    match hotGet u.loc s with
    | some e => if imgKey e.img == (if isStd e.img then u.key else compactKey s.flow.fpSeed u.key) then some (u.loc, e) else none
    | none => none
  | none => none

/-- The log that governs the entry of a place: its UNDO while PROV is set, else one in REPLAY for the same flow (R120,
R130). -/
def logOfPlace (k : Nat) (s : State) : Option Nat :=
  match hotGet k s with
  | none => none
  | some e =>
    if imgProv e.img then some (imgUndo e.img)
    else (s.flow.log.find? fun x => x.2.st == .replay && x.2.loc == k && (logEntry x.1 s).isSome).map (·.1)

/-! Holds (R121). -/

/-- The HOLD_CELLS gauge of the packet's pipeline rises, or falls. -/
def holdGauge (d : Nat) (up : Bool) (s : State) : State :=
  let p := (getPkt d s).pipe
  let n := cellsOf (getFrame d s).len
  let g := getCtr .HOLD_CELLS p s
  setGauge .HOLD_CELLS p (if up then g + n else g - n) s

/-- A packet joins the hold list of a log. -/
def appendHold (l d : Nat) (resolved : Bool) (s : State) : State :=
  match getLog l s with
  | none => s
  | some u =>
    let s := setFrame d { getFrame d s with held := true, waited := true } (holdGauge d true s)
    setLog l { u with hold := u.hold ++ [(d, resolved)] } s

/-- The hold of a packet ends. -/
def endHold (d : Nat) (s : State) : State :=
  let s := holdGauge d false s
  setFrame d { getFrame d s with held := false } s

/-- A held packet is queued for its re-run (R128, R130). -/
def pushRerun (l : Option Nat) (d : Nat) (s : State) : State :=
  let s := editPkt d (fun k => { k with rerun := l, colours := [], metered := false, loc := none }) s
  let p := (getPkt d s).pipe
  bump .ADM_RERUN p (setFlow { s.flow with rerunq := tput s.flow.rerunq p (tget [] s.flow.rerunq p ++ [d]) } s)

/-- A packet that would be DEFERRED: it is appended, or at 65,535 takes the overflow action of the entry's class (R120). -/
def deferPkt (l d : Nat) (s : State) : State :=
  match getLog l s with
  | none => s
  | some u =>
    if 65535 ≤ deferredOf u then missOvf u.cls d s
    else appendHold l d false (bump .ADM_DEFER (getPkt d s).pipe s)

/-- A packet that reaches an entry behind re-runs of its flow is deferred and re-run in turn (R127, R130). -/
def deferReplay (l d : Nat) (s : State) : State :=
  match getLog l s with
  | none => s
  | some u =>
    if 65535 ≤ deferredOf u then missOvf u.cls d s
    else
      let s := bump .ADM_DEFER (getPkt d s).pipe (setLog l { u with rerunsLeft := u.rerunsLeft + 1 } s)
      pushRerun (some l) d (setFrame d { getFrame d s with held := true, waited := true } (holdGauge d true s))

/-! The update of a hit (R84, R196). -/

/-- The TCP flags of a packet in the image's flags-seen fields (R84). -/
def orFlags (fl : Nat) (rev : Bool) (img : Bytes) : Bytes :=
  if isStd img then
    let o := if rev then 77 else 76
    putF img o 1 (fld img o 1 ||| fl)
  else if bit fl 0 then putF img 47 1 (fld img 47 1 ||| (if rev then 32 else 16))
  else img

/-- An image after a packet of `len` bytes (R84), with METER_STATE as the meter stage leaves it. -/
def hitImage (k : Pkt) (len meter now : Nat) (img : Bytes) : Bytes :=
  let img := putF img (offPKTS img) 5 ((fld img (offPKTS img) 5 + 1) % 2 ^ 40)
  let img := putF img (offBYTES img) 6 ((fld img (offBYTES img) 6 + len) % 2 ^ 48)
  let img := putF img (offLAST img) 4 now
  let img := match k.tcp with
    | some fl => orFlags fl k.rev img
    | none => img
  let img := setCtrl (putBits (imgCtrl img) 8 8 k.profile) img
  ctrlBit 3 true (setMeter meter img)

/-- Wraps of PKTS and BYTES that the packet causes (R196). -/
def hitWraps (len : Nat) (e : HotEntry) : Nat × Nat :=
  (e.wraps.1 + b2n (decide (2 ^ 40 ≤ fld e.img (offPKTS e.img) 5 + 1)),
   e.wraps.2 + b2n (decide (2 ^ 48 ≤ fld e.img (offBYTES e.img) 6 + len)))

/-- What the meters say of a packet at its entry (R189). -/
def meterAt (d : Nat) (e : HotEntry) (s : State) : MeterRes :=
  meterOf d (some (imgMeter e.img, imgLast e.img)) (fpRuleMeter (pktProfile d s)) s

/-- The packet updates the entry, and its debits are made (R84, R189). -/
def updateEntry (d k : Nat) (e : HotEntry) (x : MeterRes) (s : State) : State :=
  let len := (getFrame d s).len
  let img := hitImage (getPkt d s) len x.flowState (msNow s) e.img
  let s := touch k (hotPut k { e with img := img, wraps := hitWraps len e } (applyDebits x s))
  let s := editPkt d (fun p => { p with loc := if isStd e.img then some (k, e.serial) else none }) (markPkt d x s)
  setFrame d { getFrame d s with flowref := hotLoc k } s

/-- Packet information (R147). -/
def pktInfo (d : Nat) (s : State) : Nat :=
  let f := getFrame d s
  let k := getPkt d s
  f.inPort % 64 + actTC k.action * 2 ^ 6 + (k.tcp.getD 0) * 2 ^ 10 + b2n k.rev * 2 ^ 18 + (f.len % 16384) * 2 ^ 20

/-- The key of a packet as an image of its format begins (R147). -/
def keyImage (k : Pkt) (std : Bool) (s : State) : Bytes := fit 128 (if std then k.key else compactKey s.flow.fpSeed k.key)

/-- TCP tracking is triggered (R156). -/
def tcpTrigger (d : Nat) (e : HotEntry) (s : State) : Bool :=
  let k := getPkt d s
  let st := imgTcp e.img
  !imgProv e.img && fpTcpTpl (pktProfile d s) != 0 &&
    (match k.tcp with
     | some fl => bit fl 0 || bit fl 1 || bit fl 2 || st == 1 || st == 2 || st == 5
     | none => false)

/-- The tracking instance of a packet, or TCP_SKIP where no context is free or its level is in back-pressure (R134, R152,
R156). -/
def startTracking (d k : Nat) (e : HotEntry) (s : State) : State :=
  if !tcpTrigger d e s then s
  else
    let f := getFrame d s
    let p := getPkt d s
    let t := fpTcpTpl (pktProfile d s)
    let r := tplRec f.bank t s
    if ctxFree 4 s = 0 ∨ inBp (tplPrio r) s then bump .TCP_SKIP 0 s
    else
      let v : List Nat := [p.hlo, 0, 0, 0, hotLoc k, pktInfo d s] ++ List.replicate 6 0
      (startInst { tpl := t, bank := f.bank, kind := 4, level := tplPrio r, profile := p.profile, v := v,
                   img := keyImage p (isStd e.img) s, first := (p.tcp, p.rev), compact := !isStd e.img, loc := k } s).2

/-- A hit on an entry that is not provisional: update, tracking, release (R84, R156). -/
def normalHit (d k : Nat) (s : State) : State :=
  match hotGet k s with
  | none => s
  | some e =>
    let x := meterAt d e s
    let s := startTracking d k e (updateEntry d k e x s)
    releaseFlow d (imgAd e.img) s

/-! Hits on provisional entries (R120, R125). -/

/-- The log with the debits of a packet entered; none where an entry is wanting (R125). -/
def logDebits (x : MeterRes) (u : UndoLog) : Option UndoLog :=
  x.debits.foldl (fun a m =>
    match a with
    | some u => (claimEnt { kind := 1, obj := m.1, amt := m.2.1 + m.2.2 * 2 ^ 32 } u).map (·.2)
    | none => none) (some u)

/-- The debits entered as far as entries last, and how many are lost (R125). -/
def logSome (x : MeterRes) (u : UndoLog) : UndoLog × Nat :=
  x.debits.foldl (fun (a : UndoLog × Nat) m =>
    match claimEnt { kind := 1, obj := m.1, amt := m.2.1 + m.2.2 * 2 ^ 32 } a.1 with
    | some (_, u) => (u, a.2)
    | none => (a.1, a.2 + 1)) (u, 0)

/-- A packet at an entry in PENDING: RESOLVED while the list, MAX_HELD and the log allow, else DEFERRED (R120). -/
def hitPending (l d k : Nat) (u : UndoLog) (e : HotEntry) (s : State) : State :=
  let x := meterAt d e s
  match (if deferredOf u = 0 ∧ resolvedOf u < u.maxHeld then logDebits x u else none) with
  | none => deferPkt l d s
  | some u =>
    appendHold l d true (updateEntry d k e x (setLog l u s))

/-- A packet at an entry in EXPIRED_FWD: resolved and enqueued at once (R120, R125). -/
def hitExpired (l d k : Nat) (u : UndoLog) (e : HotEntry) (s : State) : State :=
  let x := meterAt d e s
  let (u, lost) := logSome x u
  releaseFlow d (imgAd e.img) (addCtr .UNDO_LOST 0 lost (updateEntry d k e x (setLog l u s)))

/-- A packet at an entry that a log governs (R120). -/
def hitLogged (l d k : Nat) (s : State) : State :=
  match getLog l s, hotGet k s with
  | some u, some e =>
    match u.st with
    | .pending => hitPending l d k u e s
    | .expFwd => if u.rerunsLeft = 0 ∨ (getPkt d s).rerun = some l then hitExpired l d k u e s else deferReplay l d s
    | .expDrop => discard d (bump .HOLD_EXP_PKTS u.cls s)
    | .undoing => if u.rerunsLeft = 0 ∨ (getPkt d s).rerun = some l then deferPkt l d s else deferReplay l d s
    | .replay => if (getPkt d s).rerun = some l then normalHit d k s else deferReplay l d s
  | _, _ => normalHit d k s

/-- A packet that hits (R84, R120). -/
def flowHit (d k : Nat) (s : State) : State :=
  match logOfPlace k s with
  | some l => hitLogged l d k s
  | none => normalHit d k s

/-! The start of a miss (R115, R118). -/

/-- The image of a provisional entry (R79–R81, R118). -/
def newImage (d l : Nat) (s : State) : Bytes :=
  let f := getFrame d s
  let k := getPkt d s
  let ctrl := 1 + 2 * b2n (!k.std) + 4 + 8 + 64 * b2n f.assured + 128 * b2n (fpSym (pktProfile d s)) + 256 * k.profile +
    65536 * l
  let now := leBytes 4 (msNow s)
  if k.std then fit 48 k.key ++ leBytes 4 ctrl ++ leBytes 4 (2 ^ 31) ++ now ++ now ++ zeros 64
  else compactKey s.flow.fpSeed k.key ++ leBytes 4 ctrl ++ leBytes 4 (2 ^ 31) ++ now ++ zeros 28

/-- The hot set of a packet's flow (R77). -/
def pktSet (d : Nat) (s : State) : Nat := hotSetOf (getPkt d s).hlo

/-- Where the miss of a packet can be placed now: a free log, a context, and a place (R115, R134, R152). The quiesce of a warm
reset starts none (R445). -/
def missPlace (d : Nat) (s : State) : Option (Nat × List Nat) :=
  let f := getFrame d s
  let t := fpNewTpl (pktProfile d s)
  if 65536 ≤ s.flow.log.length ∨ s.pwr.warm ≠ .none then none
  else
    match placeFor f.bank (getPkt d s).std (pktSet d s) s with
    | none => none
    | some x =>
      if t = 0 then some x
      else
        let s' := forEach x.2 (evict f.bank) s
        if 0 < ctxFree 1 s' ∧ !inBp (tplPrio (tplRec f.bank t s)) s then some x else none

/-- The hold deadline of a miss that starts now (R118, R123). -/
def holdDeadline (d : Nat) (s : State) : Nat := ((getPkt d s).reachedA + fpHold (pktProfile d s)) % 1000000000

/-- The packet is an ICMP echo whose identifier is its key's AUX (R169). -/
def pktEcho (d : Nat) (s : State) : Bool :=
  let k := getPkt d s
  let src := fpKeySrc (pktProfile d s)
  decide (src < 2) && isEcho (getFrame d s).data (keyL4 ((fromL3 src k.hdrs).drop 1)) (fld k.key 44 4)

/-- The log of a miss (R118, R123). -/
def newLog (d k : Nat) (s : State) : UndoLog :=
  let f := getFrame d s
  let p := getPkt d s
  let r := pktProfile d s
  { cls := fpClass r, specDone := fpNewTpl r == 0, pipe := p.pipe, deadline := holdDeadline d s, loc := k,
    maxHeld := fpMaxHeld r, bank := f.bank, profile := p.profile, key := p.key, std := p.std, hlo := p.hlo, hhi := p.hhi,
    sub := p.sub, assured := f.assured, inbound := p.map, echo := pktEcho d s }

/-- The new-flow graph of a log is dispatched (R118, R147). -/
def startAdmission (d l k : Nat) (s : State) : State :=
  let f := getFrame d s
  let p := getPkt d s
  let t := fpNewTpl (pktProfile d s)
  if t = 0 then s
  else
    let r := tplRec f.bank t s
    let v : List Nat := [p.hlo, fld p.key 1 3, p.service, p.action, hotLoc k, pktInfo d s] ++ List.replicate 6 0
    let (c, s) := startInst { tpl := t, bank := f.bank, kind := 1, level := tplPrio r, profile := p.profile, v := v,
                              img := keyImage p p.std s, first := (p.tcp, p.rev), compact := !p.std, loc := k,
                              log := some l } s
    match getLog l s with
    | some u => setLog l { u with ctx := some c } s
    | none => s

/-- The lookup of a log asks for the line of a bucket: a cached one is taken as it is, and another is read from HBM unless it finds
the bucket cache full (R91, R92). -/
def askLine (l : Nat) (r1 : Bool) (bucket : Nat) (s : State) : State :=
  let k := bucketKey r1 bucket
  match getLog l s with
  | none => s
  | some u =>
    let held := setLog l { u with lines := u.lines ++ [k] } s
    if u.lines.contains k then s
    else if (tget? s.flow.bucket k).isSome then held
    else if bucketFull k s then s
    else spanReq 0 false (lineAddr r1 bucket) 64 (cacheLine k none held)

/-- The place of a log's flow in the index. -/
def logPlace (u : UndoLog) (s : State) : IdxPlace := placeOfKey (compactKey s.flow.fpSeed u.key) s

/-- The bulk lookup of a log is issued (R91, R118). -/
def askHome (l : Nat) (s : State) : State :=
  match getLog l s with
  | some u => let p := logPlace u s; askLine l p.r1 p.bucket s
  | none => s

/-- A miss starts: entry, log, bulk lookup, graph, and the creating packet's own hit (R118).
The log is the lowest-numbered free one (DESIGN CHOICE, log 36). -/
def startMiss (d : Nat) (x : Nat × List Nat) (s : State) : State :=
  let l := firstGap 0 s.flow.log
  let s := placeAt (getFrame d s).bank x { img := newImage d l s } s
  let s := startAdmission d l x.1 (askHome l (setLog l (newLog d x.1 s) s))
  hitLogged l d x.1 (admTrace 0 l (bump .ADM_START (getPkt d s).pipe s))

/-! Admission queues (R116, R117). -/

def admQueue (p : Nat) (s : State) : List Nat := tget [] s.flow.admq p

def setAdmQueue (p : Nat) (l : List Nat) (s : State) : State := setFlow { s.flow with admq := tset [] s.flow.admq p l } s

/-- A miss that cannot start waits, or takes the ways out of a full queue (R116, R117). -/
def queueMiss (d : Nat) (s : State) : State :=
  let k := getPkt d s
  let q := admQueue k.pipe s
  let s := if (findPlace k.std (pktSet d s) s).isNone then bump .HOT_SET_FULL k.pipe s else s
  if q.length < 4096 then setAdmQueue k.pipe (q ++ [d]) (editPkt d (fun k => { k with entryBad := false }) s)
  else if q.any fun x => (getPkt x s).hlo == k.hlo then discard d (bump .ADM_OVF_ORDER k.pipe s)
  else missOvf (fpClass (pktProfile d s)) d s

/-- A packet that misses (R115, R116). -/
def flowMiss (d : Nat) (s : State) : State :=
  match (if (admQueue (getPkt d s).pipe s).isEmpty then missPlace d s else none) with
  | some x => startMiss d x s
  | none => queueMiss d s

/-- The compact key of a packet (R76). -/
def pktCk (d : Nat) (s : State) : Bytes := compactKey s.flow.fpSeed (getPkt d s).key

/-- The place of a packet's flow, if it is hot. -/
def pktPlace (d : Nat) (s : State) : Option Nat := hotPlace (getPkt d s).key (pktCk d s) s

/-- ADMISSION_QUEUE_START: the head repeats its lookup and hits, or starts if it can (R115, R116). -/
def execAdmissionQueueStart (pl : Nat) (s : State) : Host.Outcome State Fault Refusal :=
  .next (match admQueue pl s with
    | [] => s
    | d :: rest =>
      let s := setsCheck (pktCk d s) s
      match pktPlace d s with
      | some k => bufSync (flowHit d k (setAdmQueue pl rest s))
      | none =>
        match missPlace d s with
        | some x => bufSync (startMiss d x (setAdmQueue pl rest s))
        | none => s)

/-- A packet has waited the hold limit of its profile since it first reached the flow stage in this pass (R117, R179). -/
def waitedHold (d : Nat) (s : State) : Bool :=
  decide (fpHold (pktProfile d s) ≤ s.time.free - (getPkt d s).reached)

/-- ADM_QWAIT_EXP, then the overflow action of the packet's class (R117, R179). -/
def waitExpired (d : Nat) (s : State) : State :=
  let c := fpClass (pktProfile d s)
  overflow c d (bump .ADM_QWAIT_EXP c s)

/-- ADMISSION_QUEUE_WAIT_EXPIRY (R117). -/
def execAdmissionQueueWaitExpiry (pl index : Nat) (s : State) : Host.Outcome State Fault Refusal :=
  .next (match (admQueue pl s)[index]? with
    | some d => if waitedHold d s then bufSync (waitExpired d (setAdmQueue pl ((admQueue pl s).eraseIdx index) s)) else s
    | none => s)

/-! REPLAY (R128, R130). -/

/-- REPLAY ends when no re-run is left: PROV clears and the log is released (R119, R130). -/
def endReplay (l : Nat) (s : State) : State :=
  match getLog l s with
  | none => s
  | some u =>
    if u.st ≠ .replay ∨ u.rerunsLeft ≠ 0 ∨ !u.hold.isEmpty then s
    else
      let s := match logEntry l s with
        | some (k, e) =>
          if imgProv e.img ∧ imgUndo e.img = l then
            setFlow { s.flow with hot := tput s.flow.hot k
                                    { e with img := setCtrl (putBits (putBits (imgCtrl e.img) 2 1 0) 16 16 0) e.img } } s
          else s
        | none => s
      setFlow { s.flow with log := tdel s.flow.log l } s

/-- The packets of a hold list queued for their re-run, in order, ahead of later packets of the flow that wait for theirs
already (R127). -/
def pushReruns (l : Nat) (ds : List Nat) (s : State) : State :=
  forEach ds (fun d s =>
    let p := (getPkt d s).pipe
    let q := tget [] s.flow.rerunq p
    let i := q.findIdx fun x => (getPkt x s).rerun == some l && !ds.contains x
    let s := pushRerun (some l) d s
    setFlow { s.flow with rerunq := tput s.flow.rerunq p (q.take i ++ d :: q.drop i) } s) s

/-- The hold list of a log becomes its re-runs, and the log passes to REPLAY (R128, R130). -/
def toReplay (l : Nat) (s : State) : State :=
  match getLog l s with
  | none => s
  | some u =>
    let ds := u.hold.map (·.1)
    let s := setLog l { u with st := .replay, hold := [], rerunsLeft := u.rerunsLeft + ds.length, rerunsRes := resolvedOf u,
                               phase := .done } s
    endReplay l (pushReruns l ds s)

/-- The re-run of a packet has reached the flow stage, or ended before it: the pending count falls (R128). -/
def rerunDone (l : Nat) (s : State) : State :=
  match getLog l s with
  | none => s
  | some u =>
    endReplay l (setLog l { u with rerunsLeft := u.rerunsLeft - 1, rerunsDone := u.rerunsDone + b2n (u.st == .replay) } s)

/-- The packets of the re-run queues that wait for the re-run of a log. -/
def rerunsOf (l : Nat) (s : State) : List Nat :=
  (s.flow.rerunq.map (·.2)).flatten.filter fun d => (getPkt d s).rerun == some l

/-- Packets taken out of the re-run queues. -/
def leaveReruns (ds : List Nat) (s : State) : State :=
  setFlow { s.flow with rerunq := (s.flow.rerunq.map fun q => (q.1, q.2.filter fun d => !ds.contains d)).filter fun q => q.2 != [] } s

/-! Undo (R126). -/

/-- One undo entry of a flow applied. -/
def applyEnt (ck : Bytes) (e : UndoEnt) (s : State) : State :=
  let s := match e.kind with
    | 1 => creditMeter e.obj (e.amt % 2 ^ 32) (e.amt / 2 ^ 32) s
    | 2 => portReturn (e.obj % 8388608) (e.obj / 8388608) (e.amt % 65536) s
    | 3 => lbRelease (e.obj / 4096 % 65536) (e.amt % 65536) ck s
    | 4 => accAdd e.obj (-((e.amt % 2 ^ 24 : Nat) : Int)) (-((e.amt / 2 ^ 24 : Nat) : Int)) s
    | _ => s
  bump .UNDO_APPLIED 0 s

/-- The entries in descending SEQ; the admission context is released (R126).  Those of a log that is uncorrectable cannot be read, and
are not applied (DESIGN CHOICE, log 84). -/
def applyUndo (l : Nat) (s : State) : State :=
  match getLog l s with
  | none => s
  | some u =>
    let s := forEach (if 2 ≤ symCount u.bad then [] else u.ents.reverse) (applyEnt (compactKey s.flow.fpSeed u.key)) (setLog l { u with ents := [], ctx := none } s)
    match u.ctx with
    | some c => cancelInst c s
    | none => s

/-- The provisional ways invalidated. -/
def dropEntry (l : Nat) (s : State) : State :=
  match logEntry l s with
  | some (k, e) => if imgProv e.img ∧ imgUndo e.img = l then hotDel k s else s
  | none => s

/-- Every held packet dropped, those that wait for their re-run included (R129, R133). -/
def dropHeld (l : Nat) (s : State) : State :=
  match getLog l s with
  | none => s
  | some u =>
    let ds := rerunsOf l s
    forEach (u.hold.map (·.1) ++ ds) (fun d s => discard d (endHold d s))
      (leaveReruns ds (setLog l { u with hold := [], rerunsLeft := 0 } s))

/-- The log is FREE; an operation that its lookup still has on a bucket ends (R92). -/
def releaseLog (l : Nat) (s : State) : State := leaveBuckets (setFlow { s.flow with log := tdel s.flow.log l } s)

/-- The record that a squash loads, as a hot image: PROV until REPLAY ends; UNCONF after a forward expiry (R128, R132). -/
def loadImage (l : Nat) (why : UndoWhy) (img : Bytes) : Bytes :=
  let c := imgCtrl img
  let c := putBits (putBits c 2 3 5) 16 16 l
  setCtrl (if why = .conflict then c ||| 32 ||| 8 else c) img

/-- The record loaded in a place, and REPLAY (R128). -/
def loadAt (l : Nat) (u : UndoLog) (x : Nat × List Nat) (img : Bytes) (w : Nat × Nat) (s : State) : State :=
  let s := placeAt s.ep.activeNo x { img := loadImage l u.why img, wraps := w } s
  let s := setFlow { s.flow with wraps := tdel s.flow.wraps (imgSlot img) } s
  toReplay l (setLog l { u with loc := x.1, load := none, waitPlace := false } s)

/-- The record of a squash placed: in the provisional ways when it has their format, else under R86 with them counted as
empty; without a place the log waits (R128). -/
def placeRecord (l : Nat) (s : State) : State :=
  match getLog l s with
  | none => s
  | some u =>
    match u.load with
    | none => toReplay l s
    | some (img, w) =>
      let s' := dropEntry l s
      match (if isStd img = u.std then some (u.loc, []) else placeFor s.ep.activeNo (isStd img) (hotSetOf u.hlo) s') with
      | some x => loadAt l u x img w s'
      | none =>
        if u.waitPlace then s
        else bump .HOT_SET_FULL u.pipe (setLog l { u with waitPlace := true } s)

/-- SQUASH_RECORD_PLACE (R128). -/
def execSquashRecordPlace (l : Nat) (s : State) : Host.Outcome State Fault Refusal :=
  .next (match getLog l s with
    | some u => if u.st = .undoing ∧ u.waitPlace then bufSync (placeRecord l s) else s
    | none => s)

/-- The index line of a refused flow is written unchanged (R129). -/
def rewriteLine (u : UndoLog) (s : State) : State :=
  let p := placeOfKey (compactKey s.flow.fpSeed u.key) s
  writeLine 0 p.r1 p.bucket (lineNow p.r1 p.bucket s) s

/-- What follows the undo (R119, R128, R129, R132, R133, R180, R103). -/
def undoEnd (l : Nat) (u : UndoLog) (s : State) : State :=
  let n := ((getLog l s).map fun v => v.hold.length + v.rerunsLeft).getD 0
  match u.why with
  | .squash => placeRecord l (admTrace 2 l (bump .ADM_SQUASH u.pipe s))
  | .conflict => placeRecord l (admTrace 2 l s)
  | .reject =>
    let s := addCtr .ADM_REJECT_PKTS u.cls n (admTrace 3 l s)
    releaseLog l (dropHeld l (dropEntry l (rewriteLine u s)))
  | .filtered =>
    let s := addCtr .ADM_REJECT_PKTS u.cls n (admTrace 3 l s)
    let s := match u.inbound with
      | some m => addCtr .XLAT_FILTERED (addrPool (addrEnt (m / 65536) s)) n s
      | none => s
    releaseLog l (dropHeld l (dropEntry l (rewriteLine u s)))
  | .abandon =>
    let s := addCtr .ADM_ABANDON_PKTS 0 n (bump .ADM_ABANDON 0 (admTrace 6 l s))
    raise 32 l 0 (releaseLog l (dropHeld l (dropEntry l s)))
  | .warm => releaseLog l (dropHeld l (dropEntry l s))
  | .hotUe =>
    match getLog l s with
    | some v =>
      let s := forEach (rerunsOf l s) (fun d s => editPkt d (fun k => { k with rerun := none }) s) s
      forEach (v.hold.map (·.1)) (pushRerun none) (releaseLog l s)
    | none => s

/-- A port that the undo returns finds the port cache full of pinned subscribers, and waits (R166). -/
def undoWaits (u : UndoLog) (s : State) : Bool :=
  u.ents.any fun e => e.kind == 2 && mustWait .port (e.obj % 8388608) s

/-- UNDO_APPLY: every claimed entry is filled and the log is undone (R126, R145). -/
def execUndoApply (l : Nat) (s : State) : Host.Outcome State Fault Refusal :=
  .next (match getLog l s with
    | some u =>
      if u.st = .undoing ∧ !u.waitPlace ∧ (u.ents.all fun e => e.filled) ∧ !undoWaits u s then bufSync (undoEnd l u (applyUndo l s)) else s
    | none => s)

/-! The bulk answer (R91–R93, R119). -/

/-- The log still waits for its bulk side. -/
def awaits (u : UndoLog) : Bool := u.st == .pending || u.st == .expFwd || u.st == .expDrop

def setBulk (l : Nat) (p : BulkPhase) (s : State) : State :=
  match getLog l s with
  | some u => setLog l { u with phase := p } s
  | none => s

/-- The operation of a log's lookup on its buckets ends (R92). -/
def endLookup (l : Nat) (s : State) : State :=
  match getLog l s with
  | some u => leaveBuckets (setLog l { u with lines := [] } s)
  | none => s

/-- The record slot popped and entered in the index (R93); NOSLOT where the ring or both lines are full.  DESIGN CHOICE (log 35):
where both lines are full, the slot that has been popped goes back to the tail of its ring. -/
def claimSlot (l : Nat) (u : UndoLog) (s : State) : State :=
  let p := logPlace u s
  let full (s : State) : State := raise 28 p.bucket 0 (bump .BULK_FULL 0 s)
  let (slot, s) : Option Nat × State :=
    match popSlot u.std s with
    | (none, s) => (none, full s)
    | (some n, s) =>
      match index 0 p n u.std s with
      | (true, s) => (some n, s)
      | (false, s) => (none, full (freeSlot n u.std s))
  endLookup l (setLog l { ((getLog l s).getD u) with slot := slot, phase := .claimed } s)

/-- The slot is claimed and the CONFIRM event arrives (R93, R144). -/
def claim (l : Nat) (s : State) : State :=
  match getLog l s with
  | none => s
  | some u =>
    let s := claimSlot l u s
    match u.ctx with
    | some c =>
      match getCtx c s with
      | some x => readyNodes c (setCtx c { x with event := true } s)
      | none => s
    | none => s

/-- The record is absent: inbound filtering, then the subscriber context, then the claim (R93, R119, R180). -/
def recAbsent (l : Nat) (s : State) : State :=
  match getLog l s with
  | none => s
  | some u =>
    let s := setLog l { u with answered := true } s
    let apdf := match u.inbound with
      | some m => xpApdf (xpoolDesc (addrPool (addrEnt (m / 65536) s)) s)
      | none => false
    if apdf then beginUndo l .filtered s
    else
      match u.sub with
      | some sub => askCtx 0 sub (setBulk l .subctx s)
      | none => claim l s

/-- The record is present (R119, R128, R132).  DEDUCED (log 63): F033 and ADM_EXP_CONFLICT report one found after a drop expiry as
well, as the text of R132 has it; its table names the forward expiry alone. -/
def recPresent (l n : Nat) (img : Bytes) (s : State) : State :=
  match getLog l s with
  | none => s
  | some u =>
    let s := endLookup l (setLog l { u with answered := true, phase := .done, load := some (img, tget (0, 0) s.flow.wraps n) } s)
    if u.st = .pending then beginUndo l .squash s
    else beginUndo l .conflict (raise 33 l 0 (bump .ADM_EXP_CONFLICT 0 s))

/-- The line gave no record: the partner is read where the home line overflowed, else the record is absent (R91). -/
def lineDone (l : Nat) (partner : Bool) (p : IdxPlace) (s : State) : State :=
  if !partner && lineOvf (lineNow p.r1 p.bucket s) != 0 then
    askLine l p.r1 p.partner (setBulk l (.index true) (bump .BULK_OVF_READ 0 s))
  else recAbsent l s

/-- The line of a bucket cannot be taken now: a visit holds the bucket, or the line is still being read (R92). -/
def lineWaits (r1 : Bool) (bucket : Nat) (s : State) : Bool :=
  let k := bucketKey r1 bucket
  workHolds k s || (tget? s.flow.bucket k == some none && readOut 0 (lineAddr r1 bucket / 64) s)

/-- The confirmation of a log would need the line of its partner bucket, which a visit holds (R92). -/
def claimWaits (p : IdxPlace) (s : State) : Bool :=
  workHolds (bucketKey p.r1 p.partner) s && decide (10 ≤ lineCount (lineNow p.r1 p.bucket s))

/-- The first of the matches left is asked for (R91). -/
def askMatch (l : Nat) (s : State) : State :=
  match getLog l s with
  | some u =>
    match u.phase with
    | .record _ ((n, pair, _) :: _) => askRead 0 n pair s
    | _ => s
  | none => s

/-- BULK_INDEX_RETURN (R91): a lookup that found the bucket cache full, or whose place has moved, asks again (R92). -/
def execBulkIndexReturn (l : Nat) (s : State) : Host.Outcome State Fault Refusal :=
  .next (match getLog l s with
    | some u =>
      match u.phase with
      | .index partner =>
        let p := logPlace u s
        let bucket := if partner then p.partner else p.bucket
        if !awaits u then s
        else if !u.lines.contains (bucketKey p.r1 bucket) then askLine l p.r1 bucket s
        else if lineWaits p.r1 bucket s || claimWaits p s then s
        else
          let (b, s) := readLine 0 p.r1 bucket s
          match lineMatches (fp16Of p.hlo) b with
          | [] => lineDone l partner p s
          | ms => askMatch l (setBulk l (.record partner ms) s)
      | _ => s
    | none => s)

/-- BULK_RECORD_RETURN: the record of the first match left has returned and is judged (R91). -/
def execBulkRecordReturn (l : Nat) (s : State) : Host.Outcome State Fault Refusal :=
  .next (match getLog l s with
    | some u =>
      match u.phase with
      | .record partner ((n, pair, _) :: rest) =>
        if !awaits u || spanOut 0 (recAddr n) (recSize pair) s || claimWaits (logPlace u s) s then s
        else
          let ck := compactKey s.flow.fpSeed u.key
          let p := logPlace u s
          let (b, s) := recordResult n pair s
          match recJudge n u.key ck b, b with
          | .found, some img => recPresent l n img s
          | res, _ =>
            let s := leaveBuckets (falseMatch 0 p n res s)
            match rest with
            | [] => lineDone l partner p s
            | _ => askMatch l (setBulk l (.record partner rest) s)
      | _ => s
    | none => s)

/-- The new-flow limit of a subscriber (R191), which NF_BLOCK makes a refusal (R209): whether the flow passes, and line 0 after the
check. -/
def nfCheck (b : Bytes) (now : Nat) : Bool × Bytes :=
  let rate := fld b 8 2
  let tokens := min (fld b 10 2 * 1000) (fld b 0 4 + idleMs now (fld b 4 4) * rate)
  let pass := (rate == 0 || decide (1000 ≤ tokens)) && !bit (fld b 16 4) 0
  let left := if !pass then tokens else if rate = 0 then fld b 0 4 else tokens - 1000
  (pass, putF (putF b 0 4 left) 4 4 now)

/-- SUBSCRIBER_CONTEXT_RETURN: the limit and NF_BLOCK are checked; the flow is refused, or its slot claimed (R93, R191,
R209, R211). -/
def execSubscriberContextReturn (l : Nat) (s : State) : Host.Outcome State Fault Refusal :=
  .next (match getLog l s with
    | some u =>
      match u.phase, u.sub with
      | .subctx, some sub =>
        let a := subCtxAddr sub
        if !awaits u || spanOut 0 a 64 s || claimWaits (logPlace u s) s || mustWait .ctx sub s then s
        else
          let s := takeCtx sub (subCtxMend sub s)
          let (pass, b) := nfCheck (cachePeek a 64 s) (msNow s)
          if pass then
            let b := putF (putF b 20 8 ((fld b 20 8 + 1) % 2 ^ 64)) 28 4 (msNow s)
            claim l (svcStore a b s)
          else
            let b := putF b 12 4 (min 0xFFFFFFFF (fld b 12 4 + 1))
            beginUndo l .reject (svcStore a b s)
      | _, _ => s
    | none => s)

/-! Confirm (R127, R130, R132). -/

/-- Every GATE node of the instance has completed (R127, R144). -/
def gatesDone (u : UndoLog) (s : State) : Bool :=
  match u.ctx.bind fun c => getCtx c s with
  | some x => let g := nodeMask (tplRec x.bank x.tpl s) nodeGate; g &&& x.doneM == g
  | none => true

/-- The entry of a confirmed flow: SLOT written, PROV clear; with a migration its body is written at once (R105, R127). -/
def confirmEntry (l : Nat) (u : UndoLog) (s : State) : State :=
  match logEntry l s with
  | none => s
  | some (k, e) =>
    let img := setCtrl (putBits (putBits (imgCtrl e.img) 2 1 0) 16 16 0) e.img
    match u.slot with
    | none => setFlow { s.flow with hot := tput s.flow.hot k { e with img := img } } s
    | some n =>
      let img := setSlotWord n img
      if s.flow.mig.isNone then setFlow { s.flow with hot := tput s.flow.hot k { e with img := img } } s
      else
        let s := hbmWrite 9 (recAddr n) (storedImage img) s
        let img := ctrlBit 4 true (ctrlBit 3 false img)
        setFlow { s.flow with hot := tput s.flow.hot k { e with img := img } } s

/-- The log leaves its instance, whose remaining commit nodes run (R127). -/
def freeInst (u : UndoLog) (s : State) : State :=
  match u.ctx with
  | none => s
  | some c =>
    match getCtx c s with
    | some x => readyNodes c (setCtx c { x with log := none } s)
    | none => s

/-- The RESOLVED packets spliced in list order, each under the entry's ACTION_DATA (R127, R131). -/
def splice (l ad : Nat) (s : State) : State :=
  match getLog l s with
  | none => s
  | some u =>
    let s := setLog l { u with hold := u.hold.filter fun x => !x.2 } s
    forEach ((u.hold.filter (·.2)).map (·.1)) (fun d s => releaseFlow d ad (endHold d s)) s

/-- The flow of a log is confirmed (R127). -/
def confirm (l : Nat) (u : UndoLog) (s : State) : State :=
  let ad := ((logEntry l s).map fun x => imgAd x.2.img).getD 0
  let s := liveFlow (compactKey s.flow.fpSeed u.key) ad s
  let s := admTrace 1 l (bump .ADM_CONFIRM u.pipe (confirmEntry l u s))
  let s := freeInst u (setLog l { u with ents := [], ctx := none } s)
  toReplay l (splice l ad s)

/-- The index write of a confirmation has been accepted by the HBM controller (R127). -/
def indexAccepted (u : UndoLog) (s : State) : Bool :=
  let p := logPlace u s
  u.slot.isNone || [p.bucket, p.partner].all fun b => !writeOut 0 (lineAddr p.r1 b / 64) s

/-- CONFIRM (R127). -/
def execConfirm (l : Nat) (s : State) : Host.Outcome State Fault Refusal :=
  .next (match getLog l s with
    | some u =>
      if awaits u ∧ u.phase = .claimed ∧ u.specDone ∧ indexAccepted u s ∧ gatesDone u s then bufSync (confirm l u s) else s
    | none => s)

/-! Hold expiry (R131). -/

/-- The deadline of a log has come. -/
def deadlineReached (u : UndoLog) (s : State) : Bool :=
  decide ((nsecOf (activeTime s) + 1000000000 - u.deadline % 1000000000) % 1000000000 < 500000000)

/-- Packets deferred at a forward expiry are re-run under the same state: the log keeps EXPIRED_FWD, and later packets of the flow
stay behind them (R127, R131). -/
def rerunDeferred (l : Nat) (s : State) : State :=
  match getLog l s with
  | none => s
  | some u =>
    forEach (u.hold.map (·.1)) (pushRerun (some l)) (setLog l { u with hold := [], rerunsLeft := u.rerunsLeft + u.hold.length } s)

/-- HOLD_DEADLINE_EXPIRY (R119, R131). -/
def execHoldDeadlineExpiry (l : Nat) (s : State) : Host.Outcome State Fault Refusal :=
  .next (match getLog l s with
    | some u =>
      let now := fastClock s
      if u.st ≠ .pending ∨ u.answered ∨ !deadlineReached u now then s
      else
        let s := now
        let s := addCtr .HOLD_EXP_PKTS u.cls u.hold.length (bump .HOLD_EXP_FLOWS u.cls s)
        let drop := bit (fld (admClass u.cls s) 0 1) 0 || !u.specDone ||
          (u.assured && (s.ep.bank u.bank).mode.getLsbD mASSURED)
        if drop then bufSync (dropHeld l (admTrace 5 l (setLog l { u with st := .expDrop } s)))
        else
          let s := admTrace 4 l (setLog l { u with st := .expFwd } s)
          match logEntry l s with
          | some (k, e) =>
            let s := setFlow { s.flow with hot := tput s.flow.hot k { e with img := ctrlBit 5 true e.img } } s
            bufSync (rerunDeferred l (splice l (imgAd e.img) s))
          | none => s
    | none => s)

/-! Timeouts (R133, R155). -/

/-- ns since the allocation of a context, and those of them for which its timer has run (R155). -/
def lifeNs (x : Ctx) (s : State) : Nat := s.time.free - x.since

def elapsedNs (x : Ctx) (s : State) : Nat :=
  lifeNs x s - x.pausedNs - (match x.pausedAt with | some t => s.time.free - t | none => 0)

/-- The instance times out: ELAPSED has reached TIMEOUT, or its life twice TIMEOUT whatever the pauses (R155). -/
def timedOut (x : Ctx) (s : State) : Bool :=
  let t := timeoutUs (tplRec x.bank x.tpl s)
  decide (t ≤ elapsedNs x s / 1000 ∨ 2 * t ≤ lifeNs x s / 1000)

/-- GRAPH_TIMEOUT: an instance whose time has run out (R155). -/
def execGraphTimeout (c : Nat) (s : State) : Host.Outcome State Fault Refusal :=
  .next (match getCtx c s with
    | some x =>
      if (x.st = .running ∨ x.st = .starting) ∧ timedOut x s then
        let s := raise 34 x.tpl 0 (bump .GRAPH_TIMEOUT x.kind s)
        let s := if x.kind = 2 ∨ x.kind = 3 then { s with pwr := { s.pwr with auditDue := true } } else s
        failInst c stTIMEOUT s
      else s
    | none => s)

end Sys2Proof.Machine
end

