-- ==== Sys2Proof/Machine/ImpairCmd.lean ====
section
/-!
DEFINITION. Writing, arming and disarming the impairment units (R506, R509, R510).
-/
namespace Sys2Proof.Machine

/-! IMPAIR_SET (R506). -/

/-- The encoding of a record. -/
def impEncodes (b : Bytes) : Bool :=
  impAction b != 3 && impSel b != 3 && !bit (fld b 0 1) 7 && decide (fld b 1 1 < 3) && decide (fld b 26 2 = 0) &&
    !(impDir b && (impAction b == 2 || impRuleEn b))

/-- The ranges of a record (log 29: whatever its ACTION and SEL). -/
def impRanges (b : Bytes) : Bool :=
  decide (1 ≤ impBurst b ∧ impBurst b ≤ 64 ∧ 1 ≤ impDepth b ∧ impDepth b ≤ 64 ∧ 1 ≤ fld b 6 2 ∧ fld b 6 2 ≤ 1000 ∧
    1 ≤ impPeriod b ∧ impCount b ≤ impPeriod b ∧ fld b 28 4 ≤ 86400)

def impCheck (s : State) (p : Nat) (b : Bytes) : Nat :=
  if !impEncodes b ∨ (p < 64 ∧ portUnused p s) then stINVALID
  else if 64 ≤ p ∨ !impRanges b then stRANGE
  else if (impUnit p s).armed then stBUSY
  else stOK

/-- The record is written; a token that names the port is void (R509). -/
def impApply (p : Nat) (b : Bytes) (s : State) : State :=
  let s := setImp p { impUnit p s with record := b } s
  match s.obs.token with
  | some t => if inMask t.ports p then setObs { s.obs with token := none } s else s
  | none => s

/-- IMPAIR_SET (0x0D30). -/
def execImpairSet (r : YcpReq) (s : State) : Host.Outcome State Fault Refusal :=
  ycp 0x0D30 r (formL (fun _ => 32) impCheck impApply) s

/-! Arming and disarming (R509, R510). -/

/-- Event type 21, IMPAIR. -/
def impEvent (ev : Nat) (ports : BitVec 64) (s : State) : State :=
  postEvent 21 (leBytes 1 ev ++ zeros 3 ++ leBytes 8 ports.toNat ++ leBytes 8 (now302 s)) s

/-- One unit is armed: its LFSR starts at SEED, where 0 is taken as 1. -/
def armUnit (p : Nat) (s : State) : State :=
  let u := impUnit p s
  let seed := impSeed u.record
  bump .ARMS p (setImp p { u with armed := true, lfsr := if seed = 0 then 1 else seed, seen := 0,
                                  armedAt := s.time.free } s)

/-- One unit is disarmed; a held frame is sent first. -/
def disarmUnit (p : Nat) (s : State) : State :=
  let s := releaseHeld p s
  setImp p { impUnit p s with armed := false } s

/-- The armed units among the ports. -/
def armedPorts (s : State) : BitVec 64 := portsMask ((List.range 64).filter fun p => (impUnit p s).armed)

/-- Units disarmed for one cause, with one event; none is posted when none was armed. -/
def disarmAll (ev : Nat) (ports : BitVec 64) (s : State) : State :=
  let m := ports &&& armedPorts s
  if m = 0 then s else impEvent ev m (forEach (maskPorts m) disarmUnit s)

/-- REQUEST: a new token; an older one is void, and one that had expired is forgotten. -/
def impRequest (r : YcpReq) (ports : BitVec 64) (s : State) : YRes :=
  let tok := freeVal s % (2 ^ 32 - 1) + 1
  let s := tookFree s
  yOk (leBytes 4 tok) (setObs { s.obs with token := some ⟨tok, r.mbx.val, ports⟩, expired := none } s)

/-- CONFIRM: the matching token arms every named unit; any other one fails, and the failure voids the token. -/
def impConfirm (r : YcpReq) (ports : BitVec 64) (tok : Nat) (s : State) : YRes :=
  let t : ImpToken := ⟨tok, r.mbx.val, ports⟩
  let void := setObs { s.obs with token := none, expired := none } s
  if s.obs.token = some t then
    let s := forEach (maskPorts ports) armUnit void
    yOk [] (impEvent 0 ports (raise 232 0 ports s))
  else if s.obs.expired = some t then yFail stTIMEOUT void
  else yFail stTOKEN void

/-- IMPAIR_ARM: OP (4), PORTS (8), TOKEN (4), 0 (4). -/
def impArmH : YHandler := fun r b rm s =>
  let op := fld b 0 4
  let ports := BitVec.ofNat 64 (fld b 4 8)
  let k : Bytes → State → YRes := fun _ s =>
    if op = 3 then yOk [] (disarmAll 1 ports s)
    else if inMode mASSURED s then
      let s := raise 233 0 ports s
      yFail stDENIED (if op = 2 then setObs { s.obs with token := none } s else s)
    else if op = 1 then impRequest r ports s
    else impConfirm r ports (fld b 12 4) s
  formE 20 [(16, 4)] [(4, opIn 1 3), (12, fun _ s => !masksUnused ports s)] k r b rm s

def execImpairRequest (r : YcpReq) (s : State) : Host.Outcome State Fault Refusal := ycp 0x0D31 r impArmH s

def execImpairConfirm (r : YcpReq) (s : State) : Host.Outcome State Fault Refusal := ycp 0x0D31 r impArmH s

def execImpairDisarm (r : YcpReq) (s : State) : Host.Outcome State Fault Refusal := ycp 0x0D31 r impArmH s

/-- IMPAIR_ARM_TIME_EXPIRY: the frame that is held goes first, then the unit disarms (R510, R511). -/
def execImpairArmTimeExpiry (p : Nat) (s : State) : Host.Outcome State Fault Refusal :=
  .next (disarmAll 2 (portMask p) s)

/-- IMPAIR_TOKEN_EXPIRY: 10 s after its REQUEST the token is void (R509). -/
def execImpairTokenExpiry (s : State) : Host.Outcome State Fault Refusal :=
  .next (match s.obs.token with
    | some t => setObs { s.obs with token := none, expired := some t } s
    | none => s)

/-! IMPAIR_STATUS (R510). -/

/-- Seconds that a unit stays armed. -/
def armLeft (u : ImpUnit) (s : State) : Nat :=
  if u.armed then impArmTime u.record - (s.time.free - u.armedAt) / 1000000000 else 0

/-- The property list of section 17 and of IMPAIR_STATUS. -/
def impairProps (s : State) : Bytes :=
  let ps := List.range 64
  propList [pNum "ARMED" 8 (armedPorts s).toNat, pArr "ARM_LEFT" 4 (ps.map fun p => armLeft (impUnit p s) s),
    pStr "RECORDS" (ps.map fun p => (impUnit p s).record).flatten, pCtr .IMP_DROP s, pCtr .IMP_CORRUPT s,
    pCtr .IMP_REORDER s, pCtr .ARMS s, pNum "TOKEN_PENDING" 1 (b2n s.obs.token.isSome)]

/-- IMPAIR_STATUS (0x0D32). -/
def execImpairStatus (r : YcpReq) (s : State) : Host.Outcome State Fault Refusal :=
  ycp 0x0D32 r (emptyBody fun s => yRead (impairProps s) s) s

end Sys2Proof.Machine
end

