-- ==== Sys2Proof/Machine/Ecdsa.lean ====
section
/-!
DEFINITION. ECDSA verification over the curve P-256, which R421 and R422 name and the standards define (FIPS 186, SEC 2):
the arithmetic of the curve in Jacobian coordinates, and the check of a signature (log 74).
-/
namespace Sys2Proof.Machine

/-- The prime of the field. -/
def p256P : Nat := 0xFFFFFFFF00000001000000000000000000000000FFFFFFFFFFFFFFFFFFFFFFFF

/-- The order of the base point. -/
def p256N : Nat := 0xFFFFFFFF00000000FFFFFFFFFFFFFFFFBCE6FAADA7179E84F3B9CAC2FC632551

/-- The constant of y² = x³ - 3x + b. -/
def p256B : Nat := 0x5AC635D8AA3A93E7B3EBBD55769886BC651D06B0CC53B0F63BCE3C3E27D2604B

/-- The difference of two residues. -/
def modSub (m a b : Nat) : Nat := (a + (m - b % m)) % m

/-- a to the power of the lower `n` bits of e, modulo m. -/
def modPow (m a e : Nat) : Nat → Nat
  | 0 => 1 % m
  | n + 1 =>
    let r := modPow m a (e / 2) n
    let r := r * r % m
    if e % 2 = 1 then r * a % m else r

/-- The inverse modulo a prime below 2^256, by Fermat's theorem. -/
def modInv (m a : Nat) : Nat := modPow m a (m - 2) 256

/-- A point of the curve in Jacobian coordinates: x/z², y/z³. With z = 0 it is the point at infinity. -/
structure P256Point where
  x : Nat
  y : Nat
  z : Nat
  deriving DecidableEq, Repr

def p256Inf : P256Point := { x := 1, y := 1, z := 0 }

/-- The base point. -/
def p256G : P256Point :=
  { x := 0x6B17D1F2E12C4247F8BCE6E563A440F277037D812DEB33A0F4A13945D898C296
    y := 0x4FE342E2FE1A7F9B8EE7EB4A7C0F9E162BCE33576B315ECECBB6406837BF51F5
    z := 1 }

/-- Twice a point. -/
def p256Double (q : P256Point) : P256Point :=
  let zz := q.z * q.z % p256P
  let yy := q.y * q.y % p256P
  let t := 4 * (q.x * yy) % p256P
  let m := 3 * (modSub p256P q.x zz * (q.x + zz)) % p256P
  let x := modSub p256P (m * m % p256P) (2 * t)
  { x := x, y := modSub p256P (m * modSub p256P t x % p256P) (8 * (yy * yy)), z := 2 * (q.y * q.z) % p256P }

/-- The sum of two points. -/
def p256Add (q r : P256Point) : P256Point :=
  if q.z = 0 then r
  else if r.z = 0 then q
  else
    let qz := q.z * q.z % p256P
    let rz := r.z * r.z % p256P
    let u := q.x * rz % p256P
    let w := q.y * (rz * r.z) % p256P
    let h := modSub p256P (r.x * qz % p256P) u
    let k := modSub p256P (r.y * (qz * q.z) % p256P) w
    if h = 0 then (if k = 0 then p256Double q else p256Inf)
    else
      let hh := h * h % p256P
      let t := u * hh % p256P
      let x := modSub p256P (k * k % p256P) (h * hh + 2 * t)
      { x := x, y := modSub p256P (k * modSub p256P t x % p256P) (w * (h * hh % p256P)), z := h * (q.z * r.z) % p256P }

/-- a·q + b·r over the lower `n` bits of both factors. -/
def p256Mul2 (q r : P256Point) (a b : Nat) : Nat → P256Point
  | 0 => p256Inf
  | n + 1 =>
    let d := p256Double (p256Mul2 q r (a / 2) (b / 2) n)
    let d := if a % 2 = 1 then p256Add d q else d
    if b % 2 = 1 then p256Add d r else d

/-- A public key: both coordinates are residues and the point is on the curve. -/
def p256OnCurve (x y : Nat) : Bool :=
  decide (x < p256P ∧ y < p256P) && y * y % p256P == (x * x * x + modSub p256P p256B (3 * x)) % p256P

/-- ECDSA P-256 verification (R421, R422): public key X then Y (64 bytes), digest (32), signature r then s (64), all
big-endian (log 74). -/
def ecdsaVerify (key digest sig : Bytes) : Bool :=
  let x := beNat (slice key 0 32); let y := beNat (slice key 32 32)
  let r := beNat (slice sig 0 32); let s := beNat (slice sig 32 32)
  p256OnCurve x y && decide (0 < r ∧ r < p256N ∧ 0 < s ∧ s < p256N) &&
    (let w := modInv p256N s
     let q := p256Mul2 p256G { x := x, y := y, z := 1 } (beNat digest * w % p256N) (r * w % p256N) 256
     q.z != 0 && (let i := modInv p256P q.z; q.x * (i * i % p256P) % p256P % p256N == r))

end Sys2Proof.Machine
end

