-- ==== Sys2Proof/Machine/Pipeline.lean ====
section
/-!
DEFINITION. The flow stage (R72–R77, R83–R84, R169, R178–R180, R458, R460) and the ingress pass around it: parser, service
lookup, classifier, action (R21, R31–R53, R56–R67, R203–R213).
-/
namespace Sys2Proof.Machine

/-! Keys of packets (R73–R81). -/

/-- The packet's format (R81): compact under DENSE, but for a frame that its rule marks assured under ASSURED. -/
def pktStd (d : Nat) (s : State) : Bool :=
  let m := (s.ep.bank (getFrame d s).bank).mode
  !m.getLsbD mDENSE || (m.getLsbD mASSURED && actAssured (getPkt d s).action)

/-- What the packet's key is built from (R73). -/
def keySrcOf (d : Nat) (s : State) : KeySrc :=
  let f := getFrame d s
  let k := getPkt d s
  { frame := f.data, hdrs := k.hdrs, vec := k.vec, flags := f.flags, sub := k.sub, service := k.service }

/-- The packet's canonical key, its hashes and direction (R73–R77). -/
def withKey (d : Nat) (key : Bytes) (rev : Bool) (s : State) : State :=
  let h := flowHash s.flow.hashSeed (compactKey s.flow.fpSeed key)
  editPkt d (fun k => { k with key := key, rev := rev, hlo := h.1, hhi := h.2, std := pktStd d s }) s

/-- The canonical key of a compact IPv4 key (R76). -/
def expandKey (ck : Bytes) : Bytes :=
  slice ck 0 12 ++ slice ck 12 4 ++ zeros 12 ++ slice ck 16 4 ++ zeros 12 ++ slice ck 20 4

/-! Homes (R458). -/

/-- The subscriber that a deterministic pool maps to an address and port (R183). -/
def detSubOf (p : Bytes) (a port : Nat) : Nat := xpDetBase p + (a - xpBase p) * bpaOf p + (port - 1024) / blkSize p

/-- I of a packet; `ext` is the external address and port of a DIR 2 packet (R458). -/
def homeIndex (d : Nat) (ext : Option (Nat × Nat)) (s : State) : Nat :=
  let k := getPkt d s
  match spDir (svcProf k.profile s), ext with
  | 1, _ => k.sub.getD 0 % 16
  | _, some (a, port) =>
    let p := xpoolDesc (addrPool (addrEnt a s)) s
    if xpDet p then detSubOf p a port % 16 else a % 16
  | _, none => k.hhi % 16

/-- The other member that homes the packet's flow, if any: a packet that came by the chain is home (R458, R460, R461). -/
def awayHome (d : Nat) (ext : Option (Nat × Nat)) (s : State) : Option Nat :=
  let h := homeOf (homeIndex d ext s) s
  if inMode mJOINED s && decide ((getFrame d s).src < 66) && h != s.host.devid then some h else none

/-- The block of a FLOW frame (R457). -/
def flowBlock (k : Pkt) : Bytes := fit 48 k.key ++ beBytes 8 k.action ++ beBytes 8 (k.vec / 2 ^ 576)

/-- A packet goes to its home (R460). -/
def toHome (d m : Nat) (s : State) : State :=
  let k := getPkt d s
  chainSend d 0 m (flowBlock k) (setFrame d { getFrame d s with tc := actTC k.action } s)

/-! The lookup (R28, R83). -/

/-- The hot lookup of a packet whose key is known (R28, R83). -/
def flowLookup (d : Nat) (s : State) : State :=
  let s := setsCheck (pktCk d s) s
  let p := (getPkt d s).pipe
  match pktPlace d s with
  | some k => flowHit d k (bump .HOT_HIT p s)
  | none => flowMiss d (bump .HOT_MISS p s)

/-! Inbound packets (R169, R179). -/

/-- The NOMAP or ICMP_ERR action of the service profile (R167). -/
def failAction (d : Nat) (punt : Bool) (s : State) : State :=
  if punt then puntFrame d (spPuntCode (svcProf (getPkt d s).profile s)) 4 0 s else discard d s

def nomap (d : Nat) (s : State) : State := failAction d (spNomapPunt (svcProf (getPkt d s).profile s)) s

/-- What an inbound packet shows of its flow (R169, R178). -/
structure Outside where
  proto : Nat
  src : Bytes
  dst : Bytes
  rport : Bytes
  xport : Bytes
  icmpErr : Bool
  echo : Bool
  aux : Nat
  deriving DecidableEq, Repr

/-- The outer IPv4 header and its ports; none where the packet has no outer IPv4 header. -/
def outsideOf (d : Nat) (s : State) : Option Outside :=
  let f := getFrame d s
  let x := keySrcOf d s
  match fromL3 0 x.hdrs with
  | l3 :: after =>
    if l3.type ≠ 4 then none
    else
      let proto := keyProto f.data l3 after
      let aux := auxOf (pktProfile d s) x
      let id := beBytes 2 (aux % 65536)
      let l4 := keyL4 after
      let port (o : Nat) : Bytes := match l4 with
        | some h => if (h.type = 8 ∨ h.type = 9) ∧ !noPorts (pktProfile d s) f.flags then slice f.data (h.off + o) 2 else [0, 0]
        | none => [0, 0]
      let err := match l4 with
        | some h => h.type == 10 && [3, 4, 5, 11, 12].contains (bfld f.data h.off 1)
        | none => false
      some { proto := proto, src := slice f.data (l3.off + 12) 4, dst := slice f.data (l3.off + 16) 4,
             rport := if proto = 1 then id else port 0, xport := if proto = 1 then id else port 2, icmpErr := err,
             echo := isEcho f.data l4 aux, aux := aux }
  | [] => none

/-- The primary key of an inbound packet from its map entry (R179). -/
def primaryKey (d : Nat) (o : Outside) (e : Bytes) (s : State) : Bytes :=
  let icmp := o.proto == 1
  let k : KeyParts :=
    { ktype := 0, zone := mapSub e + 8388608, proto := o.proto,
      sport := if icmp then [0, 0] else slice e 6 2, dport := if icmp then [0, 0] else o.rport,
      saddr := slice e 8 4, daddr := o.src, aux := if icmp then bfld e 6 2 else o.aux }
  (symmetric (fpSym (pktProfile d s)) k).1.bytes

def inboundList (p : Nat) (s : State) : List (Nat × Nat) := tget [] s.flow.inbound p

def setInboundList (p : Nat) (l : List (Nat × Nat)) (s : State) : State :=
  setFlow { s.flow with inbound := tset [] s.flow.inbound p l } s

/-- The alias that hits gives the primary key (R179 step 2). -/
def aliasHit (d k : Nat) (e : HotEntry) (s : State) : State :=
  let s := touch k (hotPut k { e with img := putF e.img 32 4 (msNow s) } s)
  let s := withKey d (expandKey (slice e.img 36 24)) true s
  flowLookup d (editPkt d (fun k => { k with map := some (fld e.img 28 4 % 2 ^ 27) }) s)

/-- The alias misses: the packet waits for its map entry, or finds the list full (R179 step 3). -/
def aliasMiss (d a : Nat) (o : Outside) (s : State) : State :=
  let p := (getPkt d s).pipe
  let l := inboundList p s
  if 2048 ≤ l.length then missOvf (fpClass (pktProfile d s)) d s
  else
    let m := mapNo a (beNat o.xport)
    setInboundList p (l ++ [(d, m)]) (bump .XLAT_ALIAS_MISS (addrPool (addrEnt a s)) (askMap m s))

/-- A packet that matches an external address, at its home. -/
def inboundAt (d a : Nat) (o : Outside) (s : State) : State :=
  let ak := aliasKey a o.proto o.rport o.xport o.src o.dst
  let s := setsCheck ak s
  match aliasPlace ak s with
  | some k =>
    match hotGet k s with
    | some e => aliasHit d k e s
    | none => s
  | none => aliasMiss d a o s

/-- No mapping fits a packet: NOMAP, in the count of the address's pool (R179). -/
def noMapping (d a : Nat) (s : State) : State := nomap d (bump .XLAT_NOMAP (addrPool (addrEnt a s)) s)

/-- A packet of a DIR 2 profile (R169, R179).  An ICMP message that is neither an error nor an echo has no mapping (DEDUCED, log 43). -/
def inboundStage (d : Nat) (s : State) : State :=
  let noAddr (s : State) : State := nomap d (bump .XLAT_NOADDR (getPkt d s).pipe s)
  match outsideOf d s with
  | none => noAddr s
  | some o =>
    match addrMatch o.dst s with
    | none => noAddr s
    | some a =>
      if o.icmpErr then failAction d (spIcmpPunt (svcProf (getPkt d s).profile s)) s
      else if o.proto = 1 ∧ !o.echo then noMapping d a s
      else
        match awayHome d (some (a, beNat o.xport)) s with
        | some m =>
          -- the key that the frame carries is built from the packet itself
          let key := ((keyParts (pktProfile d s) (keySrcOf d s)).map fun k => (symmetric (fpSym (pktProfile d s)) k).1.bytes)
          toHome d m (withKey d (key.getD (zeros 48)) false s)
        | none => inboundAt d a o s

/-- The map entry of a waiting packet has returned (R179); a PENDING one is no mapping (R180). -/
def mapReturned (d m : Nat) (s : State) : State :=
  let a := m / 65536
  let (e, s) := takeMap m s
  match e, outsideOf d s with
  | some e, some o =>
    if (tget? s.svc.pend m).isNone ∧ (mapState e = 1 ∨ mapState e = 2) ∧ mapProto e = o.proto then
      let key := primaryKey d o e s
      let s := withKey d key true s
      let s := editPkt d (fun k => { k with map := some m }) s
      let ak := aliasKey a o.proto o.rport o.xport o.src o.dst
      flowLookup d (placeAlias (getFrame d s).bank ak (compactKey s.flow.fpSeed key) m s)
    else noMapping d a s
  | _, _ => noMapping d a s

/-- INBOUND_MAP_RETURN: a waiting packet goes on with its map entry, unless the read has not returned or the map cache is full of
pinned entries (R166, R179). -/
def execInboundMapReturn (pl index : Nat) (s : State) : Host.Outcome State Fault Refusal :=
  .next (match (inboundList pl s)[index]? with
    | some (d, m) =>
      if readOut 4 (mapAddr m / 64) s || mustWait .map m s then s
      else bufSync (mapReturned d m (setInboundList pl ((inboundList pl s).eraseIdx index) s))
    | none => s)

/-- INBOUND_LIST_WAIT_EXPIRY (R179). -/
def execInboundListWaitExpiry (pl index : Nat) (s : State) : Host.Outcome State Fault Refusal :=
  .next (match (inboundList pl s)[index]? with
    | some (d, _) =>
      if waitedHold d s then bufSync (waitExpired d (setInboundList pl ((inboundList pl s).eraseIdx index) s)) else s
    | none => s)

/-! The flow stage. -/

/-- A packet of a profile that is not inbound: key, home, lookup (R73–R75, R458). -/
def plainStage (d : Nat) (s : State) : State :=
  let r := pktProfile d s
  match keyParts r (keySrcOf d s) with
  | none => forwardRule d (bump .FLOW_NOKEY (getPkt d s).pipe s)
  | some k =>
    let (k, rev) := symmetric (fpSym r) k
    let s := withKey d k.bytes rev s
    match awayHome d none s with
    | some m => toHome d m s
    | none => flowLookup d s

/-- A stateful packet (R21, R118). -/
def flowStage (d : Nat) (s : State) : State :=
  let k := getPkt d s
  let tcp := tcpFlags (fpKeySrc (pktProfile d s)) (getFrame d s).data k.hdrs
  let s := editPkt d (fun k => { k with reached := s.time.free, reachedA := nsecOf (activeTime s), tcp := tcp }) s
  if spDir (svcProf k.profile s) = 2 then inboundStage d s else plainStage d s

/-! The classifier and the rule's action (R21, R49–R52, R65–R67). -/

/-- The action of a packet (R21). A later pass keeps the profile of the recirculating action, whatever kind its rule
names, but a rule that drops still drops (DEDUCED, log 44). -/
def resolveAction (d : Nat) (s : State) : State :=
  let f := getFrame d s
  let a := (getPkt d s).action
  if actKind a = 0 then discard d s
  else if 0 < f.pass then flowStage d s
  else match actKind a with
    | 1 => forwardRule d s
    | 2 => forwardRule d (copyToHost d (actPunt a) s)
    | 3 => forwardRule d (setFrame d { f with mirrorTo := some (actMirror a) } s)
    | _ => flowStage d (editPkt d (fun k => { k with profile := actProfile a }) s)

/-- The counters of the rule or the default that a packet selects, on its first pass (R51, R122). -/
def countRule (d : Nat) (rule : Option Nat) (first : Bool) (s : State) : State :=
  let f := getFrame d s
  if !first then s
  else
    match rule with
    | some n => let i := 65536 * b2n f.bank + n; addCtr .RULE_BYTES i f.len (bump .RULE_PKTS i s)
    | none => let i := bits (getPkt d s).vec 610 6; addCtr .CLS_DEFAULT_BYTES i f.len (bump .CLS_DEFAULT_PKTS i s)

/-- The payload CRC that ingress takes of a frame received whole (R377). -/
def payCrc (f : Frame) (off : Nat) : Nat := crc32c (slice f.data off (f.data.length - 4 - off))

/-- The packet with what the classifier selected, and on to its action. -/
def selected (d : Nat) (rule : Option Nat) (action payOff : Nat) (first : Bool) (s : State) : State :=
  let s := countRule d rule first s
  let f := getFrame d s
  let assured := actAssured action && inMode mASSURED s && s.ep.dup == .active
  let crc := if first then payCrc f payOff else f.pairCrc
  let f := { f with rule := rule.map fun n => (f.bank, n), assured := assured, payOff := payOff, pairCrc := crc }
  let s := editPkt d (fun k => { k with action := action }) (setFrame d f s)
  let s := tracePkt { point := 0, inPort := f.inPort, outPort := 0, tc := actTC action, rule := rule, queue := 0, len := f.len,
                      flags := f.flags, data := f.data } s
  resolveAction d s

/-- PARSE_PARITY: a table entry that a packet needs fails parity (R53). -/
def parityDrop (d t n : Nat) (s : State) : State :=
  let p := (getFrame d s).inPort % 64
  discard d (raise (if t ≤ 1 then 16 else 17) (t * 4096 + n) (portMask p) (bump .PARSE_PARITY p s))

/-- The classifier (R49, R52, R66). -/
def classStage (d payOff : Nat) (first : Bool) (s : State) : State :=
  let f := getFrame d s
  let k := getPkt d s
  match classify f.bank k.vec s with
  | .error _ => discard d (raise 20 k.pipe 0 (bump .CLS_MISMATCH k.pipe s))
  | .ok (some (n, a)) => selected d (some n) a payOff first s
  | .ok none =>
    let c := bits k.vec 610 6
    if parserBad f.bank 4 c s then parityDrop d 4 c s
    else selected d none (fld (bankCls (s.ep.bank f.bank) c) 0 8) payOff first s

/-! The service lookup (R204–R208, R213). -/

/-- The L2 lookups of a packet whose service entry enables them (R213). -/
def l2Stage (d : Nat) (x : SvcResult) (s : State) : State :=
  if !svcL2En x.entry then s
  else
    let f := getFrame d s
    let s := sourceLookup (svcLearn x.entry) x.service f.inPort (slice f.data 6 6) s
    let (w, s) := destLookup x.service f.inPort (getPkt d s).pipe (slice f.data 0 6) s
    let n := match w with
      | .port p => p
      | .drop => 64
      | .dflt => 65
    editPkt d (fun k => { k with l2 := n }) s

/-- The service lookup of a first pass; a later one keeps its results (R41, R58, R203). -/
def serviceStage (d vec : Nat) (vlan payOff : Nat) (first : Bool) (s : State) : State :=
  let f := getFrame d s
  if first then
    match serviceLookup f.inPort vlan vec f.flags s with
    | (none, s) => discard d s
    | (some x, s) =>
      let v := vec + metadata f.inPort f.flags x.service x.profile x.sub * 2 ^ 576
      let s := editPkt d (fun k => { k with service := x.service, sub := x.sub, meter := x.meter, vec := v,
                                            dflt := (svcDefMode x.entry, svcDefDest x.entry) }) s
      classStage d payOff true (l2Stage d x s)
  else
    let kept := bits (getPkt d s).vec 598 42
    let v := vec + metadata f.inPort f.flags 0 0 none * 2 ^ 576 + kept * 2 ^ 598
    classStage d payOff false (editPkt d (fun k => { k with vec := v }) s)

/-! The parser (R31–R47). -/

/-- The parse profile that a frame begins with (R42, R461). -/
def firstProfile (f : Frame) (s : State) : Nat :=
  if f.src = 66 ∨ f.src = 67 then s.join.chainParse else bits (fld (portRec f.inPort s) 4 1) 0 4

/-- The parse profile of a pass: the packet's original one, since no action of the spec names another (R64). -/
def parseProfileOf (f : Frame) : Nat := (f.pkt.map (·.parse)).getD 0

/-- The parse of a frame; `known` says whether its end is known (R47). -/
def parseOf (f : Frame) (known : Bool) (s : State) : Parsed :=
  let bk := s.ep.bank f.bank
  let n := if known then f.data.length - 4 else f.data.length
  parseFrame bk (fun t i => parserBad f.bank t i s) (fld (bankProfile bk (parseProfileOf f)) 0 1) f.data n known

/-- The parser-table entry that fails parity for a packet: table and index (R53). -/
def parseParity (f : Frame) (p : Parsed) (s : State) : Option (Nat × Nat) :=
  let n := parseProfileOf f
  if parserBad f.bank 2 n s then some (2, n)
  else
    match p.parity with
    | some x => some x
    | none =>
      ((profileExtracts (bankProfile (s.ep.bank f.bank) n)).find? fun i => parserBad f.bank 3 i s).map fun i => (3, i)

/-- PTP event frames of a domain whose OWNER is the host (R307), the domain as R306 gives it. -/
def ptpToHost (f : Frame) (s : State) : Bool :=
  match ptpEvent f.data with
  | some (o, _) => (s.time.dom (ptpDomain f.data o s)).owner == 1
  | none => false

/-- The parsed packet goes on to the service lookup with its flags (R40, R46). -/
def parsedStage (d : Nat) (p : Parsed) (flags : Nat) (known first : Bool) (s : State) : State :=
  let f := getFrame d s
  let bk := s.ep.bank f.bank
  let n := if known then f.data.length - 4 else f.data.length
  let vec := parseVector bk (bankProfile bk (parseProfileOf f)) f.data n p
  serviceStage d vec (outerVlan f.data p) (payloadOff p) first (setFrame d { f with flags := flags } s)

/-- MALFORMED_ACTION for a reason (R38, R46). -/
def malformed (d reason : Nat) (p : Parsed) (flags : Nat) (known first : Bool) (s : State) : State :=
  let f := getFrame d s
  let prof := bankProfile (s.ep.bank f.bank) (parseProfileOf f)
  match bits (fld prof 1 1) 1 2 with
  | 0 => discard d s
  | 1 => parsedStage d p flags known first s
  | _ => puntFrame d (fld prof 5 1 % 64) 2 reason s

/-- The parser's counters, on the first pass (R37, R46, R122). -/
def countParse (port : Nat) (p : Parsed) (first : Bool) (s : State) : State :=
  if !first then s
  else
    let s := if p.isPartial then bump .PARSE_DEPTH port s else s
    match p.reason with
    | some r => bump .MALFORMED (16 * port + r) s
    | none => s

/-- One pass of a packet through the ingress half, from the parser on (R21, R64). -/
def ingressPass (d : Nat) (known : Bool) (s : State) : State :=
  if stageFails (getPkt d s).pipe 0 s then stageDrop d (getPkt d s).pipe 0 s else
  let f := getFrame d s
  let p := parseOf f known s
  match parseParity f p s with
  | some (t, n) => parityDrop d t n s
  | none =>
    let first := !(getPkt d s).counted
    let s := countParse (f.inPort % 64) p first s
    let s := editPkt d (fun k => { k with hdrs := p.hdrs, counted := true }) s
    let policy := fld (bankProfile (s.ep.bank f.bank) (parseProfileOf f)) 1 1
    match p.reason with
    | some r => malformed d r p (p.flags ||| 2) known first s
    | none =>
      if p.isPartial && bit policy 0 then malformed d 16 p p.flags known first s
      else if first && ptpToHost f s then puntFrame d 0 5 0 s
      else parsedStage d p p.flags known first s

/-! Entry to the parser (R32, R56, R58, R62). -/

/-- A frame enters the parser from a port, the host or the chain: it is stamped with the active bank bit (R58). -/
def stampEntry (d pl : Nat) (s : State) : State :=
  let s := wakeHalf pl 0 s
  setFrame d { getFrame d s with bank := s.ep.activeNo, pkt := some { pipe := pl, parse := firstProfile (getFrame d s) s } } s

/-- The ingress halves take no new packet while a drained commit waits (R62). -/
def ingressHeld (s : State) : Bool := s.ep.commit == .draining

def enterFrame (d pl : Nat) (known : Bool) (s : State) : State := ingressPass d known (stampEntry d pl s)

/-- A frame that is still being received and whose head may be forwarded: 512 bytes of it have arrived (R262), and no armed
unit acts on the port's reception. -/
def cutReady (p : Nat) (f : Frame) (s : State) : Bool :=
  let u := impUnit p s
  decide (512 ≤ f.data.length) && !(u.armed && impDir u.record)

/-! The arbiter of an ingress half (R19, R20). -/

/-! Chain frames (R457). -/

def cfType (h : Bytes) : Nat := bits (fld h 0 1) 0 3
def cfSrc (h : Bytes) : Nat := bits (fld h 0 1) 3 2
def cfDst (h : Bytes) : Nat := bits (fld h 0 1) 5 2
def cfFast (h : Bytes) : Bool := bit (fld h 1 1) 0
def cfAssured (h : Bytes) : Bool := bit (fld h 1 1) 1
def cfClass (h : Bytes) : Nat := bits (fld h 1 1) 2 3
def cfPair (h : Bytes) : Bool := bit (fld h 1 1) 5
def cfHops (h : Bytes) : Nat := bits (fld h 1 1) 6 2
def cfLen (h : Bytes) : Nat := if cfType h = 7 then 0 else bfld h 2 2

/-- Bytes of the block that follows the header. -/
def cfBlock (h : Bytes) : Nat :=
  match cfType h with
  | 0 => 64
  | 1 => 16
  | 2 => 16
  | _ => 0

/-- Bytes of a chain frame, padding included. -/
def cfSize (h : Bytes) : Nat := 16 + cfBlock h + (cfLen h + 15) / 16 * 16

/-! Chain arrivals wait for a pipeline (R463). -/

/-- The next frame of a type that a group's FIFOs give, the fast one first, and whether it is fast. -/
def fifoHead (g type : Nat) (s : State) : Option (Bytes × Bool) :=
  let x := getChain g s
  match x.fifoFast with
  | f :: _ => if cfType f = type then some (f, true) else (x.fifoNorm.head?.filter fun f => cfType f == type).map fun f => (f, false)
  | [] => (x.fifoNorm.head?.filter fun f => cfType f == type).map fun f => (f, false)

/-- The chain source is held (R245, R251, R463). -/
def chainHeld (g : Nat) (s : State) : Bool := srcHeld (66 + g) s || atLevel poolSHARED 1 s

/-- The pipeline of a FLOW arrival (R463). -/
def flowPipe (key : Bytes) (s : State) : Nat :=
  s.spare.pipeOf ((flowHash s.flow.hashSeed (compactKey s.flow.fpSeed key)).1 % 16)

/-- The pipeline that takes a chain arrival: by the key of a FLOW frame, by the egress port of a RESULT frame (R463). -/
def chainPipe (f : Bytes) (s : State) : Nat :=
  if cfType f = 0 then flowPipe (slice f 16 48) s else portPipe (bfld f 16 4 % 2 ^ 18 / 16 % 64) s

/-- The oldest frame of a port may enter its pipeline's parser. -/
def portReady (p d : Nat) (s : State) : Bool :=
  let f := getFrame d s
  !ingressHeld s && !inMask s.buf.swapHeld p && (f.arrived.isNone || cutReady p f s)

/-- A chain arrival for this member waits for the ingress half: chain arrivals are port frames (R463). -/
def chainWaits (pl : Nat) (s : State) : Bool :=
  inMode mJOINED s && !ingressHeld s && [0, 1].any fun g => !chainHeld g s && [0, 1].any fun ty =>
    match fifoHead g ty s with
    | some (f, _) => cfDst f == s.host.devid && chainPipe f s == pl
    | none => false

/-- A port frame that has arrived whole, or a chain arrival, waits for the ingress half. -/
def portWaits (pl : Nat) (s : State) : Bool :=
  chainWaits pl s || s.buf.rxq.any fun x => match x.2 with
    | d :: _ => (getFrame d s).owner == pl && (getFrame d s).arrived.isNone && portReady x.1 d s
    | [] => false

/-- A host-injected frame may enter the ingress half: its pipeline is powered, ingress runs, and host injection is not held
(R62, R245, R256, R442). -/
def injOpen (pl : Nat) (s : State) : Bool :=
  domainOn (pipeDomain pl) s && !sentinelDue pl 0 s && !ingressHeld s && !s.pwr.ingressStopped && !srcHeld 64 s &&
    !atLevel poolHOST 1 s

/-- The arrival number of the head frame of inject queue `q` when it waits for the ingress half of `pl` (R20). -/
def injTurn (pl q : Nat) (s : State) : Option Nat :=
  let x := getQ q s
  if queueReady x then (x.waits.filter fun w => w.1 == pl).map (·.2) else none

/-- A recirculated packet waits for the ingress half, and its source is not held (R20, R256). -/
def recircWaits (pl : Nat) (s : State) : Bool := !(tget [] s.flow.recircq pl).isEmpty && !srcHeld 65 s

/-- Internal traffic waits for the ingress half (R20). -/
def internalWaits (pl : Nat) (s : State) : Bool :=
  !(tget [] s.flow.rerunq pl).isEmpty || recircWaits pl s ||
    (injOpen pl s && (List.range 8).any fun q => (injTurn pl q s).isSome)

def setGranted (pl n : Nat) (s : State) : State := setBuf { s.buf with granted := tset 0 s.buf.granted pl n } s

/-- A port frame is granted: after 8 of them the clock is the waiting internal traffic's.  DESIGN CHOICE (log 79): the internal
clock is the last of each window of 9. -/
def portGrant (pl : Nat) (s : State) : Option State :=
  if !internalWaits pl s then some s
  else
    let n := tget 0 s.buf.granted pl
    if 8 ≤ n then none else some (setGranted pl (n + 1) s)

/-- Internal traffic is granted: any clock on which no port frame waits, else one clock in 9. -/
def internalGrant (pl : Nat) (s : State) : Option State :=
  if !portWaits pl s then some s
  else if 8 ≤ tget 0 s.buf.granted pl then some (setGranted pl 0 s) else none

/-- A frame that the arbiter has granted crosses the fabric to its pipeline and enters the parser; an uncorrectable flit drops
it (R371). -/
def crossFabric (p d : Nat) (known : Bool) (s : State) : State :=
  let pl := (getFrame d s).owner
  let (ok, s) := flit pl s
  bufSync (pendSync p (if ok then enterFrame d pl known s else discard d (bump .FABRIC_UE 0 s)))

/-- PARSER_ENTRY: the oldest frame that the port has received enters the parser when the arbiter grants it (R19).  One that is
still arriving enters only to be cut through (R47, R261); otherwise it waits for its end. -/
def execParserEntry (p : Nat) (s : State) : Host.Outcome State Fault Refusal :=
  .next (match tget [] s.buf.rxq p with
    | [] => s
    | d :: rest =>
      let f := getFrame d s
      if sentinelDue f.owner 0 s then wakeHalf f.owner 0 s
      else if !portReady p d s then s
      else
        match portGrant f.owner s with
        | none => s
        | some g =>
          let s0 := setBuf { g.buf with rxq := tset [] g.buf.rxq p rest } g
          if f.arrived.isNone then crossFabric p d true s0
          else if ((enterFrame d f.owner false s0).buf.inTx.any fun x => x.2 == d) then
            crossFabric p d false s0
          else s)

/-- RERUN_PARSER_ENTRY: the oldest re-run of a pipeline, when the arbiter grants it (R19, R20, R128). -/
def execRerunParserEntry (pl : Nat) (s : State) : Host.Outcome State Fault Refusal :=
  .next (if sentinelDue pl 0 s then (if (tget [] s.flow.rerunq pl).isEmpty then s else wakeHalf pl 0 s) else
    match tget [] s.flow.rerunq pl, internalGrant pl s with
    | [], _ => s
    | _, none => s
    | d :: rest, some s =>
      let s := endHold d (wakeHalf pl 0 (setFlow { s.flow with rerunq := tset [] s.flow.rerunq pl rest } s))
      let l := (getPkt d s).rerun
      let s := ingressPass d true (setFrame d { getFrame d s with edits := [], marked := false } s)
      bufSync (match l with
        | some l => rerunDone l s
        | none => s))

/-- RECIRCULATION_ENTRY: the oldest recirculated packet of a pipeline, after its re-runs, while its source
is not held, when the arbiter grants it (R19, R20, R64, R256). -/
def execRecirculationEntry (pl : Nat) (s : State) : Host.Outcome State Fault Refusal :=
  .next (if sentinelDue pl 0 s then (if (tget [] s.flow.recircq pl).isEmpty then s else wakeHalf pl 0 s) else
    match tget [] s.flow.rerunq pl, tget [] s.flow.recircq pl, internalGrant pl s with
    | [], d :: rest, some g =>
      if srcHeld 65 s then s else
      let s := g
      let s := wakeHalf pl 0 (setFlow { s.flow with recircq := tset [] s.flow.recircq pl rest } s)
      bufSync (ingressPass d true (setFrame d { getFrame d s with marked := false } s))
    | _, _, _ => s)

end Sys2Proof.Machine
end

