-- ==== Sys2Proof/Machine/Sweep.lean ====
section
/-!
DEFINITION. The ageing sweeps (R96–R100) and the table migration (R104–R109).
-/
namespace Sys2Proof.Machine

/-! Work that holds a bucket (R92). -/

/-- A visit cannot take a bucket: a lookup has an operation on it, or its line finds the bucket cache full. -/
def bucketHeld (r1 : Bool) (bucket : Nat) (s : State) : Bool :=
  let k := bucketKey r1 bucket
  lookupHolds k s || bucketFull k s

/-- The occupied slots of a line: record slot and PAIR. -/
def lineRecords (l : Bytes) : List (Nat × Bool) :=
  (List.range 10).filterMap fun j =>
    let v := slotAt l j
    if slotOcc v then some (slotPtr v, slotPair v) else none

/-- The bucket taken: its line is read, and its records stand to be visited in slot order. -/
def takeBucket (req : Nat) (copy : Bool) (bucket : Nat) (s : State) : State :=
  let r1 := s.flow.idx1
  let (l, s) := readLine req r1 bucket s
  setWork (some { key := bucketKey r1 bucket, copy := copy, left := lineRecords l }) s

/-- The visit that holds the bucket goes through the records left, until one has to wait; whether it has ended (R97). -/
def visit (f : Bool → Nat → Bool → State → Bool × State) : List (Nat × Bool) → Bool → State → Bool × State
  | [], _, s => (true, s)
  | (n, pair) :: rest, again, s =>
    match f again n pair s with
    | (true, s) => visit f rest false s
    | (false, s) =>
      (false, setFlow { s.flow with work := s.flow.work.map fun w => { w with left := (n, pair) :: rest, read := true } } s)

/-! The bulk sweep (R97). -/

/-- The canonical key of a stored key. -/
def fullKey (img : Bytes) : Bytes := if isStd img then imgKey img else expandKey (imgKey img)

/-- The place of a record's flow in the hot tier. -/
def hotOfRecord (img : Bytes) (s : State) : Option Nat := hotPlace (fullKey img) (ckOf (imgKey img) s) s

/-- A visit pauses at a record: whether its line 1 has been read, and whether its flow is hot. -/
def pauseVisit (line1 hot : Bool) (s : State) : State :=
  setWork (s.flow.work.map fun w => { w with line1 := line1, hot := hot }) s

/-- What a paused visit has read of the record that it resumes still stands. A record whose flow was hot and has been written
back since is read anew (R92, R97). -/
def stillRead (n : Nat) (s : State) : Bool :=
  !(s.flow.work.any (·.hot)) || (hotOfRecord (hbmPeek (recAddr n) 64 s) s).isSome

/-- Flow state read by a visit; what it has read before it paused it does not read again. -/
def visitRead (again : Bool) (req a n : Nat) (s : State) : Option Bytes × State :=
  if again then (some (hbmPeek a n s), s) else flowRead req a n s

/-- A record as the sweep reads it: line 0, or the whole image where an eviction context has it (R87); none when it is
uncorrectable. The flag says that line 1 is at hand. -/
def sweepRead (again : Bool) (req n : Nat) (pair : Bool) (s : State) : Option (Bytes × Bool) × State :=
  match evictCtx n s with
  | some x => (some (storedImage (fit (recSize pair) x.2.img), true), s)
  | none =>
    match visitRead again req (recAddr n) 64 s with
    | (some b, s) => (some (if pair then b ++ zeros 64 else b, !pair), s)
    | (none, s) => (none, s)

/-- The timeouts of a profile that are not zero, in ms. -/
def anyTimeouts (fp : Bytes) : List Nat := ([fpIdle fp, fpFin fp, fpRst fp].filter (· != 0)).map (1000 * ·)

/-- What line 0 of a record decides (R97): the reason of an expiry, or that it has not expired; none when it decides nothing. -/
def lineDecides (img : Bytes) (s : State) : Option (Option Nat) :=
  let fp := fpRec s.ep.activeNo (imgProfile img) s
  let idle := idleMs (msNow s) (imgLast img)
  if fpIdle fp ≠ 0 ∧ fpIdle fp * 1000 ≤ idle then some (some 0)
  else if (anyTimeouts fp).all fun t => decide (idle < t) then some none
  else none

/-- Line 1 of a standard record read by the sweep. -/
def withLine1 (again : Bool) (req n : Nat) (img : Bytes) (s : State) : Option Bytes × State :=
  match visitRead again req (recAddr n + 64) 64 s with
  | (some b, s) => (some (fit 64 img ++ b), s)
  | (none, s) => (none, s)

/-- A record that is not hot: whether it has expired and for which reason, its image, and whether line 1 is in it; `.error`
an uncorrectable line 1. -/
def recordExpiry (again : Bool) (n : Nat) (img : Bytes) (whole : Bool) (s : State) :
    Except Unit (Option Nat × Bytes × Bool) × State :=
  if whole then (.ok (expiredImg img s, img, true), s)
  else
    match lineDecides img s with
    | some why => (.ok (why, img, false), s)
    | none =>
      match withLine1 again 2 n img s with
      | (some img, s) => (.ok (expiredImg img s, img, true), s)
      | (none, s) => (.error (), s)

/-- The place of the index entry whose removal the sweep makes. -/
def recordPlace (img : Bytes) (s : State) : IdxPlace := placeOfKey (ckOf (imgKey img) s) s

/-- The index slot of an unusable record cleared from its line (R103). -/
def dropSlot (req : Nat) (r1 : Bool) (bucket n : Nat) (s : State) : State :=
  let (l, s) := readLine req r1 bucket s
  match slotOf n l with
  | some j => raise 27 n 0 (bump .REC_UE 0 (writeLine req r1 bucket (clearAt j l) s))
  | none => s

/-- One record of a bucket under the sweep; false when the sweep has to pause at it (R97). -/
def sweepRecord (bucket : Nat) (again : Bool) (n : Nat) (pair : Bool) (s : State) : Bool × State :=
  let r1 := s.flow.idx1
  let again := again && stillRead n s
  match sweepRead again 2 n pair s with
  | (none, s) => (true, dropSlot 2 r1 bucket n s)
  | (some (img, whole), s) =>
    if !bit (imgCtrl img) 0 then (true, s)
    else if imgSlot img ≠ n then (true, dropSlot 2 r1 bucket n s)
    else
      let s := setsCheck (ckOf (imgKey img) s) s
      match (hotOfRecord img s).bind fun k => (hotGet k s).map fun e => (k, e) with
      | some (k, e) =>
        match (if imgProv e.img then none else expiredImg e.img s) with
        | none => (true, s)
        | some why =>
          if !canAge (recProfile pair img) s then (false, pauseVisit false true s)
          else (true, removeRecord 2 (recordPlace img s) n pair why img whole (hotDel k (saveWraps e s)))
      | none =>
        match recordExpiry (again && s.flow.work.any (·.line1)) n img whole s with
        | (.error _, s) => (true, dropSlot 2 r1 bucket n s)
        | (.ok (none, _, _), s) => (true, s)
        | (.ok (some why, img, whole), s) =>
          if !canAge (recProfile pair img) s then (false, pauseVisit (pair && whole) false s)
          else (true, removeRecord 2 (recordPlace img s) n pair why img whole s)

/-- The sweep goes on to the next bucket; a pass that took longer than one period is late (R100). -/
def sweepNext (s : State) : State :=
  let n := s.flow.sweepAt + 1
  if n < 2 ^ s.flow.bucketBits then setFlow { s.flow with sweepAt := n } s
  else
    let late := decide (1000 * s.flow.period < idleMs (msNow s) s.flow.sweepBegan)
    let s := setFlow { s.flow with sweepAt := 0, sweepBegan := msNow s } s
    if late then raise 30 0 0 (bump .SWEEP_LATE 0 s) else s

/-- The visit of the sweep goes on; at its end the line is written once if records have been removed (R97, R100). -/
def sweepWork (w : BucketWork) (s : State) : State :=
  match visit (sweepRecord (w.key % 2 ^ 28)) w.left w.read s with
  | (true, s) => sweepNext (endWork s)
  | (false, s) => leaveBuckets s

/-- BULK_SWEEP_VISIT (R97, R106): the sweep is suspended in the COPY phase and waits for work on its bucket. -/
def execBulkSweepVisit (s : State) : Host.Outcome State Fault Refusal :=
  .next (
    match s.flow.work with
    | some w => if w.copy then s else sweepWork w s
    | none =>
      if (s.flow.mig.map (·.copy)).getD false || bucketHeld s.flow.idx1 s.flow.sweepAt s then s
      else
        let s := takeBucket 2 false s.flow.sweepAt s
        match s.flow.work with
        | some w => sweepWork w s
        | none => s)

/-! The hot sweep (R98). -/

/-- An unwritten body written back: BODY set, DIRTY clear (R98, R105). -/
def writeBack (req k : Nat) (s : State) : State :=
  match hotGet k s with
  | some e =>
    setFlow { s.flow with hot := tput s.flow.hot k { e with img := ctrlBit 4 true (ctrlBit 3 false e.img) } }
      (writeBody req e.img s)
  | none => s

/-- One entry under the hot sweep; false when its eviction graph has to wait for a context (R98, R134, R152). -/
def hotSweepEntry (k : Nat) (s : State) : Bool × State :=
  match hotGet k s with
  | none => (true, s)
  | some e =>
    if imgAlias e.img || imgProv e.img || (expiredImg e.img s).isNone then (true, s)
    else if imgNoslot e.img then if canEvict s.ep.activeNo [k] s then (true, evict s.ep.activeNo k s) else (false, s)
    else if !imgBody e.img then (true, writeBack 2 k s)
    else (true, s)

/-- HOT_SWEEP_VISIT (R98). It goes on in the COPY phase (DEDUCED, log 59: R106 suspends "the ageing sweep", which R97 names). -/
def execHotSweepVisit (s : State) : Host.Outcome State Fault Refusal :=
  .next (
    let set := s.flow.hotAt
    let (done, s) := (setPlaces set).foldl (fun (a : Bool × State) k =>
      let (d, s) := hotSweepEntry k a.2
      (a.1 && d, s)) (true, setCheck set s)
    if done then setFlow { s.flow with hotAt := (set + 1) % 508416 } s else s)

/-! The journal (R108). -/

def journalBytes (st : Nat) (m : Migration) (s : State) : Bytes :=
  let b := leBytes 4 0x4A4E4731 ++ leBytes 4 s.flow.journalSeq ++ leBytes 4 s.flow.migId ++ leBytes 1 st ++ leBytes 1 m.oldB ++
    leBytes 1 m.newB
  let b := b ++ leBytes 1 (b2n s.flow.idx1) ++ leBytes 8 m.oldSeed ++ leBytes 8 m.newSeed ++ leBytes 4 m.cursor
  let b := b ++ leBytes 4 s.flow.migRate ++ leBytes 8 m.moved ++ leBytes 4 m.orphans ++ leBytes 4 m.dropped ++ zeros 4
  b ++ leBytes 4 (crc32c b)

/-- A journal write: SEQ one higher, the copies in turn (log 46). -/
def journal (st : Nat) (m : Migration) (s : State) : State :=
  let s := setFlow { s.flow with journalSeq := (s.flow.journalSeq + 1) % 2 ^ 32 } s
  hbmWrite 9 (regionBase 11 + 64 * (s.flow.journalSeq % 2)) (journalBytes st m s) s

/-! The flush and the copy (R105). -/

/-- An entry that the flush still has to write back: BODY 0 with a valid SLOT. -/
def unflushed (e : HotEntry) : Bool := !imgAlias e.img && !imgProv e.img && !imgNoslot e.img && !imgBody e.img

def setMig (m : Migration) (s : State) : State := setFlow { s.flow with mig := some m } s

/-- A journal write that changes STATE, with its event (R415; DEDUCED, log 46). -/
def journalState (st : Nat) (m : Migration) (s : State) : State :=
  postEvent 15 (leBytes 1 st ++ zeros 3 ++ leBytes 4 m.cursor) (journal st m s)

/-- The FLUSH phase ends: COPY from bucket 0. A visit of the sweep, which the phase suspends, ends. -/
def startCopy (m : Migration) (s : State) : State :=
  let m := { m with copy := true, cursor := 0 }
  journalState 2 m (setMig m (endWork s))

/-- MIGRATION_FLUSH: the next unwritten body, or the end of the phase. -/
def execMigrationFlush (s : State) : Host.Outcome State Fault Refusal :=
  .next (match s.flow.mig with
    | some m =>
      if m.copy || m.held then s
      else
        match s.flow.hot.find? fun x => unflushed x.2 with
        | some (k, _) => writeBack 9 k s
        | none => startCopy m s
    | none => s)

def onMig (f : Migration → Migration) (s : State) : State := setFlow { s.flow with mig := s.flow.mig.map f } s

/-- A slot of the old line cleared. -/
def clearOld (bucket n : Nat) (s : State) : State :=
  let (l, s) := readLine 9 s.flow.idx1 bucket s
  match slotOf n l with
  | some j => writeLine 9 s.flow.idx1 bucket (clearAt j l) s
  | none => s

/-- The new index holds the record already: its new line is read, and its partner's where the new line has overflowed (R105,
R107). -/
def inNew (p : IdxPlace) (n : Nat) (s : State) : Bool × State :=
  let (h, s) := readLine 9 p.r1 p.bucket s
  if (slotOf n h).isSome then (true, s)
  else if lineOvf h = 0 then (false, s)
  else
    let (q, s) := readLine 9 p.r1 p.partner s
    ((slotOf n q).isSome, s)

/-- A record that fits neither bucket: its removal waits for a context. The spec gives its ageing graph no reason code: V2
is a free value (log 2). -/
def migDrop (bucket n : Nat) (pair : Bool) (img : Bytes) (whole : Bool) (s : State) : Bool × State :=
  if !canAge (imgProfile img) s then (false, s)
  else
    let s := raise 29 n 0 (bump .MIG_DROP 0 (clearOld bucket n s))
    let s := onMig (fun m => { m with dropped := m.dropped + 1 }) (tombstone 9 n pair s)
    let w := tget (0, 0) s.flow.wraps n
    let why := freeVal s
    (true, startAgeing (imgProfile img) n (fld img (if pair then 48 else 24) 4) why img (!pair)
      (if pair && !whole then some n else none) (some (n, pair)) w (tookFree s))

/-- A record entered in the new index, unless it stands there; whether it has a place. Its new line leaves the cache, so that
each record reads and writes one (R105, R107). -/
def insertNew (m : Migration) (n : Nat) (pair : Bool) (img : Bytes) (s : State) : Bool × State :=
  let p := newPlace m (ckOf (imgKey img) s) s
  match inNew p n s with
  | (true, s) => (true, leaveBuckets s)
  | (false, s) =>
    match index 9 p n pair s with
    | (true, s) => (true, leaveBuckets (onMig (fun m => { m with moved := m.moved + 1 }) (bump .MIG_MOVED 0 s)))
    | (false, s) => (false, leaveBuckets s)

/-- One record under the copy; false when it has to wait. -/
def copyRecord (m : Migration) (bucket : Nat) (again : Bool) (n : Nat) (pair : Bool) (s : State) : Bool × State :=
  match sweepRead again 9 n pair s with
  | (none, s) => (true, dropSlot 9 s.flow.idx1 bucket n s)
  | (some (img, whole), s) =>
    if !bit (imgCtrl img) 0 then
      let s := bump .MIG_ORPHAN 0 (freeSlot n pair (clearOld bucket n s))
      (true, onMig (fun m => { m with orphans := m.orphans + 1 }) s)
    else
      match insertNew m n pair img s with
      | (true, s) => (true, s)
      | (false, s) => migDrop bucket n pair img whole s

/-- The SWITCH phase: the journal names the regions as they were before it. Hot entries stay where the old seed has placed them and
are found there (R83; log 59). -/
def switchIndex (m : Migration) (s : State) : State :=
  let s := journalState 3 m s
  let old := ((s.flow.hashSeed :: s.flow.seeds).eraseDups).filter (· != m.newSeed)
  setFlow { s.flow with idx1 := !s.flow.idx1, bucketBits := m.newB, hashSeed := m.newSeed, seeds := old, mig := none,
                        sweepAt := 0, sweepBegan := msNow s } s

/-- The cursor passes the bucket: journal after every 4,096, SWITCH at the end of the old index (R105). -/
def copyNext (s : State) : State :=
  match s.flow.mig with
  | none => s
  | some m =>
    let m := { m with cursor := m.cursor + 1 }
    let s := setMig m s
    let s := if m.cursor % 4096 = 0 then journal 2 m s else s
    if m.cursor = 2 ^ m.oldB then switchIndex m s else s

/-- The visit of the copy goes on; at its end the old line is written once if slots have been cleared. -/
def copyWork (m : Migration) (w : BucketWork) (s : State) : State :=
  match visit (copyRecord m (w.key % 2 ^ 28)) w.left w.read s with
  | (true, s) => copyNext (endWork s)
  | (false, s) => leaveBuckets s

/-- The bucket at the cursor copied. -/
def copyBucket (m : Migration) (s : State) : State :=
  match s.flow.work with
  | some w => copyWork m w s
  | none =>
    if bucketHeld s.flow.idx1 m.cursor s then s
    else
      let s := takeBucket 9 true m.cursor s
      match s.flow.work with
      | some w => copyWork m w s
      | none => s

/-- MIGRATION_COPY_BUCKET. -/
def execMigrationCopyBucket (s : State) : Host.Outcome State Fault Refusal :=
  .next (match s.flow.mig with
    | some m => if m.copy && !m.held then copyBucket m s else s
    | none => s)

end Sys2Proof.Machine
end

