-- ==== Sys2Proof/Machine/FlowCmd.lean ====
section
/-!
DEFINITION. The commands of the flow tiers, of admission and of the graphs (R97, R102–R114, R129, R136–R138, R147, R151–R153,
R411–R413, R535).
-/
namespace Sys2Proof.Machine

/-! FLOW_TABLE_INIT (0x0401). -/

/-- A stateful action stands in a bank: in a rule or in a default (R50, R52). -/
def statefulBank (k : Bank) : Bool :=
  (k.rules.any fun x => ruleValid x.2 && actKind (ruleAction x.2) == 4) || k.cls.any fun x => actKind (fld x.2 0 8) == 4

/-- An admission discarded with its log: its instance is cancelled and its packets are dropped (R92, R153). -/
def discardAdmission (l : Nat) (s : State) : State :=
  let s := match (getLog l s).bind (·.ctx) with
    | some c => cancelInst c s
    | none => s
  releaseLog l (dropHeld l (dropEntry l s))

/-- Every instance of kinds 1 to 4 cancelled (R153). -/
def cancelFlowGraphs (s : State) : State :=
  forEach ((s.task.ctx.filter fun x => x.2.kind != 0).map (·.1)) cancelInst s

/-- Flow memory reads as never written: REC, IDX0 and IDX1, and the rings, where the pair ring names every pair (R90, log 3). -/
def clearFlowMem (s : State) : State :=
  let top := regionBase 5
  { s with hbm := { s.hbm with mem := s.hbm.mem.filter fun c => decide (top ≤ c.1),
                               bad := s.hbm.bad.filter fun x => decide (top ≤ 32 * x.1) } }

/-- The flow tables initialised (R104; R448 step 5). -/
def initTables (b seed fp : Nat) (s : State) : State :=
  let s := cancelFlowGraphs (forEach (s.flow.log.map (·.1)) discardAdmission s)
  let s := clearFlowMem s
  setFlow { s.flow with hot := [], lru := [], bucketBits := b, hashSeed := seed, seeds := [], fpSeed := fp, mig := none, wraps := [],
                        pairs := { wr := 2 ^ 29 }, singles := {}, bucket := [], work := none, sweepAt := 0,
                        sweepBegan := msNow s } s

/-- FLOW_TABLE_INIT (0x0401): BUSY while any stateful rule is in the active bank or a migration exists, as its row of the
command table says (03_flow_state_tiers.md). -/
def flowTableInitH : YHandler := formO 24 [(1, 7)] fun b s =>
  need (decide (20 ≤ fld b 0 1 ∧ fld b 0 1 ≤ 28)) stRANGE s <|
  need (!statefulBank s.ep.activeBank && s.flow.mig.isNone) stBUSY s <|
  yOk [] (bufSync (initTables (fld b 0 1) (fld b 8 8) (fld b 16 8) s))

def execFlowTableInit (r : YcpReq) (s : State) : Host.Outcome State Fault Refusal := ycp 0x0401 r flowTableInitH s

/-! FLOW_TABLE_STATUS (0x0402). -/

/-- Records in the active index: COUNT of every line (R89), that of a visited bucket as its cached line has it. -/
def recordCount (s : State) : Nat :=
  let a := idxBase s.flow.idx1
  let n := 64 * 2 ^ s.flow.bucketBits
  ((s.hbm.mem.filter fun c => decide (a ≤ c.1 ∧ c.1 < a + n) && c.1 % 64 == 0).map fun c =>
    lineCount (lineNow s.flow.idx1 ((c.1 - a) / 64) s)).sum

/-- Hot flows of a format. -/
def hotFlows (std : Bool) (s : State) : Nat := (s.flow.hot.filter fun x => !imgAlias x.2.img && isStd x.2.img == std).length

/-- STATE of the migration as the journal has it (R108). -/
def migState (s : State) : Nat :=
  match s.flow.mig with
  | none => 0
  | some m => if m.copy then 2 else 1

/-- The properties of FLOW_TABLE_STATUS (R412; names: log 42). -/
def flowProps (s : State) : List Bytes :=
  [pNum "HOT_STANDARD" 8 (hotFlows true s), pNum "HOT_COMPACT" 8 (hotFlows false s), pNum "RECORDS" 8 (recordCount s),
   pNum "BUCKET_BITS" 1 s.flow.bucketBits, pNum "FREE_PAIRS" 8 s.flow.pairs.size, pNum "FREE_SINGLES" 8 s.flow.singles.size,
   pNum "SWEEP_BUCKET" 8 s.flow.sweepAt, pNum "STATE" 1 (migState s), pNum "MIG_ID" 4 s.flow.migId,
   pNum "CURSOR" 4 ((s.flow.mig.map (·.cursor)).getD 0), pNum "MIG_RATE" 4 s.flow.migRate]

def execFlowTableStatus (r : YcpReq) (s : State) : Host.Outcome State Fault Refusal :=
  ycp 0x0402 r (emptyBody fun s => yRead (propList (flowProps s)) s) s

/-! FLOW_LOOKUP (0x0404) and FLOW_DELETE (0x0405). -/

/-- The hot place of a canonical key. -/
def hotOfKey (key : Bytes) (s : State) : Option Nat := hotPlace key (compactKey s.flow.fpSeed key) s

/-- A flow as a command finds it: its image and whether it is hot. -/
def findFlow (key : Bytes) (s : State) : Option (Bytes × Bool) × State :=
  let s := setsCheck (compactKey s.flow.fpSeed key) s
  match (hotOfKey key s).bind fun k => hotGet k s with
  | some e => (some (e.img, true), s)
  | none =>
    match bulkFind 10 key s with
    | (some (_, _, img), s) => (some (img, false), leaveBuckets s)
    | (none, s) => (none, leaveBuckets s)

/-- A visit of the sweep or of a copy holds the home bucket of a key or its partner (R92). -/
def keyHeld (key : Bytes) (s : State) : Bool :=
  let p := placeOfKey (ckOf key s) s
  workHolds (bucketKey p.r1 p.bucket) s || workHolds (bucketKey p.r1 p.partner) s

/-- A flow that is not hot cannot be read now: a visit holds its bucket, which the lookup waits for. The command is BUSY
(DESIGN CHOICE, log 46). -/
def lookupHeld (key : Bytes) (s : State) : Bool :=
  keyHeld key s && (hotOfKey key (setsCheck (compactKey s.flow.fpSeed key) s)).isNone

def flowLookupH : YHandler := formO 56 [(49, 7)] fun b s =>
  need (!lookupHeld (slice b 0 48) s) stBUSY s <|
  match findFlow (slice b 0 48) s with
  | (some (img, hot), s') => yRead (fit 128 img ++ leBytes 4 (b2n (!hot))) s'
  | (none, _) => yFail stNOT_FOUND s

def execFlowLookup (r : YcpReq) (s : State) : Host.Outcome State Fault Refusal := ycp 0x0404 r flowLookupH s

/-- A hot flow deleted (R535).  DEDUCED (log 63): AGE_EXPIRED counts the removal of a record, so that a NOSLOT flow, which has none,
advances it neither here nor at its eviction. -/
def deleteHot (k : Nat) (e : HotEntry) (s : State) : State :=
  let img := e.img
  let s := hotDel k s
  if imgNoslot img then startAgeing (imgProfile img) (imgSlotWord img) (imgCtrl img) 4 img (!isStd img) none none e.wraps s
  else
    let n := imgSlot img
    let s := tombstone 2 n (isStd img) (leaveBuckets (unindex 2 (oldPlace (ckOf (imgKey img) s) s) n s))
    startAgeing (imgProfile img) (imgSlotWord img) (imgCtrl img) 4 img (!isStd img) none (some (n, isStd img)) e.wraps
      (bump .AGE_EXPIRED 0 s)

/-- A removal by command (R535). BUSY as well while no context is free for its ageing graph, and while a visit holds the
flow's bucket (log 46). -/
def deleteFlow (key : Bytes) (s : State) : YRes :=
  let s' := setsCheck (compactKey s.flow.fpSeed key) s
  match hotOfKey key s' with
  | some k =>
    match hotGet k s' with
    | none => yFail stNOT_FOUND s
    | some e =>
      need (!imgProv e.img && s.flow.mig.isNone && canAge (imgProfile e.img) s' && (imgNoslot e.img || !keyHeld key s')) stBUSY s <|
      yOk [] (deleteHot k e s')
  | none =>
    need (s.flow.mig.isNone && !keyHeld key s) stBUSY s <|
    match bulkFind 2 key s' with
    | (none, _) => yFail stNOT_FOUND s
    | (some (n, pair, img), s') =>
      need (canAge (recProfile pair img) s') stBUSY s <|
      yOk [] (leaveBuckets (removeRecord 2 (oldPlace (ckOf (imgKey img) s') s') n pair 4 img false s'))

def execFlowDelete (r : YcpReq) (s : State) : Host.Outcome State Fault Refusal :=
  ycp 0x0405 r (formO 56 [(49, 7)] fun b s => deleteFlow (slice b 0 48) s) s

/-! FLOW_AGEING_SET (0x0406). -/

def execFlowAgeingSet (r : YcpReq) (s : State) : Host.Outcome State Fault Refusal :=
  ycp 0x0406 r (formO 4 [] fun b s =>
    need (decide (1 ≤ fld b 0 4 ∧ fld b 0 4 ≤ 3600)) stRANGE s <|
    yOk [] (setFlow { s.flow with period := fld b 0 4 } s)) s

/-! FLOW_MIGRATE (0x0407). -/

/-- START with another HASH_SEED while the device is joined with another member (R459). -/
def seedDenied (seed : Nat) (s : State) : Bool :=
  inMode mJOINED s && decide (1 < (ringMembers s).length) && seed != s.flow.hashSeed

/-- The inactive index region is cleared for the new index. -/
def clearNewIndex (s : State) : State :=
  let a := idxBase (!s.flow.idx1)
  let inside (x : Nat) : Bool := decide (a ≤ x ∧ x < a + 2 ^ 34)
  { s with hbm := { s.hbm with mem := s.hbm.mem.filter fun c => !inside c.1, bad := s.hbm.bad.filter fun x => !inside (32 * x.1) } }

/-- A migration starts in FLUSH (R104, R105). -/
def startMigration (b seed rate : Nat) (s : State) : State :=
  let m : Migration := { oldB := s.flow.bucketBits, newB := b, oldSeed := s.flow.hashSeed, newSeed := seed }
  let s := clearNewIndex s
  journalState 1 m (setFlow { s.flow with mig := some m, migRate := rate, migId := (s.flow.migId + 1) % 2 ^ 32 } s)

def rateOk (n : Nat) : Bool := decide (4 ≤ n ∧ n ≤ 256)

/-- The three operations. RESUME of no held migration, and an OP not listed, are bad requests (log 46). -/
def flowMigrateH : YHandler := formE 20 [(5, 3)] [(4, opIn 1 3)] fun b s =>
  let op := fld b 0 4
  let newB := fld b 4 1
  let rate := fld b 16 4
  if op = 1 then
    need (!seedDenied (fld b 8 8) s) stDENIED s <|
    need (decide (20 ≤ newB ∧ newB ≤ 28) && rateOk rate) stRANGE s <|
    need s.flow.mig.isNone stBUSY s <|
    need (decide (recordCount s ≤ 4 * 2 ^ newB)) stNOSPACE s <|
    yOk [] (startMigration newB (fld b 8 8) rate s)
  else if op = 2 then
    match s.flow.mig with
    | some m =>
      need m.held stBUSY s <|
      yOk [] { setMig { m with held := false } s with host := { s.host with migResumable := false } }
    | none => yFail stNOT_FOUND s
  else
    need (rateOk rate) stRANGE s <|
    yOk [] (setFlow { s.flow with migRate := rate } s)

def execFlowMigrateStart (r : YcpReq) (s : State) : Host.Outcome State Fault Refusal := ycp 0x0407 r flowMigrateH s
def execFlowMigrateResume (r : YcpReq) (s : State) : Host.Outcome State Fault Refusal := ycp 0x0407 r flowMigrateH s
def execFlowMigrateRate (r : YcpReq) (s : State) : Host.Outcome State Fault Refusal := ycp 0x0407 r flowMigrateH s

/-! Admission (R114, R129). -/

/-- FLOW_ADMIT_CLASS_SET (0x0409). -/
def classCheck (_ : State) (i : Nat) (b : Bytes) : Nat :=
  if fld b 0 1 < 2 ∧ fld b 1 1 < 3 ∧ fld b 2 1 < 64 ∧ fld b 3 1 = 0 then if i < 16 then stOK else stRANGE else stINVALID

def classApply (i : Nat) (b : Bytes) (s : State) : State := setFlow { s.flow with cls := tset (zeros 4) s.flow.cls i b } s

def execFlowAdmitClassSet (r : YcpReq) (s : State) : Host.Outcome State Fault Refusal :=
  ycp 0x0409 r (formL (fun _ => 4) classCheck classApply) s

/-- Held packets of a pipeline, RESOLVED or DEFERRED; those of a log in REPLAY count until it ends (R129). -/
def heldOf (pl : Nat) (resolved : Bool) (s : State) : Nat :=
  ((s.flow.log.filter fun x => x.2.pipe == pl).map fun x =>
    let u := x.2
    let n := (u.hold.filter fun h => h.2 == resolved).length
    if resolved then n + u.rerunsRes else n + (u.rerunsLeft + u.rerunsDone - u.rerunsRes)).sum

/-- The properties of FLOW_ADMIT_STATUS (R412; names: log 42). -/
def admitProps (s : State) : List Bytes :=
  let pls := List.range 17
  [pArr "PROVISIONAL" 8 (pls.map fun p => (s.flow.log.filter fun x => x.2.pipe == p).length),
   pArr "RESOLVED" 8 (pls.map fun p => heldOf p true s), pArr "DEFERRED" 8 (pls.map fun p => heldOf p false s),
   pCtr .HOLD_CELLS s, pArr "QUEUE_DEPTH" 8 (pls.map fun p => (admQueue p s).length), pCtr .ADM_START s, pCtr .ADM_CONFIRM s,
   pCtr .ADM_SQUASH s, pCtr .ADM_RERUN s, pCtr .ADM_DEFER s, pCtr .ADM_OVF_ORDER s, pCtr .HOLD_EXP_FLOWS s, pCtr .HOLD_EXP_PKTS s,
   pCtr .MISS_OVF s, pCtr .ADM_QWAIT_EXP s, pCtr .ADM_REJECT_PKTS s, pCtr .ADM_ABANDON s, pCtr .ADM_ABANDON_PKTS s,
   pCtr .ADM_EXP_CONFLICT s, pCtr .UNDO_APPLIED s, pCtr .UNDO_STALE s, pCtr .UNDO_LOST s]

def execFlowAdmitStatus (r : YcpReq) (s : State) : Host.Outcome State Fault Refusal :=
  ycp 0x040A r (emptyBody fun s => yRead (propList (admitProps s)) s) s

/-! Graph templates (R136–R138). -/

/-- A template that is written: templates 0–63 are the shipped set. -/
def templateCheck (_ : State) (i : Nat) (b : Bytes) : Nat :=
  if !tplOk i b then stINVALID else if i < 64 then stDENIED else if 1024 ≤ i then stRANGE else stOK

def templateApply (i : Nat) (b : Bytes) (s : State) : State :=
  onShadow (fun k => { k with templates := tset (zeros 544) k.templates i b }) s

def execGraphTemplateWrite (r : YcpReq) (s : State) : Host.Outcome State Fault Refusal :=
  ycp 0x0410 r (formLE (fun _ => 544) templateCheck templateApply) s

def execGraphTemplateRead (r : YcpReq) (s : State) : Host.Outcome State Fault Refusal :=
  ycp 0x0411 r (formSel 2 1024 544 fun s sel i => tplRec (sel == 1) i s) s

/-! GRAPH_RUN (0x0412) and GRAPH_CANCEL (0x0413). -/

/-- The next RUN_ID: never 0, which means none (R135). -/
def nextRun (s : State) : Nat := s.task.lastRun % (2 ^ 32 - 1) + 1

/-- A host run accepted: its start task becomes ready, and its slots stand in the run table (R147, R149). -/
def startRun (t : Nat) (v : List Nat) (mbx : Option (Fin 8)) (s : State) : State :=
  let id := nextRun s
  let bank := s.ep.activeNo
  let s := setTask { s.task with lastRun := id, run := tput s.task.run id { tpl := t, bank := bank, v := v, mbx := mbx } } s
  pushTask { ty := .start, level := tplPrio (tplRec bank t s), bank := bank, tpl := t, stamp := readyStamp s,
             arg0 := v.headD 0, arg1 := id, runId := id } s

/-- A template that does not exist is NOT_FOUND (R408, log 46). -/
def graphRunH : YHandler := fun r b _ s =>
  let t := fld b 0 4
  let tr := tplRec s.ep.activeNo t s
  let wait := bit (fld b 4 4) 0
  need (decide (fld b 4 4 < 2)) stINVALID s <|
  need (b.length == 72) stLENGTH s <|
  need (decide (t < 1024)) stRANGE s <|
  need (!inBp (tplPrio tr) s) stBUSY s <|
  need (!startRefused (tplPrio tr) s) stNOSPACE s <|
  need (tplCount tr != 0) stNOT_FOUND s <|
  need (tplKind tr == 0) stINVALID s <|
    let v := (List.range 8).map fun k => fld b (8 + 8 * k) 8
    let s' := startRun t v (if wait then some r.mbx else none) s
    { yRead (leBytes 4 (nextRun s) ++ zeros 4) s' with cfg := true, wait := wait }

def execGraphRun (r : YcpReq) (s : State) : Host.Outcome State Fault Refusal := ycp 0x0412 r graphRunH s

/-- The start task of a run removed from the on-die slots; a spilled one is discarded when it is read back (R153). -/
def dropStart (id : Nat) (s : State) : State :=
  forEach (List.range 8) (fun l s =>
    let x := getLevel l s
    let keep (t : Task) : Bool := t.runId != id
    bpSync l (setLevel l { x with slots := x.slots.filter keep } s)) s

/-- A run cancelled: the status that its GRAPH_END and a waiting GRAPH_RUN carry is a free value (log 2). -/
def cancelRun (id : Nat) (h : HostRun) (s : State) : State :=
  let s := match h.ctx with
    | some c => cancelInst c s
    | none => dropStart id s
  endRun id (freeVal s % 65536) [] (tookFree s)

/-- An instance of kind 1, 2 or 3 has no run number of the host's; a run whose context has chained into one is denied. -/
def graphCancelH : YHandler := formO 4 [] fun b s =>
  match tget? s.task.run (fld b 0 4) with
  | none => yFail stNOT_FOUND s
  | some h =>
    need (!(((h.ctx.bind fun c => getCtx c s).map fun x => decide (1 ≤ x.kind ∧ x.kind ≤ 3)).getD false)) stDENIED s <|
    yOk [] (cancelRun (fld b 0 4) h s)

def execGraphCancel (r : YcpReq) (s : State) : Host.Outcome State Fault Refusal := ycp 0x0413 r graphCancelH s

/-! TASK_STATUS (0x0414) and TASK_CONFIG (0x0415). -/

def startsOf (l : List Task) : Nat := (l.filter fun t => t.ty == .start).length

/-- The properties of TASK_STATUS (R412; names: log 42). -/
def taskProps (s : State) : List Bytes :=
  let ls := (List.range 8).map fun l => getLevel l s
  let engines (x : EngineSt) : Nat := ((List.range 68).filter fun e => engineState e s == x).length
  [pArr "ON_DIE" 8 (ls.map (·.slots.length)), pCtr .SPILL_DEPTH s,
   pArr "START_TASKS" 8 (ls.map fun x => startsOf x.slots + startsOf x.ring), pArr "BACK_PRESSURE" 8 (ls.map fun x => b2n x.bp),
   pArr "SPILL_BP" 4 (ls.map (·.spillBp)), pNum "ADMIT_RESERVE" 4 s.task.admitReserve,
   pNum "EVICTION_USED" 8 (poolUsed .eviction s), pNum "ADMISSION_USED" 8 (poolUsed .admission s),
   pNum "SHARED_USED" 8 (poolUsed .shared s), pCtr .CTX_IN_USE s, pNum "ENGINES_WORKING" 8 (engines .working),
   pNum "ENGINES_SPARE" 8 (engines .spare), pNum "ENGINES_GATED" 8 (engines .gated), pNum "ENGINES_FAILED" 8 (engines .failed)]

def execTaskStatus (r : YcpReq) (s : State) : Host.Outcome State Fault Refusal :=
  ycp 0x0414 r (emptyBody fun s => yRead (propList (taskProps s)) s) s

def taskConfigCheck (_ : State) (i : Nat) (b : Bytes) : Nat :=
  let v := fld b 0 4
  if i < 8 ∧ 131072 ≤ v ∧ v ≤ 2097152 ∧ v % 65536 = 0 then stOK
  else if i = 8 ∧ v ≤ 32768 ∧ v % 1024 = 0 then stOK
  else stRANGE

def taskConfigApply (i : Nat) (b : Bytes) (s : State) : State :=
  if i < 8 then bpSync i (setLevel i { getLevel i s with spillBp := fld b 0 4 } s)
  else setTask { s.task with admitReserve := fld b 0 4 } s

def execTaskConfig (r : YcpReq) (s : State) : Host.Outcome State Fault Refusal :=
  ycp 0x0415 r (formL (fun _ => 4) taskConfigCheck taskConfigApply) s

/-- The pointers that the die holds at the tail of a ring are written, and stay on the die as well (log 85). -/
def flushRing (single : Bool) (s : State) : State :=
  let r := getSlots single s
  forEach (List.range ((r.back.length + 15) / 16)) (fun k s =>
    hbmWrite 2 (ringAddr single (r.wr + 16 * k)) (ringBytes ((r.back.drop (16 * k)).take 16)) s) s

/-- The dirty lines of the bucket cache and of the rings are written (R442, R445). -/
def flushFlow (s : State) : State :=
  let s := forEach (s.svc.blocks.map (·.1)) (fun p s =>
    let r := getBlocks p s
    if r.back = [] then s else hbmWrite 4 (blockRingAddr p r.wr) (r.back.map (leBytes 4)).flatten s) s
  forEach [false, true] flushRing (endWork s)

end Sys2Proof.Machine
end

