-- ==== Sys2Proof/Machine/Rx.lean ====
section
/-!
DEFINITION. Reception at the ports (R17, R233, R234, R253, R254, R304, R506) and the end of a frame that is cut through (R47,
R261, R262).
-/
namespace Sys2Proof.Machine

/-! The MAC. -/

/-- A field that lies wholly within the first 64 bytes of a frame (R17). -/
def within64 (b : Bytes) (o n : Nat) : Bytes := if o + n ≤ min 64 b.length then slice b o n else []

/-- The source and destination ports of a TCP or UDP header (R17). -/
def macPorts (b : Bytes) (proto o : Nat) : Bytes :=
  if proto = 6 ∨ proto = 17 then within64 b o 2 ++ within64 b (o + 2) 2 else []

/-- What the MAC of an 8-lane port hashes (R17).  The byte order is PRESUMED, and the layout a DESIGN CHOICE (log 45): the fields
in the order of the rule, the VLAN identifier as 2 bytes, and a field that is absent or does not lie within the first 64 bytes
left out. -/
def macHashInput (b : Bytes) : Bytes :=
  let vlan := if isTagType (bfld b 12 2) then beBytes 2 (bfld b 14 2 % 4096) else [0, 0]
  let e := etherOff b
  let o := e + 2
  let l3 := if bfld b e 2 = 0x0800 then
      let proto := within64 b (o + 9) 1
      within64 b (o + 12) 4 ++ within64 b (o + 16) 4 ++ proto ++
        (if bfld b (o + 6) 2 % 8192 = 0 then macPorts b (proto.headD 0).toNat (o + 4 * (fld b o 1 % 16)) else [])
    else if bfld b e 2 = 0x86DD then
      let proto := within64 b (o + 6) 1
      within64 b (o + 8) 16 ++ within64 b (o + 24) 16 ++ proto ++ macPorts b (proto.headD 0).toNat (o + 40)
    else []
  slice b 0 12 ++ vlan ++ l3

/-- The pipeline of a frame received at a port (R15, R17). -/
def rxPipe (p : Nat) (b : Bytes) (s : State) : Nat :=
  if recWidth (portRec p s) = 8 then s.spare.pipeOf (2 * (p / 8) + crc32c (macHashInput b) % 2) else portPipe p s

/-- The ingress priority of a frame (R234). -/
def rxPrio (p : Nat) (b : Bytes) (s : State) : Nat :=
  if isTagType (bfld b 12 2) then bfld b 14 2 / 8192 else defPrio p s

/-- The frame check sequence of a whole frame holds. -/
def fcsOk (b : Bytes) : Bool := decide (4 ≤ b.length) && withFcs b == b

/-- The port takes frames: enabled, up or looped back on itself, and ingress not stopped (R388: also in the safe state; R442, R445). -/
def receives (p : Nat) (s : State) : Bool :=
  decide (p < 64) && portEnabled p s && hears p s && !s.pwr.ingressStopped

/-- A frame is still arriving at the port. -/
def arrivingAt (p : Nat) (s : State) : Bool :=
  (tget? s.buf.rxHead p).isSome || (tget [] s.buf.rxq p).any (fun d => (getFrame d s).arrived.isSome) ||
    s.buf.frame.any fun x => x.2.src == p && x.2.arrived.isSome

/-- What a frame's start is stamped with (R303, R304): STAMP, and the record that a PTP event frame carries. -/
def startStamp (p : Nat) (s : State) : Nat × Bytes := (now302 s, ptpRecord (rxTime false p s) (rxTime true p s))

/-- The PTP record of a received PTP event frame, counted in PTP_RX_TS (R304). -/
def rxRecord (p : Nat) (b rec : Bytes) (s : State) : Option Bytes × State :=
  match ptpEvent b with
  | some _ => (some rec, bump .PTP_RX_TS p s)
  | none => (none, s)

/-- Frame discarded at reception for want of a cell (R254). -/
def noCell (p prio : Nat) (s : State) : State := raise 43 p (portMask p) (bump .RX_NOBUF (8 * p + prio) s)

/-- A frame, or the part of it that has arrived, is taken into cells and waits for the parser (R234, R253, R254); `st` is the
stamp of its start. -/
def rxStore (p : Nat) (b : Bytes) (arrived : Option Nat) (total : Nat) (st : Nat × Bytes) (s : State) : State :=
  let prio := rxPrio p b s
  let pl := rxPipe p b s
  match takeCells (rxCell p prio pl) (cellsOf b.length) [] s with
  | (none, s) => bufSync (noCell p prio s)
  | (some cells, s) =>
    let s := linkCells b.length cells s
    let (ptp, s) := rxRecord p b st.2 s
    let head := cells.headD chainEnd
    let f : Frame := { data := b, head := head, cellPool := (getCell head s).pool, len := total, stamp := st.1, inPort := p,
                       inPrio := prio, src := p, owner := pl, arrived := arrived, ptp := ptp }
    match takeDesc poolFDESC f s with
    | none => bufSync (noCell p prio (walkFree 41 head s))
    | some (d, s) => bufSync (pendSync p (setBuf { s.buf with rxq := tput s.buf.rxq p (tget [] s.buf.rxq p ++ [d]) } s))

/-- The last cell of a chain. -/
def lastCell : Nat → Nat → State → Nat
  | 0, i, _ => i
  | n + 1, i, s =>
    let c := getCell i s
    if c.last || decide (cellCount ≤ c.next) then i else lastCell n c.next s

/-- The rest of a frame that is arriving takes the cells that it still needs (R234, R254); false when one is refused. -/
def growFrame (p d len : Nat) (s : State) : Bool × State :=
  let f := getFrame d s
  let pl := (f.pkt.map (·.pipe)).getD f.owner
  match takeCells (rxCell p f.inPrio pl) (cellsOf len - cellsOf (gotLen f)) [] s with
  | (none, s) => (false, noCell p f.inPrio s)
  | (some cells, s) =>
    let t := lastCell 41 f.head s
    let c := getCell t s
    match cells with
    | [] => (true, setCell t { c with fill := (len + 255) % 256 } s)
    | i :: _ => (true, linkCells len cells (setCell t { c with next := i, last := false } s))

/-- What a whole frame meets at its end: the impairment unit, the FCS, the check-value units; none when it is discarded
(R373, R507). -/
def rxChecks (p : Nat) (b : Bytes) (s : State) : Option Bytes × State :=
  match impIngress p b s with
  | (none, s) => (none, s)
  | (some b, s) =>
    if fcsOk b then (some b, cvuFrame 0 p b s) else (none, bump .RX_FCS_ERR p s)

/-- The priorities and quanta of a pause frame, per IEEE 802.1Qbb or IEEE 802.3 Annex 31B (R252; their frame formats are
PRESUMED, log 57). -/
def pauseOf (b : Bytes) : Option (Nat × List Nat) :=
  if bfld b 0 6 ≠ 0x0180C2000001 ∨ bfld b 12 2 ≠ 0x8808 then none
  else if bfld b 14 2 = 0x0101 then some (bfld b 16 2 % 256, (List.range 8).map fun k => bfld b (18 + 2 * k) 2)
  else if bfld b 14 2 = 0x0001 then some (255, List.replicate 8 (bfld b 16 2))
  else none

/-- A frame received whole (R233, R252, R507). -/
def rxWhole (p : Nat) (data : Bytes) (st : Nat × Bytes) (s : State) : State :=
  match rxChecks p data s with
  | (none, s) => s
  | (some b, s) =>
    match pauseOf b with
    | some (mask, quanta) => pauseReceived p mask quanta s
    | none => rxStore p b none b.length st s

/-- FRAME_RECEIVE: `data` is what has arrived of a frame of `total` bytes with its FCS, stamped at its start (R298, R304).  A
frame whose first 64 bytes have not all arrived is kept by the MAC until they have, since they choose its pipeline and its
priority (R17, R234; DEDUCED, log 82). -/
def execFrameReceive (p : Nat) (data : Bytes) (total : Nat) (s : State) : Host.Outcome State Fault Refusal :=
  .next (
    if !receives p s || arrivingAt p s then s
    else
      let s := fastClock s
      let st := startStamp p s
      if 10240 < max total data.length then bump .RX_OVERSIZE p s
      else if data.length < total then
        if data.length < 64 then setBuf { s.buf with rxHead := tput s.buf.rxHead p ⟨data, total, st.1, st.2⟩ } s
        else rxStore p data (some data.length) total st s
      else rxWhole p data st s)

/-! The end of a frame that was arriving. -/

/-- The frame ends before the MAC has given it cells. -/
def endHead (p : Nat) (h : RxHead) (rest : Bytes) (s : State) : State :=
  let s := setBuf { s.buf with rxHead := tdel s.buf.rxHead p } s
  let full := h.data ++ rest
  if full.length ≠ h.total then bump .RX_FCS_ERR p s else rxWhole p full (h.stamp, h.ptp) s

/-- The frame ends before the parser has taken it. -/
def endWaiting (p d : Nat) (full : Bytes) (s : State) : State :=
  let f := getFrame d s
  let drop (s : State) : State :=
    bufSync (pendSync p (discard d (setBuf { s.buf with rxq := tset [] s.buf.rxq p ((tget [] s.buf.rxq p).erase d) } s)))
  if full.length ≠ f.len then drop (bump .RX_FCS_ERR p s)
  else
    match growFrame p d full.length s with
    | (false, s) => drop s
    | (true, s) =>
      match rxChecks p full s with
      | (none, s) => drop s
      | (some b, s) =>
        match pauseOf b with
        | some (mask, quanta) => drop (pauseReceived p mask quanta s)
        | none => bufSync (pendSync p (setFrame d { getFrame d s with data := b, arrived := none } s))

/-- The tail of a frame whose head has left is stomped (R262); cells that its descriptor or first header can no longer name are left
to the reclaim (R247). -/
def stompTail (e d : Nat) (full : Bytes) (s : State) : State :=
  let s := setFrame d { getFrame d s with data := full, arrived := none } s
  let (b, s) := egressBytes e d s
  let out : TxFrame := { port := e, data := invertFcs (withFcs b), stomped := true }
  let s := setBuf { s.buf with inTx := tdel s.buf.inTx e, tx := s.buf.tx ++ [out] } s
  bufSync (dropBad d (bump .CUT_STOMP e s))

/-- The copies of the frame, which share its cells, are whole as well. -/
def copiesWhole (head : Nat) (full : Bytes) (s : State) : State :=
  let same (d : Nat) : Bool := (getFrame d s).head == head && (getFrame d s).arrived.isSome
  let ds := (s.buf.frame.map (·.1)).filter same
  let q := s.buf.puntq.map fun x =>
    (x.1, x.2.map fun i => if (i.desc.map same).getD false then { i with data := full } else i)
  forEach ds (fun d s => setFrame d { getFrame d s with data := full, arrived := none } s) (setBuf { s.buf with puntq := q } s)

/-- The frame ends while a port sends it: the cells of its rest, the end-of-frame checks, then its tail (R47, R234,
R262). A frame with a bad FCS or a wrong length counts the receive error alone, and no MALFORMED (DESIGN CHOICE, log 68). -/
def endCut (p e d : Nat) (full : Bytes) (s : State) : State :=
  let f := getFrame d s
  let (stored, s) := growFrame p d full.length s
  let s := if fcsOk full then cvuFrame 0 p full s else s
  let (sound, s) := readFrame d s
  let s := copiesWhole f.head full s
  if full.length ≠ f.len || !fcsOk full then stompTail e d full (bump .RX_FCS_ERR p s)
  else
    match deferredReason (full.length - 4) (getPkt d s).hdrs with
    | some r => stompTail e d full (bump .MALFORMED (16 * p + r) s)
    | none =>
      if !stored || !sound then stompTail e d full s
      else
        let s := setFrame d { getFrame d s with data := full, arrived := none } s
        let s := setBuf { s.buf with inTx := tdel s.buf.inTx e } s
        afterSend e (transmit e d none s)

/-- The frame ends after its cut-through was abandoned: the copies that reference its cells have it whole (R260). -/
def endCopies (p d : Nat) (full : Bytes) (s : State) : State :=
  let head := (getFrame d s).head
  bufSync (copiesWhole head full (growFrame p d full.length s).2)

/-- FRAME_END_CHECK: the rest of the frame that is arriving at the port, and its end. -/
def execFrameEndCheck (p : Nat) (rest : Bytes) (s : State) : Host.Outcome State Fault Refusal :=
  .next (
    match tget? s.buf.rxHead p with
    | some h => endHead p h rest s
    | none =>
      match (tget [] s.buf.rxq p).find? (fun d => (getFrame d s).arrived.isSome) with
      | some d => endWaiting p d ((getFrame d s).data ++ rest) s
      | none =>
        match s.buf.inTx.find? (fun x => (getFrame x.2 s).src == p && (getFrame x.2 s).arrived.isSome) with
        | some (e, d) => endCut p e d ((getFrame d s).data ++ rest) s
        | none =>
          match s.buf.frame.find? fun x => x.2.src == p && x.2.arrived.isSome with
          | some (d, f) => endCopies p d (f.data ++ rest) s
          | none => s)

end Sys2Proof.Machine
end

