-- ==== Sys2Proof/Machine/Power.lean ====
section
/-!
DEFINITION. Power domains, sleep under FRUGAL and standby (chapter 15), with the commands of group 0x0B.
-/
namespace Sys2Proof.Machine

/-! What FRUGAL keeps awake (R439). -/

/-- The enabled ports that use a pipeline. -/
def pipePorts (pl : Nat) (s : State) : List Nat := (enabledPorts s).filter fun p => (portPipes p s).contains pl

/-- The pipeline serves a port that never sleeps. -/
def keepPipe (pl : Nat) (s : State) : Bool := (pipePorts pl s).any fun p => keepPort p s

/-- The pipeline takes part in a pipeline swap (R438, R450). -/
def inPipeSwap (pl : Nat) (s : State) : Bool :=
  match s.spare.swap with
  | some w => w.old == pl || w.new == pl
  | none => false

/-! Idle ports (R437). -/

/-- The queues hold no frame, and none is in transmission or held by the port's impairment unit. -/
def portIdle (p : Nat) (s : State) : Bool :=
  portFrames p s == 0 && (tget? s.buf.inTx p).isNone && (impUnit p s).held.isNone

/-- The sleep record of a port (R436). -/
def sleepDefault : Bytes := [0, 0] ++ leBytes 2 10 ++ leBytes 4 60000

def sleepRecord (p : Nat) (s : State) : Bytes := tget sleepDefault s.pwr.sleepRec p

/-- The port may enter a sleep depth that its record enables by bit `b`. -/
def maySleep (p b : Nat) (s : State) : Bool :=
  inMode mFRUGAL s && portEnabled p s && isUp p s && !inMask s.pwr.waking p && !keepPort p s && !inSafe p s &&
    bit (fld (sleepRecord p s) 0 1) b && portIdle p s

/-- PORT_QUIET_ENTER: the lanes of an idle port enter quiet (R435, R437). -/
def execPortQuietEnter (p : Nat) (s : State) : Host.Outcome State Fault Refusal :=
  .next (if maySleep p 0 s && portDepthOf p s == .active then
      groupSleep (p / 8) (bump .LPI_ENTER p (setPortDepth p .quiet s))
    else s)

/-- PORT_DOZE_ENTER: the lanes of an idle port enter doze (R435, R437). -/
def execPortDozeEnter (p : Nat) (s : State) : Host.Outcome State Fault Refusal :=
  .next (if maySleep p 1 s && (portDepthOf p s == .active || portDepthOf p s == .quiet) then
      let s := if portDepthOf p s = .active then bump .LPI_ENTER p s else s
      groupSleep (p / 8) (bump .DOZE_ENTER p (setPortDepth p .doze s))
    else s)

/-- PORT_WAKE (R437). -/
def execPortWake (p : Nat) (s : State) : Host.Outcome State Fault Refusal := .next (wakePort p s)

/-- DOZE_WAKE_TIMEOUT: a wake from doze that has not reached LINK_UP in 2 ms becomes a link-down event (R437). -/
def execDozeWakeTimeout (p : Nat) (s : State) : Host.Outcome State Fault Refusal :=
  .next (if inMask s.pwr.waking p then linkDown p none (notWaking p s) else s)

/-! Pipelines (R438). -/

/-- PIPELINE_CLOCK_GATE: a half that has been idle for CG_IDLE (R438). -/
def execPipelineClockGate (pl half : Nat) (s : State) : Host.Outcome State Fault Refusal :=
  .next (if inMode mFRUGAL s && !keepPipe pl s && !inPipeSwap pl s && pipeDepthOf (2 * pl + half) s == .active then
      bump .PIPE_CG pl (setPipeDepth pl half .gated s)
    else s)

/-- A packet waits for or in a pipeline: its admission queue, inbound list and the packets that re-enter it (R438). -/
def pipeHolds (pl : Nat) (s : State) : Bool :=
  !(tget [] s.flow.admq pl).isEmpty || !(tget [] s.flow.inbound pl).isEmpty || !(tget [] s.flow.rerunq pl).isEmpty ||
    !(tget [] s.flow.recircq pl).isEmpty

/-- The pipeline qualifies for power gating (R438, R439). -/
def pipeQualifies (pl : Nat) (s : State) : Bool :=
  (pipePorts pl s).all (fun p => portDepthOf p s == .doze || portDepthOf p s == .off) && !pipeHolds pl s &&
    !inPipeSwap pl s && !keepPipe pl s

/-- The PIPE domain that holds the spare pipeline stays on while ASSURED is in force (R439). -/
def keepDomain (k : Nat) (s : State) : Bool := inMode mASSURED s && (domainPipes k).any fun pl => (blockOfPipe pl s).isNone

/-- PIPE_DOMAIN_POWER_GATE (R438). -/
def execPipeDomainPowerGate (dom : Nat) (s : State) : Host.Outcome State Fault Refusal :=
  .next (if inMode mFRUGAL s && domainOn (domPIPE dom) s && !keepDomain dom s &&
      (domainPipes dom).all fun pl => pipeQualifies pl s then
      domainDown (domPIPE dom) (forEach (domainPipes dom) (fun pl s => bump .PIPE_PG pl s) s)
    else s)

/-! Domains that power up and fail to (R432). -/

/-- The spare of a lane group that has come on trains where it has not started yet (R323, R448 step 6). -/
def lanesUp (dom : Nat) (s : State) : State :=
  if domLG 0 ≤ dom ∧ dom ≤ domLG 9 then spareStart (dom - domLG 0) s else s

/-- DOMAIN_POWER_GOOD: the domain leaves isolation; a late wake raises F226. -/
def execDomainPowerGood (dom : Nat) (late : Bool) (s : State) : Host.Outcome State Fault Refusal :=
  .next (if tget .off s.pwr.domain dom = .waking then
      let s := lanesUp dom (domainUp dom s)
      if late then powerEvent dom 2 (raise 226 dom 0 s) else s
    else s)

/-- The enabled ports that need a domain. -/
def domainPorts (dom : Nat) (s : State) : List Nat :=
  if domLG 0 ≤ dom ∧ dom < domLG 8 then (enabledPorts s).filter fun p => p / 8 == dom - domLG 0
  else if domPIPE 0 ≤ dom ∧ dom ≤ domPIPE 4 then
    (enabledPorts s).filter fun p => (portPipes p s).any fun pl => pipeDomain pl == dom
  else []

/-- A port stays down and counts as link down (R450). -/
def stayDown (p : Nat) (s : State) : State := linkTo p 0 (setPhase p .bringUp (dropLink p s))

/-- DOMAIN_POWER_FAIL: a domain that does not power up stays off (F224); one that does not go off is left on (F225). -/
def execDomainPowerFail (dom : Nat) (up : Bool) (s : State) : Host.Outcome State Fault Refusal :=
  .next (if up then
      if tget .off s.pwr.domain dom = .waking then
        let s := raise 224 dom (portsMask (domainPorts dom s)) (setDomain dom .failed s)
        forEach (domainPorts dom s) (fun p s => stayDown p s) s
      else s
    else if tget .off s.pwr.domain dom = .off then
      let s := raise 225 dom 0 (setDomain dom .on s)
      if domPIPE 0 ≤ dom ∧ dom ≤ domPIPE 4 then forEach (domainPipes (dom - domPIPE 0)) (fun pl s => setPipe pl .gated s) s
      else s
    else s)

/-! The FRUGAL bit (R440). -/

/-- The pipelines that are clock-gated wake. -/
def ungatePipes (s : State) : State :=
  setPwr { s.pwr with pipeDepth := s.pwr.pipeDepth.filter fun x => x.2 == .powerGated } s

/-- The action engines that are clock-gated wake (R160). -/
def ungateEngines (s : State) : State :=
  forEach ((List.range 68).filter fun e => engineState e s == .gated) (fun e s => setEngine e .working s) s

/-- Clearing FRUGAL wakes every block that sleeps: HBM rate, PIPE domains, lanes.  What standby has switched off stays so until
EXIT (R442). -/
def wakeAll (s : State) : State :=
  let s := startRate s
  if s.pwr.standby = .inStandby then s
  else
    let s := forEach ((List.range 5).map domPIPE) (fun d s => domainWake d s) s
    let s := forEach (List.range 64) (fun p s => wakePort p s) (ungateEngines (ungatePipes s))
    forEach (List.range 10) (fun g s => groupWake g s) s

/-- Setting FRUGAL: a lane that nothing uses, and the spare of a group with no enabled port, go off at once (R435); every idle
timer starts (R440). -/
def sleepUnused (s : State) : State := forEach (List.range 10) (fun g s => groupSleep g s) s

/-- The ports, spares and pipelines that must not sleep under the modes now in force wake, with LG8 and LG9 under JOINED (R439,
R450). -/
def wakeKept (s : State) : State :=
  if s.pwr.standby = .inStandby then s else
  let s := forEach ((List.range 64).filter fun p => portEnabled p s && keepPort p s) (fun p s =>
    forEach (portPipes p s) (fun pl s => wakePipe pl s) (wakePort p s)) s
  let s := forEach ((List.range 8).filter fun g => keepSpare g s) (fun g s => spareWake g s) s
  let s := if inMode mJOINED s then groupWake 9 (groupWake 8 s) else s
  forEach ((List.range 5).filter fun k => keepDomain k s) (fun k s => domainWake (domPIPE k) s) s

/-- FRUGAL_SET (0x0B02): CG_IDLE (R438). -/
def execFrugalSet (r : YcpReq) (s : State) : Host.Outcome State Fault Refusal :=
  ycp 0x0B02 r (formO 8 [(4, 4)] fun b s =>
    need (decide (50 ≤ fld b 0 4 ∧ fld b 0 4 ≤ 100000)) stRANGE s <|
    yOk [] (setPwr { s.pwr with cgIdle := fld b 0 4 } s)) s

/-- The sleep record. -/
def sleepLayout : Layout where
  size := 8
  resv := [(2, 14)]
  rng := [(16, 16, 1, 1000), (32, 32, 10, 3600000)]

def sleepCheck (s : State) (i : Nat) (b : Bytes) : Nat :=
  if !sleepLayout.clean b ∨ (i < 64 ∧ portUnused i s) then stINVALID else if 64 ≤ i ∨ !sleepLayout.inRange b then stRANGE else stOK

def sleepApply (i : Nat) (b : Bytes) (s : State) : State :=
  setPwr { s.pwr with sleepRec := tset sleepDefault s.pwr.sleepRec i b } s

/-- PORT_SLEEP_SET (0x0B03). -/
def execPortSleepSet (r : YcpReq) (s : State) : Host.Outcome State Fault Refusal :=
  ycp 0x0B03 r (formL (fun _ => 8) sleepCheck sleepApply) s

/-! POWER_STATUS.  DESIGN CHOICE (log 47): the codes of the states. -/

def domainCode : DomainPower → Nat
  | .off => 0
  | .waking => 1
  | .on => 2
  | .failed => 3
  | .retention => 4

def depthCode : Depth → Nat
  | .active => 0
  | .quiet => 1
  | .doze => 2
  | .off => 3
  | .gated => 4
  | .powerGated => 5

def standbyCode : Standby → Nat
  | .no => 0
  | .entering => 1
  | .inStandby => 2
  | .leaving => 3

/-- The state of a domain; AON is on. -/
def domainState (d : Nat) (s : State) : Nat := if d = 0 then 2 else domainCode (tget .off s.pwr.domain d)

/-- The depth of a pipeline: that of its less deeply sleeping half. -/
def pipeDepthNow (pl : Nat) (s : State) : Nat := min (depthCode (pipeDepthOf (2 * pl) s)) (depthCode (pipeDepthOf (2 * pl + 1) s))

/-- The properties of POWER_STATUS and of SUMMARY section 15. -/
def powerProps (s : State) : List Bytes :=
  [pArr "DOMAIN_STATE" 1 ((List.range 24).map fun d => domainState d s),
   pArr "LANE_DEPTH" 1 ((List.range 90).map fun ix => depthCode (laneDepthNow ix s)),
   pArr "PIPE_DEPTH" 1 ((List.range 17).map fun pl => pipeDepthNow pl s),
   pNum "ENGINES_GATED" 1 ((s.task.engine.filter fun x => x.2 == .gated).length),
   pNum "HBM_RATE" 1 s.hbm.rate, pNum "STANDBY" 1 (standbyCode s.pwr.standby), pNum "CG_IDLE" 4 s.pwr.cgIdle]

/-- POWER_STATUS (0x0B01). -/
def execPowerStatus (r : YcpReq) (s : State) : Host.Outcome State Fault Refusal :=
  ycp 0x0B01 r (emptyBody fun s => yRead (propList (powerProps s)) s) s

/-! Standby (R442). -/

/-- A table migration is in its COPY phase, or a PC retirement runs. -/
def standbyBusy (s : State) : Bool :=
  (match s.flow.mig with | some m => m.copy | none => false) || (List.range 4).any fun k => (getStack k s).retire.isSome

/-- The domains that standby switches off. -/
def standbyDomains : List Nat := domACT :: ((List.range 10).map domLG ++ (List.range 5).map domPIPE)

/-- The domains of the stacks. -/
def hbmDomains : List Nat := (List.range 4).map domHBM

/-- EXIT closes the switches of what standby has switched off; a domain that has failed stays off (R432, R442). -/
def domainsBack (s : State) : State := forEach (hbmDomains ++ standbyDomains) (fun d s => domainWake d s) s

/-- POWER_STANDBY (0x0B04): ENTER and EXIT, answered at their end. -/
def powerStandbyH : YHandler := fun r => formE 8 [] [(4, opIn 1 2)] (fun b s =>
  let op := fld b 0 4
  let drain := fld b 4 4
  if op = 1 then
    need (!(inMode mASSURED s || inMode mJOINED s)) stDENIED s <|
    need (decide (drain ≤ 100)) stRANGE s <|
    need (s.pwr.standby == .no && !standbyBusy s) stBUSY s <|
    { yOk [] (setPwr { s.pwr with standby := .entering, standbyDrain := drain, standbyMbx := some r.mbx,
                                  ingressStopped := true } s) with wait := true }
  else
    need (s.pwr.standby == .inStandby) stBUSY s <|
    { yOk [] (domainsBack (setPwr { s.pwr with standby := .leaving, standbyMbx := some r.mbx } s)) with wait := true }) r

def execPowerStandbyEnter (r : YcpReq) (s : State) : Host.Outcome State Fault Refusal := ycp 0x0B04 r powerStandbyH s
def execPowerStandbyExit (r : YcpReq) (s : State) : Host.Outcome State Fault Refusal := ycp 0x0B04 r powerStandbyH s

/-- Every accepted write leaves the write queues of the PC controllers. -/
def drainWrites (s : State) : State :=
  forEach (List.range 128) (fun i s => forEach (getPc i s).wq (fun q s => issue i q s) s) s

/-- The device has drained: no packet waits for a parser, an admission or a map entry, no hold is open, and no graph instance runs
or waits to start (R442 step 3). -/
def drained (s : State) : Bool :=
  s.buf.rxq.isEmpty && s.flow.rerunq.isEmpty && s.flow.recircq.isEmpty && s.flow.admq.isEmpty && s.flow.inbound.isEmpty &&
    s.flow.log.isEmpty && s.task.ctx.isEmpty && s.task.level.all fun x => x.2.slots.isEmpty && x.2.ring.isEmpty

/-- The lanes go off: firmware keeps the coefficients of every lane, a port that is up stays up in its port depth, and a link in
bring-up, recovery or test starts anew after EXIT (R442; DEDUCED, log 47). -/
def lanesStandby (s : State) : State :=
  let s := forEach (List.range 10) withdrawSwap s
  let s := forEach (s.lanes.lane.map (·.1)) (fun ix s => untest ix s) s
  let s := forEach (enabledPorts s) (fun p s =>
    if isUp p s then notWaking p (setPortDepth p .off s) else linkHears p (setPhase p .bringUp s)) s
  forEach (List.range 90) (fun ix s => setLaneDepth ix .off (if (getLane ix s).st = 13 then s else laneTo ix 0 s)) s

/-- After EXIT the lanes of the ports that were up have retrained from the saved coefficients, and every other enabled link begins
bring-up; a group whose domain has failed stays as its ports do (R442, R450). -/
def lanesBack (s : State) : State :=
  let s := setPwr { s.pwr with laneDepth := [], portDepth := [] } s
  forEach (enabledPorts s) (fun p s =>
    if isUp p s then
      linkTo p 7 (forEach (linkLanes p s) (fun ix s => setLane ix (laneRestored (getLane ix s)) s) s)
    else if domainOn (domLG (p / 8)) s then fullBringUp p s
    else s) s

/-- The answer of the command that was executing. -/
def standbyAnswer (s : State) : State :=
  let m := s.pwr.standbyMbx
  let s := setPwr { s.pwr with standbyMbx := none } s
  match m with
  | some m => finishRunning m (fun s => yOk [] s) s
  | none => s

/-- STANDBY_ENTERED: the rest of the queues is flushed, dirty lines and writes reach HBM, the stacks enter self-refresh and the
domains go off. -/
def execStandbyEntered (s : State) : Host.Outcome State Fault Refusal :=
  .next (if s.pwr.standby = .entering ∧ drained s then
      let s := bufSync (forEach (enabledPorts s) (fun p s => freeHeld p (emptyQueues p true s)) s)
      let s := drainWrites (flushCaches (flushFlow s))
      let s := setHbm { s.hbm with stopped := true } s
      let s := lanesStandby s
      let s := forEach standbyDomains (fun d s => domainDown d s) s
      let s := forEach hbmDomains (fun d s => setDomain d .retention s) s
      let s := setPwr { s.pwr with standby := .inStandby } s
      standbyAnswer (powerEvent 255 3 (bump .STANDBY_ENTER 0 s))
    else s)

/-- STANDBY_EXIT_DONE, once every domain has come on or failed: T0–T5 and the lanes retrained; a rate that was waiting holds from
T5 (R360, R432). -/
def execStandbyExitDone (failed : List Nat) (lanes : List (Nat × Nat)) (s : State) : Host.Outcome State Fault Refusal :=
  .next (if s.pwr.standby = .leaving ∧ domainsSettled (hbmDomains ++ standbyDomains) s then
      let s := trainResult failed lanes (setHbm { s.hbm with stopped := false } s)
      let s := if s.hbm.target.isSome then rateDone s else s
      let s := lanesBack s
      let s := setPwr { s.pwr with standby := .no, ingressStopped := false } s
      let s := if inMode mFRUGAL s then sleepUnused s else s
      standbyAnswer (powerEvent 255 4 s)
    else s)

end Sys2Proof.Machine
end

