-- ==== Sys2Proof/Machine/Spare.lean ====
section
/-!
DEFINITION. Spares and service life (chapter 18): the pipeline swap, containment (R387), the sentinel (R393), wear and the swap
policy.
-/
namespace Sys2Proof.Machine

/-! Pipelines (R486, R487). -/

def pipeMark (pl : Nat) (s : State) : Nat := tget 0 s.spare.pipeMark pl

def setPipeMark (pl n : Nat) (s : State) : State := setSpare { s.spare with pipeMark := tset 0 s.spare.pipeMark pl n } s

/-- PIPE_ROLE (R492). -/
def pipeRole (pl : Nat) (s : State) : Nat :=
  if (blockOfPipe pl s).isSome then 0 else if pipeMark pl s = 0 then 1 else pipeMark pl s

/-- The spare pipeline; an AGED one only after a fault (R486). -/
def sparePipe (fault : Bool) (s : State) : Option Nat :=
  match (List.range 17).find? fun pl => pipeRole pl s == 1 with
  | some pl => some pl
  | none => if fault then (List.range 17).find? fun pl => pipeRole pl s == 2 else none

/-- The decision of a pipeline swap: the ports of the block are held, and both pipelines wake with their PIPE domains (P1, P2,
R438).  No packet is inside a half between two commands, so P3 finds none to discard (log 48). -/
def startPipeSwap (old new : Nat) (pro : Bool) (s : State) : State :=
  match blockOfPipe old s with
  | some b =>
    let s := setBuf { s.buf with swapHeld := s.buf.swapHeld ||| portsMask (blockPorts b s) } s
    let s := setSpare { s.spare with swap := some ⟨old, new, b, pro⟩ } s
    forEach [old, new] (fun pl s => wakePipe pl (domainWake (pipeDomain pl) s)) s
  | none => s

/-- The result of a half's last sentinel run (R393). -/
def setSentinel (pl half n : Nat) (s : State) : State :=
  { s with mace := { s.mace with sentinel := tset 0 s.mace.sentinel (2 * pl + half) n } }

/-- The signature that a run of a half yields (R393): the value fixed at manufacture, or, in a run that fails, a free one that differs
from it. -/
def sentinelYield (k : Nat) (ok : Bool) (s : State) : BitVec 64 :=
  if ok then Config.sentinelSig k else Config.sentinelSig k + 1 + BitVec.ofNat 64 (freeVal s % (2 ^ 64 - 1))

/-- A half has run the sentinel: its signature and the result of the comparison. -/
def sentinelRan (pl : Nat) (ok : Bool) (half : Nat) (s : State) : State :=
  let k := 2 * pl + half
  let s' := { s with mace := { s.mace with sentinelSig := tput s.mace.sentinelSig k (sentinelYield k ok s) } }
  oweHalf pl half 0 (setSentinel pl half (b2n ok) (if ok then s' else tookFree s'))

/-- A pipeline is reset: its PIPE domain and its halves wake, and both owe a sentinel (R447). -/
def pipeReset (pl : Nat) (s : State) : State :=
  oweSentinel pl (setSentinel pl 1 0 (setSentinel pl 0 0 (wakePipe pl (domainWake (pipeDomain pl) s))))

/-- A failing pipeline: its swap starts or follows the one in progress; none left raises F130; a spare that fails is FAILED
(R387, R486, R494). -/
def containPipe (pl : Nat) (s : State) : State :=
  match blockOfPipe pl s with
  | none =>
    if pipeMark pl s = 3 then s
    else otpAppend 9 (3 * 256) pl 0 (setPipeMark pl 3 (setSpare { s.spare with pipeJudge := tdel s.spare.pipeJudge pl } s))
  | some _ =>
    match s.spare.swap with
    | some w =>
      if w.old = pl ∨ s.spare.pipeWait.contains pl then s
      else setSpare { s.spare with pipeWait := s.spare.pipeWait ++ [pl] } s
    | none =>
      match sparePipe true s with
      | some n => startPipeSwap pl n false s
      | none => raise 130 pl (pipeScope pl s) s

/-- P4: the lists of the replaced pipeline pass to the spare in order; an uncorrectable entry's packet is dropped. -/
def moveLists (old new : Nat) (s : State) : State :=
  let lost := ((tget [] s.flow.admq old) ++ (tget [] s.flow.inbound old).map (·.1)).filter fun d => (getPkt d s).entryBad
  let s := forEach lost (fun d s => discard d (bump .PL_SWAP_DROP old s)) s
  let keep (d : Nat) : Bool := !lost.contains d
  let f := s.flow
  let f := { f with admq := tset [] (tdel f.admq old) new ((tget [] f.admq old).filter keep) }
  let f := { f with inbound := tset [] (tdel f.inbound old) new ((tget [] f.inbound old).filter fun x => keep x.1) }
  let f := { f with rerunq := tset [] (tdel f.rerunq old) new (tget [] f.rerunq old) }
  let f := { f with recircq := tset [] (tdel f.recircq old) new (tget [] f.recircq old) }
  let logs := f.log.map fun x => (x.1, if x.2.pipe = old then { x.2 with pipe := new } else x.2)
  let s := setFlow { f with log := logs } s
  let mine := (s.buf.frame.filter fun x => x.2.owner == old).map (·.1)
  let s := forEach mine (fun d s => passOwner d new s) s
  let fs := s.buf.frame.map fun x =>
    (x.1, { x.2 with pkt := x.2.pkt.map fun k => if k.pipe = old then { k with pipe := new } else k })
  setBuf { s.buf with frame := fs } s

/-- P5–P7: the spare serves the block, the queues are dequeued again, the entry is written and F129 raised. -/
def endPipeSwap (w : PipeSwap) (s : State) : State :=
  let ports := blockPorts w.block s
  let s := wakePipe w.new (moveLists w.old w.new s)
  let s := setSpare { s.spare with pipeMap := tset w.block s.spare.pipeMap w.block w.new, swap := none,
                                   pipeJudge := tput s.spare.pipeJudge w.old (if w.proactive then 16 else 0) } s
  let s := setPipeMark w.old 3 (setPipeMark w.new 0 s)
  let s := setBuf { s.buf with swapHeld := s.buf.swapHeld &&& ~~~(portsMask ports),
                               txSeq := ports.foldl (fun t p => tdel t p) s.buf.txSeq } s
  let s := spareDone 2 w.old (otpAppend 3 w.block w.old w.new s)
  let s := if w.proactive then otpAppend 9 (3 * 256) w.old 2 s else s
  bufSync (raise 129 w.old 0 (pipeReset w.old s))

/-- PIPELINE_SWAP_DONE (R487), once P2 has brought the spare's PIPE domain up; a swap that waited after a fault follows
(R494).  A swap whose domain fails to power up (F224) does not end: the ports stay held (DEDUCED, log 48). -/
def execPipelineSwapDone (s : State) : Host.Outcome State Fault Refusal :=
  .next (match s.spare.swap with
    | none => s
    | some w =>
      if !domainOn (pipeDomain w.new) s then s else
      let s := endPipeSwap w s
      match s.spare.pipeWait with
      | pl :: rest => containPipe pl (setSpare { s.spare with pipeWait := rest } s)
      | [] => s)

/-- A replaced pipeline that has passed three sentinels in succession is a spare; one that fails is FAILED (R486). -/
def judgePipe (pl : Nat) (ok : Bool) (s : State) : State :=
  match tget? s.spare.pipeJudge pl with
  | none => s
  | some n =>
    if !ok then otpAppend 9 (3 * 256) pl 0 (setSpare { s.spare with pipeJudge := tdel s.spare.pipeJudge pl } s)
    else if n % 16 < 2 then setSpare { s.spare with pipeJudge := tput s.spare.pipeJudge pl (n + 1) } s
    else setPipeMark pl (if 16 ≤ n then 2 else 0) (setSpare { s.spare with pipeJudge := tdel s.spare.pipeJudge pl } s)

/-- The halves that run the sentinel now: a clock-gated one only while ASSURED is in force, ungated for its run (R393). -/
def sentinelHalves (pl : Nat) (s : State) : List Nat :=
  [0, 1].filter fun h => pipeDepthOf (2 * pl + h) s != .gated || inMode mASSURED s

/-- SENTINEL_RUN (R393): none in a pipeline whose domain is off; a gated half skips its run and owes it.  DEDUCED, log 10: the
row gives one result for the pipeline, which is that of each half that runs. -/
def execSentinelRun (pl : Nat) (ok : Bool) (s : State) : Host.Outcome State Fault Refusal :=
  .next (if !domainOn (pipeDomain pl) s then s
    else
      let ran := sentinelHalves pl s
      let s := forEach ([0, 1].filter fun h => !ran.contains h) (fun h s => oweHalf pl h 1 s) s
      if ran.isEmpty then s
      else
        let s := bump .SENTINEL_RUN pl (forEach ran (sentinelRan pl ok) s)
        let s := if ok then s else raise (112 + pl) pl (pipeScope pl s) (bump .SENTINEL_FAIL pl s)
        judgePipe pl ok s)

/-! TCAM blocks and SRAM rows (R387). -/

def physTcam (n : Nat) (s : State) : Nat := tget n s.spare.tcamMap n

/-- A logical TCAM block is copied to a spare block; none left raises F012. -/
def containTcam (n : Nat) (s : State) : State :=
  if s.spare.tcamCopy.any fun x => x.1 == n then s
  else match s.spare.tcamFree with
    | t :: rest => setSpare { s.spare with tcamFree := rest, tcamCopy := s.spare.tcamCopy ++ [(n, t)] } s
    | [] => raise 12 n 0 s

/-- TCAM_BLOCK_SWAP_DONE: the copy commits and the spare block replaces the old one; entries marked invalid stay so. -/
def execTcamBlockSwapDone (s : State) : Host.Outcome State Fault Refusal :=
  .next (match s.spare.tcamCopy with
    | (n, t) :: rest =>
      let s := otpAppend 6 (n / 16) (physTcam n s) t s
      spareDone 5 n (setSpare { s.spare with tcamCopy := rest, tcamMap := tset n s.spare.tcamMap n t } s)
    | [] => s)

/-- Spare rows of a macro that are used or promised. -/
def rowsTaken (m : Nat) (s : State) : Nat :=
  tget 0 s.spare.rowsUsed m + (s.spare.rowPend.filter fun r => r / 1024 == m).length

/-- A failing SRAM row gets a spare row of its macro; none left raises F012.  DESIGN CHOICE (log 48): the instance of F046 and
F047 is macro × 1,024 + row. -/
def containRow (r : Nat) (s : State) : State :=
  if s.spare.rowPend.contains r then s
  else if 4 ≤ rowsTaken (r / 1024) s then raise 12 r 0 s
  else setSpare { s.spare with rowPend := s.spare.rowPend ++ [r] } s

/-- SRAM_ROW_REPLACE_DONE. -/
def execSramRowReplaceDone (s : State) : Host.Outcome State Fault Refusal :=
  .next (match s.spare.rowPend with
    | r :: rest =>
      let m := r / 1024
      let n := tget 0 s.spare.rowsUsed m
      let s := otpAppend 8 m (r % 1024) (1024 + n) s
      spareDone 7 r (setSpare { s.spare with rowPend := rest, rowsUsed := tset 0 s.spare.rowsUsed m (n + 1) } s)
    | [] => s)

/-! Wear (R489). -/

/-- A reading added to the day's sum of a monitor. -/
def wearAdd (k v : Nat) (s : State) : State :=
  let x := tget (0, 0) s.spare.wearSum k
  setSpare { s.spare with wearSum := tset (0, 0) s.spare.wearSum k (x.1 + v, x.2 + 1) } s

/-- The day ends: its means join the history of 60 days, and its tallies begin again. -/
def wearRoll (day : Nat) (s : State) : State :=
  let x := s.spare
  if x.wearDay = day then s
  else
    let push (t : Tbl (List Nat)) (e : Nat × Nat × Nat) : Tbl (List Nat) :=
      tset [] t e.1 ((1000 * e.2.1 / e.2.2 :: tget [] t e.1).take 60)
    setSpare { x with wearDay := day, wearMean := x.wearSum.foldl push x.wearMean, wearSum := [],
                      laneSymDay := x.laneSym, laneSym := [], errDay := [] } s

/-- The present day, in days of the free-running counter. -/
def today (s : State) : Nat := s.time.free / 86400000000000

/-- WEAR_SAMPLE: the readings of the 130 ageing sensors, in the order of R489, and the margins that lanes and PCs show. -/
def execWearSample (ro : List Nat) (s : State) : Host.Outcome State Fault Refusal :=
  .next <|
    let s := wearRoll (today s) s
    let s := forEach ((ro.take 130).zipIdx) (fun x s =>
      wearAdd x.2 x.1 (setSpare { s.spare with roShift := tset 0 s.spare.roShift x.2 x.1 } s)) s
    let s := forEach (List.range 90) (fun ix s =>
      let l := getLane ix s
      if l.st = 7 ∨ l.st = 10 then wearAdd (130 + ix) l.margin s else s) s
    forEach (List.range 128) (fun i s =>
      let ms := (getPc i s).margins.map (·.toNat)
      if ms.isEmpty then s else wearAdd (220 + i) (ms.foldl min 255) s) s

/-- Errors of the day (R489). -/
def errKey (kind unit : Nat) : Nat := kind * 16777216 + unit

def errAdd (kind unit : Nat) (s : State) : State :=
  let s := wearRoll (today s) s
  let n := tget 0 s.spare.errDay (errKey kind unit)
  setSpare { s.spare with errDay := tset 0 s.spare.errDay (errKey kind unit) (n + 1) } s

def errToday (kind unit : Nat) (s : State) : Nat := tget 0 s.spare.errDay (errKey kind unit)

/-- The error that a fault event reports, in the tally of its unit. -/
def noteWear (e : FaultEv) (s : State) : State :=
  if e.src = 96 then errAdd 4 e.inst s
  else if e.src = 18 ∨ e.src = 19 then errAdd 5 (e.inst / 4096) s
  else if e.src = 24 then errAdd 6 (e.inst / 4096) s
  else if e.src = 46 ∨ e.src = 47 then errAdd 7 e.inst s
  else s

/-! The policy (R490, R491). -/

def policyLayout : Layout where
  size := 32
  resv := [(3, 5), (8, 8), (152, 8), (176, 80)]
  rng := [(16, 16, 1, 1440), (32, 32, 0, 86399), (64, 16, 100, 600), (80, 16, 1, 365), (96, 16, 0, 60), (112, 8, 0, 20),
    (120, 8, 1, 255), (128, 16, 1, 65535), (144, 8, 1, 255), (160, 16, 1, 65535)]

def polBit (k : Nat) (s : State) : Bool := bit (fld s.spare.policy 0 1) k
def pol (o n : Nat) (s : State) : Nat := fld s.spare.policy o n

/-- SPARE_POLICY_SET (0x0108). -/
def execSparePolicySet (r : YcpReq) (s : State) : Host.Outcome State Fault Refusal :=
  ycp 0x0108 r (fun _ b _ s =>
    need (decide (b.length ≠ 32) || policyLayout.clean b) stINVALID s <|
    need (b.length == 32) stLENGTH s <|
    need (policyLayout.inRange b) stRANGE s <|
    yOk [] (setSpare { s.spare with policy := b } s)) s

/-- The least-squares line through the daily means of at most 30 days, latest first, `h` days ahead of the last one, in
thousandths; none with fewer than 7 means (R491). -/
def projection (h : Nat) (means : List Nat) : Option Int :=
  let ys := (means.take 30).reverse
  let n := ys.length
  if n < 7 then none
  else
    let sx := n * (n - 1) / 2
    let sxx := (n - 1) * n * (2 * n - 1) / 6
    let sy := ys.sum
    let sxy := (ys.zipIdx.map fun p => p.2 * p.1).sum
    let d : Int := n * sxx - sx * sx
    let m : Int := n * sxy - sx * sy
    some ((sy * d + m * (n * (n - 1 + h) - sx)) / (n * d))

def projectionOf (k : Nat) (s : State) : Option Int := projection (pol 10 2 s) (tget [] s.spare.wearMean k)

/-- A projection at or above a limit. -/
def reaches (k limit : Nat) (s : State) : Bool :=
  match projectionOf k s with
  | some v => decide ((1000 * limit : Int) ≤ v)
  | none => false

/-- A projection below a limit. -/
def fallsBelow (k limit : Nat) (s : State) : Bool :=
  match projectionOf k s with
  | some v => decide (v < (1000 * limit : Int))
  | none => false

/-- The corrected-symbol ratio of the last whole day is above 2^−(DEG_SER_LOG2 + 2). -/
def symbolsHigh (ix l : Nat) (s : State) : Bool :=
  let t := tget (0, 0) s.spare.laneSymDay ix
  decide (t.2 < t.1 * 2 ^ (fld (linkRec l s) 11 1 + 2))

/-- The triggers of R491, by kind and unit in the table's order. -/
def lanesWorn (s : State) : List Nat :=
  (List.range 90).filter fun ix =>
    match linkOfLane ix s with
    | some l => fallsBelow (130 + ix) (laneFloor ix s + pol 12 2 s) s || symbolsHigh ix l s
    | none => false

def pipesWorn (s : State) : List Nat :=
  (List.range 17).filter fun pl => (blockOfPipe pl s).isSome &&
    (reaches (2 * pl) (pol 8 2 s) s || reaches (2 * pl + 1) (pol 8 2 s) s)

def enginesWorn (s : State) : List Nat :=
  (List.range 68).filter fun e => (engineState e s == .working || engineState e s == .gated) && reaches (34 + e) (pol 8 2 s) s

def pcsWorn (s : State) : List Nat :=
  (List.range 128).filter fun i => (logicalPc i s).isSome &&
    (fallsBelow (220 + i) (s.hbm.floor + pol 14 1 s) s || decide (1000 * pol 20 2 s < errToday 4 i s))

/-- The units of a kind whose errors of the day have reached a limit. -/
def errorsWorn (kind limit : Nat) (s : State) : List Nat :=
  (s.spare.errDay.filter fun x => x.1 / 16777216 == kind && decide (limit ≤ x.2)).map fun x => x.1 % 16777216

def worn (kind : Nat) (s : State) : List Nat :=
  match kind with
  | 1 => lanesWorn s
  | 2 => pipesWorn s
  | 3 => enginesWorn s
  | 4 => pcsWorn s
  | 5 => errorsWorn 5 (pol 15 1 s) s
  | 6 => errorsWorn 6 (pol 16 2 s) s
  | _ => errorsWorn 7 (pol 18 1 s) s

/-- The spares of a pool left to a swap: none when only the last one is left and it is held back (HOLD_LAST, R490). -/
def poolAllows (free : Nat) (pro : Bool) (s : State) : Bool :=
  decide ((if pro && polBit 2 s then 1 else 0) < free)

/-- Spare engines that are not AGED and not yet promised. -/
def freshEngines (s : State) : Nat :=
  ((joinOrder s).filter fun k => !s.spare.agedEngines.contains k).length - s.task.joining

/-- The spare lane of a group is AGED. -/
def spareAged (g : Nat) (s : State) : Bool :=
  match spareOf g s with
  | some ph => s.spare.agedLanes.contains (9 * g + ph)
  | none => false

/-- The swap of a kind and unit can start: 0 yes, else the status that refuses a named swap. -/
def swapState (kind unit : Nat) (pro : Bool) (s : State) : Nat :=
  match kind with
  | 1 =>
    if 90 ≤ unit then stRANGE
    else if (logicalOf (unit / 9) (unit % 9) s).isNone then stNOT_FOUND
    else if (getGroup (unit / 9) s).swap.isSome then stBUSY
    else if !swapPossible (unit / 9) ((logicalOf (unit / 9) (unit % 9) s).getD 0) s ∨ spareAged (unit / 9) s then stNOSPACE
    else stOK
  | 2 =>
    if 17 ≤ unit then stRANGE
    else if (blockOfPipe unit s).isNone then stNOT_FOUND
    else if s.spare.swap.isSome then stBUSY
    else if (sparePipe false s).isNone then stNOSPACE
    else stOK
  | 3 =>
    if 68 ≤ unit then stRANGE
    else if engineState unit s = .failed ∨ engineState unit s = .spare then stNOT_FOUND
    else if poolAllows (freshEngines s) pro s then stOK
    else stNOSPACE
  | 4 =>
    if 128 ≤ unit then stRANGE
    else if (logicalPc unit s).isNone then stNOT_FOUND
    else if (getStack (unit / 32) s).retire.isSome then stBUSY
    else if (spareIn (unit / 32) s).isNone then stNOSPACE
    else stOK
  | 5 =>
    if 32 ≤ unit then stRANGE
    else if s.spare.tcamCopy.any fun x => x.1 == unit then stBUSY
    else if poolAllows s.spare.tcamFree.length pro s then stOK
    else stNOSPACE
  | 6 =>
    if 993 ≤ unit then stRANGE
    else if s.flow.moving.isSome then stBUSY
    else if poolAllows s.flow.reserve.length pro s then stOK
    else stNOSPACE
  | 7 =>
    if s.spare.rowPend.contains unit then stBUSY
    else if poolAllows (4 - rowsTaken (unit / 1024) s) pro s then stOK
    else stNOSPACE
  | _ => stINVALID

/-- The swap of a kind and unit starts. -/
def startSpare (kind unit : Nat) (pro : Bool) (s : State) : State :=
  match kind with
  | 1 => startSwap (unit / 9) ((logicalOf (unit / 9) (unit % 9) s).getD 0) s
  | 2 => startPipeSwap unit ((sparePipe false s).getD 16) pro s
  | 3 => engineSwap unit s
  | 4 => retirePc unit s
  | 5 => containTcam unit s
  | 6 => retireBlock unit s
  | 7 => containRow unit s
  | _ => s

/-- A swap that the policy starts. -/
def startPolicy (kind unit : Nat) (s : State) : State :=
  startSpare kind unit true (setSpare { s.spare with running := some (kind, unit) } s)

/-- SPARE_SWAP (0x0109).  DESIGN CHOICE (log 48): KIND by the order of R491, then UNIT. -/
def execSpareSwap (r : YcpReq) (s : State) : Host.Outcome State Fault Refusal :=
  ycp 0x0109 r (formE 8 [] [(4, opIn 1 7)] fun b s =>
    let st := swapState (fld b 0 4) (fld b 4 4) false s
    if st = stOK then yOk [] (startSpare (fld b 0 4) (fld b 4 4) false s) else yFail st s) s

/-- The daily window is open, by the active time (R490, R494). -/
def windowOpen (s : State) : Bool :=
  decide ((secOf (activeTime s) + 86400 - pol 4 4 s) % 86400 < 60 * pol 2 2 s)

/-- The first unit of a kind whose trigger stands and whose swap can start. -/
def policyUnit (kind : Nat) (s : State) : Option Nat := (worn kind s).find? fun u => swapState kind u true s == stOK

/-- The kinds whose swaps wait for the window. -/
def windowKind (kind : Nat) : Bool := kind == 1 || kind == 2

/-- The evaluation of one kind: its swap starts, or waits for the window; one at a time. -/
def evaluateKind (kind : Nat) (s : State) : State :=
  if s.spare.running.isSome then s
  else match policyUnit kind s with
    | none => s
    | some u =>
      if windowKind kind && polBit 1 s && !windowOpen s then
        if s.spare.waiting.isNone then setSpare { s.spare with waiting := some (kind, u) } s else s
      else startPolicy kind u s

/-- SPARE_POLICY_EVALUATION: every hour (R491). -/
def execSparePolicyEvaluation (s : State) : Host.Outcome State Fault Refusal :=
  .next (if polBit 0 s then forEach [1, 2, 3, 4, 5, 6, 7] evaluateKind (wearRoll (today s) s) else s)

/-- SPARE_WINDOW_OPEN: the pending swap starts (R491). -/
def execSpareWindowOpen (s : State) : Host.Outcome State Fault Refusal :=
  .next (match s.spare.waiting with
    | some (kind, u) =>
      if polBit 0 s && windowOpen s && s.spare.running.isNone then
        let s := setSpare { s.spare with waiting := none } s
        if swapState kind u true s = stOK then startPolicy kind u s else s
      else s
    | none => s)

/-! SPARE_STATUS (R492). -/

def engineRole (e : Nat) (s : State) : Nat :=
  match engineState e s with
  | .working => 0
  | .gated => 0
  | .failed => 3
  | .spare => if s.spare.agedEngines.contains e then 2 else 1

/-- RO_PROJECT of a sensor: 0xFFFF with no projection. -/
def roProject (k : Nat) (s : State) : Nat :=
  match projectionOf k s with
  | some v => min 0xFFFE (v / 1000).toNat
  | none => 0xFFFF

/-- The properties of SPARE_STATUS and of SUMMARY section 14. -/
def spareProps (s : State) : List Bytes :=
  let used := (s.spare.rowsUsed.map (·.2)).foldl max 0
  let (k, u) := s.spare.waiting.getD (0, 0)
  [pArr "LANE_ROLE" 1 ((List.range 90).map fun ix => laneRole ix s),
   pArr "PIPE_ROLE" 1 ((List.range 17).map fun pl => pipeRole pl s),
   pArr "PIPE_BLOCK" 1 ((List.range 17).map fun pl => (blockOfPipe pl s).getD 0xFF),
   pArr "ENGINE_ROLE" 1 ((List.range 68).map fun e => engineRole e s),
   pArr "PC_STATE" 1 ((List.range 128).map fun i => pcCode (getPc i s).st),
   pArr "DQ_SPARES_FREE" 1 ((List.range 128).map fun i => 2 - (getPc i s).repairs.length),
   pNum "TCAM_SPARES_FREE" 1 s.spare.tcamFree.length, pNum "HOT_RESERVE_FREE" 1 s.flow.reserve.length,
   pNum "SRAM_ROWS_MIN" 1 (4 - used),
   pArr "RO_SHIFT" 2 ((List.range 130).map fun i => tget 0 s.spare.roShift i),
   pArr "RO_PROJECT" 2 ((List.range 130).map fun i => roProject i s),
   pNum "OTP_LOG_FREE" 2 (512 - s.spare.otpLog.length), pArr "PENDING" 4 [k, u], pStr "POLICY" s.spare.policy]

def execSpareStatus (r : YcpReq) (s : State) : Host.Outcome State Fault Refusal :=
  ycp 0x0107 r (emptyBody fun s => yRead (propList (spareProps s)) s) s

/-! SAFETY_STATUS (R391–R393).  DESIGN CHOICE (log 13): the property names. -/

def safetyProps (s : State) : List Bytes :=
  [pNum "ARMED" 1 (b2n (inMode mASSURED s)),
   pArr "PAIR_UNIT" 8 ((List.range 8).map fun c => (pairUnit c s).getD 0xFF),
   pArr "SENTINEL" 8 ((List.range 34).map fun k => tget 0 s.mace.sentinel k),
   pArr "SELF_TEST" 8 ((List.range 68).map fun e => b2n (engineState e s != .failed)),
   pNum "SCRUB_HOT" 8 s.flow.scrubAt, pNum "SCRUB_SVC" 8 s.look.scrubSvc, pNum "SCRUB_L2" 8 s.look.scrubL2,
   pNum "SCRUB_CAM" 8 s.look.scrubCam, pNum "SCRUB_HBM" 8 s.hbm.scrubLine]

def execSafetyStatus (r : YcpReq) (s : State) : Host.Outcome State Fault Refusal :=
  ycp 0x090A r (emptyBody fun s => yRead (propList (safetyProps s)) s) s

/-! The spare record replayed (R488). -/

/-- One entry, when its CHECK holds: the maps follow it; one that fails CHECK is skipped and counted. -/
def replayEntry (v : Nat) (s : State) : State :=
  let unit := bits v 8 16
  let old := bits v 24 16
  let new := bits v 40 16
  let sp := s.spare
  if crc8 (leBytes 7 (v % 2 ^ 56)) ≠ v / 2 ^ 56 then bump .OTP_LOG_BAD 0 s
  else match v % 16 with
    | 1 => match logicalOf unit old s with
      | some k => setMap unit k new s
      | none => s
    | 2 => laneTo (9 * unit + old) (if new = 0 then 13 else 0) s
    | 3 => setPipeMark old 0 (setPipeMark new 0 (setSpare { sp with pipeMap := tset unit sp.pipeMap unit new } s))
    | 4 => setEngine old .spare (setEngine new .working s)
    | 5 =>
      let p := (List.range 31).find? fun p => physPc unit p s == old
      let s := setPc new { getPc new s with st := .active } (setPc old { getPc old s with st := .retired } s)
      match p with
      | some p => setHbm { s.hbm with remap := tset p s.hbm.remap (32 * unit + p) (new % 32) } s
      | none => s
    | 6 =>
      let n := ((List.range 32).find? fun n => physTcam n s == old).getD 0
      setSpare { sp with tcamMap := tset n sp.tcamMap n new, tcamFree := sp.tcamFree.filter (· != new) } s
    | 7 => setFlow { s.flow with remap := tset unit s.flow.remap unit new, reserve := s.flow.reserve.filter (· != new) } s
    | 8 => setSpare { sp with rowsUsed := tset 0 sp.rowsUsed unit (max (tget 0 sp.rowsUsed unit) (new - 1023)) } s
    | 9 =>
      if unit / 256 = 3 then setPipeMark old (if new = 0 then 3 else if new = 2 then 2 else 0) s
      else if unit / 256 = 4 then
        let s := setEngine old (if new = 0 then .failed else .spare) s
        if new = 2 then setSpare { s.spare with agedEngines := s.spare.agedEngines ++ [old] } s else s
      else if unit / 256 = 1 ∧ new = 2 then
        setSpare { sp with agedLanes := sp.agedLanes ++ [9 * (unit % 256) + old] } s
      else s
    | _ => s

/-- Step 4 of R448 replays the log in order. -/
def replayLog (s : State) : State := forEach s.spare.otpLog replayEntry s

end Sys2Proof.Machine
end

