-- ==== Sys2Proof/Machine/Boot.lean ====
section
/-!
DEFINITION. The flash and what the boot ROM makes of it (R421, R422): BOOT_CTRL, the image slots and the checks of an image.
-/
namespace Sys2Proof.Machine

def setFw (x : FwState) (s : State) : State := { s with fw := x }

/-! BOOT_CTRL (R421). -/

def bootMagic : Nat := 0x42435431

/-- A copy of BOOT_CTRL, 32 bytes. -/
def bootCopy (k : Nat) (s : State) : Bytes := memRead s.fw.flash (4096 * k) 32

def bootValid (b : Bytes) : Bool := fld b 0 4 == bootMagic && crc32c (slice b 0 28) == fld b 28 4

def bootSeq (b : Bytes) : Nat := fld b 4 4

/-- The valid copy with the higher SEQ. -/
def bootNow (s : State) : Option Nat :=
  let a := bootCopy 0 s
  let b := bootCopy 1 s
  if bootValid a && (!bootValid b || decide (bootSeq b ≤ bootSeq a)) then some 0 else if bootValid b then some 1 else none

/-- ACTIVE: slot B.  DESIGN CHOICE (log 49): slot A without a valid copy. -/
def bootActive (s : State) : Bool := (bootNow s).any fun k => bit (fld (bootCopy k s) 8 1) 0

/-- TRIAL is pending. -/
def bootTrial (s : State) : Bool := (bootNow s).any fun k => bit (fld (bootCopy k s) 9 1) 0

/-- A new BOOT_CTRL: the copies are written in turn, SEQ one higher. -/
def bootWrite (active trial : Bool) (s : State) : State :=
  let k := if bootNow s = some 0 then 1 else 0
  let q := match bootNow s with
    | some j => (bootSeq (bootCopy j s) + 1) % 2 ^ 32
    | none => 1
  let b := leBytes 4 bootMagic ++ leBytes 4 q ++ [BitVec.ofNat 8 (b2n active), BitVec.ofNat 8 (b2n trial)] ++ zeros 18
  setFw { s.fw with flash := memWrite s.fw.flash (4096 * k) (b ++ leBytes 4 (crc32c b)) } s

/-! Images (R421, R422). -/

def slotBase (b : Bool) : Nat := if b then 0x900000 else 0x100000

/-- Bytes of an image slot. -/
def slotSize : Nat := 0x800000

def imgHeader (b : Bool) (s : State) : Bytes := memRead s.fw.flash (slotBase b) 256

def imgVersion (h : Bytes) : Nat := fld h 8 4
def imgMinRollback (h : Bytes) : Nat := fld h 12 1
def imgKeySlot (h : Bytes) : Nat := fld h 13 1
def imgBodyLen (h : Bytes) : Nat := fld h 16 4
def imgPubkey (h : Bytes) : Bytes := slice h 64 64
def imgSig (h : Bytes) : Bytes := slice h 128 64

def imgBodyBytes (b : Bool) (s : State) : Bytes := memRead s.fw.flash (slotBase b + 256) (imgBodyLen (imgHeader b s))

/-! The STREAM windows and passes of the check-value units (R373, R375). -/

/-- The window of a unit in STREAM mode has had its bytes: a region or an image is read by the pass, the other streams bring
frames. -/
def windowFull (x : CvuUnit) : Bool := x.stream == 4 || x.stream == 5 || decide (x.window ≤ x.acc.length)

/-- Bytes of a span that a window takes: the whole of it with WINDOW 0. -/
def windowLen (x : CvuUnit) (n : Nat) : Nat := if x.window = 0 then n else min x.window n

/-- The stream's bytes for a window: a region of HBM in ascending address order, an image with its header, or those of the frames
(R373). -/
def streamBytes (x : CvuUnit) (s : State) : Bytes :=
  match x.stream with
  | 4 =>
    match regions.find? fun r => r.no == x.sel with
    | some r => hbmPeek r.base (windowLen x r.size) s
    | none => []
  | 5 =>
    let b := x.sel == 1
    memRead s.fw.flash (slotBase b) (windowLen x (min slotSize (256 + imgBodyLen (imgHeader b s))))
  | _ => x.acc

/-- A STREAM window or pass ends (R375); a region pass reads as requester 11 (R373).  The bytes are those of the stream, as State holds
them, and the operand `data` has no part in it (log 71). -/
def execCvuStreamDone (u : Nat) (_data : Bytes) (s : State) : Host.Outcome State Fault Refusal :=
  let x := getCvu u s
  .next <|
    if cvuRuns u s && x.mode == 0 && x.busy && windowFull x then
      let bs := streamBytes x s
      let res := crc (cvuParams x) bs
      let s := if x.stream = 4 then addCtr .REQ_OPS 11 ((bs.length + 63) / 64) s else s
      let s := bump .CVU_CHECKS u (setCvu u { x with busy := false, done := true, result := res } s)
      if res = x.expect % 2 ^ x.width then s else cvuMismatch u x.sel (cvuPorts x) res s
    else s

/-- What the checks of an image find: accepted; no image, by its header; a signature or hash failure; a rollback failure. -/
inductive ImgCheck where
  | accepted | noImage | signature | rollback
  deriving DecidableEq, Repr

/-- The OTP key-hash slot is programmed, not revoked and holds the hash of PUBKEY. -/
def keyTrusted (h : Bytes) (s : State) : Bool :=
  !bit s.fw.otpRevoked (imgKeySlot h) && (tget? s.fw.otpKeys (imgKeySlot h)).any fun k => k == sha256 (imgPubkey h)

/-- The checks of R422 in the order of the rule. -/
def checkImage (b : Bool) (s : State) : ImgCheck :=
  let h := imgHeader b s
  if !(fld h 0 4 == 0x59584657 && fld h 4 2 == 1 && decide (imgBodyLen h ≤ 8388352)) then .noImage
  else if !(keyTrusted h s && ecdsaVerify (imgPubkey h) (sha256 (slice h 0 128)) (imgSig h) &&
      sha256 (imgBodyBytes b s) == slice h 32 32) then .signature
  else if imgMinRollback h < s.fw.rollback then .rollback
  else .accepted

/-- The fault of a check: F197, F198. -/
def checkFault (b : Bool) (c : ImgCheck) (s : State) : State :=
  match c with
  | .signature => raise 197 (b2n b) 0 s
  | .rollback => raise 198 (b2n b) 0 s
  | _ => s

/-- The slot that the ROM tries first: ACTIVE, or the other one when TRIAL is pending from a boot already tried. -/
def firstSlot (s : State) : Bool := if bootTrial s && s.fw.trialTried then !bootActive s else bootActive s

/-- The domains that step 4 of start-up brings up (R448). -/
def step4Domains : List Nat := [domCORE, domACT, domPIPE 0, domPIPE 1, domPIPE 2, domPIPE 3, domPIPE 4]

/-- An image is accepted and runs: the switches of step 4 close, unless Clove alone restarts (R432, R448). -/
def runImage (b : Bool) (s : State) : State :=
  let h := imgHeader b s
  let s := if s.pwr.mgmtOnly then s else forEach step4Domains (fun d s => domainWake d s) s
  { s with fw := { s.fw with slot := b, trial := bootTrial s && b == bootActive s, fwVersion := imgVersion h,
                             imgRollback := imgMinRollback h, fwHash := sha256 (slice h 0 192),
                             trialTried := s.fw.trialTried || bootTrial s }
           host := { s.host with stage := stageFW_INIT } }

/-- The ROM tries one slot, then the other; RECOVERY when neither is accepted. -/
def bootImage (s : State) : State :=
  let a := firstSlot s
  let s := checkFault a (checkImage a s) s
  if checkImage a s = .accepted then runImage a s
  else
    let s := checkFault (!a) (checkImage (!a) s) s
    if checkImage (!a) s = .accepted then runImage (!a) s
    else { s with fw := { s.fw with fwHash := [], trialTried := s.fw.trialTried || bootTrial s }
                  host := { s.host with stage := stageRECOVERY } }

end Sys2Proof.Machine
end

