-- ==== Sys2Proof/Machine/Reset.lean ====
section
/-!
DEFINITION. Resets and start-up (chapter 15, R443–R450), the slow pins and straps (R517–R530), the clock monitors and the
junction temperature.
-/
namespace Sys2Proof.Machine

def setPins (x : PinState) (s : State) : State := { s with pins := x }

/-! RESET events (R446). -/

def resetPayload (type cause block : Nat) (s : State) : Bytes :=
  leBytes 1 type ++ leBytes 1 cause ++ leBytes 1 block ++ [0] ++ leBytes 8 (now302 s)

/-- The RESET event that is posted first once the ring is enabled. -/
def oweReset (type cause block : Nat) (s : State) : State :=
  { s with host := { s.host with resetEvent := some ⟨18, fit 28 (resetPayload type cause block s)⟩ } }

/-! Power-on and cold reset (R444). -/

/-- What a loss of every domain but AON leaves: the queue of commands, the flash, OTP and straps, the pins, the lane repairs that
the stacks record (R362), and the MODEL's records of what the device has sent; every other field is at its reset value. -/
def dark (s : State) : State :=
  { State.reset with
    pending := s.pending
    fresh := s.fresh
    host := { devid := s.host.devid, dmaOut := s.host.dmaOut }
    fw := { flash := s.fw.flash, otpKeys := s.fw.otpKeys, otpRevoked := s.fw.otpRevoked, rollback := s.fw.rollback,
            trialTried := s.fw.trialTried }
    pins := s.pins
    spare := { otpLog := s.spare.otpLog }
    hbm := { pc := s.hbm.pc.foldl (fun t x => tset (pcReset x.1) t x.1 { pcReset x.1 with repairs := x.2.repairs }) [] }
    buf := { tx := s.buf.tx, pauseOut := s.buf.pauseOut }
    join := { out := s.join.out } }

/-- A cold reset: Mace keeps its records, STICKY, EVENTS and SEVERE, the safe state ends, the observation port serves on. -/
def cold (cause : Nat) (s : State) : State :=
  let x := dark s
  let x := { x with mace := { src := s.mace.src, inflight := s.mace.inflight }, obs := obsCold s.obs,
                    pwr := { cause := cause, lastReset := .cold } }
  oweReset 1 cause 0 (syncPins x)

/-- The main supplies go: as a cold reset with cause 3, but AON, Mace and Saffron run on (R522). -/
def mainLost (s : State) : State :=
  { dark s with mace := s.mace, time := s.time, obs := obsCold s.obs, pwr := { cause := 3, lastReset := .cold } }

/-- Start-up step 2: the switches of MGMT and HOST close, and the boot ROM runs once MGMT is on (R432, R448), when MAIN_PG is high
and RST_N is released (R522, R530).  PERST_N holds HOST in reset, not off (R530). -/
def step2 (s : State) : State :=
  if s.pins.rstN ∧ s.pins.mainPg ∧ s.host.stage = stageROM ∧ tget .off s.pwr.domain domMGMT = .off then
    setFw { s.fw with romHash := Config.romHash } (domainWake domHOST (domainWake domMGMT s))
  else s

/-- AON_POWER_GOOD: power-on reset; the straps are sampled (R448, R523). -/
def execAonPowerGood (devid : Nat) (spiQuad testN : Bool) (s : State) : Host.Outcome State Fault Refusal :=
  let x := dark s
  .next (step2 { x with
    host := { x.host with devid := devid % 4 }
    pins := { s.pins with spiQuad := spiQuad, testN := testN, faultN := true, safeN := true, talertN := true, tj := 0,
                          jtag := 0 } })

/-- RST_N_ASSERT: a cold reset, which holds every domain but AON while the pin is low (R443). -/
def execRstNAssert (s : State) : Host.Outcome State Fault Refusal := .next (cold 0 (setPins { s.pins with rstN := false } s))

/-- RST_N_RELEASE: start-up goes on from step 2 (R530); JTAG instructions that need RST_N low act as BYPASS (R527). -/
def execRstNRelease (s : State) : Host.Outcome State Fault Refusal :=
  .next (step2 (setPins { s.pins with rstN := true, jtag := if 3 ≤ s.pins.jtag then 0 else s.pins.jtag } s))

/-- MAIN_PG_FALL (R522). -/
def execMainPgFall (s : State) : Host.Outcome State Fault Refusal :=
  .next (if s.pins.mainPg then raise 5 0 0 (mainLost (setPins { s.pins with mainPg := false } s)) else s)

/-- MAIN_PG_RISE: step 2 begins; after a fall the device starts as after a cold reset with cause 3. -/
def execMainPgRise (s : State) : Host.Outcome State Fault Refusal :=
  .next (if s.pins.mainPg then s
    else
      let s := setPins { s.pins with mainPg := true } s
      let s := if s.pwr.lastReset = .cold ∧ s.pwr.cause = 3 then oweReset 1 3 0 (leaveSafe allPorts s) else s
      step2 s)

/-- PERSISTENT_FAILURE_COLD_RESET (R443). -/
def execPersistentFailureColdReset (s : State) : Host.Outcome State Fault Refusal :=
  .next (if s.pwr.warmReacted && (s.pwr.clockFails || s.pwr.supplyFails) then step2 (cold 3 s) else s)

/-! The warm reset (R445, R449). -/

/-- The undo of a log whose outcome is the warm reset (R126, R445). -/
def warmUndo (l : Nat) (s : State) : State :=
  match getLog l s with
  | none => s
  | some u => undoEnd l u (applyUndo l s)

/-- A log at Q2: a provisional entry is undone, at once or, where an effect in flight has claimed an entry and not filled it, by the
UNDO_APPLY that follows; one whose outcome has been decided ends without re-runs. Held packets are discarded (R109, R128, R145). -/
def warmLog (l : Nat) (s : State) : State :=
  match getLog l s with
  | none => s
  | some u =>
    if u.st = .replay then endReplay l (dropHeld l s)
    else
      let s := beginUndo l .warm (dropHeld l (setLog l { u with load := none, waitPlace := false } s))
      if (u.ents.all fun e => e.filled) && !undoWaits u s then warmUndo l s else s

/-- A log whose undo still waits when the quiesce has to end: the entries that are filled are applied (R145, R445). -/
def warmLate (l : Nat) (s : State) : State :=
  match getLog l s with
  | none => s
  | some u => warmUndo l (setLog l { u with ents := u.ents.filter (·.filled) } s)

/-- The re-runs that no log has any more are discarded as well. -/
def dropReruns (s : State) : State :=
  let ds := (s.flow.rerunq.map (·.2)).flatten
  forEach ds (fun d s => discard d (endHold d s)) (setFlow { s.flow with rerunq := [] } s)

/-- Dirty lines that Q4 has not written are lost (R445). -/
def loseFlow (s : State) : State :=
  let s := setSvc { s.svc with blocks := s.svc.blocks.map fun x => (x.1, { x.2 with back := [] }) } s
  setFlow { s.flow with work := none, pairs := { s.flow.pairs with back := [] }, singles := { s.flow.singles with back := [] } } s

/-- An instance that Q3 or a block reset of ACT cancels: an ageing one pushes its record slot, as at a timeout (R153, R155). -/
def cancelAny (c : Nat) (s : State) : State :=
  match getCtx c s with
  | none => s
  | some x =>
    let s := if x.kind = 3 ∧ x.st ≠ .closing then pushRecord x { s with pwr := { s.pwr with auditDue := true } } else s
    cancelInst c s

/-- Start tasks whose instance has no context yet are cancelled with the others; a spilled one is not started (R445 Q3). -/
def dropStarts (s : State) : State :=
  forEach (List.range 8) (fun l s =>
    let x := getLevel l s
    setLevel l { x with slots := x.slots.filter fun t => t.ty != .start || t.pre } s) s

/-- The quiesce begins: Q1 to Q3 (R445). -/
def startWarm (cause : Nat) (s : State) : State :=
  if s.pwr.warm = .none ∧ s.pins.rstN ∧ s.pins.mainPg then
    let s := setPwr { s.pwr with warm := .quiescing, cause := cause, ingressStopped := true } s
    let s := forEach s.buf.inTx (fun x s => endTx x.1 x.2 s) s
    let s := dropReruns (forEach (s.flow.log.map (·.1)) warmLog s)
    let undoing (c : Nat) : Bool := s.flow.log.any fun x => x.2.ctx == some c
    bufSync (forEach ((s.task.ctx.filter fun x => x.2.kind != 2 && !undoing x.1).map (·.1)) cancelAny (dropStarts s))
  else s

/-- The buffer cleared: every cell and descriptor is free, in the pool that its header names; the pool records, the tables and
the sessions stay.  The order of the lists is the model's (log 15). -/
def bufWarm (s : State) : State :=
  let s := forEach s.buf.rebuild (fun x s => rebuildList x.1 x.2 s) s
  let at_ (i : Nat) : Nat := (getCell i s).pool
  let used := (cellPools.map fun k => List.range' (poolReset k).free.lo ((getPool k s).free.lo - (poolReset k).free.lo)).flatten
  let fresh (k : Nat) (p : PoolRec) : PoolRec :=
    let p := { p with levels := 0 }
    let p := if k < 4 then { p with free := { p.free with stack := used.filter fun i => at_ i == k }, pre := [] }
      else { p with free := (poolReset k).free }
    { p with levels := levelsNow p }
  let pools := (List.range 6).foldl (fun t k => tset (poolReset k) t k (fresh k (getPool k s))) s.buf.pool
  let cells := s.buf.cell.foldl (fun t x => tset (cellReset x.1) t x.1 { cellReset x.1 with pool := x.2.pool }) s.buf.cell
  let s := setBuf { cell := cells, pool := pools, cls := s.buf.cls, port := s.buf.port, group := s.buf.group,
                    groupBad := s.buf.groupBad, session := s.buf.session, tx := s.buf.tx, pauseOut := s.buf.pauseOut } s
  forEach cellPools (fun k s => setList k (getPool k s).free s) s

/-- The flow stage: no packet waits any more. -/
def flowWarm (s : State) : State :=
  setFlow { s.flow with log := [], admq := [], inbound := [], rerunq := [], recircq := [], bucket := [] } s

/-- The contexts are free and the levels empty; the settings stay. -/
def taskWarm (s : State) : State :=
  let lv := s.task.level.foldl (fun t x => tset {} t x.1 { spillBp := x.2.spillBp }) s.task.level
  let s := forEach s.task.level (fun x s => setGauge .SPILL_DEPTH x.1 0 s) s
  forEach (List.range 5) (fun k s => setGauge .CTX_IN_USE k 0 s) (setTask { s.task with ctx := [], level := lv, run := [] } s)

/-- A mailbox: what still executed ends with its effect, where that is under way and takes hold at start-up (MEM_FREQ_SET),
or without it; the stored response is empty (R405, R406). -/
def mbxWarm (m : Mailbox) : Mailbox :=
  let m := { mbxEmptied m with stored := [], lastMore := false, busy := false, running := none, lost := false }
  m

def mbxFreq (m : Mailbox) : Mailbox :=
  match m.running with
  | some (0x0806, r) => { m with lastSeq := r.seq, lastOp := 0x0806, lastStatus := stOK, lastDetail := 0 }
  | _ => m

/-- The HOST domain: as a function-level reset; Clove has yet to boot. -/
def hostWarm (s : State) : State :=
  let s := hostReset s
  let h := s.host
  let mb := (List.range 8).foldl (fun t m => tset {} t m (mbxWarm (mbxFreq (tget {} h.mbx m)))) h.mbx
  let s := setHost { h with mbx := mb, stage := stageROM, migResumable := false } s
  setFw { s.fw with fwVersion := 0, trial := false, fwHash := [], halted := false,
                    romHash := Config.romHash } s

/-- The PC controllers forget their requests; a copy to a spare PC starts again at line 0 (R365). -/
def hbmWarm (s : State) : State :=
  let pcs := s.hbm.pc.foldl (fun t x => tset (pcReset x.1) t x.1
    { x.2 with reads := [], wq := [], waitW := [], waitR := [], issued := [], retry := [], drain := false, open_ := [], last := [] })
    s.hbm.pc
  let kept := s.hbm.stack.map fun x => (x.1, { x.2 with retire := x.2.retire.map fun r => (r.1, 0) })
  let s := setHbm { s.hbm with pc := pcs, stack := kept, outst := [], panic := [], target := none, waiting := [], stopped := true } s
  if s.pwr.trained then s else setHbm { s.hbm with mem := [], bad := [] } s

/-- Lanes: ports that were up keep their saved coefficients and retrain at start-up, every other enabled link starts anew;
tests and swaps end. -/
def lanesWarm (s : State) : State :=
  let s := forEach (List.range 10) withdrawSwap s
  let s := forEach (s.lanes.lane.map (·.1)) (fun ix s => untest ix s) s
  forEach (List.range 66) (fun l s =>
    if !linkOn l s then s
    else if isUp l s then (if l < 64 then setPortDepth l .off s else s)
    else fullBringUp l s) s

/-- A commit or a copy in progress is abandoned: the draining bank is the shadow again. -/
def epochWarm (s : State) : State :=
  let f (b : BankSt) : BankSt := if b = .draining then .shadow else b
  let e := s.ep
  { s with ep := { e with st0 := f e.st0, st1 := f e.st1, commit := .none, commitMbx := none, copyMbx := none, copyLeft := 0 } }

/-- The chain groups: what was in flight is lost, and the state of the ring stays. -/
def joinWarm (s : State) : State :=
  let g := s.join.group.foldl (fun t x => tset {} t x.1 { wrapped := x.2.wrapped, held := x.2.held }) s.join.group
  { s with join := { s.join with group := g } }

/-- A pipeline swap that had not ended is abandoned with the map unchanged (log 51). -/
def spareWarm (s : State) : State :=
  let s := match s.spare.swap with
    | some w => spareDropped 2 w.old s
    | none => s
  setSpare { s.spare with swap := none, pipeWait := [] } s

/-- The reset itself, after the quiesce (R444, R445). -/
def warmReset (s : State) : State :=
  let s := disarmAll 4 allPorts s
  let s := epochWarm (joinWarm (spareWarm (lanesWarm s)))
  let s := hbmWarm (taskWarm (flowWarm (bufWarm s)))
  let s := hostWarm { s with time := timeWarm s.time, obs := traceWarm s.obs, svc := { (dropCaches s).svc with audit := none }, look := { s.look with camFlight := [] } }
  let s := forEach (List.range 17) (fun p s => setGauge .HOLD_CELLS p 0 s) s
  let s := setPwr { s.pwr with warm := .none, lastReset := .warm, standby := .no, standbyMbx := none, waking := 0, mgmtOnly := false,
                               pipeDepth := s.pwr.pipeDepth.filter fun x => x.2 == .powerGated } s
  oweReset 2 s.pwr.cause 0 s

/-- Q5: the stacks are in self-refresh; WRST_N low holds the reset here (R443). -/
def quiesced (s : State) : State :=
  let s := drainWrites s
  let s := setHbm { s.hbm with stopped := true } s
  if s.pins.wrstN then warmReset s else setPwr { s.pwr with warm := .held } s

/-- WARM_QUIESCE_DONE (R445). -/
def execWarmQuiesceDone (s : State) : Host.Outcome State Fault Refusal :=
  .next (if s.pwr.warm = .quiescing ∧ s.task.ctx.isEmpty ∧ s.flow.log.isEmpty then quiesced (flushCaches (flushFlow s)) else s)

/-- WARM_QUIESCE_TIMEOUT: the reset proceeds at 5 ms (R445). -/
def execWarmQuiesceTimeout (s : State) : Host.Outcome State Fault Refusal :=
  .next (if s.pwr.warm = .quiescing then
      let s := forEach (s.task.ctx.map (·.1)) cancelAny (forEach (s.flow.log.map (·.1)) warmLate s)
      quiesced (loseFlow (bump .WARM_QUIESCE_LATE 0 (setPwr { s.pwr with auditDue := true } s)))
    else s)

/-- WRST_N_ASSERT (R443); with RST_N low the reset is cold (R530). -/
def execWrstNAssert (s : State) : Host.Outcome State Fault Refusal :=
  .next (startWarm 0 (setPins { s.pins with wrstN := false } s))

/-- WRST_N_RELEASE: a reset held at its final quiesce step proceeds. -/
def execWrstNRelease (s : State) : Host.Outcome State Fault Refusal :=
  let s := setPins { s.pins with wrstN := true } s
  .next (if s.pwr.warm = .held then warmReset s else s)

/-! Start-up (R448, R449). -/

/-- The boot ROM runs: step 3, with MGMT on; manufacturing test never leaves stage ROM (R422, R523). -/
def booting (s : State) : Bool :=
  decide (s.host.stage ≤ stageVERIFY) && s.pwr.warm == .none && domainOn domMGMT s && s.pins.testN

/-- One tick of step 3 (R448): the image is loaded, then checked.  Stages LOAD and VERIFY follow one another by the tick (DESIGN
CHOICE, log 51). -/
def bootTick (s : State) : State :=
  if booting s then setHost { s.host with stage := min (s.host.stage + 1) stageVERIFY } s else s

/-- BOOT_IMAGE_CHECKED: step 3 ends. -/
def execBootImageChecked (s : State) : Host.Outcome State Fault Refusal := .next (if booting s then bootImage s else s)

/-- A restart of Clove alone ends in READY. -/
def mgmtStage (n : Nat) (s : State) : State :=
  let s := setHost { s.host with stage := n } s
  if n = stageREADY then setPwr { s.pwr with mgmtOnly := false } s else s

/-- The tables that a warm reset has kept are scrubbed once: what the scrubs of the hot tier and of the L2 and CAM tables find is
found now; the other tables report an entry as it fails (R444, R449). -/
def scrubKept (s : State) : State :=
  if s.pwr.lastReset = .warm then
    lookScrubbed (forEach (s.flow.hot.map (·.1)) (fun k s => hotCheck k s) s)
  else s

/-- FW_INIT_DONE: step 4, once its domains have come on or failed; the tables that a warm reset has kept are scrubbed (R449); the
maps come from the spare record unless a warm reset has kept them; the shipped templates load; the switches of the stacks' domains
close.  The spec gives the memory self-test no effect (R448). -/
def execFwInitDone (s : State) : Host.Outcome State Fault Refusal :=
  .next (if s.host.stage = stageFW_INIT ∧ s.pwr.warm = .none then
      if s.pwr.mgmtOnly then mgmtStage stageMEMORY s
      else if !domainsSettled step4Domains s then s
      else
        let s := forEach hbmDomains (fun d s => domainWake d s) (scrubKept s)
        let s := if s.pwr.loaded then s else loadTemplates (replayLog (setPwr { s.pwr with loaded := true } s))
        mgmtStage stageMEMORY s
    else s)

/-- A journal copy is valid: MAGIC and CRC (R108). -/
def journalValid (b : Bytes) : Bool := fld b 0 4 == 0x4A4E4731 && crc32c (slice b 0 60) == fld b 60 4

/-- A journal copy as firmware reads it: nothing where its line is uncorrectable or it is not valid (R108, R109). -/
def journalCopy (k : Nat) (s : State) : Option Bytes :=
  let a := regionBase 11 + 64 * k
  (some (hbmPeek a 64 s)).filter fun b => !spanUe a 64 s && journalValid b

/-- The valid journal copy with the higher SEQ. -/
def journalNow (s : State) : Option Bytes :=
  match journalCopy 0 s, journalCopy 1 s with
  | some a, some b => some (if fld b 4 4 ≤ fld a 4 4 then a else b)
  | some a, none => some a
  | none, b => b

/-- Old buckets copied again, at most `n` of them. -/
def copyBuckets : Nat → State → State
  | 0, s => s
  | n + 1, s =>
    match s.flow.mig with
    | some m => copyBuckets n (copyBucket m s)
    | none => s

/-- A migration held, and reported. -/
def holdMig (s : State) : State :=
  match s.flow.mig with
  | some m => setHost { s.host with migResumable := true } (setMig { m with held := true } s)
  | none => s

/-- What firmware does with the journal after a warm reset (R109). -/
def resumeMig (s : State) : State :=
  match s.flow.mig with
  | none => s
  | some m =>
    match journalNow s with
    | none => raise 29 0 0 (initTables s.flow.bucketBits s.flow.hashSeed s.flow.fpSeed s)
    | some j =>
      let st := fld j 12 1
      if st = 2 then holdMig (copyBuckets 4096 (setMig { m with copy := true, cursor := fld j 32 4 } s))
      else if st ≠ 1 then s
      else
        let m := { m with copy := false }
        let s := forEach ((s.flow.hot.filter fun x => unflushed x.2).map (·.1)) (fun k s => writeBack 9 k s) s
        holdMig (startCopy m s)

/-- A lane group at step 6: a spare of a domain that is on trains, and the switch of one that is off closes (R432, R448). -/
def groupStart (g : Nat) (s : State) : State := if domainOn (domLG g) s then spareStart g s else domainWake (domLG g) s

/-- FULL_TRAINING_DONE: a change of the data rate that was held has run with it (R360); step 5, once the stacks' domains have come on or failed; HBM contents survive a warm reset once this step
has ended (R450); the flow tables are initialised with B 28 when they do not. -/
def execFullTrainingDone (failed : List Nat) (lanes : List (Nat × Nat)) (s : State) : Host.Outcome State Fault Refusal :=
  .next (if s.host.stage = stageMEMORY ∧ s.pwr.warm = .none then
      if s.pwr.mgmtOnly then mgmtStage stageLANES s
      else if !domainsSettled hbmDomains s then s
      else
        let s := trainResult failed lanes (setHbm { s.hbm with stopped := false, rate := wantedRate s } s)
        let s := if s.hbm.target.isSome then rateDone s else s
        let s := if s.pwr.trained then resumeMig s
          else initTables 28 s.flow.hashSeed s.flow.fpSeed (setPwr { s.pwr with trained := true } s)
        let s := forEach (List.range 10) (fun g s => groupStart g s) s
        mgmtStage stageLANES s
    else s)

/-- START_UP_READY: step 7, once the lane domains have come on or failed; after a warm reset the lanes of the ports that were up have retrained, forwarding resumes, and
AUTO writes a SUMMARY (R401, R449). -/
def execStartUpReady (s : State) : Host.Outcome State Fault Refusal :=
  .next (if s.host.stage = stageLANES ∧ s.pwr.warm = .none then
      if s.pwr.mgmtOnly then mgmtStage stageREADY s
      else if !domainsSettled ((List.range 10).map domLG) s then s
      else
        let s := setPwr { s.pwr with ingressStopped := false, portDepth := [], laneDepth := [] } s
        let s := mgmtStage stageREADY s
        if s.pwr.lastReset = .warm ∧ s.host.sumAuto then sumStart s else s
    else s)

/-! Function-level and block resets (R402, R447). -/

/-- A function-level reset of the HOST domain. -/
def hostFlr (s : State) : State :=
  let s := hostReset s
  let s := setHost { s.host with flrSeen := true } s
  if s.host.sumAuto && decide (stageFW_INIT ≤ s.host.stage ∧ s.host.stage ≤ stageREADY) && !s.fw.halted then sumStart s else s

def execFunctionLevelReset (s : State) : Host.Outcome State Fault Refusal := .next (hostFlr s)

/-- The RESET event of a block reset: the ring stays enabled, so it is posted at once (R446). -/
def blockEvent (b : Nat) (s : State) : State := postEvent 18 (resetPayload 3 1 b s) s

/-- MGMT: Clove restarts through the boot ROM; the responses of executing commands are lost, and the domains of the firmware
servo fall to HOLDOVER. -/
def mgmtReset (s : State) : State :=
  let f (x : TimeDomain) : TimeDomain := if x.st = .locked ∧ x.owner = 0 then { x with st := .holdover, qual := 0 } else x
  let lose (m : Mailbox) : Mailbox := { m with busy := m.running.isSome, lost := m.lost || m.running.isSome }
  let mb := (List.range 8).foldl (fun t m => tset {} t m (lose (tget {} s.host.mbx m))) s.host.mbx
  let s := setHost { s.host with mbx := mb, waiting := [], stage := stageROM } s
  let s := setFw { s.fw with fwVersion := 0, trial := false, fwHash := [], halted := false,
                             romHash := Config.romHash } s
  setPwr { s.pwr with mgmtOnly := true } { s with time := { s.time with d0 := f s.time.d0, d1 := f s.time.d1 } }

/-- A log whose admission a block reset of ACT abandons. -/
def abandonLog (l : Nat) (s : State) : State :=
  match getLog l s with
  | some u => if u.st = .replay ∨ u.st = .undoing then s else beginUndo l .abandon s
  | none => s

/-- ACT: provisional entries are abandoned, every other instance is cancelled, and firmware owes a pool audit.  The status
with which a host run ends is a free value (log 2). -/
def actReset (s : State) : State :=
  let s := forEach (s.flow.log.map (·.1)) abandonLog s
  let s := forEach s.task.run (fun x s => cancelRun x.1 x.2 s) s
  let s := forEach ((s.task.ctx.filter fun x => x.2.kind != 1 || x.2.log.isNone).map (·.1)) cancelAny s
  setPwr { s.pwr with auditDue := true } s

/-- The pipeline is a spare that no swap takes. -/
def isSparePipe (pl : Nat) (s : State) : Bool := (pipeRole pl s == 1 || pipeRole pl s == 2) && !inPipeSwap pl s

/-- What follows the response of a block reset. -/
def blockReset (b : Nat) (s : State) : State :=
  if b = 1 then mgmtReset (blockEvent b s)
  else if b = 2 then oweReset 3 1 b (hostFlr s)
  else if b = 3 then bufSync (actReset (blockEvent b s))
  else if b < 0x20 then bufSync (groupReset (b - 0x10) (blockEvent b s))
  else pipeReset (b - 0x20) (blockEvent b s)

def blockCode (b : Nat) : Bool := decide ((1 ≤ b ∧ b ≤ 3) ∨ (0x10 ≤ b ∧ b ≤ 0x19) ∨ (0x20 ≤ b ∧ b ≤ 0x30))

/-- The block reset is denied while ASSURED is in force: of ACT, and of a group that holds a port with ASSURED_PORT set, enabled or
not (R447). -/
def blockDenied (b : Nat) (s : State) : Bool :=
  inMode mASSURED s &&
    (b == 3 || (decide (0x10 ≤ b ∧ b ≤ 0x17) && (List.range 8).any fun k => assuredPort (8 * (b - 0x10) + k) s))

/-- RESET (0x0105): TYPE, BLOCK, CONFIRM; the response is sent before the reset starts (R413). -/
def resetH : YHandler :=
  formE 12 [] [(4, opIn 1 3), (8, fun b _ => fld b 0 4 != 3 || blockCode (fld b 4 4))] fun b s =>
  let ty := fld b 0 4
  let k := fld b 4 4
  need (ty != 3 || !blockDenied k s) stDENIED s <|
  need (ty != 3 || decide (k < 0x20) || isSparePipe (k - 0x20) s) stBUSY s <|
  need (fld b 8 4 == 0x52535421) stTOKEN s <|
  { yOk [] s with after := fun s =>
      if ty = 1 then step2 (cold 1 s) else if ty = 2 then startWarm 1 s else blockReset k s }

def execResetCold (r : YcpReq) (s : State) : Host.Outcome State Fault Refusal := ycp 0x0105 r resetH s
def execResetWarm (r : YcpReq) (s : State) : Host.Outcome State Fault Refusal := ycp 0x0105 r resetH s
def execResetBlockMgmt (r : YcpReq) (s : State) : Host.Outcome State Fault Refusal := ycp 0x0105 r resetH s
def execResetBlockHost (r : YcpReq) (s : State) : Host.Outcome State Fault Refusal := ycp 0x0105 r resetH s
def execResetBlockAct (r : YcpReq) (s : State) : Host.Outcome State Fault Refusal := ycp 0x0105 r resetH s
def execResetBlockLaneGroup (r : YcpReq) (s : State) : Host.Outcome State Fault Refusal := ycp 0x0105 r resetH s
def execResetBlockPipeline (r : YcpReq) (s : State) : Host.Outcome State Fault Refusal := ycp 0x0105 r resetH s

/-! Monitors (R434, R520, R528) and JTAG (R527). -/

/-- CLOCK_MONITOR_CHECK: the clocks that fail raise F001, F002, F003, F004 by stack and F090 by group × 2 + PLL. -/
def execClockMonitorCheck (ref25 core clove : Bool) (hbm lanePll : List Nat) (s : State) :
    Host.Outcome State Fault Refusal :=
  let s := setPwr { s.pwr with clockFails := ref25 || core || clove || !hbm.isEmpty || !lanePll.isEmpty } s
  let s := if ref25 then raise 1 0 0 s else s
  let s := if core then raise 2 0 0 s else s
  let s := if clove then raise 3 0 0 s else s
  let s := forEach hbm (fun k s => raise 4 k 0 s) s
  .next (forEach lanePll (fun n s => pllLoss (n / 2) (n % 2) s) s)

/-- SUPPLY_OUT_OF_RANGE: the monitors watch while MAIN_PG is high. -/
def execSupplyOutOfRange (rail : Nat) (s : State) : Host.Outcome State Fault Refusal :=
  .next (if s.pins.mainPg then raise 5 rail 0 (setPwr { s.pwr with supplyFails := true } s) else s)

/-- JUNCTION_TEMPERATURE_CROSS: TALERT_N above 100 °C until below 95 °C; F006 above 105 °C, F007 above 110 °C. -/
def execJunctionTemperatureCross (tenths : Int) (s : State) : Host.Outcome State Fault Refusal :=
  let was := s.pins.tj
  let low := if 1000 < tenths then false else if tenths < 950 then true else s.pins.talertN
  let s := setPins { s.pins with tj := tenths, talertN := low } s
  let s := if was ≤ 1050 ∧ 1050 < tenths then raise 6 0 0 s else s
  .next (if was ≤ 1100 ∧ 1100 < tenths then raise 7 0 0 s else s)

/-- JTAG_ACCESS: BYPASS 0, IDCODE 1, SAMPLE/PRELOAD 2, EXTEST 3, EXTEST_PULSE 4, EXTEST_TRAIN 5 (log 7); the last three need
RST_N low and act as BYPASS otherwise, as every other instruction does. -/
def execJtagAccess (ir : Nat) (s : State) : Host.Outcome State Fault Refusal :=
  .next (setPins { s.pins with jtag := if 5 < ir ∨ (3 ≤ ir ∧ s.pins.rstN) then 0 else ir } s)

end Sys2Proof.Machine
end

