-- ==== Sys2Proof/Machine/MaceEvent.lean ====
section
/-!
DEFINITION. A fault event at Mace (R378–R382, R385): its window, its reaction, containment (R387) and the safe state (R388).
-/
namespace Sys2Proof.Machine

def setMace (x : MaceState) (s : State) : State := { s with mace := x }

/-- The scope of an event (R385). -/
def eventScope (e : FaultEv) (s : State) : BitVec 64 :=
  match (match sourceRow e.src with | some r => r.scope | none => ScopeKind.noPort) with
  | .allPorts => allPorts
  | .noPort => 0
  | .block => if e.ports = 0 then pipeScope e.inst s else e.ports
  | .group => portsMask (((List.range 8).map (8 * e.inst + ·)).filter fun p => portEnabled p s)
  | .port => e.ports
  | .named => e.ports

/-- Ports enter the safe state, each once: a frame in transmission ends with an inverted FCS (R388), and one that sleeps wakes, since
local-fault ordered sets start whatever the state of its lanes (R389; DEDUCED, log 47). -/
def enterSafe (mask : BitVec 64) (s : State) : State :=
  let new := mask &&& ~~~s.mace.safe
  let s := forEach (maskPorts new) (fun p s =>
    let s := wakePort p (bump .SAFE_ENTER p s)
    match tget? s.buf.inTx p with
    | some d => endTx p d (bump .SAFE_ABORT p s)
    | none => s) s
  syncPins (setMace { s.mace with safe := s.mace.safe ||| mask } s)

/-- A hot block is retired unless one is being copied; none left raises F012 (R88, R387). -/
def containHot (n : Nat) (s : State) : State :=
  if s.flow.moving.isSome then s
  else if s.flow.reserve.isEmpty then raise 12 n 0 s
  else retireBlock n s

/-- The containment of a source (R387).  The lane recovery of F080, F081 and F083 and the retirement of F102 run where the
fault is found; a source with no containment action has none. -/
def contain (e : FaultEv) (s : State) : State :=
  if e.src = 18 then containTcam (e.inst / 4096) s
  else if e.src = 25 then containHot (e.inst / 4096) s
  else if e.src = 35 then engineSwap e.inst s
  else if e.src = 46 ∨ e.src = 47 then containRow e.inst s
  else if 112 ≤ e.src ∧ e.src ≤ 128 then containPipe (e.src - 112) s
  else s

/-- The reaction in effect runs for a scope (R380, R381). -/
def react (e : FaultEv) (scope : BitVec 64) (s : State) : State :=
  let eff := effReaction (inMode mASSURED s) (getSource e.src s)
  if eff = rCONTAIN then contain e s
  else if eff = rSAFE then enterSafe scope s
  else if eff = rWARM then startWarm 2 (enterSafe allPorts (setPwr { s.pwr with warmReacted := true } s))
  else s

/-- The event-ring entry MACE_SEVERE (R379, R415). -/
def maceEntry (e : FaultEv) (s : State) : State :=
  postEvent 3 (leBytes 2 e.src ++ zeros 2 ++ leBytes 4 e.inst ++ leBytes 8 (now302 s)) s

/-- The source as the event leaves it: STICKY, EVENTS, LAST_INST and the window (R378, R382). -/
def noteEvent (e : FaultEv) (scope : BitVec 64) (x : MaceSource) : MaceSource :=
  { x with sticky := true, events := x.events + 1, lastInst := e.inst % 2 ^ 32, win := winAdd scope x.win }

/-- The transition to SEVERE: one entry, FAULT_N, the interrupt, the trigger of the trace, and the reaction over the scopes
of the window (R379, R380, R384, R400, R504). -/
def becomeSevere (e : FaultEv) (s : State) : State :=
  let x := getSource e.src s
  let scope := winScope x.win
  let s := setSource e.src { x with severe := true, scope := x.scope ||| scope } s
  let s := interrupt 25 (maceEntry e (syncPins s))
  react e scope (traceTrigger e.src s)

/-- A later event of a SEVERE source: its own scope (R380). -/
def stayingSevere (e : FaultEv) (scope : BitVec 64) (s : State) : State :=
  let x := getSource e.src s
  let s := setSource e.src { x with scope := x.scope ||| scope } s
  react e scope (if x.eventRing then maceEntry e s else s)

/-- An event counted and classified. -/
def maceEvent (e : FaultEv) (s : State) : State :=
  let scope := eventScope e s
  let s := setSource e.src (noteEvent e scope (getSource e.src s)) (noteWear e s)
  let s := traceRec 3 0 (leBytes 2 e.src ++ zeros 2 ++ leBytes 4 e.inst ++ zeros 8) s
  let x := getSource e.src s
  if x.severe then stayingSevere e scope s
  else if x.n ≤ winSum x.win then becomeSevere e s
  else if x.eventRing then maceEntry e s
  else s

/-- MACE_EVENT: the oldest event on its way reaches Mace; a reserved source is never raised (R385). -/
def execMaceEvent (s : State) : Host.Outcome State Fault Refusal :=
  .next (match s.mace.inflight with
    | [] => s
    | e :: rest =>
      let s := setMace { s.mace with inflight := rest } s
      if (sourceRow e.src).isNone then s else bufSync (maceEvent e s))

end Sys2Proof.Machine
end

