-- ==== Sys2Proof/Machine/Serial.lean ====
section
/-!
DEFINITION. What the serial lanes send (R321, R325, R329, R330, R332–R334), and what runs on them from tick to tick: the steering
blocks, the pattern checkers and the injected errors.
-/
namespace Sys2Proof.Machine

/-! Levels and precoding (R321). -/

/-- The lane is PAM4 (R317). -/
def lanePam (ix : Nat) (s : State) : Bool := decide (laneRate ix s ≤ 2)

/-- The PAM4 level of a bit pair. -/
def grayLevel : Bool → Bool → Nat
  | false, false => 0
  | false, true => 1
  | true, true => 2
  | true, false => 3

/-- The bit pair of a PAM4 level. -/
def grayBits : Nat → Bool × Bool
  | 0 => (false, false)
  | 1 => (false, true)
  | 2 => (true, true)
  | _ => (true, false)

/-- The precoder after the level `p`: P(j) = (T(j) − P(j−1)) mod 4. -/
def precode : Nat → List Nat → List Nat
  | _, [] => []
  | p, t :: ts => (t + 4 - p) % 4 :: precode ((t + 4 - p) % 4) ts

/-- Its inverse at the receiver. -/
def unprecode : Nat → List Nat → List Nat
  | _, [] => []
  | p, q :: qs => (q + p) % 4 :: unprecode q qs

/-- Precoding of a lane's transmitter or receiver: the partner's request under CR/KR with PRECODE_NEG, else TX_PRECODE or RX_PRECODE;
never on NRZ. -/
def precodes (tx : Bool) (ix : Nat) (s : State) : Bool :=
  let l := getLane ix s
  lanePam ix s &&
    if bit l.ctrl 5 && (linkOfLane ix s).any fun k => recKr (linkRec k s) then l.reqPre
    else bit l.ctrl (if tx then 3 else 4)

/-! The pattern generator and injected errors (R332, R333). -/

/-- An injected error falls on bit `j` of the pattern since the injection began. -/
def flips (inj : Bytes) (j : Nat) : Bool :=
  match fld inj 0 2 with
  | 1 => j == 0
  | 2 => decide (j < fld inj 2 1)
  | 3 => j % 2 ^ fld inj 3 1 == 0
  | _ => false

/-- RS symbols corrupted in transmitted codeword `n` of an injection: S in every M-th. -/
def corruptSymbols (inj : Bytes) (n : Nat) : Nat :=
  if fld inj 0 2 = 4 ∧ (n + 1) % fld inj 6 4 = 0 then fld inj 4 1 else 0

/-- Codewords that the link of a lane has sent since the injection began: 5,440 bits of RS(544,514), 5,280 of RS(528,514); none
without FEC (R317). -/
def codewordsSent (ix l : Nat) (s : State) : Option Nat :=
  let r := linkRec l s
  let n := laneBits (recRate r) (s.time.free - (getLane ix s).injAt) * recWidth r
  match recFec r with
  | 0 => some (n / 5440)
  | 1 => some (n / 5280)
  | _ => none

/-- RS symbols corrupted in the codeword that the link of a lane sends now, by the injection on that lane (R333). -/
def codewordOut (ix : Nat) (s : State) : Nat :=
  match (getLane ix s).inject, (linkOfLane ix s).bind fun l => codewordsSent ix l s with
  | some inj, some n => corruptSymbols inj n
  | _, _ => 0

/-- Bit `i` of a square wave of `half` UI half-period, at the outer levels, high first (DESIGN CHOICE, log 90). -/
def squareBit (pam : Bool) (half i : Nat) : Bool :=
  let high (u : Nat) : Bool := u / half % 2 == 0
  if pam then high (i / 2) && i % 2 == 0 else high i

/-- Bit `i` of a lane's running pattern, injected errors included; the user word goes out bit 0 first (DESIGN CHOICE, log 90). -/
def patternOut (ix i : Nat) (s : State) : Bool :=
  let l := getLane ix s
  let p := l.pattern.getD []
  let b := match fld p 0 1 with
    | 6 => squareBit (lanePam ix s) (fld p 1 1) i
    | 7 => bit (fld p 4 8) (i % 64)
    | k => Config.patternBit k i
  let start := laneBits (laneRate ix s) (l.injAt - l.patAt)
  match l.inject with
  | some inj => b != (decide (start ≤ i) && flips inj (i - start))
  | none => b

/-- The level in UI `i` of a lane's running pattern before precoding. -/
def patternLevel (ix i : Nat) (s : State) : Nat :=
  if lanePam ix s then grayLevel (patternOut ix (2 * i) s) (patternOut ix (2 * i + 1) s) else b2n (patternOut ix i s)

/-- Levels under an inverted polarity. -/
def polarity (inv : Bool) (ix : Nat) (s : State) (ls : List Nat) : List Nat :=
  if inv then ls.map fun t => (if lanePam ix s then 3 else 1) - t else ls

/-- Levels that a lane's transmitter puts on its balls: precoded, then inverted under TX_POL_INV (R321, R322).  The level before
the first counts as 0 (DESIGN CHOICE, log 90). -/
def sentLevels (ix : Nat) (ts : List Nat) (s : State) : List Nat :=
  polarity (bit (getLane ix s).ctrl 2) ix s (if precodes true ix s then precode 0 ts else ts)

/-- Levels that a lane's receiver makes of those at its balls: RX inversion, then the inverse of the precoding (R321, R322). -/
def heardLevels (ix : Nat) (ls : List Nat) (s : State) : List Nat :=
  let ts := polarity (getLane ix s).rxInv ix s ls
  if precodes false ix s then unprecode 0 ts else ts

/-- The bits of a level (R321). -/
def levelBits (ix : Nat) (s : State) (t : Nat) : List Bool :=
  if lanePam ix s then [(grayBits t).1, (grayBits t).2] else [t == 1]

/-- The first `n` levels that a lane with a running pattern sends. -/
def patternSent (ix n : Nat) (s : State) : List Nat := sentLevels ix ((List.range n).map fun i => patternLevel ix i s) s

/-- The bits that the checker of a lane takes from levels at its balls, after Gray decoding (R332). -/
def checkerBits (ix : Nat) (ls : List Nat) (s : State) : List Bool := (heardLevels ix ls s).flatMap (levelBits ix s)

/-! Steering blocks (R329). -/

/-- The block that the spare of a group sends next; its CRC as log 23 has it. -/
def steerBlock (g : Nat) (s : State) : Bytes :=
  let x := getGroup g s
  let b := leBytes 2 0xF0A5 ++ leBytes 1 (x.txReq + 16 * x.txAck) ++ leBytes 1 x.seq ++ leBytes 1 (b2n (spareIsReady g s)) ++
    zeros 9
  b ++ leBytes 2 (crc16 b)

/-- The spare of a group sends the steering stream: it trains or is ready, and sends no lane's data (R329, R330). -/
def steers (g : Nat) (s : State) : Bool :=
  (dataLane g s).isNone && (spareOf g s).any fun ph =>
    ((getLane (9 * g + ph) s).st == 9 || (getLane (9 * g + ph) s).st == 10) && laneDepthOf (9 * g + ph) s == .active

/-- One tick of a group's steering stream: SEQ counts a block every 65,536 bits at the rate of logical lane 0; an acknowledged
swap comes nearer to its data with every boundary (R330). -/
def steerTick (g : Nat) (s : State) : State :=
  if steers g s then
    let x := getGroup g s
    let n := x.seqBits + tickHalfBits (laneRate (9 * g + (spareOf g s).getD 8) s)
    setGroup g { x with seq := (x.seq + n / 131072) % 256, seqBits := n % 131072,
                        swap := x.swap.map fun w => { w with wait := w.wait - n / 131072 } } s
  else s

/-! What the transmit balls carry. -/

/-- The output of a lane or of a link. -/
inductive LaneOut where
  | squelched | lowPower | training | idles | localFault | remoteFault | frames | steering | pattern | looped
  deriving DecidableEq, Repr

/-- What a link sends (R325, R388, R442, R445): frames while it is up; local-fault ordered sets while ingress is stopped for
standby or a warm reset, and in the safe state; idles after a remote fault; remote-fault ordered sets while its receive side is
down. -/
def linkSends (l : Nat) (s : State) : LaneOut :=
  if s.pwr.ingressStopped ∨ inSafe l s then .localFault
  else if isUp l s then .frames
  else if (getLink l s).rf then .idles
  else .remoteFault

/-- What a lane sends (R323, R330, R334, R435); in the safe state a port in TEST sends local-fault ordered sets (R389). -/
def laneSends (ix : Nat) (s : State) : LaneOut :=
  let l := getLane ix s
  let g := ix / 9
  if l.st = 0 ∨ l.st = 13 then .squelched
  else match laneDepthOf ix s with
  | .quiet => .lowPower
  | .active =>
    if l.st = 12 ∧ !(linkOfLane ix s).any fun k => inSafe k s then
      match l.loop with
      | 2 => .idles
      | 3 => .looped
      | _ => if l.pattern.isSome then .pattern else ((linkOfLane ix s).map fun k => linkSends k s).getD .idles
    else
      match linkOfLane ix s with
      | some k => if l.st = 4 ∧ recKr (linkRec k s) then .training else linkSends k s
      | none =>
        match dataLane g s with
        | some k => ((linkOfLogical g k s).map fun k => linkSends k s).getD .idles
        | none => if steers g s then .steering else .idles
  | _ => .squelched

/-! Ticks. -/

/-- One tick of a locked checker: PRBS_BITS by the lane's rate, PRBS_ERR by a free number of errors (R332; log 91). -/
def prbsTick (ix : Nat) (s : State) : State :=
  let l := getLane ix s
  let r := laneRate ix s
  let t := s.time.free - l.lockAt
  let n := laneBits r t - laneBits r (t - 80)
  let e := freeVal s % (n + 1)
  addCtr .PRBS_BITS ix n (addCtr .PRBS_ERR ix e (setLane ix { l with prbsErr := l.prbsErr + e } (tookFree s)))

/-- A single error or a burst injected into a running pattern has been sent within the tick (R333). -/
def injectTick (ix : Nat) (s : State) : State :=
  let l := getLane ix s
  if l.pattern.isSome ∧ l.inject.any fun p => fld p 0 2 == 1 || fld p 0 2 == 2 then setLane ix { l with inject := none } s else s

/-- One AON tick of the serial lanes. -/
def laneTick (s : State) : State :=
  let s := forEach (List.range 10) steerTick s
  let s := forEach ((s.lanes.lane.filter fun x => x.2.checker).map (·.1)) prbsTick s
  forEach ((s.lanes.lane.filter fun x => x.2.inject.isSome).map (·.1)) injectTick s

end Sys2Proof.Machine
end

