-- ==== Sys2Proof/Machine/Commit.lean ====
section
/-!
DEFINITION. Epoch commits, the MODE word and their boundary (R55–R63, R474–R484), with MODE_SET, EPOCH_COMMIT, BANK_COPY and
EPOCH_STATUS (R413).
-/
namespace Sys2Proof.Machine

/-! In-flight counts (R56). -/

/-- A frame that the count of a bank covers: stamped, and either not yet enqueued or held. -/
def countedPkt (b : Bool) (f : Frame) : Bool :=
  match f.pkt with
  | some k => f.bank == b && (k.live || f.held)
  | none => false

def packetsOf (b : Bool) (s : State) : Nat := (s.buf.frame.filter fun x => countedPkt b x.2).length

/-- Instances of a bank: one that is cancelled has left the count, though its context is not released yet (R56, R153). -/
def contextsOf (b : Bool) (s : State) : Nat := (s.task.ctx.filter fun x => x.2.bank == b && x.2.st != .closing).length

/-- The in-flight count of a bank. -/
def inFlight (b : Bool) (s : State) : Nat := packetsOf b s + contextsOf b s

/-! MODE_SET (R62, R474). -/

/-- A mode bit written in both banks' copies. -/
def setModeBit (n : Nat) (v : Bool) (s : State) : State :=
  let f (k : Bank) : Bank := { k with mode := if v then k.mode ||| (1#16 <<< n) else k.mode &&& ~~~(1#16 <<< n) }
  setEp { s.ep with bank0 := f s.ep.bank0, bank1 := f s.ep.bank1 } s

/-- FRUGAL takes its new value at once; a block that sleeps wakes when it is cleared, one that nothing uses goes off when it is
set, and the HBM rate follows (R360, R435, R440). -/
def setFrugal (v : Bool) (s : State) : State :=
  let old := inMode mFRUGAL s
  let s := setModeBit mFRUGAL v s
  if old == v then s else if v then sleepUnused (startRate s) else wakeAll s

/-- The bits other than FRUGAL. -/
def modeRest (m : BitVec 16) : BitVec 16 := m &&& ~~~(1#16 <<< mFRUGAL)

/-- MODE_SET: MODE (2), 0 (6). -/
def modeSetH : YHandler := fun r => formE 8 [(2, 6)] [(2, fun b _ => decide (fld b 0 2 < 64))] (fun b s =>
  let m := BitVec.ofNat 16 (fld b 0 2)
  let same := modeRest m == modeRest s.ep.shadowBank.mode
  need (same || r.epoch == shadowEpoch s) stSTALE_EPOCH s <|
  need (same || !shadowBusy s) stBUSY s <|
  let s := if same then s else onShadow (fun k => { k with mode := m }) s
  let s := setFrugal (m.getLsbD mFRUGAL) s
  yOk (leBytes 2 (activeMode s).toNat ++ leBytes 2 s.ep.shadowBank.mode.toNat ++ zeros 4) s) r

/-- MODE_SET (0x0103). -/
def execModeSet (r : YcpReq) (s : State) : Host.Outcome State Fault Refusal := ycp 0x0103 r modeSetH s

/-! Validation of the shadow bank (R50, R59, R147). -/

/-- An entry of the shadow epoch that is invalid by parity, by its index in its table; what a TCAM half holds of the active
epoch is not the shadow's. -/
def shadowParity (s : State) : Option Nat :=
  let sh := shadowNo s
  ((s.ep.parserBad.find? fun x => decide (x.1 / 32768 = b2n sh)).map fun x => x.1 % 4096).orElse fun _ =>
  (s.ep.tcamBad.find? fun x =>
    let b := decide (65536 ≤ x.1)
    let n := x.1 % 65536
    if !halvesTaken s then b == sh
    else if n < 32768 then b == sh
    else b != sh && inMode mASSURED s && shadowAssured s).map fun x => x.1 % 65536

/-- The template that a field of a flow profile names is loaded and of the kind that the field requires. -/
def tplNamed (k : Bank) (n kind : Nat) : Bool :=
  let r := tget (zeros 544) k.templates n
  n == 0 || (tplCount r != 0 && tplKind r == kind)

def profileNamed (k : Bank) (r : Bytes) : Bool :=
  tplNamed k (fpNewTpl r) 1 && tplNamed k (fpEvictTpl r) 2 && tplNamed k (fpAgeTpl r) 3 && tplNamed k (fpTcpTpl r) 4

/-- An action word of the shadow bank: the flow profile of a stateful one is loaded, and DEST_MODE 1 names an allowed
port. -/
def actionSound (k : Bank) (members a : Nat) : Bool :=
  (actKind a != 4 || (tget? k.flowProf (actProfile a)).isSome) && destAllowed k.mode members a

/-- The rules of the shadow epoch: the other entries of the bank are twins of the active epoch (R65). -/
def shadowRules (s : State) : List (Nat × Bytes) :=
  s.ep.shadowBank.rules.filter fun x => ruleValid x.2 && (!halvesTaken s || decide (x.1 < 32768))

/-- The first record of the shadow bank that fails, by its index in its own table (R59; which record is first is DEDUCED,
log 50). -/
def firstUnsound (s : State) : Option Nat :=
  let k := s.ep.shadowBank
  let rules := shadowRules s
  ((rules.find? fun x => !actionSound k s.join.members (ruleAction x.2)).map (·.1)).orElse fun _ =>
  ((List.range 64).find? fun i => !actionSound k s.join.members (fld (bankCls k i) 0 8)).orElse fun _ =>
  ((k.flowProf.find? fun x => !profileNamed k x.2).map (·.1)).orElse fun _ =>
  ((List.range 16).find? fun i => extractsOverlap k (bankProfile k i)).orElse fun _ =>
  if shadowAssured s then (rules.find? fun x => decide (32768 ≤ x.1)).map (·.1) else none

/-- What validation of the shadow bank answers: STATUS and DETAIL. -/
def validate (s : State) : Nat × Nat :=
  match shadowParity s, firstUnsound s with
  | some n, _ => (stFAULTED, n)
  | none, some n => (stINVALID, n)
  | none, none => (stOK, 0)

/-! The boundary (R59, R62, R482). -/

/-- A mode bit that the new word has and the old one had not, or the reverse. -/
def turnsOn (n : Nat) (old new : BitVec 16) : Bool := new.getLsbD n && !old.getLsbD n
def turnsOff (n : Nat) (old new : BitVec 16) : Bool := old.getLsbD n && !new.getLsbD n

/-- BOUNDED at a change of TIMED. -/
def timedEffect (old new : BitVec 16) (s : State) : State :=
  if turnsOn mTIMED old new then resizePool poolBOUNDED 16384 s
  else if turnsOff mTIMED old new then resizePool poolBOUNDED 0 s
  else s

/-- Duplicate classification at a change of ASSURED; armed impairment units and an armed injection end when it is set. -/
def assuredEffect (old new : BitVec 16) (s : State) : State :=
  if turnsOn mASSURED old new then
    let s := disarmAll 3 allPorts s
    setMace { s.mace with injection := none } (setEp { s.ep with dup := .pending } s)
  else if turnsOff mASSURED old new then setEp { s.ep with dup := .clearing } s
  else s

/-- The frames in the queues of a chain group end: with JOINED clear the group carries CONTROL frames alone (R455; DEDUCED, log 54). -/
def chainEmptied (g : Nat) (s : State) : State :=
  let x := getChain g s
  forEach (x.fastq ++ x.normq) discard (setChain g { x with fastq := [], normq := [] } s)

/-- The homes at a change of JOINED: every member is present when it takes effect. -/
def joinedEffect (old new : BitVec 16) (s : State) : State :=
  if turnsOn mJOINED old new then
    setJoin { s.join with homeMap := homesOver (ringMembers s), present := s.join.members, moved := [] } s
  else if turnsOff mJOINED old new then
    let s := chainEmptied 1 (chainEmptied 0 (holdBlocks s))
    setJoin { s.join with homeMap := [], moved := [] } s
  else s

/-- What follows a new MODE word on the same clock. -/
def modeEffects (old new : BitVec 16) (s : State) : State :=
  if modeRest old = modeRest new then s
  else
    let s := joinedEffect old new (assuredEffect old new (timedEffect old new s))
    let s := forEach (List.range 12) panicSync s
    bufSync (syncPins (wakeKept (startRate s)))

/-- The boundary: the shadow epoch is active, the former bank drains. -/
def boundary (s : State) : State :=
  let old := activeMode s
  let new := s.ep.shadowBank.mode
  let e := shadowEpoch s
  let s := setBankSt (shadowNo s) .active (setBankSt s.ep.activeNo .draining s)
  let s := setEp { s.ep with epoch := e, lastEpoch := e, lastTime := now302 s, commit := .none, commitMbx := none } s
  modeEffects old new (traceRec 5 0 (leBytes 4 e.toNat ++ zeros 12) s)

/-- The response of a commit: the boundary time; the header carries the new active epoch (R407, R413). -/
def committed (s : State) : YRes :=
  let s := boundary s
  yOk (leBytes 8 s.ep.lastTime) s

/-- A drained commit: the HBM rate is raised first where the new word needs it, then ingress stops (R62, R481). -/
def startDrain (m : Fin 8) (limit : Nat) (s : State) : YRes :=
  let new := s.ep.shadowBank.mode
  let raised := slowHbm s && (new.getLsbD mTIMED || new.getLsbD mASSURED)
  let e := { s.ep with commitMbx := some m, drainLimit := limit }
  let s :=
    if raised ∧ (s.hbm.rate ≠ s.hbm.setRate ∨ s.hbm.target ≠ none) then
      startRate (setEp { e with commit := .waitRate } s)
    else setEp { e with commit := .draining } s
  { yOk [] s with wait := true }

/-- EPOCH_COMMIT: DRAIN_LIMIT (4) in µs, 0 meaning 20 (R59, R63, R475). A BANK_COPY that runs makes it BUSY (DESIGN CHOICE,
log 50: R60 says so of writes to the shadow bank alone). -/
def epochCommitH : YHandler := fun r b rm => formO 4 [] (fun b s =>
  need (decide (8 ≤ rm)) stLENGTH s <|
  let old := activeMode s
  let new := s.ep.shadowBank.mode
  let limit := if fld b 0 4 = 0 then 20 else fld b 0 4
  need (s.pwr.standby == .no || !(turnsOn mASSURED old new || turnsOn mJOINED old new)) stDENIED s <|
  need (decide (5 ≤ limit ∧ limit ≤ 1000)) stRANGE s <|
  need (!shadowBusy s) stBUSY s <|
  need (!turnsOn mJOINED old new || s.join.configured) stINVALID s <|
  if (validate s).1 ≠ stOK then yFailAt (validate s).1 (validate s).2 s
  else if modeRest old = modeRest new then committed s else startDrain r.mbx limit s) r b rm

/-- EPOCH_COMMIT (0x0110). -/
def execEpochCommit (r : YcpReq) (s : State) : Host.Outcome State Fault Refusal := ycp 0x0110 r epochCommitH s

/-- The commit in progress ends, and its command completes: with a response that cannot be delivered it fails, and the
active bank stands. -/
def endCommit (mk : State → YRes) (s : State) : State :=
  let m := s.ep.commitMbx
  let s := setEp { s.ep with commit := .none, commitMbx := none } s
  match m with
  | some m => finishRunning m mk s
  | none => s

/-- DRAINED_COMMIT_BOUNDARY: every counted packet of the active bank has left its count (R62); its action contexts run on. -/
def execDrainedCommitBoundary (s : State) : Host.Outcome State Fault Refusal :=
  .next (if s.ep.commit = .draining ∧ packetsOf s.ep.activeNo s = 0 then endCommit committed s else s)

/-- DRAIN_LIMIT_EXPIRY: the commit is abandoned on the unchanged active bank (R63). -/
def execDrainLimitExpiry (s : State) : Host.Outcome State Fault Refusal :=
  .next (if s.ep.commit = .draining then endCommit (fun s => yFail stTIMEOUT s) (raise 21 0 0 s) else s)

/-- The drained bank becomes SHADOW, and an event reports it (R59, R414). -/
def bankDrained (b : Bool) (s : State) : State :=
  let e := leBytes 4 (s.ep.epoch - 1).toNat
  postEvent 6 (e ++ leBytes 8 (now302 s)) (traceRec 5 1 (e ++ zeros 12) (setBankSt b .shadow s))

/-- EPOCH_BANK_DRAINED: the in-flight count of the DRAINING bank is 0. -/
def execEpochBankDrained (s : State) : Host.Outcome State Fault Refusal :=
  .next (let b := shadowNo s
    if bankSt b s = .draining ∧ inFlight b s = 0 then bankDrained b s else s)

/-! BANK_COPY (R60). -/

/-- The rules of the copy: the lower half alone while the upper halves hold twins, which follow their primaries (R65). -/
def copyRules (s : State) : EpochState :=
  let a := s.ep.activeNo
  let e := s.ep
  let act := e.activeBank
  if !halvesTaken s then e.setBank (!a) act
  else
    let e := e.setBank (!a) { act with rules := lowerHalf act.rules ++ upperHalf e.shadowBank.rules }
    if inMode mASSURED s then
      let k := e.activeBank
      e.setBank a { k with rules := lowerHalf k.rules ++ toUpper (lowerHalf act.rules) }
    else e

/-- Parity marks of the copies: those of the active bank's parser tables and TCAM entries. -/
def copyMarks (s : State) : EpochState → EpochState := fun e =>
  let a := s.ep.activeNo
  let parser := (e.parserBad.filter fun x => decide (x.1 / 32768 = b2n a)).foldl
    (fun t x => tput t (32768 * b2n (!a) + x.1 % 32768) x.2)
    (e.parserBad.filter fun x => decide (x.1 / 32768 = b2n a))
  let mine (x : Nat × Nat) : Bool := decide (x.1 / 65536 = b2n a)
  let low (x : Nat × Nat) : Bool := decide (x.1 % 65536 < 32768)
  let kept := e.tcamBad.filter fun x => mine x || (halvesTaken s && !low x)
  let kept := if inMode mASSURED s then soundUpper a kept else kept
  let tcam := (e.tcamBad.filter fun x => mine x && (low x || !halvesTaken s)).foldl
    (fun t x => tput t (65536 * b2n (!a) + x.1 % 65536) x.2) kept
  { e with parserBad := parser, tcamBad := tcam }

/-- The longest that a BANK_COPY takes, in AON ticks: 50 ms (R60). -/
def copyTicks : Nat := 625000

/-- A BANK_COPY accepted: it runs, and its command waits for its end. -/
def bankCopyH : YHandler := fun r => emptyBody (fun s =>
  need (epochCheck r s == stOK) (epochCheck r s) s <|
  { yOk [] (setEp { s.ep with copyMbx := some r.mbx, copyLeft := freeVal s % copyTicks } (tookFree s)) with wait := true }) r

/-- BANK_COPY (0x0111): every object of the active bank, rule counters excepted (R57, R60).  It runs for a free number of AON
ticks within its 50 ms (DESIGN CHOICE, log 50). -/
def execBankCopy (r : YcpReq) (s : State) : Host.Outcome State Fault Refusal := ycp 0x0111 r bankCopyH s

/-- The copy stands in the shadow bank. -/
def copyBank (s : State) : State := setEp (copyMarks s (copyRules s)) s

/-- One AON tick of a BANK_COPY: at its end the shadow bank holds the copy, and the command completes (R60). -/
def copyTick (s : State) : State :=
  match s.ep.copyMbx with
  | none => s
  | some m =>
    if s.ep.copyLeft ≠ 0 then setEp { s.ep with copyLeft := s.ep.copyLeft - 1 } s
    else finishRunning m (fun s => yOk [] (copyBank s)) (setEp { s.ep with copyMbx := none } s)

/-! EPOCH_STATUS (R61, R413). -/

def bankCode : BankSt → Nat
  | .shadow => 0
  | .active => 1
  | .draining => 2

def dupCode : DupState → Nat
  | .pending => 1
  | .active => 2
  | _ => 0

def epochStatus (s : State) : Bytes :=
  let e := s.ep
  leBytes 4 e.epoch.toNat ++ leBytes 1 (bankCode e.st0) ++ leBytes 1 (bankCode e.st1) ++ leBytes 1 (b2n (e.commit != .none)) ++
  leBytes 1 (dupCode e.dup) ++ leBytes 4 (inFlight false s) ++ leBytes 4 (inFlight true s) ++ leBytes 4 e.lastEpoch.toNat ++
  leBytes 8 e.lastTime ++ zeros 4

/-- EPOCH_STATUS (0x0112). -/
def execEpochStatus (r : YcpReq) (s : State) : Host.Outcome State Fault Refusal :=
  ycp 0x0112 r (emptyBody fun s => yRead (epochStatus s) s) s

end Sys2Proof.Machine
end

