-- ==== Sys2Proof/Machine/Dma.lean ====
section
/-!
DEFINITION. The inject and punt DMA queues (R416, R417, R538).
-/
namespace Sys2Proof.Machine

/-- The host address of the head entry of a queue, whose entries are `n` bytes. -/
def headAddr (n : Nat) (x : DmaQueue) : Nat := x.base + n * (x.head.toNat % 2 ^ x.log2)

/-- A DMA fault at descriptor `i` stops the queue, posts DMA_FAULT and raises F196; `q` is numbered as DMA_QUEUE_SET numbers
it. -/
def dmaFaultAt (q i : Nat) (s : State) : State :=
  raise 196 q 0 (postEvent 16 (leBytes 1 q ++ zeros 3 ++ leBytes 4 i) (setQ q { getQ q s with stopped := true } s))

/-- A DMA fault at the head descriptor. -/
def dmaFault (q : Nat) (s : State) : State := dmaFaultAt q (getQ q s).head.toNat s

/-- STATUS of the head descriptor is written and the queue advances (R429: accepted or an error). -/
def injDone (q status : Nat) (s : State) : State :=
  let x := getQ q s
  let s := bump (if status = 0 then .INJ_FRAMES else .INJ_ERRORS) q s
  let s := dmaWrite (headAddr 32 x + 15) (leBytes 1 status) s
  interrupt (9 + q) (setQ q { x with head := x.head + 1, waits := none } s)

/-! The descriptor's fields. -/

def injLen (b : Bytes) : Nat := fld b 8 2
def injIngress (b : Bytes) : Bool := bit (fld b 10 2) 0
def injPort (b : Bytes) : Nat := fld b 14 1
def injQueue (b : Bytes) : Nat := fld b 16 4

/-- STATUS 1 and 2: a bad length; a port that is not enabled, or an egress queue outside R248. -/
def injBad (b : Bytes) (s : State) : Option Nat :=
  if injLen b < 60 ∨ 10236 < injLen b then some 1
  else if 64 ≤ injPort b ∨ !portEnabled (injPort b) s ∨ (!injIngress b ∧ 132096 ≤ injQueue b) then some 2
  else none

/-- The port that an inject names, as a port or by its queue, wakes, with the PIPE domain of its block (R437, R438). -/
def injWake (b : Bytes) (s : State) : State :=
  let p := if injIngress b then injPort b else (queuePort (injQueue b) s).getD 64
  if p < 64 then forEach (portPipes p s) (fun pl s => domainWake (pipeDomain pl) s) (wakePort p s) else s

/-- The place of inject queue `q` in the order in which head frames came to wait for the ingress half of `pl`: the one it has,
or the next (R20). -/
def injPlace (q pl : Nat) (s : State) : Nat :=
  (injTurn pl q s).getD (((List.range 8).filterMap fun k => (injTurn pl k s).map (· + 1)).foldl max 0)

/-- An ingress inject of queue `q` may enter the parser now, with the arbiter's grant: no re-run, no recirculated packet that may
go and no inject that came before it waits for the half (R19, R20). -/
def injEnters (q pl : Nat) (s : State) : Option State :=
  let first := (List.range 8).all fun k => (injTurn pl k s).all fun n => decide (injPlace q pl s ≤ n)
  if injOpen pl s && (tget [] s.flow.rerunq pl).isEmpty && !recircWaits pl s && first then internalGrant pl s else none

/-- The head frame of an inject queue waits for an ingress half (R19, R20). -/
def injWaits (q pl : Nat) (s : State) : State := setQ q { getQ q s with waits := some (pl, injPlace q pl s) } s

/-- The frame of an inject: the device appends the FCS; stamped at its arrival. -/
def injFrame (b data : Bytes) (cells : List Nat) (s : State) : Frame :=
  let full := withFcs (fit (injLen b) data ++ zeros 4)
  { data := full, head := cells.headD chainEnd, cellPool := poolHOST, len := full.length, stamp := now302 s, inPort := injPort b,
    inPrio := rxPrio (injPort b) full s, src := 64, owner := ownINJECT, tsReq := bit (fld b 10 2) 1,
    oneStep := bit (fld b 10 2) 2, launch := bit (fld b 10 2) 3, launchTime := fld b 24 8, tag := fld b 12 2 }

/-- The frame goes its way: into the parser, or to its queue; STATUS 4 when the flush of its port ends it. -/
def injRun (b : Bytes) (d pl : Nat) (s : State) : Nat × State :=
  if injIngress b then (0, enterFrame d pl true s)
  else
    let (_, flushed, s) := enqueue d (injQueue b) s
    (if flushed then 4 else 0, s)

/-- The head descriptor is taken once the HOST pool gives the cells that its frame needs; until then it waits, and those
behind it with it. -/
def injTake (q : Nat) (b data : Bytes) (s : State) : State :=
  let s := fastClock s
  let pl := rxPipe (injPort b) data s
  if atLevel poolHOST 3 s || s.pwr.ingressStopped then s
  else
    match if injIngress b then injEnters q pl s else some s with
    | none => injWaits q pl (wakeHalf pl 0 s)
    | some s0 =>
      match takeCells (allocCell poolHOST ownINJECT 0) (cellsOf (injLen b + 4)) [] s0 with
      | (none, s) => bufSync s
      | (some cells, s) =>
        match takeDesc poolFDESC (injFrame b data cells s) (linkCells (injLen b + 4) cells s) with
        | none => bufSync (walkFree 41 (cells.headD chainEnd) s)
        | some (d, s) =>
          let (st, s) := injRun b d pl (cvuSnoop 0 2 q (fit (injLen b) data) s)
          bufSync (injDone q st s)

/-- INJECT_DESCRIPTOR: `desc` is the head descriptor and `data` the frame as the DMA read them; none where the read failed. -/
def execInjectDescriptor (q : Nat) (desc data : Option Bytes) (s : State) : Host.Outcome State Fault Refusal :=
  .next (if !queueReady (getQ q s) || 8 ≤ q then s
    else
      match desc with
      | none => dmaFault q s
      | some b =>
        match injBad b s with
        | some st => injDone q st s
        | none =>
          match data with
          | none => dmaFaultAt q (getQ q s).head.toNat (injDone q 3 s)
          | some f => injTake q b f (injWake b s))

/-! Punts. -/

/-- The first item whose frame has arrived whole, and the others. -/
def nextPunt (s : State) : List PuntItem → Option (PuntItem × List PuntItem)
  | [] => none
  | x :: rest =>
    if x.desc.any fun d => (getFrame d s).arrived.isSome then (nextPunt s rest).map fun y => (y.1, x :: y.2)
    else some (x, rest)

/-- What the device fills in a punt entry. -/
def puntEntry (x : PuntItem) (addr bufLen : Nat) : Bytes :=
  let n := min bufLen x.data.length
  let a := leBytes 8 addr ++ leBytes 2 bufLen ++ leBytes 2 n ++
    leBytes 2 (1 + 2 * b2n x.ptp.isSome + 4 * b2n (bufLen < x.data.length))
  a ++ [BitVec.ofNat 8 x.port, BitVec.ofNat 8 x.code, BitVec.ofNat 8 x.kind, BitVec.ofNat 8 x.reason] ++ zeros 6 ++
    leBytes 8 x.stamp ++ fit 24 (x.ptp.getD []) ++ zeros 8

/-- The item and its reference to the cells end. -/
def puntGone (x : PuntItem) (s : State) : State :=
  match x.desc with
  | some d => freeFrame d s
  | none => s

/-- The frame is written to its buffer and the entry behind it. -/
def puntWrite (q : Nat) (x : PuntItem) (entry : Bytes) (s : State) : State :=
  let s := cvuSnoop 0 3 q x.data (bump .PUNT_FRAMES q s)
  let k := getQ (8 + q) s
  let addr := fld entry 0 8
  let n := min (fld entry 8 2) x.data.length
  let s := dmaWrite (headAddr 64 k) (puntEntry x addr (fld entry 8 2)) (dmaWrite addr (x.data.take n) s)
  interrupt (17 + q) (puntGone x (setQ (8 + q) { k with head := k.head + 1 } s))

/-- The cells of the item's frame are read; a frame that is not usable is dropped (R247). -/
def puntRead (x : PuntItem) (s : State) : Bool × State :=
  match x.desc with
  | some d =>
    let (ok, s) := readFrame d s
    if ok then (true, s) else (false, dropBad d s)
  | none => (true, s)

/-- PUNT_DELIVERY: `entry` is the head entry of the punt queue as the DMA read it, and `ok` says whether the writes
succeed. -/
def execPuntDelivery (q : Nat) (entry : Option Bytes) (ok : Bool) (s : State) : Host.Outcome State Fault Refusal :=
  .next (match nextPunt s (tget [] s.buf.puntq q) with
    | none => s
    | some (x, rest) =>
      let s := setBuf { s.buf with puntq := tset [] s.buf.puntq q rest } s
      bufSync (if !queueReady (getQ (8 + q) s) then puntGone x (bump .PUNT_DROP q s)
        else
          let (sound, s) := puntRead x s
          if !sound then s
          else
            match entry with
            | some e => if ok then puntWrite q x e s else dmaFault (8 + q) (puntGone x s)
            | none => dmaFault (8 + q) (puntGone x s)))

end Sys2Proof.Machine
end

