-- ==== Sys2Proof/Machine/Fw.lean ====
section
/-!
DEFINITION. Firmware and security commands (R424, R425) and the forerunner-compatible commands (R426).
-/
namespace Sys2Proof.Machine

/-! FW_WRITE, FW_VERIFY, FW_ACTIVATE, FW_CONFIRM, ROLLBACK_ADVANCE (R424). -/

/-- The image of a slot runs: in RECOVERY none does. -/
def runningSlot (b : Bool) (s : State) : Bool := s.fw.slot == b && s.host.stage != stageRECOVERY

/-- A 64 KiB sector erased: every byte reads 0xFF (PRESUMED: NOR flash, log 53). -/
def eraseSector (k : Nat) (m : Tbl Byte) : Tbl Byte :=
  let a := 65536 * k
  (m.filter fun c => decide (c.1 < a)) ++ ((List.range 65536).map fun i => (a + i, (0xFF : Byte))) ++
    m.filter fun c => decide (a + 65536 ≤ c.1)

/-- The sectors that a write at flash address `a` starts. -/
def sectorsStarted (a n : Nat) : List Nat :=
  (List.range ((a + n + 65535) / 65536)).filter fun k => decide (a ≤ 65536 * k ∧ 65536 * k < a + n)

def erased (a n : Nat) (m : Tbl Byte) : Tbl Byte := (sectorsStarted a n).foldl (fun m k => eraseSector k m) m

/-- What the cells hold after programming, which only clears bits (PRESUMED: NOR flash, log 53). -/
def programmed (a : Nat) (data : Bytes) (m : Tbl Byte) : Bytes := List.zipWith (· &&& ·) (memRead m a data.length) data

/-- FW_WRITE: SLOT (1), 0 (3), OFFSET (4), LEN (4), 0 (4), data; F202 with FLASH (R428). -/
def fwWriteH : YHandler := fun _ b _ s =>
  let n := fld b 8 4
  let off := fld b 4 4
  let data := slice b 16 n
  need (fld b 1 3 == 0 && fld b 12 4 == 0) stINVALID s <|
  need (decide (16 ≤ b.length) && b.length == 16 + n) stLENGTH s <|
  need (decide (1 < fld b 0 1) || !runningSlot (fld b 0 1 == 1) s) stDENIED s <|
  need (decide (fld b 0 1 ≤ 1 ∧ n ≤ 65536 ∧ off + n ≤ slotSize)) stRANGE s <|
  let a := slotBase (fld b 0 1 == 1) + off
  let m := erased a n s.fw.flash
  if programmed a data m != data then yFail stFLASH (raise 202 0 0 s) else
  yOk [] (setFw { s.fw with flash := memWrite m a data } s)

/-- FW_WRITE (0x0C04). -/
def execFwWrite (r : YcpReq) (s : State) : Host.Outcome State Fault Refusal := ycp 0x0C04 r fwWriteH s

/-- The status of a check; an image whose header is not one fails as a signature does (DESIGN CHOICE, log 53). -/
def checkStatus (b : Bool) (s : State) : Nat :=
  match checkImage b s with
  | .accepted => stOK
  | .rollback => stROLLBACK
  | _ => stSIGNATURE

/-- FW_VERIFY (0x0C05). -/
def execFwVerify (r : YcpReq) (s : State) : Host.Outcome State Fault Refusal :=
  ycp 0x0C05 r (formO 8 [(1, 7)] fun b s =>
    need (decide (fld b 0 1 ≤ 1)) stRANGE s <|
    let st := checkStatus (fld b 0 1 == 1) s
    need (st == stOK) st s <| yRead [] s) s

/-- FW_ACTIVATE (0x0C06): SLOT (1), TRIAL (1), 0 (6). -/
def execFwActivate (r : YcpReq) (s : State) : Host.Outcome State Fault Refusal :=
  ycp 0x0C06 r (formO 8 [(2, 6)] fun b s =>
    need (decide (fld b 0 1 ≤ 1 ∧ fld b 1 1 ≤ 1)) stRANGE s <|
    let slot := fld b 0 1 == 1
    let st := checkStatus slot s
    need (st == stOK) st s <|
    let s := bootWrite slot (fld b 1 1 == 1) s
    yOk [] (setFw { s.fw with trialTried := false } s)) s

/-- FW_CONFIRM (0x0C07); DENIED when the running image is not on trial (DESIGN CHOICE, log 53). -/
def execFwConfirm (r : YcpReq) (s : State) : Host.Outcome State Fault Refusal :=
  ycp 0x0C07 r (emptyBody fun s =>
    need (s.fw.trial && bootTrial s) stDENIED s <| yOk [] (bootWrite s.fw.slot false s)) s

/-- ROLLBACK_ADVANCE (0x0C08): TARGET (1), 0 (7). -/
def execRollbackAdvance (r : YcpReq) (s : State) : Host.Outcome State Fault Refusal :=
  ycp 0x0C08 r (formO 8 [(1, 7)] fun b s =>
    let t := fld b 0 1
    need (decide (s.fw.rollback ≤ t ∧ t ≤ 32)) stRANGE s <|
    need (decide (t ≤ s.fw.imgRollback)) stROLLBACK s <|
    yOk (leBytes 4 t) (setFw { s.fw with rollback := t } s)) s

/-! FW_STATUS, IDENTITY and ATTEST (R424, R425). -/

def checkCode : ImgCheck → Nat
  | .accepted => 0
  | .noImage => 1
  | .signature => 2
  | .rollback => 3

/-- An OTP key slot: 0 not programmed, 1 programmed, 2 revoked (DESIGN CHOICE, log 42). -/
def keyState (k : Nat) (s : State) : Nat :=
  if bit s.fw.otpRevoked k then 2 else if (tget? s.fw.otpKeys k).isSome then 1 else 0

/-- The properties of FW_STATUS; the names are the model's (log 42). -/
def fwStatusBody (s : State) : Bytes := propList
  [pStr "HEADER_A" (imgHeader false s), pStr "HEADER_B" (imgHeader true s),
   pArr "ACCEPTED" 8 [checkCode (checkImage false s), checkCode (checkImage true s)],
   pStr "BOOT_CTRL" ((bootNow s).elim [] fun k => bootCopy k s), pNum "ROLLBACK" 1 s.fw.rollback,
   pArr "KEY_STATE" 8 ((List.range 4).map fun k => keyState k s)]

/-- FW_STATUS (0x0C03). -/
def execFwStatus (r : YcpReq) (s : State) : Host.Outcome State Fault Refusal :=
  ycp 0x0C03 r (emptyBody fun s => yRead (fwStatusBody s) s) s

/-- Certificate `k` of `n` bytes, and LEN before it. -/
def certificate (k n : Nat) : Bytes := leBytes 4 n ++ (List.range n).map (Config.certificateByte k)

/-- The response of IDENTITY: the device, intermediate and root certificates, at most 4,000 bytes in all (R424, log 75): 16
bytes of COUNT and LEN leave 3,984 for the certificates. -/
def identityBody : Bytes :=
  let a := Config.certificateLen 0 % 3985
  let b := Config.certificateLen 1 % (3985 - a)
  let c := Config.certificateLen 2 % (3985 - a - b)
  leBytes 4 3 ++ certificate 0 a ++ certificate 1 b ++ certificate 2 c

/-- IDENTITY (0x0C01). -/
def execIdentity (r : YcpReq) (s : State) : Host.Outcome State Fault Refusal :=
  ycp 0x0C01 r (emptyBody fun s => yRead identityBody s) s

/-- Bytes 0–175 of the attestation report (R425). -/
def reportBody (nonce : Bytes) (s : State) : Bytes :=
  let a := leBytes 4 0x41545431 ++ leBytes 2 1 ++
    leBytes 2 (b2n (inMode mASSURED s) + 2 * b2n (armedPorts s != 0) + 4 * b2n s.fw.trial) ++
    leBytes 8 Config.serial.toNat ++ fit 32 nonce
  let b := leBytes 4 s.fw.fwVersion ++ leBytes 1 s.fw.rollback ++ leBytes 1 s.fw.imgRollback ++ leBytes 1 (b2n s.fw.slot) ++
    [0] ++ leBytes 2 (activeMode s).toNat ++ zeros 2 ++ leBytes 4 s.ep.epoch.toNat
  let c := fit 32 s.fw.romHash ++ fit 32 s.fw.fwHash ++ fit 32 s.fw.cfgHash
  a ++ b ++ c ++ leBytes 8 (getCtr .CFG_COUNT 0 s) ++ leBytes 8 (now302 s)

/-- ATTEST (0x0C02): the report for NONCE, signed with the identity key. -/
def execAttest (r : YcpReq) (s : State) : Host.Outcome State Fault Refusal :=
  ycp 0x0C02 r (formO 32 [] fun b s =>
    let rep := reportBody b s
    yRead (rep ++ fit 64 (Config.ecdsaSign (sha256 rep))) s) s

/-! Forerunner-compatible commands (R426). -/

/-- A command of R426: DENIED while COMPAT is clear. -/
def ksCommand (n : Nat) (k : Bytes → State → YRes) : YHandler := formO n [] fun b s =>
  need (inMode mCOMPAT s) stDENIED s (k b s)

/-- KS_STATE by TCP_STATE. -/
def ksState (t : Nat) : Nat := if t ≤ 2 then 0 else if t = 3 then 1 else if t ≤ 5 then 2 else 3

/-- SADDR and DADDR of an IPv4 image, as the key holds them. -/
def ksAddrs (img : Bytes) : Bytes :=
  if isStd img then slice img 12 4 ++ slice img 28 4 else slice img 12 4 ++ slice img 16 4

/-- What the translation or the load balancer made of the flow; addresses and ports in network order, as in keys (DEDUCED from
R73, log 53). -/
def ksService (img : Bytes) (s : State) : Bytes :=
  let ad := imgAd img
  if bits ad 0 2 = 1 then slice (addrEnt (bits ad 6 11) s) 0 4 ++ beBytes 2 (bits ad 17 16) ++ zeros 2
  else if bits ad 0 2 = 2 then zeros 6 ++ leBytes 2 (bits ad 6 16)
  else zeros 8

/-- The KS-240 record of an IPv4 flow. -/
def ksRecord (img : Bytes) (s : State) : Bytes :=
  let svc := bits (imgAd img) 0 2
  let zone := fld img 1 3
  let a := ksAddrs img ++ slice img 6 4 ++ slice img 4 1 ++ zeros 3 ++
    leBytes 4 (if bit zone 23 then bits zone 0 23 else 0)
  let b := leBytes 1 (ksState (imgTcp img)) ++
    leBytes 1 (b2n (svc == 1) + 2 * b2n (svc == 2) + 4 * b2n (bit (imgCtrl img) 5)) ++ zeros 2
  let c := leBytes 8 (fld img (offPKTS img) 5) ++ leBytes 8 (fld img (offBYTES img) 6) ++ leBytes 4 (imgLast img / 1000)
  a ++ b ++ c ++ ksService img s ++ zeros 12

/-- KTYPE is IPv4. -/
def isV4 (b : Bytes) : Bool := fld b 0 1 % 16 == 0

/-- KS_FLOW_READ (0x8001). -/
def execKsFlowRead (r : YcpReq) (s : State) : Host.Outcome State Fault Refusal :=
  ycp 0x8001 r (ksCommand 48 fun key s =>
    need (!lookupHeld key s) stBUSY s <|
    match findFlow key s with
    | (some (img, _), s') => need (isV4 img) stINVALID s (yRead (ksRecord img s') s')
    | (none, _) => yFail stNOT_FOUND s) s

/-- KS_FLOW_DELETE (0x8002), as FLOW_DELETE. -/
def execKsFlowDelete (r : YcpReq) (s : State) : Host.Outcome State Fault Refusal :=
  ycp 0x8002 r (ksCommand 48 fun key s =>
    let x := deleteFlow key s
    if x.status = stOK ∧ !isV4 key then yFail stINVALID s else x) s

/-- The record slots that the index in use names, with PAIR, in slot order; a migration that runs has records in both
regions (R105, R106). -/
def indexedSlots (s : State) : Tbl Bool :=
  let of (r1 : Bool) (b : Nat) (t : Tbl Bool) : Tbl Bool :=
    let a := idxBase r1
    let lines := s.hbm.mem.filter fun c => decide (a ≤ c.1 ∧ c.1 < a + 64 * 2 ^ b) && c.1 % 64 == 0 && c.2.toNat % 16 != 0
    lines.foldl (fun t c =>
      let l := lineNow r1 ((c.1 - a) / 64) s
      ((List.range 10).map (slotAt l)).foldl (fun t v => if slotOcc v then tput t (slotPtr v) (slotPair v) else t) t) t
  match s.flow.mig with
  | some m => of (!s.flow.idx1) m.newB (of s.flow.idx1 s.flow.bucketBits [])
  | none => of s.flow.idx1 s.flow.bucketBits []

/-- Live IPv4 records of a list of slots, rendered, at most `n`, and whether more are left. -/
def dumpFrom : Nat → List (Nat × Bool) → State → Bytes × Bool × State
  | _, [], s => ([], false, s)
  | n, (slot, pair) :: rest, s =>
    match readRecord 10 slot pair s with
    | (some img, s) =>
      if bit (imgCtrl img) 0 && isV4 img then
        match n with
        | 0 => ([], true, s)
        | n + 1 => let (b, more, s) := dumpFrom n rest s; (ksRecord img s ++ b, more, s)
      else dumpFrom n rest s
    | (none, s) => dumpFrom n rest s

/-- KS_FLOW_DUMP (0x8003): FIRST slot (4), COUNT (4); MORE when fewer than COUNT are returned and more are left (R407). -/
def ksDumpH : YHandler := fun r b rm => ksCommand 8 (fun b s =>
  need (decide (fld b 0 4 < 2 ^ 30)) stRANGE s <|
  let slots := (indexedSlots s).filter fun x => decide (fld b 0 4 ≤ x.1)
  let (body, more, s) := dumpFrom (min (fld b 4 4) (rm / 64)) slots s
  { yRead body s with more := more && decide (body.length < 64 * fld b 4 4) }) r b rm

def execKsFlowDump (r : YcpReq) (s : State) : Host.Outcome State Fault Refusal := ycp 0x8003 r ksDumpH s

/-- The requester of a KS port. -/
def ksRequester (p : Nat) : Nat := if p < 6 then p else if p = 6 then 9 else 10

/-- KS_QOS_SET (0x8010): eight targets in units of 10 ns. -/
def execKsQosSet (r : YcpReq) (s : State) : Host.Outcome State Fault Refusal :=
  ycp 0x8010 r (ksCommand 16 fun b s =>
    need ((List.range 8).all fun p => decide (5 ≤ fld b (2 * p) 2 ∧ fld b (2 * p) 2 ≤ 6553)) stRANGE s <|
    yOk [] (forEach (List.range 8) (fun p s =>
      let q := ksRequester p
      setHbm { s.hbm with qos := tset (qosDefault q) s.hbm.qos q (putF (qosRec q s) 4 2 (10 * fld b (2 * p) 2)) } s) s)) s

/-- KS_QOS_GET (0x8011). -/
def execKsQosGet (r : YcpReq) (s : State) : Host.Outcome State Fault Refusal :=
  ycp 0x8011 r (ksCommand 0 fun _ s =>
    yRead ((List.range 8).map fun p => leBytes 2 (fld (qosRec (ksRequester p) s) 4 2 / 10)).flatten s) s

end Sys2Proof.Machine
end

