-- ==== Sys2Proof/Machine/Join.lean ====
section
/-!
DEFINITION. The joined ring (chapter 16): JOIN_CONFIG and JOIN_STATUS, the chain links and their blocks, CONTROL frames, frames
for homes and egress members, the wrap and the loss of members.
-/
namespace Sys2Proof.Machine

/-! JOIN_CONFIG (R454, R467). -/

def wrapOf (b : Bytes) : Nat := fld b 8 4
def memberTimeoutOf (b : Bytes) : Nat := fld b 12 4

/-- Every pool that FALLBACK names has DET set (R454). -/
def fallbackSound (b : Bytes) (s : State) : Bool :=
  (slice b 16 64).all fun q => q == 0xFF || (decide (q.toNat < 64) && xpDet (xpoolDesc q.toNat s))

/-- The timeouts are in range (R454). -/
def timeoutsInRange (b : Bytes) : Bool :=
  decide (100 ≤ wrapOf b ∧ wrapOf b ≤ 10000 ∧ 2 * wrapOf b + 100 ≤ memberTimeoutOf b ∧ memberTimeoutOf b ≤ 100000)

/-- A chain group that is off starts its bring-up (DESIGN CHOICE, log 54). -/
def startChain (s : State) : State :=
  forEach [64, 65] (fun l s => if linkOn l s then s else fullBringUp l s) s

/-- OP SET: the whole record. -/
def joinSet (b : Bytes) (s : State) : State :=
  startChain (setJoin { s.join with configured := true, members := fld b 1 1, chainParse := fld b 2 1, fastClasses := fld b 4 2,
                                    wrapTimeout := wrapOf b, memberTimeout := memberTimeoutOf b, fallback := slice b 16 64 } s)

/-- OP ADD: members return to the present set, and the map of R458 is restored over it (R467). -/
def joinAdd (b : Bytes) (s : State) : State :=
  let new := (ringMembers s).filter fun m => bit (fld b 1 1) m && !bit s.join.present m
  let present := s.join.present ||| (fld b 1 1 &&& s.join.members)
  let s := forEach new (fun m s => joinEvent 5 m s) (holdBlocks s)
  let map := if inMode mJOINED s then homesOver ((List.range 4).filter (bit present)) else s.join.homeMap
  setJoin { s.join with present := present, homeMap := map, moved := [] } s

/-- JOIN_CONFIG: the record of R454. -/
def joinConfigH : YHandler := 
  formE 80 [(3, 1), (6, 2)] [(1, fun b _ => decide (1 ≤ fld b 0 1 ∧ fld b 0 1 ≤ 3)),
    (2, fun b s => decide (fld b 1 1 < 16) && (fld b 0 1 == 3 || bit (fld b 1 1) s.host.devid)),
    (3, fun b _ => decide (fld b 2 1 < 16))] fun b s =>
  let op := fld b 0 1
  need (op == 2 || !inMode mASSURED s || decide (wrapOf b ≤ 100 ∧ memberTimeoutOf b ≤ 360)) stDENIED s <|
  need (op == 2 || timeoutsInRange b) stRANGE s <|
  need (op != 1 || !inMode mJOINED s) stBUSY s <|
  need (op != 1 || fallbackSound b s) stINVALID s <|
  yOk [] (if op = 1 then joinSet b s else if op = 2 then joinAdd b s
    else setJoin { s.join with wrapTimeout := wrapOf b, memberTimeout := memberTimeoutOf b } s)

/-- JOIN_CONFIG SET (0x0E01, OP 1). -/
def execJoinConfigSet (r : YcpReq) (s : State) : Host.Outcome State Fault Refusal := ycp 0x0E01 r joinConfigH s
/-- JOIN_CONFIG ADD (0x0E01, OP 2). -/
def execJoinConfigAdd (r : YcpReq) (s : State) : Host.Outcome State Fault Refusal := ycp 0x0E01 r joinConfigH s
/-- JOIN_CONFIG TIMEOUTS (0x0E01, OP 3). -/
def execJoinConfigTimeouts (r : YcpReq) (s : State) : Host.Outcome State Fault Refusal := ycp 0x0E01 r joinConfigH s

/-! JOIN_STATUS. -/

/-- The chain link of a group is up: at port level, and not held (R457, R466). -/
def chainUp (g : Nat) (s : State) : Bool := isUp (64 + g) s && !(getChain g s).held

/-- HOME_MAP as CONTROL frames carry it (R457). -/
def homeMapWord (s : State) : Nat := (List.range 16).foldl (fun a i => a + (homeOf i s % 4) * 4 ^ i) 0

/-- The properties of JOIN_STATUS and of SUMMARY section 16. -/
def joinProps (s : State) : List Bytes :=
  let gs := [getChain 0 s, getChain 1 s]
  [pNum "DEVID" 1 s.host.devid, pNum "MEMBERS" 1 s.join.members, pNum "PRESENT" 1 s.join.present,
   pArr "HOME_MAP" 1 ((List.range 16).map fun i => homeOf i s), pArr "LINK_STATE" 1 ([0, 1].map fun g => b2n (chainUp g s)),
   pArr "WRAPPED" 1 (gs.map fun x => b2n x.wrapped), pArr "FAST_DEPTH" 8 (gs.map fun x => x.fastq.length),
   pArr "NORM_DEPTH" 8 (gs.map fun x => x.normq.length), pArr "CREDIT_FAST" 2 (gs.map (·.creditFast)),
   pArr "CREDIT_NORM" 2 (gs.map (·.creditNorm))]

/-- JOIN_STATUS (0x0E02); names of properties that the rule does not spell are the model's (log 42). -/
def execJoinStatus (r : YcpReq) (s : State) : Host.Outcome State Fault Refusal :=
  ycp 0x0E02 r (emptyBody fun s => yRead (propList (joinProps s)) s) s

/-! Blocks (R456). -/

/-- The control unit of a block; bit 0 of the table is bit 0 of byte 0. -/
def controlUnit (x : ChainGroup) (nak : Bool) : Bytes :=
  leBytes 32 (x.txSeq + x.rxSeq * 2 ^ 12 + b2n nak * 2 ^ 24 + min x.owedFast 32767 * 2 ^ 25 + min x.owedNorm 32767 * 2 ^ 40)

/-- Units 1–63 of a block: a part of the frame stream, filled with IDLE frames. -/
def blockStream (b : Bytes) : Bytes := b ++ (List.replicate ((2016 - b.length) / 16) ((7 : Byte) :: zeros 15)).flatten

/-- One block is sent and kept until it is acknowledged; it returns the credits owed. -/
def sendBlock (g : Nat) (nak : Bool) (b : Bytes) (s : State) : State :=
  let x := getChain g s
  let blk := controlUnit x nak ++ blockStream b
  let s := setChain g { x with txSeq := (x.txSeq + 1) % 4096, unacked := x.unacked ++ [(x.txSeq, blk)],
                               owedFast := x.owedFast - min x.owedFast 32767, owedNorm := x.owedNorm - min x.owedNorm 32767 } s
  setJoin { s.join with out := s.join.out ++ [(g, blk)] } s

/-- A part of the frame stream is sent in as many blocks as it takes. -/
def sendStream (g : Nat) (b : Bytes) (s : State) : State :=
  forEach (chunks 2016 ((b.length + 2015) / 2016) b) (fun c s => sendBlock g false c s) s

/-- Zeros up to a 16-byte boundary. -/
def pad16 (b : Bytes) : Bytes := b ++ zeros ((16 - b.length % 16) % 16)

/-! Chain frames in the stream (R457). -/

/-- Credits that a chain frame takes, in 64-byte units. -/
def cfUnits (b : Bytes) : Nat := (b.length + 63) / 64

/-- The whole chain frames at the head of a stream, and what is left. -/
def takeFrames : Nat → Bytes → List Bytes × Bytes
  | 0, b => ([], b)
  | n + 1, b =>
    if b.length < 16 ∨ b.length < cfSize b then ([], b)
    else let (fs, r) := takeFrames n (b.drop (cfSize b)); (b.take (cfSize b) :: fs, r)

/-- Room that a frame took in a FIFO is returned as credit. -/
def oweCredit (g : Nat) (f : Bytes) (s : State) : State :=
  let x := getChain g s
  setChain g (if cfFast f then { x with owedFast := x.owedFast + cfUnits f } else { x with owedNorm := x.owedNorm + cfUnits f }) s

/-- A frame with a reserved TYPE, an SRC that is no member or too many hops (R457). -/
def badFrame (g : Nat) (s : State) : State := raise 213 g 0 s

/-- A chain frame arrives (R455–R457): CONTROL and IDLE frames take no room in the FIFOs (DESIGN CHOICE, log 54).  With JOINED clear
every type but CONTROL is discarded and counted, one that is bad by R457 too. -/
def frameIn (g : Nat) (f : Bytes) (s : State) : State :=
  if cfType f = 7 then s
  else
    let s := if cfType f ≠ 2 ∧ !inMode mJOINED s then bump .CHAIN_NOT_JOINED g s else s
    if 3 ≤ cfType f ∨ !bit s.join.members (cfSrc f) then badFrame g (if cfType f = 2 then s else oweCredit g f s)
    else if cfType f = 2 then
      let x := getChain g s
      setChain g { x with ctl := x.ctl ++ [f] } s
    else
      let s := bump .CHAIN_RX g s
      if !inMode mJOINED s then oweCredit g f s
      else
        let x := getChain g s
        setChain g (if cfFast f then { x with fifoFast := x.fifoFast ++ [f] } else { x with fifoNorm := x.fifoNorm ++ [f] }) s

/-- Blocks up to ACK are acknowledged. -/
def ackUpTo (ack : Nat) (x : ChainGroup) : ChainGroup :=
  if x.unacked.any fun p => p.1 == ack then
    { x with unacked := (x.unacked.dropWhile fun p => p.1 != ack).drop 1, retries := 0 }
  else x

/-- The blocks after ACK are sent again, in order, at most 3 times for one block. -/
def resend (g : Nat) (s : State) : State :=
  let x := getChain g s
  if x.unacked.isEmpty || decide (3 ≤ x.retries) then s
  else
    let s := addCtr .CHAIN_RETX g x.unacked.length (setChain g { x with retries := x.retries + 1 } s)
    setJoin { s.join with out := s.join.out ++ x.unacked.map fun p => (g, p.2) } s

/-- The next block in order: its credits and its frames; one that brought a frame is answered at once. -/
def blockIn (g : Nat) (blk : Bytes) (s : State) : State :=
  let u := fld blk 0 32
  let x := getChain g s
  let x := { x with rxSeq := bits u 0 12, creditFast := x.creditFast + bits u 25 15, creditNorm := x.creditNorm + bits u 40 15 }
  let stream := x.part ++ slice blk 32 2016
  let (fs, rest) := takeFrames (stream.length / 16) stream
  let s := forEach fs (fun f s => frameIn g f s) (setChain g { x with part := rest } s)
  if fs.any (fun f => cfType f != 7) || !rest.isEmpty then sendBlock g false [] s else s

/-- CHAIN_BLOCK_RECEIVE: a block of 64 units on group `g`; `bad` when a unit is uncorrectable. -/
def execChainBlockReceive (g : Nat) (blk : Bytes) (bad : Bool) (s : State) : Host.Outcome State Fault Refusal :=
  .next (if !isUp (64 + g) s then s
    else if bad then sendBlock g true [] s
    else
      let u := fld blk 0 32
      let s := setChain g (ackUpTo (bits u 12 12) (getChain g s)) s
      let s := if bit u 24 then resend g s else s
      if bits u 0 12 = ((getChain g s).rxSeq + 1) % 4096 then blockIn g blk s else s)

/-- CHAIN_RETRANSMIT_EXHAUSTED: after 3 retransmits of one block the link is down (R456, R466). -/
def execChainRetransmitExhausted (g : Nat) (s : State) : Host.Outcome State Fault Refusal :=
  let x := getChain g s
  .next (if !x.unacked.isEmpty && decide (3 ≤ x.retries) && isUp (64 + g) s then
      linkDown (64 + g) none (raise 212 g 0 (setChain g { x with retries := 0 } s))
    else s)

/-! Selection on a chain group (R456, R460). -/

/-- A frame as the chain link carries it. -/
def chainBytes (f : Frame) : Bytes := pad16 (f.chain.getD [] ++ f.data)

/-- The frame leaves for the link against credit. -/
def chainSelectSend (g d : Nat) (fast : Bool) (s : State) : State :=
  let (ok, s) := readFrame d s
  if !ok then dropBad d s
  else
    let b := chainBytes (getFrame d s)
    let x := getChain g s
    let s := setChain g (if fast then { x with creditFast := x.creditFast - cfUnits b }
      else { x with creditNorm := x.creditNorm - cfUnits b }) s
    freeFrame d (sendStream g b s)

/-- The head of a chain queue is taken off it. -/
def chainPop (g : Nat) (fast : Bool) (s : State) : State :=
  let x := getChain g s
  setChain g (if fast then { x with fastq := x.fastq.drop 1 } else { x with normq := x.normq.drop 1 }) s

/-- The head of a queue when the credit held lets it go. -/
def chainHead (g : Nat) (fast : Bool) (s : State) : Option Nat :=
  let x := getChain g s
  match (if fast then x.fastq else x.normq) with
  | d :: _ =>
    if cfUnits (chainBytes (getFrame d s)) ≤ (if fast then x.creditFast else x.creditNorm) then some d else none
  | [] => none

/-- The group selects, its fast queue first; expired frames end (R257, R460). -/
def chainSelect (g : Nat) : Nat → State → State
  | 0, s => s
  | n + 1, s =>
    match (match chainHead g true s with
      | some d => some (d, true)
      | none => (chainHead g false s).map fun d => (d, false)) with
    | some (d, fast) =>
      let s := chainPop g fast s
      if expired (getFrame d s) s then chainSelect g n (discard d s) else bufSync (chainSelectSend g d fast s)
    | none => bufSync s

/-- SCHEDULER_SELECTION (R273): a port, or 64 and 65 for the chain groups LG8 and LG9, which carry FLOW and RESULT frames under
JOINED alone (R455). -/
def execSchedulerSelection (p : Nat) (s : State) : Host.Outcome State Fault Refusal :=
  .next (if p < 64 then portSelect p s
    else
      let g := (p - 64) % 2
      let x := getChain g s
      if chainUp g s && inMode mJOINED s then chainSelect g (x.fastq.length + x.normq.length) s else s)

/-! CONTROL frames (R457). -/

/-- LINKS as this member reports them: a group counts as up until its wrap begins (DEDUCED from R466, log 54). -/
def linksWord (s : State) : Nat := b2n (!(getChain 0 s).wrapped) + 2 * b2n (!(getChain 1 s).wrapped)

def controlFrame (g : Nat) (s : State) : Bytes :=
  let h := leBytes 1 (2 + 8 * s.host.devid + 32 * neighbour s.host.devid g s) ++ zeros 15
  h ++ leBytes 1 s.host.devid ++ leBytes 1 (b2n (inMode mJOINED s)) ++ leBytes 1 s.join.members ++ leBytes 1 s.join.present ++
    beBytes 4 (homeMapWord s) ++ leBytes 1 (linksWord s) ++ zeros 7

/-- CONTROL_FRAME_SEND: one on each chain group, every 10 µs. -/
def execControlFrameSend (s : State) : Host.Outcome State Fault Refusal :=
  .next (forEach [0, 1] (fun g s => if isUp (64 + g) s then sendStream g (controlFrame g s) s else s) s)

/-- The frames of a chain queue whose destination is lost end (R471). -/
def dropLost (m : Nat) (ds : List Nat) (s : State) : List Nat × State :=
  let gone (d : Nat) : Bool := cfDst ((getFrame d s).chain.getD []) == m
  (ds.filter fun d => !gone d, forEach (ds.filter gone) (fun d s => discard d (bump .CHAIN_HOME_LOST 0 s)) s)

def dropLostGroup (m g : Nat) (s : State) : State :=
  let (f, s) := dropLost m (getChain g s).fastq s
  let (n, s) := dropLost m (getChain g s).normq s
  setChain g { getChain g s with fastq := f, normq := n } s

/-- The entries of the lost member pass, in ascending index, to the survivors in turn. -/
def passHomes (m : Nat) (survivors : List Nat) (s : State) : List Nat :=
  let ixs := (List.range 16).filter fun i => homeOf i s == m
  (List.range 16).map fun i => if homeOf i s = m then survivors.getD (ixs.idxOf i % survivors.length) s.host.devid else homeOf i s

/-- A member is declared lost (R467). -/
def memberLost (m : Nat) (s : State) : State :=
  if !bit s.join.present m ∨ m = s.host.devid ∨ !inMode mJOINED s then s
  else
    let present := putBits s.join.present m 1 0
    let survivors := (List.range 4).filter (bit present)
    let ixs := (List.range 16).filter fun i => homeOf i s == m
    let map := passHomes m survivors s
    let s := holdBlocks s
    let s := setJoin { s.join with present := present, homeMap := map,
                                   moved := (s.join.moved ++ ixs.filter fun i => !s.join.moved.contains i) } s
    joinEvent 4 m (raise 211 m 0 (dropLostGroup m 1 (dropLostGroup m 0 s)))

/-- MEMBER_TIMEOUT_EXPIRY (R467). -/
def execMemberTimeoutExpiry (m : Nat) (s : State) : Host.Outcome State Fault Refusal := .next (bufSync (memberLost m s))

/-- What a CONTROL frame tells: the links of its sender, and the losses that it has declared (R467). -/
def controlLearn (f : Bytes) (s : State) : State :=
  let m := cfSrc f
  let b := slice f 16 16
  let old := tget 0 s.join.theirs m
  let new := fld b 3 1 % 16
  let s := setJoin { s.join with links := tset 3 s.join.links m (fld b 8 1 % 4), theirs := tset 0 s.join.theirs m new } s
  forEach ((List.range 4).filter fun k => bit old k && !bit new k) (fun k s => memberLost k s) s

/-- A direct CONTROL frame names the neighbour: another DEVID holds the link down and raises F214 (R457). -/
def controlNeighbour (g : Nat) (f : Bytes) (s : State) : State :=
  let id := fld f 16 1
  let x := getChain g s
  if id = s.host.devid ∨ id ≠ neighbour s.host.devid g s then
    let s := if x.held then s else joinEvent 0 g (raise (208 + g) g 0 (setChain g { x with held := true } s))
    raise 214 g 0 s
  else if x.held then joinEvent 1 g (setChain g { x with held := false } s)
  else s

/-- The frame goes on round the ring, until the next member is its sender. -/
def controlRelay (g : Nat) (f : Bytes) (s : State) : State :=
  if cfHops f < 3 ∧ neighbour s.host.devid (1 - g) s ≠ cfSrc f ∧ isUp (64 + (1 - g)) s then
    sendStream (1 - g) (putF f 1 1 (fld f 1 1 + 64)) s
  else s

/-- CONTROL_FRAME_RECEIVE: the oldest CONTROL frame of a group is checked (R457). -/
def execControlFrameReceive (g : Nat) (s : State) : Host.Outcome State Fault Refusal :=
  .next (match (getChain g s).ctl with
    | [] => s
    | f :: rest =>
      let s := setChain g { getChain g s with ctl := rest } s
      let s := if cfHops f = 0 then controlNeighbour g f s else s
      if cfSrc f = s.host.devid ∨ (getChain g s).held then bufSync s
      else bufSync (controlRelay g f (controlLearn f s)))

/-! Arrivals (R461, R463). -/

/-- The frame leaves its FIFO and its room is returned as credit. -/
def fifoTake (g : Nat) (f : Bytes) (fast : Bool) (s : State) : State :=
  let x := getChain g s
  oweCredit g f (setChain g (if fast then { x with fifoFast := x.fifoFast.drop 1 } else { x with fifoNorm := x.fifoNorm.drop 1 }) s)

/-- The Ethernet frame that a chain frame carries. -/
def cfData (f : Bytes) : Bytes := slice f (16 + cfBlock f) (cfLen f)

/-- The frame of an arrival, charged and owned as chain reception (R240, R463). -/
def chainFrame (g : Nat) (f : Bytes) (cells : List Nat) (s : State) : Frame :=
  { data := cfData f, head := cells.headD chainEnd, cellPool := poolSHARED, len := cfLen f, stamp := bfld f 4 8, src := 66 + g, owner := 21 + g,
    assured := cfAssured f && inMode mASSURED s, pairCrc := if cfPair f then bfld f 12 4 else 0 }

/-- Cells and a descriptor for an arrival; none while there are none, and the frame stays in its FIFO. -/
def chainStore (g : Nat) (f : Bytes) (s : State) : Option Nat × State :=
  match takeCells (allocCell poolSHARED (21 + g) 0) (cellsOf (cfLen f)) [] s with
  | (none, s) => (none, s)
  | (some cells, s) =>
    match allocDesc poolFDESC (chainFrame g f cells s) (linkCells (cfLen f) cells s) with
    | some (d, s) => (some d, s)
    | none => (none, walkFree 41 (cells.headD chainEnd) s)

/-- A frame on its way to another member goes on (R457, R466, R467). -/
def transit (g d : Nat) (f : Bytes) (s : State) : State :=
  if 3 ≤ cfHops f then discard d (badFrame g s)
  else if !bit s.join.present (cfDst f) then discard d (bump .CHAIN_HOME_LOST 0 s)
  else
    let (to_, wrapped) := if usable s.host.devid (1 - g) s then (1 - g, bit (fld f 0 1) 7) else (g, true)
    let h := putF (putF (f.take (16 + cfBlock f)) 0 1 (putBits (fld f 0 1) 7 1 (b2n wrapped))) 1 1 (fld f 1 1 + 64)
    let x := getChain to_ s
    let s := setFrame d { getFrame d s with chain := some h } s
    setChain to_ (if cfFast f then { x with fastq := x.fastq ++ [d] } else { x with normq := x.normq ++ [d] }) s

/-- A packet that came by the chain, at the flow stage of its home: the carried key, and the direction of the packet (R461). -/
def homeStage (d : Nat) (key : Bytes) (s : State) : State :=
  let k := getPkt d s
  let r := pktProfile d s
  let tcp := tcpFlags (fpKeySrc r) (getFrame d s).data k.hdrs
  let s := editPkt d (fun k => { k with reached := s.time.free, reachedA := nsecOf (activeTime s), tcp := tcp }) s
  if spDir (svcProf k.profile s) = 2 then inboundStage d s
  else
    let rev := ((keyParts r (keySrcOf d s)).map fun x => (symmetric (fpSym r) x).2).getD false
    flowLookup d (withKey d key rev s)

/-- A FLOW arrival at its home: the layer list of CHAIN_PARSE, the metadata and the action word that the frame carries (R461). -/
def flowArrive (d : Nat) (f : Bytes) (s : State) : State :=
  let key := slice f 16 48
  let action := bfld f 64 8
  let mt := bfld f 72 8
  let s := stampEntry d (chainPipe f s) s
  let x := { getFrame d s with inPort := bits mt 0 6, flags := bits mt 6 16 }
  let p := parseOf x true s
  let s := setFrame d x s
  match parseParity x p s with
  | some (t, n) => parityDrop d t n s
  | none =>
    let bk := s.ep.bank x.bank
    let vec := parseVector bk (bankProfile bk s.join.chainParse) x.data (x.data.length - 4) p + mt * 2 ^ 576
    let assured := actAssured action && inMode mASSURED s && s.ep.dup == .active
    let s := setFrame d { x with payOff := payloadOff p, assured := assured } s
    let s := editPkt d (fun k => { k with hdrs := p.hdrs, vec := vec, service := bits mt 22 12, action := action,
                                          profile := actProfile action, counted := true,
                                          sub := if bit mt 63 then some (bits mt 40 23) else none }) s
    homeStage d key s

/-- What the egress rewrite of ACTION_DATA replaces at the egress member (R461). -/
def resultEdits (ad : Nat) (b : Bytes) (hs : List Hdr) (s : State) : List (Nat × Bytes) :=
  match adSvc ad with
  | 1 => addrEdits b (fromL3 0 hs) true (slice (addrEnt (adA ad) s) 0 4) (some (beBytes 2 (adPort ad)))
  | 2 =>
    let a := slice (backendRec (adBackend ad) s) 4 4
    if leNat a = 0 then [] else addrEdits b (fromL3 0 hs) false a none
  | _ => []

/-- A RESULT arrival at its egress member: parsed with CHAIN_PARSE, rewritten from ACTION_DATA and enqueued on QUEUE (R461). -/
def resultArrive (d : Nat) (f : Bytes) (s : State) : State :=
  let q := bfld f 16 4 % 2 ^ 18
  let ad := bfld f 20 8
  let s := stampEntry d (chainPipe f s) s
  let x := getFrame d s
  let p := parseOf x true s
  match parseParity x p s with
  | some (t, n) => parityDrop d t n s
  | none =>
    let k : Pkt := { live := false, pipe := (getPkt d s).pipe, hdrs := p.hdrs, counted := true,
                     action := cfClass f * 2 ^ 17 + b2n (cfAssured f) * 2 ^ 16 }
    let s := setFrame d { x with pkt := some k, payOff := payloadOff p, edits := resultEdits ad x.data p.hdrs s } s
    (enqueue d q s).2.2

/-- An arrival that enters a pipeline of this member waits for it as a port frame does: for the end of a drained commit, for a
sentinel that the pipeline owes, and for its grant (R19, R62, R393, R463).  One on its way to another member enters none. -/
def chainEnter (f : Bytes) (s : State) : Option State :=
  if cfDst f ≠ s.host.devid then some s
  else if ingressHeld s || sentinelDue (chainPipe f s) 0 s then none
  else portGrant (chainPipe f s) s

/-- An arrival of a type is taken from its FIFO once it can be stored and may enter. -/
def chainArrive (g type : Nat) (k : Nat → Bytes → State → State) (s : State) : State :=
  match fifoHead g type s with
  | none => s
  | some (f, fast) =>
    if !inMode mJOINED s then bump .CHAIN_NOT_JOINED g (fifoTake g f fast s)
    else if chainHeld g s then s
    else
      match chainEnter f s with
      | none => if cfDst f = s.host.devid ∧ sentinelDue (chainPipe f s) 0 s then wakeHalf (chainPipe f s) 0 s else s
      | some s =>
      match chainStore g f s with
      | (none, s) => bufSync s
      | (some d, s) =>
        let s := fifoTake g f fast s
        bufSync (if cfDst f = s.host.devid then k d f s else transit g d f s)

/-- FLOW_FRAME_ARRIVAL: the head FLOW frame of a group's FIFOs. -/
def execFlowFrameArrival (g : Nat) (s : State) : Host.Outcome State Fault Refusal := .next (chainArrive g 0 flowArrive s)

/-- RESULT_FRAME_ARRIVAL: the head RESULT frame of a group's FIFOs. -/
def execResultFrameArrival (g : Nat) (s : State) : Host.Outcome State Fault Refusal := .next (chainArrive g 1 resultArrive s)

/-! The wrap (R466). -/

/-- A queued frame takes the longer way. -/
def markWrapped (d : Nat) (s : State) : State :=
  let f := getFrame d s
  setFrame d { f with chain := f.chain.map fun h => putF h 0 1 (putBits (fld h 0 1) 7 1 1) } s

/-- A retransmit of the group's oldest block is under way (R456). -/
def resending (g : Nat) (s : State) : Bool := !(getChain g s).unacked.isEmpty && decide (0 < (getChain g s).retries)

/-- One tick of the wrap timers of the groups whose link is down: each is paused during a retransmit (R395, R466). -/
def wrapTick (s : State) : State :=
  forEach [0, 1] (fun g s =>
    let x := getChain g s
    if chainUp g s ∨ x.wrapped ∨ !inMode mJOINED s then s
    else setChain g { x with wrapTicks := timerTick (resending g s) x.wrapTicks } s) s

/-- AON_TICK (R298): time, then what counts by it: the bank copy, the table window, the serial lanes, the park and the
wrap timers, and the stages of the boot ROM. -/
def execAonTick (domUpset : Option (Nat × Nat)) (maceUpset : Bool) (s : State) : Host.Outcome State Fault Refusal :=
  .next (bootTick (wrapTick (parkTick (laneTick (tcwTick (copyTick (aonTick domUpset maceUpset s)))))))

/-- WRAP_TIMEOUT_EXPIRY: traffic of the group goes the other way round, and its queued frames with it. -/
def execWrapTimeoutExpiry (g : Nat) (s : State) : Host.Outcome State Fault Refusal :=
  let x := getChain g s
  .next (if chainUp g s ∨ x.wrapped ∨ !inMode mJOINED s ∨ !timerDone (s.join.wrapTimeout * 1000) x.wrapTicks then s
    else
      let s := forEach (x.fastq ++ x.normq) markWrapped (setChain g { x with wrapped := true, fastq := [], normq := [] } s)
      let y := getChain (1 - g) s
      let s := setChain (1 - g) { y with fastq := y.fastq ++ x.fastq, normq := y.normq ++ x.normq } s
      joinEvent 2 g (raise 210 g 0 (bump .RING_WRAP 0 s)))

/-- UNWRAP: the link has stayed up for 1 s. -/
def execUnwrap (g : Nat) (s : State) : Host.Outcome State Fault Refusal :=
  let x := getChain g s
  .next (if x.wrapped && chainUp g s then joinEvent 3 g (setChain g { x with wrapped := false } s) else s)

/-! What firmware does after a loss (R459, R469). -/

/-- FREE_BLOCK_PUSH: the free blocks of the addresses that the member now owns are pushed (R459). -/
def execFreeBlockPush (s : State) : Host.Outcome State Fault Refusal :=
  .next (forEach (s.svc.blocks.map (·.1)) unasideBlocks (setSvc { s.svc with blockMap := [] } s))

/-- Subscribers that have a valid directory entry and whose home moved to this member. -/
def movedSubs (s : State) : List Nat :=
  ((listedEntries (dirAddr 0) 32 8388608 s ++ s.svc.portLru).eraseDups.filter fun sub => dirValid (dirEnt sub s)).filter
    fun sub => rebound sub s

/-- The subscriber is bound to the fallback of its pool, with no block of its own. -/
def rebind (sub : Nat) (s : State) : State :=
  let e := dirEnt sub s
  let q := fld s.join.fallback (dirPool e) 1
  if q = 0xFF then s
  else svcStore (dirAddr sub) (dirWith (putF e 0 1 (putBits (fld e 0 1) 1 6 q)) []) (usePort sub (dirBlocks e) s)

/-- FALLBACK_REBIND: firmware has written the directory entries of the moved subscribers (R469), once the port cache has a place
for each (R166). -/
def execFallbackRebind (s : State) : Host.Outcome State Fault Refusal :=
  .next (if (movedSubs s).any fun sub => mustWait .port sub s then s
    else
    let s := forEach (movedSubs s) rebind s
    setJoin { s.join with moved := [] } s)

end Sys2Proof.Machine
end

