-- ==== Sys2Proof/Machine/Summary.lean ====
section
/-!
DEFINITION. SUMMARY: the self-describing state block (R418–R420).
-/
namespace Sys2Proof.Machine

/-! Sections (R419). -/

/-- Section 1, FIRMWARE. -/
def sumFirmware (s : State) : Bytes :=
  let f := s.fw
  propList [pNum "FW_VERSION" 4 f.fwVersion, pNum "SLOT" 1 (b2n f.slot), pNum "TRIAL" 1 (b2n f.trial),
    pNum "ROLLBACK" 1 f.rollback, pNum "IMG_ROLLBACK" 1 f.imgRollback, pStr "ROM_HASH" (fit 32 f.romHash),
    pStr "FW_HASH" (fit 32 f.fwHash), pStr "CFG_HASH" (fit 32 f.cfgHash), pCtr .CFG_COUNT s]

/-- Section 2, MAILBOX: 16 bytes for each. -/
def sumMailbox (s : State) : Bytes :=
  ((List.range 8).map fun m =>
    let b := getMbx (Fin.ofNat 8 m) s
    leBytes 4 b.lastSeq.toNat ++ leBytes 2 b.lastOp ++ leBytes 2 b.lastStatus ++ leBytes 1 (b2n b.busy) ++ zeros 7).flatten

/-- The next PROD number: those of the entries that still wait are counted in (R418, R420). -/
def nextProd (s : State) : Nat :=
  (s.host.evrProd.toNat + s.host.backlog.length + b2n s.host.resetEvent.isSome) % 2 ^ 32

/-- Section 3, EVENTS; the names are the model's (log 42). -/
def sumEvents (s : State) : Bytes :=
  let h := s.host
  let qs := (List.range 16).map fun q => getQ q s
  propList [pNum "EVR_BASE" 8 h.evrBase, pNum "EVR_SIZE" 1 h.evrLog2, pNum "EVR_PROD" 4 h.evrProd.toNat,
    pNum "EVR_CONS" 4 h.evrCons.toNat, pNum "BACKLOG" 8 h.backlog.length, pCtr .EVR_DROP s,
    pArr "DMA_HEAD" 4 (qs.map fun q => q.head.toNat), pArr "DMA_TAIL" 4 (qs.map fun q => q.tail.toNat),
    pArr "DMA_STATE" 8 (qs.map fun q => b2n q.enabled + 2 * b2n q.stopped)]

/-- A form-S response over records (R409). -/
def sumRecords (n : Nat) (f : Nat → Bytes) : Bytes := leBytes 4 n ++ zeros 4 ++ ((List.range n).map f).flatten

/-- Section 6, LANES: the 90 lanes in index order. -/
def sumLanes (s : State) : Bytes := sumRecords 90 fun ix => laneStatus s (laneIndex ix)

/-- Section 12, MACE. -/
def sumMace (s : State) : Bytes :=
  sumRecords 256 (sourceStatus s) ++ leBytes 8 s.mace.safe.toNat ++ leBytes 4 (macePins s) ++ zeros 4

/-- The sections in directory order. -/
def sumSections (s : State) : List Bytes :=
  [sumFirmware s, sumMailbox s, sumEvents s, epochStatus s, sumRecords 64 (fun p => portRec p s) ++ portStatusProps s 0 64,
   sumLanes s, tableStatusBody s ++ bufStatusBody s, propList (flowProps s) ++ propList (admitProps s) ++ propList (taskProps s),
   propList (gateParams s) ++ schedStatusBody s, timeStatusBody s, memStatusBody s, sumMace s, propList (safetyProps s),
   propList (spareProps s), propList (powerProps s), propList (joinProps s), impairProps s]

/-! The block (R418). -/

/-- Zeros up to an 8-byte boundary. -/
def pad8 (b : Bytes) : Bytes := b ++ zeros ((8 - b.length % 8) % 8)

/-- Directory entries of sections from number `k`, the first at offset `off`. -/
def sumDirectory : Nat → Nat → List Bytes → Bytes
  | _, _, [] => []
  | k, off, b :: bs =>
    leBytes 2 k ++ [1, 0] ++ leBytes 4 off ++ leBytes 4 b.length ++ sumDirectory (k + 1) (off + (pad8 b).length) bs

/-- The header with CRC taken as 0. -/
def sumHeader (sections total id : Nat) (s : State) : Bytes :=
  let a := leBytes 4 0x53554D31 ++ leBytes 2 1 ++ leBytes 2 sections ++ leBytes 4 total ++ leBytes 4 id ++ leBytes 8 (now302 s)
  let b := leBytes 4 (nextProd s) ++ leBytes 4 (nextProd s) ++ leBytes 2 (activeMode s).toNat ++
    leBytes 2 s.ep.shadowBank.mode.toNat
  a ++ b ++ zeros 28

/-- The whole block for a SNAP_ID. -/
def sumBlock (id : Nat) (s : State) : Bytes :=
  let bodies := sumSections s
  let top := (64 + 12 * bodies.length + 7) / 8 * 8
  let dir := fit (top - 64) (sumDirectory 1 top bodies)
  let rest := (bodies.map pad8).flatten
  let b := sumHeader bodies.length (top + rest.length) id s ++ dir ++ rest
  putF b 60 4 (crc32c b)

/-- A new snapshot is taken and kept (R420). -/
def takeSnapshot (s : State) : State :=
  let id := newSnapId s
  bump .SUMMARIES 0 (setHost { s.host with snapId := id, keptId := id, snap := sumBlock id s } s)

/-! Commands. -/

/-- Part of the kept snapshot. -/
def sumRead (off n rm : Nat) (s : State) : YRes :=
  { yRead (slice s.host.snap off (min (min n rm) 4064 |> min (s.host.snap.length - off))) s with
    more := decide (off + min (min n rm) 4064 < s.host.snap.length) }

/-- SUMMARY: OFFSET (4), SNAP_ID (4), MAXLEN (4), 0 (4); OFFSET 0 takes a new snapshot.  A read of another SNAP_ID than the kept
one's is stale whatever its OFFSET (R420). -/
def summaryH : YHandler := fun r b rm => formO 16 [(12, 4)] (fun b s =>
  let off := fld b 0 4
  if off = 0 then sumRead 0 (fld b 8 4) rm (takeSnapshot s)
  else
    need (!s.host.snap.isEmpty && fld b 4 4 == s.host.keptId) stSTALE_SNAPSHOT s <|
    need (decide (off ≤ s.host.snap.length)) stRANGE s <|
    sumRead off (fld b 8 4) rm s) r b rm

/-- SUMMARY (0x0101). -/
def execSummary (r : YcpReq) (s : State) : Host.Outcome State Fault Refusal := ycp 0x0101 r summaryH s

/-- SUM_CTRL_GO: a write of SUM_CTRL (R401). -/
def execSumCtrlGo (v : BitVec 32) (s : State) : Host.Outcome State Fault Refusal := .next (barWrite 0x00CC v.toNat s)

/-- The snapshot of the SUMMARY DMA: it is the kept one unless a mailbox has taken a later one since it began (R427). -/
def dmaSnapshot (s : State) : Bytes × State :=
  let blk := sumBlock s.host.sumId s
  let s := bump .SUMMARIES 0 s
  (blk, if s.host.snapId = s.host.sumId then setHost { s.host with keptId := s.host.sumId, snap := blk } s else s)

/-- SUMMARY_DMA_DONE: the block is collected, and `ok` says whether its DMA write succeeds; the collection is one step
(DESIGN CHOICE, log 55). -/
def execSummaryDmaDone (ok : Bool) (s : State) : Host.Outcome State Fault Refusal :=
  .next (if !s.host.sumBusy then s
    else
      let (blk, s) := dmaSnapshot s
      if ok then
        interrupt 26 (setHost { s.host with sumBusy := false, sumDone := true, sumSnapId := s.host.sumId % 65536 }
          (dmaWrite s.host.sumPtr blk s))
      else raise 196 0 0 (setHost { s.host with sumBusy := false, sumErr := true } s))

end Sys2Proof.Machine
end

