-- ==== Sys2Proof/Machine/Dispatch.lean ====
section
/-!
DEFINITION. The dispatch of a command to its meaning: one arm per constructor.
-/
namespace Sys2Proof.Machine

def exec (i : Instr) (s : State) : Host.Outcome State Fault Refusal :=
  match i with
  | .nop r => Sys2Proof.Machine.execNop r s
  | .summary r => Sys2Proof.Machine.execSummary r s
  | .modeSet r => Sys2Proof.Machine.execModeSet r s
  | .devInfo r => Sys2Proof.Machine.execDevInfo r s
  | .resetCold r => Sys2Proof.Machine.execResetCold r s
  | .resetWarm r => Sys2Proof.Machine.execResetWarm r s
  | .resetBlockMgmt r => Sys2Proof.Machine.execResetBlockMgmt r s
  | .resetBlockHost r => Sys2Proof.Machine.execResetBlockHost r s
  | .resetBlockAct r => Sys2Proof.Machine.execResetBlockAct r s
  | .resetBlockLaneGroup r => Sys2Proof.Machine.execResetBlockLaneGroup r s
  | .resetBlockPipeline r => Sys2Proof.Machine.execResetBlockPipeline r s
  | .counterRead r => Sys2Proof.Machine.execCounterRead r s
  | .spareStatus r => Sys2Proof.Machine.execSpareStatus r s
  | .sparePolicySet r => Sys2Proof.Machine.execSparePolicySet r s
  | .spareSwap r => Sys2Proof.Machine.execSpareSwap r s
  | .epochCommit r => Sys2Proof.Machine.execEpochCommit r s
  | .bankCopy r => Sys2Proof.Machine.execBankCopy r s
  | .epochStatus r => Sys2Proof.Machine.execEpochStatus r s
  | .dmaQueueSet r => Sys2Proof.Machine.execDmaQueueSet r s
  | .puntMapSet r => Sys2Proof.Machine.execPuntMapSet r s
  | .svcTableWrite r => Sys2Proof.Machine.execSvcTableWrite r s
  | .svcTableRead r => Sys2Proof.Machine.execSvcTableRead r s
  | .l2Write r => Sys2Proof.Machine.execL2Write r s
  | .l2WriteDelete r => Sys2Proof.Machine.execL2WriteDelete r s
  | .l2WriteSearch r => Sys2Proof.Machine.execL2WriteSearch r s
  | .l2Flush r => Sys2Proof.Machine.execL2Flush r s
  | .l2Config r => Sys2Proof.Machine.execL2Config r s
  | .camWrite r => Sys2Proof.Machine.execCamWrite r s
  | .camWriteDelete r => Sys2Proof.Machine.execCamWriteDelete r s
  | .camWriteRead r => Sys2Proof.Machine.execCamWriteRead r s
  | .camProfileSet r => Sys2Proof.Machine.execCamProfileSet r s
  | .camSearch r => Sys2Proof.Machine.execCamSearch r s
  | .subCtxWrite r => Sys2Proof.Machine.execSubCtxWrite r s
  | .subCtxRead r => Sys2Proof.Machine.execSubCtxRead r s
  | .tableStatus r => Sys2Proof.Machine.execTableStatus r s
  | .portConfig r => Sys2Proof.Machine.execPortConfig r s
  | .portStatus r => Sys2Proof.Machine.execPortStatus r s
  | .bufPoolSet r => Sys2Proof.Machine.execBufPoolSet r s
  | .bufClassSet r => Sys2Proof.Machine.execBufClassSet r s
  | .portBufSet r => Sys2Proof.Machine.execPortBufSet r s
  | .mcGroupSet r => Sys2Proof.Machine.execMcGroupSet r s
  | .mirrorSessionSet r => Sys2Proof.Machine.execMirrorSessionSet r s
  | .bufStatus r => Sys2Proof.Machine.execBufStatus r s
  | .queueStatus r => Sys2Proof.Machine.execQueueStatus r s
  | .flowTableInit r => Sys2Proof.Machine.execFlowTableInit r s
  | .flowTableStatus r => Sys2Proof.Machine.execFlowTableStatus r s
  | .flowProfileWrite r => Sys2Proof.Machine.execFlowProfileWrite r s
  | .flowLookup r => Sys2Proof.Machine.execFlowLookup r s
  | .flowDelete r => Sys2Proof.Machine.execFlowDelete r s
  | .flowAgeingSet r => Sys2Proof.Machine.execFlowAgeingSet r s
  | .flowMigrateStart r => Sys2Proof.Machine.execFlowMigrateStart r s
  | .flowMigrateResume r => Sys2Proof.Machine.execFlowMigrateResume r s
  | .flowMigrateRate r => Sys2Proof.Machine.execFlowMigrateRate r s
  | .hotBlockRetire r => Sys2Proof.Machine.execHotBlockRetire r s
  | .flowAdmitClassSet r => Sys2Proof.Machine.execFlowAdmitClassSet r s
  | .flowAdmitStatus r => Sys2Proof.Machine.execFlowAdmitStatus r s
  | .graphTemplateWrite r => Sys2Proof.Machine.execGraphTemplateWrite r s
  | .graphTemplateRead r => Sys2Proof.Machine.execGraphTemplateRead r s
  | .graphRun r => Sys2Proof.Machine.execGraphRun r s
  | .graphCancel r => Sys2Proof.Machine.execGraphCancel r s
  | .taskStatus r => Sys2Proof.Machine.execTaskStatus r s
  | .taskConfig r => Sys2Proof.Machine.execTaskConfig r s
  | .svcProfileSet r => Sys2Proof.Machine.execSvcProfileSet r s
  | .xlatPoolSet r => Sys2Proof.Machine.execXlatPoolSet r s
  | .xlatSubSet r => Sys2Proof.Machine.execXlatSubSet r s
  | .xlatSweepSet r => Sys2Proof.Machine.execXlatSweepSet r s
  | .lbBackendSet r => Sys2Proof.Machine.execLbBackendSet r s
  | .lbBuild r => Sys2Proof.Machine.execLbBuild r s
  | .lbTableWrite r => Sys2Proof.Machine.execLbTableWrite r s
  | .poolAudit r => Sys2Proof.Machine.execPoolAudit r s
  | .poolAuditRate r => Sys2Proof.Machine.execPoolAuditRate r s
  | .poolAuditStatus r => Sys2Proof.Machine.execPoolAuditStatus r s
  | .xlatQuery r => Sys2Proof.Machine.execXlatQuery r s
  | .ruleWrite r => Sys2Proof.Machine.execRuleWrite r s
  | .ruleRead r => Sys2Proof.Machine.execRuleRead r s
  | .ruleCounters r => Sys2Proof.Machine.execRuleCounters r s
  | .parseGraphWrite r => Sys2Proof.Machine.execParseGraphWrite r s
  | .parseProfileWrite r => Sys2Proof.Machine.execParseProfileWrite r s
  | .clsProfileWrite r => Sys2Proof.Machine.execClsProfileWrite r s
  | .meterSet r => Sys2Proof.Machine.execMeterSet r s
  | .flowMeterProfileSet r => Sys2Proof.Machine.execFlowMeterProfileSet r s
  | .schedElemSet r => Sys2Proof.Machine.execSchedElemSet r s
  | .schedElemRead r => Sys2Proof.Machine.execSchedElemRead r s
  | .shaperSet r => Sys2Proof.Machine.execShaperSet r s
  | .portSchedSet r => Sys2Proof.Machine.execPortSchedSet r s
  | .gateListWrite r => Sys2Proof.Machine.execGateListWrite r s
  | .gateListCommit r => Sys2Proof.Machine.execGateListCommit r s
  | .gateListAbort r => Sys2Proof.Machine.execGateListAbort r s
  | .gateStatus r => Sys2Proof.Machine.execGateStatus r s
  | .launchClassSet r => Sys2Proof.Machine.execLaunchClassSet r s
  | .sampleSet r => Sys2Proof.Machine.execSampleSet r s
  | .sampleRingSet r => Sys2Proof.Machine.execSampleRingSet r s
  | .sampleRingAck r => Sys2Proof.Machine.execSampleRingAck r s
  | .schedStatus r => Sys2Proof.Machine.execSchedStatus r s
  | .timeRegRead r => Sys2Proof.Machine.execTimeRegRead r s
  | .timeRegWrite r => Sys2Proof.Machine.execTimeRegWrite r s
  | .timeSnap r => Sys2Proof.Machine.execTimeSnap r s
  | .timeConfig r => Sys2Proof.Machine.execTimeConfig r s
  | .timeAdjustSet r => Sys2Proof.Machine.execTimeAdjustSet r s
  | .timeAdjustStep r => Sys2Proof.Machine.execTimeAdjustStep r s
  | .timeAdjustSlew r => Sys2Proof.Machine.execTimeAdjustSlew r s
  | .timeActiveSet r => Sys2Proof.Machine.execTimeActiveSet r s
  | .timeStatus r => Sys2Proof.Machine.execTimeStatus r s
  | .ptpPortSet r => Sys2Proof.Machine.execPtpPortSet r s
  | .ppsSet r => Sys2Proof.Machine.execPpsSet r s
  | .memStatus r => Sys2Proof.Machine.execMemStatus r s
  | .memMap r => Sys2Proof.Machine.execMemMap r s
  | .memPageSet r => Sys2Proof.Machine.execMemPageSet r s
  | .memQosSet r => Sys2Proof.Machine.execMemQosSet r s
  | .memTrain r => Sys2Proof.Machine.execMemTrain r s
  | .memFreqSet r => Sys2Proof.Machine.execMemFreqSet r s
  | .memRepair r => Sys2Proof.Machine.execMemRepair r s
  | .memAccess r => Sys2Proof.Machine.execMemAccess r s
  | .memAccessWrite r => Sys2Proof.Machine.execMemAccessWrite r s
  | .memCounters r => Sys2Proof.Machine.execMemCounters r s
  | .memScrubSet r => Sys2Proof.Machine.execMemScrubSet r s
  | .maceStatus r => Sys2Proof.Machine.execMaceStatus r s
  | .maceSet r => Sys2Proof.Machine.execMaceSet r s
  | .maceClear r => Sys2Proof.Machine.execMaceClear r s
  | .maceSafeClear r => Sys2Proof.Machine.execMaceSafeClear r s
  | .maceRaise r => Sys2Proof.Machine.execMaceRaise r s
  | .integInject r => Sys2Proof.Machine.execIntegInject r s
  | .cvuRegRead r => Sys2Proof.Machine.execCvuRegRead r s
  | .cvuRegWrite r => Sys2Proof.Machine.execCvuRegWrite r s
  | .cvuPreset r => Sys2Proof.Machine.execCvuPreset r s
  | .cvuStart r => Sys2Proof.Machine.execCvuStart r s
  | .safetyStatus r => Sys2Proof.Machine.execSafetyStatus r s
  | .laneConfig r => Sys2Proof.Machine.execLaneConfig r s
  | .laneStatus r => Sys2Proof.Machine.execLaneStatus r s
  | .lanePattern r => Sys2Proof.Machine.execLanePattern r s
  | .laneLoop r => Sys2Proof.Machine.execLaneLoop r s
  | .laneInject r => Sys2Proof.Machine.execLaneInject r s
  | .laneSwap r => Sys2Proof.Machine.execLaneSwap r s
  | .laneSwapRestore r => Sys2Proof.Machine.execLaneSwapRestore r s
  | .laneMap r => Sys2Proof.Machine.execLaneMap r s
  | .powerStatus r => Sys2Proof.Machine.execPowerStatus r s
  | .frugalSet r => Sys2Proof.Machine.execFrugalSet r s
  | .portSleepSet r => Sys2Proof.Machine.execPortSleepSet r s
  | .powerStandbyEnter r => Sys2Proof.Machine.execPowerStandbyEnter r s
  | .powerStandbyExit r => Sys2Proof.Machine.execPowerStandbyExit r s
  | .identity r => Sys2Proof.Machine.execIdentity r s
  | .attest r => Sys2Proof.Machine.execAttest r s
  | .fwStatus r => Sys2Proof.Machine.execFwStatus r s
  | .fwWrite r => Sys2Proof.Machine.execFwWrite r s
  | .fwVerify r => Sys2Proof.Machine.execFwVerify r s
  | .fwActivate r => Sys2Proof.Machine.execFwActivate r s
  | .fwConfirm r => Sys2Proof.Machine.execFwConfirm r s
  | .rollbackAdvance r => Sys2Proof.Machine.execRollbackAdvance r s
  | .telemRingSet r => Sys2Proof.Machine.execTelemRingSet r s
  | .telemRingAck r => Sys2Proof.Machine.execTelemRingAck r s
  | .svcCounterRead r => Sys2Proof.Machine.execSvcCounterRead r s
  | .traceSet r => Sys2Proof.Machine.execTraceSet r s
  | .traceStart r => Sys2Proof.Machine.execTraceStart r s
  | .traceStop r => Sys2Proof.Machine.execTraceStop r s
  | .traceClear r => Sys2Proof.Machine.execTraceClear r s
  | .traceRead r => Sys2Proof.Machine.execTraceRead r s
  | .traceMark r => Sys2Proof.Machine.execTraceMark r s
  | .counterCatalog r => Sys2Proof.Machine.execCounterCatalog r s
  | .traceStatus r => Sys2Proof.Machine.execTraceStatus r s
  | .impairSet r => Sys2Proof.Machine.execImpairSet r s
  | .impairRequest r => Sys2Proof.Machine.execImpairRequest r s
  | .impairConfirm r => Sys2Proof.Machine.execImpairConfirm r s
  | .impairDisarm r => Sys2Proof.Machine.execImpairDisarm r s
  | .impairStatus r => Sys2Proof.Machine.execImpairStatus r s
  | .joinConfigSet r => Sys2Proof.Machine.execJoinConfigSet r s
  | .joinConfigAdd r => Sys2Proof.Machine.execJoinConfigAdd r s
  | .joinConfigTimeouts r => Sys2Proof.Machine.execJoinConfigTimeouts r s
  | .joinStatus r => Sys2Proof.Machine.execJoinStatus r s
  | .ksFlowRead r => Sys2Proof.Machine.execKsFlowRead r s
  | .ksFlowDelete r => Sys2Proof.Machine.execKsFlowDelete r s
  | .ksFlowDump r => Sys2Proof.Machine.execKsFlowDump r s
  | .ksQosSet r => Sys2Proof.Machine.execKsQosSet r s
  | .ksQosGet r => Sys2Proof.Machine.execKsQosGet r s
  | .registerWrite off v => Sys2Proof.Machine.execRegisterWrite off v s
  | .sumCtrlGo v => Sys2Proof.Machine.execSumCtrlGo v s
  | .evrConsWrite v => Sys2Proof.Machine.execEvrConsWrite v s
  | .evrCtrlEnable v => Sys2Proof.Machine.execEvrCtrlEnable v s
  | .injTailWrite q v => Sys2Proof.Machine.execInjTailWrite q v s
  | .puntTailWrite q v => Sys2Proof.Machine.execPuntTailWrite q v s
  | .tcwRead v => Sys2Proof.Machine.execTcwRead v s
  | .tcwWrite v => Sys2Proof.Machine.execTcwWrite v s
  | .tcwDelete v => Sys2Proof.Machine.execTcwDelete v s
  | .tcwSearch v => Sys2Proof.Machine.execTcwSearch v s
  | .obsRead addr words => Sys2Proof.Machine.execObsRead addr words s
  | .obsStatus => Sys2Proof.Machine.execObsStatus s
  | .obsIdent => Sys2Proof.Machine.execObsIdent s
  | .aonPowerGood devid spiQuad testN => Sys2Proof.Machine.execAonPowerGood devid spiQuad testN s
  | .rstNAssert => Sys2Proof.Machine.execRstNAssert s
  | .rstNRelease => Sys2Proof.Machine.execRstNRelease s
  | .wrstNAssert => Sys2Proof.Machine.execWrstNAssert s
  | .wrstNRelease => Sys2Proof.Machine.execWrstNRelease s
  | .mainPgRise => Sys2Proof.Machine.execMainPgRise s
  | .mainPgFall => Sys2Proof.Machine.execMainPgFall s
  | .perstNAssert => Sys2Proof.Machine.execPerstNAssert s
  | .functionLevelReset => Sys2Proof.Machine.execFunctionLevelReset s
  | .pcieLinkDown => Sys2Proof.Machine.execPcieLinkDown s
  | .ppsInEdge sub => Sys2Proof.Machine.execPpsInEdge sub s
  | .ref10InQualified => Sys2Proof.Machine.execRef10InQualified s
  | .ref10InDisqualified => Sys2Proof.Machine.execRef10InDisqualified s
  | .clockMonitorCheck ref25 core clove hbm lanePll => Sys2Proof.Machine.execClockMonitorCheck ref25 core clove hbm lanePll s
  | .supplyOutOfRange rail => Sys2Proof.Machine.execSupplyOutOfRange rail s
  | .junctionTemperatureCross tenths => Sys2Proof.Machine.execJunctionTemperatureCross tenths s
  | .domainPowerGood dom late => Sys2Proof.Machine.execDomainPowerGood dom late s
  | .domainPowerFail dom up => Sys2Proof.Machine.execDomainPowerFail dom up s
  | .bootImageChecked => Sys2Proof.Machine.execBootImageChecked s
  | .fwInitDone => Sys2Proof.Machine.execFwInitDone s
  | .fullTrainingDone failed lanes => Sys2Proof.Machine.execFullTrainingDone failed lanes s
  | .startUpReady => Sys2Proof.Machine.execStartUpReady s
  | .warmQuiesceDone => Sys2Proof.Machine.execWarmQuiesceDone s
  | .warmQuiesceTimeout => Sys2Proof.Machine.execWarmQuiesceTimeout s
  | .frameReceive p data total => Sys2Proof.Machine.execFrameReceive p data total s
  | .pauseFrameReceive p mask quanta => Sys2Proof.Machine.execPauseFrameReceive p mask quanta s
  | .pauseQuantaExpiry p prio => Sys2Proof.Machine.execPauseQuantaExpiry p prio s
  | .pauseRepeat p prio => Sys2Proof.Machine.execPauseRepeat p prio s
  | .remoteFaultReceive link => Sys2Proof.Machine.execRemoteFaultReceive link s
  | .parserEntry p => Sys2Proof.Machine.execParserEntry p s
  | .frameEndCheck p rest => Sys2Proof.Machine.execFrameEndCheck p rest s
  | .admissionQueueStart pl => Sys2Proof.Machine.execAdmissionQueueStart pl s
  | .admissionQueueWaitExpiry pl index => Sys2Proof.Machine.execAdmissionQueueWaitExpiry pl index s
  | .bulkIndexReturn l => Sys2Proof.Machine.execBulkIndexReturn l s
  | .bulkRecordReturn l => Sys2Proof.Machine.execBulkRecordReturn l s
  | .squashRecordPlace l => Sys2Proof.Machine.execSquashRecordPlace l s
  | .undoApply l => Sys2Proof.Machine.execUndoApply l s
  | .subscriberContextReturn l => Sys2Proof.Machine.execSubscriberContextReturn l s
  | .confirm l => Sys2Proof.Machine.execConfirm l s
  | .rerunParserEntry pl => Sys2Proof.Machine.execRerunParserEntry pl s
  | .holdDeadlineExpiry l => Sys2Proof.Machine.execHoldDeadlineExpiry l s
  | .recirculationEntry pl => Sys2Proof.Machine.execRecirculationEntry pl s
  | .inboundMapReturn pl index => Sys2Proof.Machine.execInboundMapReturn pl index s
  | .inboundListWaitExpiry pl index => Sys2Proof.Machine.execInboundListWaitExpiry pl index s
  | .schedulerSelection p => Sys2Proof.Machine.execSchedulerSelection p s
  | .reorderRelease p => Sys2Proof.Machine.execReorderRelease p s
  | .agerVisit q => Sys2Proof.Machine.execAgerVisit q s
  | .parkTimerExpiry p => Sys2Proof.Machine.execParkTimerExpiry p s
  | .mcResidueRecheck => Sys2Proof.Machine.execMcResidueRecheck s
  | .reclaimScan => Sys2Proof.Machine.execReclaimScan s
  | .poolCellMove => Sys2Proof.Machine.execPoolCellMove s
  | .freeListRebuildDone => Sys2Proof.Machine.execFreeListRebuildDone s
  | .injectDescriptor q desc data => Sys2Proof.Machine.execInjectDescriptor q desc data s
  | .puntDelivery q entry ok => Sys2Proof.Machine.execPuntDelivery q entry ok s
  | .eventRingWrite => Sys2Proof.Machine.execEventRingWrite s
  | .summaryDmaDone ok => Sys2Proof.Machine.execSummaryDmaDone ok s
  | .taskDispatch => Sys2Proof.Machine.execTaskDispatch s
  | .hbmNodeCompletion c node => Sys2Proof.Machine.execHbmNodeCompletion c node s
  | .waitEventTimer c node => Sys2Proof.Machine.execWaitEventTimer c node s
  | .graphTimeout c => Sys2Proof.Machine.execGraphTimeout c s
  | .spillRingRefill level => Sys2Proof.Machine.execSpillRingRefill level s
  | .engineSelfTest engine ok => Sys2Proof.Machine.execEngineSelfTest engine ok s
  | .spareEngineJoin => Sys2Proof.Machine.execSpareEngineJoin s
  | .engineClockGate engine => Sys2Proof.Machine.execEngineClockGate engine s
  | .bulkSweepVisit => Sys2Proof.Machine.execBulkSweepVisit s
  | .hotSweepVisit => Sys2Proof.Machine.execHotSweepVisit s
  | .hotTierScrub bad lruBad => Sys2Proof.Machine.execHotTierScrub bad lruBad s
  | .hotBlockSetCopy => Sys2Proof.Machine.execHotBlockSetCopy s
  | .migrationFlush => Sys2Proof.Machine.execMigrationFlush s
  | .migrationCopyBucket => Sys2Proof.Machine.execMigrationCopyBucket s
  | .mapSweepVisit => Sys2Proof.Machine.execMapSweepVisit s
  | .counterFold => Sys2Proof.Machine.execCounterFold s
  | .poolAuditEnd => Sys2Proof.Machine.execPoolAuditEnd s
  | .freeBlockPush => Sys2Proof.Machine.execFreeBlockPush s
  | .learnApply => Sys2Proof.Machine.execLearnApply s
  | .l2AgeingVisit idx => Sys2Proof.Machine.execL2AgeingVisit idx s
  | .lookupTableScrub fail => Sys2Proof.Machine.execLookupTableScrub fail s
  | .tcamScrub fail => Sys2Proof.Machine.execTcamScrub fail s
  | .twinRepair b n => Sys2Proof.Machine.execTwinRepair b n s
  | .twinCopyDone => Sys2Proof.Machine.execTwinCopyDone s
  | .twinHalfClearDone => Sys2Proof.Machine.execTwinHalfClearDone s
  | .epochBankDrained => Sys2Proof.Machine.execEpochBankDrained s
  | .drainedCommitBoundary => Sys2Proof.Machine.execDrainedCommitBoundary s
  | .drainLimitExpiry => Sys2Proof.Machine.execDrainLimitExpiry s
  | .gateListStart p => Sys2Proof.Machine.execGateListStart p s
  | .gateEntryChange p => Sys2Proof.Machine.execGateEntryChange p s
  | .sampleInstant idx => Sys2Proof.Machine.execSampleInstant idx s
  | .schedulerScrub fail => Sys2Proof.Machine.execSchedulerScrub fail s
  | .aonTick domUpset maceUpset => Sys2Proof.Machine.execAonTick domUpset maceUpset s
  | .servoUpdate d offset => Sys2Proof.Machine.execServoUpdate d offset s
  | .syncWatchdogExpiry d => Sys2Proof.Machine.execSyncWatchdogExpiry d s
  | .switchover => Sys2Proof.Machine.execSwitchover s
  | .slewComplete => Sys2Proof.Machine.execSlewComplete s
  | .revertTimer => Sys2Proof.Machine.execRevertTimer s
  | .ppsOutEdge => Sys2Proof.Machine.execPpsOutEdge s
  | .rclkResume out => Sys2Proof.Machine.execRclkResume out s
  | .laneSignalDetected lane => Sys2Proof.Machine.execLaneSignalDetected lane s
  | .laneCdrLock lane => Sys2Proof.Machine.execLaneCdrLock lane s
  | .lanePolarityFound lane inverted => Sys2Proof.Machine.execLanePolarityFound lane inverted s
  | .laneEqConverged lane margin ctle dfe ffe => Sys2Proof.Machine.execLaneEqConverged lane margin ctle dfe ffe s
  | .laneOrderIdentified link perm => Sys2Proof.Machine.execLaneOrderIdentified link perm s
  | .fecAlignLock link => Sys2Proof.Machine.execFecAlignLock link s
  | .laneStageLimitExpiry lane => Sys2Proof.Machine.execLaneStageLimitExpiry lane s
  | .laneLossOfSignal lane => Sys2Proof.Machine.execLaneLossOfSignal lane s
  | .laneCdrLoss lane => Sys2Proof.Machine.execLaneCdrLoss lane s
  | .fecLockLoss link => Sys2Proof.Machine.execFecLockLoss link s
  | .uncorrWindowEnd p cw corr uncorr => Sys2Proof.Machine.execUncorrWindowEnd p cw corr uncorr s
  | .retrainGapExpiry link => Sys2Proof.Machine.execRetrainGapExpiry link s
  | .retrainAttemptEnd link ok => Sys2Proof.Machine.execRetrainAttemptEnd link ok s
  | .marginMeasurement lane margin corr syms => Sys2Proof.Machine.execMarginMeasurement lane margin corr syms s
  | .steeringBlockReceive g blk => Sys2Proof.Machine.execSteeringBlockReceive g blk s
  | .swapAckTimeout g => Sys2Proof.Machine.execSwapAckTimeout g s
  | .swapAdaptationDone g => Sys2Proof.Machine.execSwapAdaptationDone g s
  | .spareReady g margin ctle dfe ffe => Sys2Proof.Machine.execSpareReady g margin ctle dfe ffe s
  | .spareTrainTimeout lane => Sys2Proof.Machine.execSpareTrainTimeout lane s
  | .lanePllLoss g pll => Sys2Proof.Machine.execLanePllLoss g pll s
  | .hbmIssueSlot pc => Sys2Proof.Machine.execHbmIssueSlot pc s
  | .hbmRefreshSlot pc => Sys2Proof.Machine.execHbmRefreshSlot pc s
  | .hbmWriteAccept pc => Sys2Proof.Machine.execHbmWriteAccept pc s
  | .hbmReadReturn pc => Sys2Proof.Machine.execHbmReadReturn pc s
  | .hbmReadRetry pc => Sys2Proof.Machine.execHbmReadRetry pc s
  | .retrainingVisit pc margins => Sys2Proof.Machine.execRetrainingVisit pc margins s
  | .pcMigrationCopy stack => Sys2Proof.Machine.execPcMigrationCopy stack s
  | .pcRemap stack => Sys2Proof.Machine.execPcRemap stack s
  | .temperaturePoll stack reading => Sys2Proof.Machine.execTemperaturePoll stack reading s
  | .patrolScrub => Sys2Proof.Machine.execPatrolScrub s
  | .frequencyChangeDone failed lanes => Sys2Proof.Machine.execFrequencyChangeDone failed lanes s
  | .maceEvent => Sys2Proof.Machine.execMaceEvent s
  | .maceSubwindowRoll src => Sys2Proof.Machine.execMaceSubwindowRoll src s
  | .pipelineSwapDone => Sys2Proof.Machine.execPipelineSwapDone s
  | .tcamBlockSwapDone => Sys2Proof.Machine.execTcamBlockSwapDone s
  | .sramRowReplaceDone => Sys2Proof.Machine.execSramRowReplaceDone s
  | .sentinelRun pl ok => Sys2Proof.Machine.execSentinelRun pl ok s
  | .cvuStreamDone u data => Sys2Proof.Machine.execCvuStreamDone u data s
  | .portQuietEnter p => Sys2Proof.Machine.execPortQuietEnter p s
  | .portDozeEnter p => Sys2Proof.Machine.execPortDozeEnter p s
  | .portWake p => Sys2Proof.Machine.execPortWake p s
  | .dozeWakeTimeout p => Sys2Proof.Machine.execDozeWakeTimeout p s
  | .pipelineClockGate pl half => Sys2Proof.Machine.execPipelineClockGate pl half s
  | .pipeDomainPowerGate dom => Sys2Proof.Machine.execPipeDomainPowerGate dom s
  | .standbyEntered => Sys2Proof.Machine.execStandbyEntered s
  | .standbyExitDone failed lanes => Sys2Proof.Machine.execStandbyExitDone failed lanes s
  | .wearSample ro => Sys2Proof.Machine.execWearSample ro s
  | .sparePolicyEvaluation => Sys2Proof.Machine.execSparePolicyEvaluation s
  | .spareWindowOpen => Sys2Proof.Machine.execSpareWindowOpen s
  | .traceRecordWrite => Sys2Proof.Machine.execTraceRecordWrite s
  | .impairArmTimeExpiry p => Sys2Proof.Machine.execImpairArmTimeExpiry p s
  | .impairTokenExpiry => Sys2Proof.Machine.execImpairTokenExpiry s
  | .chainBlockReceive g blk bad => Sys2Proof.Machine.execChainBlockReceive g blk bad s
  | .chainRetransmitExhausted g => Sys2Proof.Machine.execChainRetransmitExhausted g s
  | .controlFrameSend => Sys2Proof.Machine.execControlFrameSend s
  | .controlFrameReceive g => Sys2Proof.Machine.execControlFrameReceive g s
  | .flowFrameArrival g => Sys2Proof.Machine.execFlowFrameArrival g s
  | .resultFrameArrival g => Sys2Proof.Machine.execResultFrameArrival g s
  | .wrapTimeoutExpiry g => Sys2Proof.Machine.execWrapTimeoutExpiry g s
  | .unwrap g => Sys2Proof.Machine.execUnwrap g s
  | .memberTimeoutExpiry m => Sys2Proof.Machine.execMemberTimeoutExpiry m s
  | .fallbackRebind => Sys2Proof.Machine.execFallbackRebind s
  | .devHeartbeat => Sys2Proof.Machine.execDevHeartbeat s
  | .cloveHeartbeatTimeout => Sys2Proof.Machine.execCloveHeartbeatTimeout s
  | .unknownOp op r => Sys2Proof.Machine.execUnknownOp op r s
  | .doorbellWhileBusy mbx => Sys2Proof.Machine.execDoorbellWhileBusy mbx s
  | .tcwInvalidOp v => Sys2Proof.Machine.execTcwInvalidOp v s
  | .obsBadCmd b => Sys2Proof.Machine.execObsBadCmd b s
  | .firmwareAssertion => Sys2Proof.Machine.execFirmwareAssertion s
  | .pcieLinkUp => Sys2Proof.Machine.execPcieLinkUp s
  | .perstNRelease => Sys2Proof.Machine.execPerstNRelease s
  | .prbsCheckerLock lane => Sys2Proof.Machine.execPrbsCheckerLock lane s
  | .prbsCheckerLossOfLock lane nbits errs => Sys2Proof.Machine.execPrbsCheckerLossOfLock lane nbits errs s
  | .ptpMasterChange d => Sys2Proof.Machine.execPtpMasterChange d s
  | .ppsOutPulseEnd => Sys2Proof.Machine.execPpsOutPulseEnd s
  | .poolAuditWalk n => Sys2Proof.Machine.execPoolAuditWalk n s
  | .jtagAccess ir => Sys2Proof.Machine.execJtagAccess ir s
  | .persistentFailureColdReset => Sys2Proof.Machine.execPersistentFailureColdReset s
  | .evrInterruptModeration => Sys2Proof.Machine.execEvrInterruptModeration s

end Sys2Proof.Machine
end

