-- ==== Sys2Proof/Machine/Step.lean ====
section
/-!
DEFINITION. The step of the block: it takes the command at the front of the queue and runs it.
-/
namespace Sys2Proof.Machine

/-- One step: the command at the front of `pending`, run on the state with the rest of the queue.  On an empty queue Clove takes
the request whose turn it is (R404; DESIGN CHOICE, log 12), and without one the block idles (DESIGN CHOICE, log 1). -/
def step (s : State) : Host.Outcome State Fault Refusal :=
  match s.pending with
  | [] =>
    match nextRequest s with
    | some (i, t) => exec i t
    | none => .next s
  | i :: rest => exec i { s with pending := rest }

/-- The command that a word spells, put at the front of the queue.  The table of operations and events gives no row any
bits, so no word spells a command and the state stands (log 1). -/
def State.withFetchWord (s : State) (nbits w : Nat) : State :=
  match decodeTableWord nbits w with
  | some i => { s with pending := i :: s.pending }
  | none => s

end Sys2Proof.Machine
end

