-- ==== Sys2Proof/Safety.lean ====
section
/-!
DEFINITION. The terms the statements use: canonical memories, what reporting leaves alone, a request that is taken, and
the response that completes it.
-/
namespace Sys2Proof.Machine

/-- The memories of the device are in canonical form: HBM (R342) and flash (R421). -/
def State.memOk (s : State) : Bool := memWf s.hbm.mem && memWf s.fw.flash

/-- The invariant of every step: HBM (R342) and flash (R421) are in canonical form, and so are the CAM of the MAC table (R220),
its direct entries (R212) and the queues of the buffer (R248), so that equal contents are equal data. -/
abbrev State.Sound (s : State) : Prop :=
  s.memOk = true ∧ twf (zeros 32) s.look.cam = true ∧ twf (zeros 16) s.look.l2 = true ∧
  twf ({} : QueueSt) s.buf.queue = true

/-- Counters that reporting advances: commands, errors and replays by mailbox, commands of CFG_HASH, events and trace
records lost (R8, R405, R414, R423, R504). -/
def reportCtrs : List Ctr := [.MBX_CMDS, .MBX_ERRORS, .MBX_REPLAYS, .CFG_COUNT, .EVR_DROP, .TRC_LOST]

/-- `t` is `u` but for what reporting writes: host memory and vectors (R400), the event ring and its backlog (R414), faults
on their way to Mace (R378), the trace FIFO (R504) and the counters of all these. -/
structure Reports (u t : State) : Prop where
  pending : t.pending = u.pending
  fresh : t.fresh = u.fresh
  pins : t.pins = u.pins
  fw : t.fw = u.fw
  ep : t.ep = u.ep
  time : t.time = u.time
  pwr : t.pwr = u.pwr
  sched : t.sched = u.sched
  buf : t.buf = u.buf
  lanes : t.lanes = u.lanes
  spare : t.spare = u.spare
  hbm : t.hbm = u.hbm
  join : t.join = u.join
  look : t.look = u.look
  flow : t.flow = u.flow
  task : t.task = u.task
  svc : t.svc = u.svc
  mace : t.mace = { u.mace with inflight := t.mace.inflight }
  obs : t.obs = { u.obs with fifo := t.obs.fifo, lossPosted := t.obs.lossPosted }
  host : t.host = { u.host with dmaOut := t.host.dmaOut, pba := t.host.pba, modRunning := t.host.modRunning,
                                modPending := t.host.modPending, evrProd := t.host.evrProd,
                                backlog := t.host.backlog, ovfDropped := t.host.ovfDropped, mbx := t.host.mbx }
  mbx : ∀ m, getMbx m t = getMbx m u
  ctr : ∀ c i, c ∉ reportCtrs → getCtr c i t = getCtr c i u

/-- A YCP request that its mailbox and Clove take and whose header and form are right (R403–R408): inline, or by DMA. -/
structure Accepted (op : Nat) (r : YcpReq) (s : State) : Prop where
  served : served r s = true
  rom : s.host.stage = stageRECOVERY → op ∈ romOps
  busy : (getMbx r.mbx s).busy = false
  lost : (getMbx r.mbx s).lost = false
  bell : r.doorbell = r.seq
  seq : r.seq ≠ (getMbx r.mbx s).lastSeq
  turn : executing s < 4 ∧ s.host.waiting = []
  flags : r.flags.toNat < 4
  reserved : r.rsv6 = 0 ∧ r.rsv20 = 0 ∧ r.rsv24 = 0
  inline : isDma r = false → r.length.toNat ≤ 4064
  byDma : isDma r = true → (slice r.body 24 8).all (· == 0) = true ∧ r.length = 32 ∧ reqLen r ≤ 16777216 ∧
    r.dmaData.isSome = true ∧ r.dmaWriteOk = true

/-- The state in which a command's effect `u` and its response stand: DONE, LAST_SEQ and the stored response (R403, R405),
the header and body over the request (R407), and CFG_HASH for a configuration command (R423). -/
def answered (op : Nat) (r : YcpReq) (status detail : Nat) (body : Bytes) (more cfg : Bool) (u : State) : State :=
  let hdr := respHeader op r status body.length detail false more u.ep.epoch
  setMbx r.mbx
    { getMbx r.mbx u with
      lastSeq := r.seq, lastOp := op, lastStatus := status, stored := body, lastDetail := detail, lastMore := more, lastEpoch := u.ep.epoch,
      busy := false, done := true, running := none, buf := if isDma r then hdr else hdr ++ body }
    { u with fw := { u.fw with
        cfgHash := if cfg then sha256 (u.fw.cfgHash ++ reqHeader20 op r ++ reqBody r) else u.fw.cfgHash } }

/-- The command completes with OK: a configuration command whose effect is `u`. -/
def Does (op : Nat) (r : YcpReq) (body : Bytes) (u : State) (o : Host.Outcome State Fault Refusal) : Prop :=
  ∃ t, o = .next t ∧ Reports (answered op r stOK 0 body false true u) t

/-- The command completes with OK: it reads, and its effect on the device is `u`. -/
def Answers (op : Nat) (r : YcpReq) (body : Bytes) (more : Bool) (u : State) (o : Host.Outcome State Fault Refusal) : Prop :=
  ∃ t, o = .next t ∧ Reports (answered op r stOK 0 body more false u) t

/-- The command completes with a failure at record `detail` and changes nothing (R408). -/
def Fails (op : Nat) (r : YcpReq) (status detail : Nat) (s : State) (o : Host.Outcome State Fault Refusal) : Prop :=
  ∃ t, o = .next t ∧ Reports (answered op r status detail [] false false s) t

/-- The command has its effect `u` and goes on executing: its mailbox stays BUSY (R404). -/
def Waits (op : Nat) (r : YcpReq) (u : State) (o : Host.Outcome State Fault Refusal) : Prop :=
  o = .next (setMbx r.mbx { getMbx r.mbx u with busy := true, running := some (op, r) } u)

/-- The command completes with OK, its response is sent, and then `k` happens (R413, RESET). -/
def Restarts (op : Nat) (r : YcpReq) (k : State → State) (s : State) (o : Host.Outcome State Fault Refusal) : Prop :=
  ∃ u, Reports (answered op r stOK 0 [] false true s) u ∧ o = .next (k u)

/-- A command of the table window ends (R224, R225): RESULT, one more in DONE_SEQ, OVR as it was, and the index and the entry
image where it returns them; `u` is its effect on the tables.  The window stays BUSY for a free time, at most 2 AON ticks (R226;
log 12). -/
def WindowEnds (code : Nat) (d : Option (Nat × Bytes)) (u t : State) : Prop :=
  t = { u with fresh := t.fresh, host := { u.host with tcw := t.host.tcw, tcwStatus := t.host.tcwStatus,
                                                       tcwLeft := t.host.tcwLeft } } ∧
  t.host.tcwLeft < 3 ∧
  t.host.tcwStatus = 2 * code + 16 * bits u.host.tcwStatus 4 1 + 65536 * ((bits u.host.tcwStatus 16 16 + 1) % 65536) ∧
  (d = none → t.host.tcw = u.host.tcw) ∧
  (∀ x, d = some x → tcwIndex t = x.1 % 2 ^ 18 ∧ tcwData t = fit 32 x.2)

/-- The body of a form-L request (R409). -/
def listBody (items : List (Nat × Bytes)) : Bytes :=
  leBytes 4 items.length ++ zeros 4 ++ (items.map fun p => leBytes 4 p.1 ++ p.2).flatten

/-- The body of a form-S request (R409). -/
def selBody (first count sel : Nat) : Bytes := leBytes 4 first ++ leBytes 4 count ++ leBytes 4 sel ++ zeros 4

/-- A form-L request (R409): each item's record has the size that its INDEX selects and passes the checks of the command. -/
structure Records (r : YcpReq) (items : List (Nat × Bytes)) (size : Nat → Nat) (chk : State → Nat → Bytes → Nat)
    (s : State) : Prop where
  body : reqBody r = listBody items
  count : items.length < 2 ^ 32
  each : ∀ p ∈ items, p.1 < 2 ^ 32 ∧ p.2.length = size p.1 ∧ chk s p.1 p.2 = stOK

/-- The record that a list leaves at an INDEX: the last one it gives (R409). -/
def lastFor (items : List (Nat × Bytes)) (i : Nat) : Option Bytes := ((items.filter fun p => p.1 == i).map (·.2)).getLast?

/-- `new` is `old` with every record of the list stored at its INDEX; `d` is what an unlisted INDEX reads as. -/
def Stored (d : Nat → Bytes) (old new : Tbl Bytes) (items : List (Nat × Bytes)) : Prop :=
  ∀ i, tget (d i) new i = (lastFor items i).getD (tget (d i) old i)

/-- `new` is `old` with the mark of every listed INDEX cleared. -/
def Unmarked (key : Nat → Nat) (old new : Tbl Nat) (items : List (Nat × Bytes)) : Prop :=
  ∀ k, tget 0 new k = if k ∈ items.map (fun p => key p.1) then 0 else tget 0 old k

/-- A form-S request (R409) is answered with whole records in ascending index, up to COUNT and as many as fit, and MORE when
the table holds further ones; `u n` is the effect of answering `n` records. -/
def SelectsInto (op total size : Nat) (rec : Nat → Bytes) (r : YcpReq) (first count : Nat) (u : Nat → State)
    (o : Host.Outcome State Fault Refusal) : Prop :=
  let n := min (min count (total - first)) ((room r - 8) / size)
  Answers op r (leBytes 4 n ++ zeros 4 ++ ((List.range n).map fun k => fit size (rec (first + k))).flatten)
    (decide (n < count ∧ first + n < total)) (u n) o

/-- A form-S request that changes nothing but its mailbox. -/
def Selects (op total size : Nat) (rec : Nat → Bytes) (r : YcpReq) (first count : Nat) (s : State)
    (o : Host.Outcome State Fault Refusal) : Prop := SelectsInto op total size rec r first count (fun _ => s) o

/-- Only lane `ix` changes, to `x`, but for what reporting writes. -/
def LaneOnly (ix : Nat) (x : Lane) (s : State) (o : Host.Outcome State Fault Refusal) : Prop :=
  ∃ t, o = .next t ∧ Reports { s with lanes := { s.lanes with lane := t.lanes.lane } } t ∧ getLane ix t = x ∧
    ∀ i, i ≠ ix → getLane i t = getLane i s

end Sys2Proof.Machine
end

