-- ==== Sys2Proof/Certificates/Slice0/Obligations.lean ====
section
/-!
DEFINITION. The statements for the provers.
-/

open Sys2Proof Sys2Proof.Machine in
/-- What the rules say of reset: no port is enabled (R319), every lane is OFF and the maps are straight (R316, R323), the spare
PC of each stack is its last (R341), MARGIN_FLOOR 15, SCRUB_PERIOD 24 (R358, R361), the timeouts of the ring (R454), the
trace idle and OBS_STATUS 0 (R497, R503), IDLE_CLK 24 (R348), no unit armed, and an empty queue of commands. -/
def Obligations.ResetState : Prop :=
  State.reset.pending = [] ∧ State.reset.ctr = [] ∧
  (∀ p, portEnabled p State.reset = false) ∧ (∀ x, (getLane x State.reset).st = 0) ∧
  (∀ g k, physOf g k State.reset = k) ∧
  (∀ i, i < 128 → (getPc i State.reset).st = if i % 32 = 31 then .spare else .active) ∧
  (∀ i, (getPc i State.reset).idleClk = 24) ∧ State.reset.hbm.floor = 15 ∧ State.reset.hbm.scrubHours = 24 ∧
  State.reset.hbm.rate = 0 ∧ State.reset.join.wrapTimeout = 200 ∧ State.reset.join.memberTimeout = 1000 ∧
  State.reset.obs.trc = .idle ∧ obsStatus State.reset.obs = 0 ∧ (∀ p, (impUnit p State.reset).armed = false)

open Sys2Proof Sys2Proof.Machine in
/-- The state after reset meets the invariant that every step keeps. -/
def Obligations.ResetIsSound : Prop :=
  State.reset.Sound

open Sys2Proof Sys2Proof.Machine in
/-- Every step keeps the canonical form of HBM (R342), of flash (R421), of the MAC table's CAM (R220), of the queues of the
buffer (R248) and of the direct L2 entries (R212), whatever command is in front. -/
def Obligations.StepsKeepTheStateSound : Prop :=
  ∀ s s' : State, s.Sound → step s = .next s' → s'.Sound

open Sys2Proof Sys2Proof.Machine in
/-- What no command undoes: the anti-rollback count never falls (R422), and the record of swaps only grows at its end (R488);
each command takes exactly itself off the queue. -/
def Obligations.WhatNoStepUndoes : Prop :=
  ∀ s s' : State, step s = .next s' →
    s.fw.rollback ≤ s'.fw.rollback ∧ s.spare.otpLog <+: s'.spare.otpLog ∧
    s'.pending = s.pending.tail

open Sys2Proof Sys2Proof.Machine in
/-- The P-form status commands of R412 and of the later groups: an empty request is answered with the property list or the
body of the command, and nothing else changes. -/
def Obligations.StatusCommandsAnswer : Prop :=
  (∀ (r : YcpReq) (s : State), Accepted 0x0104 r s → reqBody r = [] → (devInfoBody s).length ≤ room r →
    Answers 0x0104 r (devInfoBody s) false s (exec (.devInfo r) s)) ∧
  (∀ (r : YcpReq) (s : State), Accepted 0x0112 r s → reqBody r = [] → (epochStatus s).length ≤ room r →
    Answers 0x0112 r (epochStatus s) false s (exec (.epochStatus r) s)) ∧
  (∀ (r : YcpReq) (s : State), Accepted 0x020B r s → reqBody r = [] → (tableStatusBody s).length ≤ room r →
    Answers 0x020B r (tableStatusBody s) false s (exec (.tableStatus r) s)) ∧
  (∀ (r : YcpReq) (s : State), Accepted 0x0316 r s → reqBody r = [] → (bufStatusBody s).length ≤ room r →
    Answers 0x0316 r (bufStatusBody s) false s (exec (.bufStatus r) s)) ∧
  (∀ (r : YcpReq) (s : State), Accepted 0x0402 r s → reqBody r = [] → (propList (flowProps s)).length ≤ room r →
    Answers 0x0402 r (propList (flowProps s)) false s (exec (.flowTableStatus r) s)) ∧
  (∀ (r : YcpReq) (s : State), Accepted 0x040A r s → reqBody r = [] → (propList (admitProps s)).length ≤ room r →
    Answers 0x040A r (propList (admitProps s)) false s (exec (.flowAdmitStatus r) s)) ∧
  (∀ (r : YcpReq) (s : State), Accepted 0x0414 r s → reqBody r = [] → (propList (taskProps s)).length ≤ room r →
    Answers 0x0414 r (propList (taskProps s)) false s (exec (.taskStatus r) s)) ∧
  (∀ (r : YcpReq) (s : State), Accepted 0x0607 r s → reqBody r = [] → (gateStatusBody s).length ≤ room r →
    Answers 0x0607 r (gateStatusBody s) false s (exec (.gateStatus r) s)) ∧
  (∀ (r : YcpReq) (s : State), Accepted 0x060C r s → reqBody r = [] → (schedStatusBody s).length ≤ room r →
    Answers 0x060C r (schedStatusBody s) false s (exec (.schedStatus r) s)) ∧
  (∀ (r : YcpReq) (s : State), Accepted 0x0706 r s → reqBody r = [] → (timeStatusBody s).length ≤ room r →
    Answers 0x0706 r (timeStatusBody s) false s (exec (.timeStatus r) s)) ∧
  (∀ (r : YcpReq) (s : State), Accepted 0x0801 r s → reqBody r = [] → (memStatusBody s).length ≤ room r →
    Answers 0x0801 r (memStatusBody s) false s (exec (.memStatus r) s)) ∧
  (∀ (r : YcpReq) (s : State), Accepted 0x090A r s → reqBody r = [] → (propList (safetyProps s)).length ≤ room r →
    Answers 0x090A r (propList (safetyProps s)) false s (exec (.safetyStatus r) s)) ∧
  (∀ (r : YcpReq) (s : State), Accepted 0x0B01 r s → reqBody r = [] → (propList (powerProps s)).length ≤ room r →
    Answers 0x0B01 r (propList (powerProps s)) false s (exec (.powerStatus r) s)) ∧
  (∀ (r : YcpReq) (s : State), Accepted 0x0C03 r s → reqBody r = [] → (fwStatusBody s).length ≤ room r →
    Answers 0x0C03 r (fwStatusBody s) false s (exec (.fwStatus r) s)) ∧
  (∀ (r : YcpReq) (s : State), Accepted 0x0107 r s → reqBody r = [] → (propList (spareProps s)).length ≤ room r →
    Answers 0x0107 r (propList (spareProps s)) false s (exec (.spareStatus r) s)) ∧
  (∀ (r : YcpReq) (s : State), Accepted 0x0E02 r s → reqBody r = [] → (propList (joinProps s)).length ≤ room r →
    Answers 0x0E02 r (propList (joinProps s)) false s (exec (.joinStatus r) s)) ∧
  (∀ (r : YcpReq) (s : State), Accepted 0x0D32 r s → reqBody r = [] → (impairProps s).length ≤ room r →
    Answers 0x0D32 r (impairProps s) false s (exec (.impairStatus r) s)) ∧
  (∀ (r : YcpReq) (s : State), Accepted 0x0D25 r s → reqBody r = [] → (traceStatus s).length ≤ room r →
    Answers 0x0D25 r (traceStatus s) false s (exec (.traceStatus r) s)) ∧
  (∀ (r : YcpReq) (s : State), Accepted 0x0A08 r s → reqBody r = [] → 80 ≤ room r →
    Answers 0x0A08 r ((List.range 80).map fun i => leBytes 1 (physOf (i / 8) (i % 8) s)).flatten false s (exec (.laneMap r) s))

open Sys2Proof Sys2Proof.Machine in
/-- R409: a form-S response holds whole records in ascending index, up to COUNT and as many as fit; MORE tells of further
ones; nothing else changes but the upper halves that a register read latches (R12). The record layouts that a chapter does not give are the model's (logs 25, 28, 31). -/
def Obligations.SelectionsAnswerRecords : Prop :=
  (∀ (r : YcpReq) (s : State) (first count : Nat), Accepted 0x0202 r s → reqBody r = selBody first count 0 →
    first < 262144 → count < 2 ^ 32 → 32 ≤ room r →
    Selects 0x0202 262144 24 (fun k => svcEntry k s) r first count s (exec (.svcTableRead r) s)) ∧
  (∀ (r : YcpReq) (s : State) (first count sel : Nat), Accepted 0x0502 r s → reqBody r = selBody first count sel →
    first < 65536 → count < 2 ^ 32 → sel < 2 → 184 ≤ room r →
    Selects 0x0502 65536 176 (fun k => bankRule (s.ep.bank (sel == 1)) k) r first count s (exec (.ruleRead r) s)) ∧
  (∀ (r : YcpReq) (s : State) (first count sel : Nat), Accepted 0x0503 r s → reqBody r = selBody first count sel →
    first < 65536 → count < 2 ^ 32 → sel < 2 → 24 ≤ room r →
    Selects 0x0503 65536 16 (fun k => leBytes 8 (getCtr .RULE_PKTS (65536 * sel + k) s) ++ leBytes 8 (getCtr .RULE_BYTES (65536 * sel + k) s)) r first count s (exec (.ruleCounters r) s)) ∧
  (∀ (r : YcpReq) (s : State) (first count sel : Nat), Accepted 0x0411 r s → reqBody r = selBody first count sel →
    first < 1024 → count < 2 ^ 32 → sel < 2 → 552 ≤ room r →
    Selects 0x0411 1024 544 (fun k => tplRec (sel == 1) k s) r first count s (exec (.graphTemplateRead r) s)) ∧
  (∀ (r : YcpReq) (s : State) (first count : Nat), Accepted 0x0317 r s → reqBody r = selBody first count 0 →
    first < 132096 → count < 2 ^ 32 → 32 ≤ room r →
    Selects 0x0317 132096 24 (queueStatus s) r first count s (exec (.queueStatus r) s)) ∧
  (∀ (r : YcpReq) (s : State) (first count : Nat), Accepted 0x0602 r s → reqBody r = selBody first count 0 →
    first < 528384 → count < 2 ^ 32 → 40 ≤ room r →
    Selects 0x0602 528384 32 (elemRead s) r first count s (exec (.schedElemRead r) s)) ∧
  (∀ (r : YcpReq) (s : State) (first count : Nat), Accepted 0x0701 r s → reqBody r = selBody first count 0 →
    first < 96 → count < 2 ^ 32 → 12 ≤ room r →
    SelectsInto 0x0701 96 4 (fun k => leBytes 4 (latchedReg s.time.hiLatch (timeWord s) first k)) r first count
      (fun n => { s with time := { s.time with hiLatch := latchAfter timeIsLo (timeWord s) first n s.time.hiLatch } })
      (exec (.timeRegRead r) s)) ∧
  (∀ (r : YcpReq) (s : State) (first count : Nat), Accepted 0x0907 r s → reqBody r = selBody first count 0 →
    first < 512 → count < 2 ^ 32 → 12 ≤ room r →
    SelectsInto 0x0907 512 4 (fun k => leBytes 4 (latchedReg s.mace.cvuLatch (cvuWord s) first k)) r first count
      (fun n => { s with mace := { s.mace with cvuLatch := latchAfter cvuIsLo (cvuWord s) first n s.mace.cvuLatch } })
      (exec (.cvuRegRead r) s)) ∧
  (∀ (latch : Tbl Nat) (val : Nat → Nat) (first k : Nat), (k ≠ first ∨ tget? latch k = none → latchedReg latch val first k = val k) ∧
    (∀ v, tget? latch first = some v → latchedReg latch val first first = v)) ∧
  (∀ (isLo : Nat → Bool) (val : Nat → Nat) (first n j : Nat) (latch : Tbl Nat), isLo (j + 1) = false →
    (first ≤ j → j + 1 = first + n → isLo j = true →
      tget? (latchAfter isLo val first n latch) (j + 1) = some (val (j + 1))) ∧
    (first ≤ j + 1 → j + 1 < first + n → tget? (latchAfter isLo val first n latch) (j + 1) = none) ∧
    (j + 1 < first ∨ first + n < j + 1 → tget? (latchAfter isLo val first n latch) (j + 1) = tget? latch (j + 1))) ∧
  (∀ (s : State) (k : Nat), timeWord s k = (timeReg s.time (4 * k)).getD 0 ∧ cvuWord s k = cvuReg (k / 16) (k % 16 * 4) s) ∧
  (∀ (r : YcpReq) (s : State) (first count : Nat), Accepted 0x0A03 r s → reqBody r = selBody first count 0 →
    first < 160 → count < 2 ^ 32 → 40 ≤ room r →
    Selects 0x0A03 160 32 (laneStatus s) r first count s (exec (.laneStatus r) s)) ∧
  (∀ (r : YcpReq) (s : State) (first count : Nat), Accepted 0x0809 r s → reqBody r = selBody first count 0 →
    first < 128 → count < 2 ^ 32 → 88 ≤ room r →
    Selects 0x0809 128 80 (pcCounters s) r first count s (exec (.memCounters r) s)) ∧
  (∀ (r : YcpReq) (s : State) (first count : Nat), Accepted 0x0D10 r s → reqBody r = selBody first count 0 →
    first < 1048576 → count < 2 ^ 32 → 24 ≤ room r →
    let n := min (min count (1048576 - first)) ((room r - 8) / 16)
    SelectsInto 0x0D10 1048576 16 (pairRecord (readPairs first n s)) r first count (fun m => readPairs first m s)
      (exec (.svcCounterRead r) s)) ∧
  (∀ (k : Nat) (s : State), spanUe (ctrPairAddr k) 16 s = false → readPairs k 1 s = spanReq 5 false (64 * (ctrPairAddr k / 64)) 64 s) ∧
  (∀ (r : YcpReq) (s : State) (first count : Nat), Accepted 0x0106 r s → reqBody r = selBody first count 0 →
    first < 1073741824 → count < 2 ^ 32 → 16 ≤ room r →
    Selects 0x0106 1073741824 8 (fun k => leBytes 8 ((idValue k s).getD 0)) r first count s (exec (.counterRead r) s)) ∧
  (∀ (r : YcpReq) (s : State) (first count : Nat), Accepted 0x0D24 r s → reqBody r = selBody first count 0 →
    first < (ctrTable.length + 1) → count < 2 ^ 32 → 40 ≤ room r →
    Selects 0x0D24 (ctrTable.length + 1) 32 (catEntry) r first count s (exec (.counterCatalog r) s)) ∧
  (∀ (r : YcpReq) (s : State) (first count : Nat), Accepted 0x0D22 r s → reqBody r = selBody first count 0 →
    first < 262144 → count < 2 ^ 32 → 40 ≤ room r →
    Selects 0x0D22 262144 32 (traceSlot s) r first count s (exec (.traceRead r) s)) ∧
  (∀ (r : YcpReq) (s : State) (first count : Nat), Accepted 0x0901 r s → reqBody r = selBody first count 0 →
    first < 256 → count < 2 ^ 32 → 72 ≤ room r →
    let n := min (min count (256 - first)) ((room r - 24) / 48)
    Answers 0x0901 r (leBytes 4 n ++ zeros 4 ++ ((List.range n).map fun k => fit 48 (sourceStatus s (first + k))).flatten ++
        leBytes 8 s.mace.safe.toNat ++ leBytes 4 (macePins s) ++ zeros 4)
      (decide (n < count ∧ first + n < 256)) s (exec (.maceStatus r) s)) ∧
  (∀ (r : YcpReq) (s : State) (first count n : Nat), Accepted 0x0302 r s → reqBody r = selBody first count 0 →
    first < 64 → count < 2 ^ 32 → n ≤ min count (64 - first) →
    (∀ m, 1 ≤ m → m ≤ n → 8 + m * 16 + (portStatusProps s first m).length ≤ room r) →
    8 + 16 + (portStatusProps s first 1).length ≤ room r →
    (∀ m, n < m → m ≤ min count (64 - first) → room r < 8 + m * 16 + (portStatusProps s first m).length) →
    (n = 0 → 8 + (portStatusProps s first 0).length ≤ room r) →
    Answers 0x0302 r (leBytes 4 n ++ zeros 4 ++ ((List.range n).map fun k => fit 16 (portRec (first + k) s)).flatten ++
        portStatusProps s first n) (decide (n < count ∧ first + n < 64)) s (exec (.portStatus r) s)) ∧
  (∀ (r : YcpReq) (s : State) (first count : Nat), Accepted 0x0502 r s → reqBody r = selBody first count 0 →
    first < 65536 → count < 2 ^ 32 → room r < 184 → Fails 0x0502 r stLENGTH 0 s (exec (.ruleRead r) s))

open Sys2Proof Sys2Proof.Machine in
/-- R409, R411: the form-L commands that store records: each INDEX of the list reads back the last record given for it, every
other INDEX reads as before, a parity mark of a written record is cleared, and nothing else changes. -/
def Obligations.RecordListsAreStored : Prop :=
  (∀ (r : YcpReq) (s : State) (items : List (Nat × Bytes)), Accepted 0x0201 r s → Records r items (fun _ => 24) svcCheck s →
    ∃ t m, Stored (fun _ => zeros 24) s.look.svc t items ∧ Unmarked id s.look.svcBad m items ∧
      Does 0x0201 r [] { s with look := { s.look with svc := t, svcBad := m } } (exec (.svcTableWrite r) s)) ∧
  (∀ (r : YcpReq) (s : State) (items : List (Nat × Bytes)), Accepted 0x0207 r s → Records r items (fun _ => 32) camProfCheck s →
    ∃ t, Stored (fun _ => zeros 32) s.look.camProf t items ∧
      Does 0x0207 r [] { s with look := { s.look with camProf := t } } (exec (.camProfileSet r) s)) ∧
  (∀ (r : YcpReq) (s : State) (items : List (Nat × Bytes)), Accepted 0x0314 r s → Records r items (fun _ => 16) groupCheck s →
    ∃ t m, Stored (fun _ => zeros 16) s.buf.group t items ∧ Unmarked id s.buf.groupBad m items ∧
      Does 0x0314 r [] { s with buf := { s.buf with group := t, groupBad := m } } (exec (.mcGroupSet r) s)) ∧
  (∀ (r : YcpReq) (s : State) (items : List (Nat × Bytes)), Accepted 0x0315 r s → Records r items (fun _ => 8) sessionCheck s →
    ∃ t, Stored (fun _ => zeros 8) s.buf.session t items ∧
      Does 0x0315 r [] { s with buf := { s.buf with session := t } } (exec (.mirrorSessionSet r) s)) ∧
  (∀ (r : YcpReq) (s : State) (items : List (Nat × Bytes)), Accepted 0x0409 r s → Records r items (fun _ => 4) classCheck s →
    ∃ t, Stored (fun _ => zeros 4) s.flow.cls t items ∧
      Does 0x0409 r [] { s with flow := { s.flow with cls := t } } (exec (.flowAdmitClassSet r) s)) ∧
  (∀ (r : YcpReq) (s : State) (items : List (Nat × Bytes)), Accepted 0x0420 r s → Records r items (fun _ => 8) svcProfCheck s →
    ∃ t, Stored (fun _ => zeros 8) s.svc.prof t items ∧
      Does 0x0420 r [] { s with svc := { s.svc with prof := t } } (exec (.svcProfileSet r) s)) ∧
  (∀ (r : YcpReq) (s : State) (items : List (Nat × Bytes)), Accepted 0x0511 r s → Records r items (fun _ => 16) flowMeterCheck s →
    ∃ t m, Stored (fun _ => zeros 16) s.svc.flowMeter t items ∧ Unmarked id s.svc.flowMeterBad m items ∧
      Does 0x0511 r [] { s with svc := { s.svc with flowMeter := t, flowMeterBad := m } } (exec (.flowMeterProfileSet r) s)) ∧
  (∀ (r : YcpReq) (s : State) (items : List (Nat × Bytes)), Accepted 0x0608 r s → Records r items (fun _ => 16) launchCheck s →
    ∃ t m, Stored (fun _ => launchDefault) s.sched.launch t items ∧ Unmarked badLaunch s.sched.bad m items ∧
      Does 0x0608 r [] { s with sched := { s.sched with launch := t, bad := m } } (exec (.launchClassSet r) s)) ∧
  (∀ (r : YcpReq) (s : State) (items : List (Nat × Bytes)), Accepted 0x0707 r s → Records r items (fun _ => 16) ptpPortCheck s →
    ∃ t, Stored (fun _ => zeros 16) s.time.ptpPort t items ∧
      Does 0x0707 r [] { s with time := { s.time with ptpPort := t } } (exec (.ptpPortSet r) s)) ∧
  (∀ (r : YcpReq) (s : State) (items : List (Nat × Bytes)), Accepted 0x0A01 r s → Records r items (fun _ => 16) laneConfigCheck s →
    ∃ t, Stored laneRecDefault s.lanes.laneRec t items ∧
      Does 0x0A01 r [] { s with lanes := { s.lanes with laneRec := t } } (exec (.laneConfig r) s)) ∧
  (∀ (r : YcpReq) (s : State) (items : List (Nat × Bytes)), Accepted 0x0B03 r s → Records r items (fun _ => 8) sleepCheck s →
    ∃ t, Stored (fun _ => sleepDefault) s.pwr.sleepRec t items ∧
      Does 0x0B03 r [] { s with pwr := { s.pwr with sleepRec := t } } (exec (.portSleepSet r) s)) ∧
  (∀ (r : YcpReq) (s : State) (items : List (Nat × Bytes)), Accepted 0x0604 r s → Records r items (fun _ => 16) portSchedCheck s →
    let u := items.foldl (fun a p => portSchedApply p.1 p.2 a) s
    shapersOnce u = true →
    ∃ t m, Stored (fun _ => portSchedDefault) s.sched.port t items ∧ Unmarked badPort s.sched.bad m items ∧
      Does 0x0604 r [] { s with sched := { s.sched with port := t, bad := m } } (exec (.portSchedSet r) s))

open Sys2Proof Sys2Proof.Machine in
/-- R409: a form-L command is checked whole and its items are then applied in list order, as one unit; what one item does is
the operation of its command, and a condition over the whole list is held to the result. -/
def Obligations.RecordListsAreApplied : Prop :=
  (∀ (r : YcpReq) (s : State) (items : List (Nat × Bytes)), Accepted 0x0310 r s → Records r items (fun _ => 32) bufPoolCheck s →
    let u := items.foldl (fun a p => bufPoolApply p.1 p.2 a) s
    poolsFit u = true → Does 0x0310 r [] u (exec (.bufPoolSet r) s)) ∧
  (∀ (r : YcpReq) (s : State) (items : List (Nat × Bytes)), Accepted 0x0311 r s → Records r items (fun _ => 16) bufClassCheck s →
    let u := items.foldl (fun a p => bufClassApply p.1 p.2 a) s
    Does 0x0311 r [] u (exec (.bufClassSet r) s)) ∧
  (∀ (r : YcpReq) (s : State) (items : List (Nat × Bytes)), Accepted 0x0312 r s → Records r items (fun _ => 24) portBufCheck s →
    let u := items.foldl (fun a p => portBufApply p.1 p.2 a) s
    poolsFit u = true → Does 0x0312 r [] u (exec (.portBufSet r) s)) ∧
  (∀ (r : YcpReq) (s : State) (items : List (Nat × Bytes)), Accepted 0x0301 r s → Records r items (fun _ => 16) portConfigCheck s →
    let u := items.foldl (fun a p => portConfigApply p.1 p.2 a) s
    portsClash u = false → poolsFit u = true → Does 0x0301 r [] u (exec (.portConfig r) s)) ∧
  (∀ (r : YcpReq) (s : State) (items : List (Nat × Bytes)), Accepted 0x0415 r s → Records r items (fun _ => 4) taskConfigCheck s →
    let u := items.foldl (fun a p => taskConfigApply p.1 p.2 a) s
    Does 0x0415 r [] u (exec (.taskConfig r) s)) ∧
  (∀ (r : YcpReq) (s : State) (items : List (Nat × Bytes)), Accepted 0x0421 r s →
    Records r items (fun i => if 0x1000 ≤ i then 16 else 64) xlatPoolCheck s →
    let u := items.foldl (fun a p => xlatPoolApply p.1 p.2 a) s
    xlatPoolPost s u = stOK → Does 0x0421 r [] u (exec (.xlatPoolSet r) s)) ∧
  (∀ (r : YcpReq) (s : State) (items : List (Nat × Bytes)), Accepted 0x0422 r s → Records r items (fun _ => 32) xlatSubCheck s →
    let u := items.foldl (fun a p => xlatSubApply p.1 p.2 a) s
    Does 0x0422 r [] u (exec (.xlatSubSet r) s)) ∧
  (∀ (r : YcpReq) (s : State) (items : List (Nat × Bytes)), Accepted 0x0424 r s → Records r items (fun _ => 16) backendCheck s →
    let u := items.foldl (fun a p => backendApply p.1 p.2 a) s
    Does 0x0424 r [] u (exec (.lbBackendSet r) s)) ∧
  (∀ (r : YcpReq) (s : State) (items : List (Nat × Bytes)), Accepted 0x0426 r s → Records r items (fun _ => 4) lbSlotCheck s →
    let u := items.foldl (fun a p => lbSlotApply p.1 p.2 a) s
    Does 0x0426 r [] u (exec (.lbTableWrite r) s)) ∧
  (∀ (r : YcpReq) (s : State) (items : List (Nat × Bytes)), Accepted 0x0510 r s → Records r items (fun _ => 16) meterSetCheck s →
    let u := items.foldl (fun a p => meterSetApply p.1 p.2 a) s
    Does 0x0510 r [] u (exec (.meterSet r) s)) ∧
  (∀ (r : YcpReq) (s : State) (items : List (Nat × Bytes)), Accepted 0x0601 r s → Records r items (fun _ => 16) elemCheck s →
    let u := items.foldl (fun a p => elemApply p.1 p.2 a) s
    leavesFit u = true → shapersOnce u = true → Does 0x0601 r [] u (exec (.schedElemSet r) s)) ∧
  (∀ (r : YcpReq) (s : State) (items : List (Nat × Bytes)), Accepted 0x0603 r s → Records r items (fun _ => 16) shaperCheck s →
    let u := items.foldl (fun a p => shaperApply p.1 p.2 a) s
    Does 0x0603 r [] u (exec (.shaperSet r) s)) ∧
  (∀ (r : YcpReq) (s : State) (items : List (Nat × Bytes)), Accepted 0x0609 r s → Records r items (fun _ => 16) sampleCheck s →
    let u := items.foldl (fun a p => sampleApply p.1 p.2 a) s
    sampleRateOk u = true → Does 0x0609 r [] u (exec (.sampleSet r) s)) ∧
  (∀ (r : YcpReq) (s : State) (items : List (Nat × Bytes)), Accepted 0x0803 r s → Records r items (fun _ => 4) pageCheck s →
    let u := items.foldl (fun a p => pageApply p.1 p.2 a) s
    Does 0x0803 r [] u (exec (.memPageSet r) s)) ∧
  (∀ (r : YcpReq) (s : State) (items : List (Nat × Bytes)), Accepted 0x0804 r s → Records r items (fun _ => 8) qosCheck s →
    let u := items.foldl (fun a p => qosApply p.1 p.2 a) s
    Does 0x0804 r [] u (exec (.memQosSet r) s)) ∧
  (∀ (r : YcpReq) (s : State) (items : List (Nat × Bytes)), Accepted 0x0902 r s → Records r items (fun _ => 16) maceSetCheck s →
    let u := items.foldl (fun a p => maceSetApply p.1 p.2 a) s
    Does 0x0902 r [] u (exec (.maceSet r) s)) ∧
  (∀ (r : YcpReq) (s : State) (items : List (Nat × Bytes)), Accepted 0x0D30 r s → Records r items (fun _ => 32) impCheck s →
    let u := items.foldl (fun a p => impApply p.1 p.2 a) s
    Does 0x0D30 r [] u (exec (.impairSet r) s))

open Sys2Proof Sys2Proof.Machine in
/-- R57, R409: the form-L commands of epoch objects write the shadow bank, under the shadow epoch and while no commit runs; a
wrong epoch fails the command and changes nothing, and a rule written leaves the active bank and every other rule alone. -/
def Obligations.EpochListsWriteTheShadow : Prop :=
  (∀ (r : YcpReq) (s : State) (items : List (Nat × Bytes)), Accepted 0x0501 r s → Records r items (fun _ => 176) ruleCheck s →
    r.epoch = shadowEpoch s → shadowBusy s = false →
    Does 0x0501 r [] (items.foldl (fun a p => ruleApply p.1 p.2 a) s) (exec (.ruleWrite r) s)) ∧
  (∀ (r : YcpReq) (s : State) (items : List (Nat × Bytes)), Accepted 0x0504 r s → Records r items (fun i => if i < 4096 then 32 else 8) graphCheck s →
    r.epoch = shadowEpoch s → shadowBusy s = false →
    Does 0x0504 r [] (items.foldl (fun a p => graphApply p.1 p.2 a) s) (exec (.parseGraphWrite r) s)) ∧
  (∀ (r : YcpReq) (s : State) (items : List (Nat × Bytes)), Accepted 0x0505 r s → Records r items (fun i => if i < 4096 then 16 else 8) profileCheck s →
    r.epoch = shadowEpoch s → shadowBusy s = false →
    Does 0x0505 r [] (items.foldl (fun a p => profileApply p.1 p.2 a) s) (exec (.parseProfileWrite r) s)) ∧
  (∀ (r : YcpReq) (s : State) (items : List (Nat × Bytes)), Accepted 0x0506 r s → Records r items (fun _ => 16) clsCheck s →
    r.epoch = shadowEpoch s → shadowBusy s = false →
    Does 0x0506 r [] (items.foldl (fun a p => clsApply p.1 p.2 a) s) (exec (.clsProfileWrite r) s)) ∧
  (∀ (r : YcpReq) (s : State) (items : List (Nat × Bytes)), Accepted 0x0403 r s → Records r items (fun _ => 32) flowProfCheck s →
    r.epoch = shadowEpoch s → shadowBusy s = false →
    Does 0x0403 r [] (items.foldl (fun a p => flowProfApply p.1 p.2 a) s) (exec (.flowProfileWrite r) s)) ∧
  (∀ (r : YcpReq) (s : State) (items : List (Nat × Bytes)), Accepted 0x0410 r s → Records r items (fun _ => 544) templateCheck s →
    r.epoch = shadowEpoch s → shadowBusy s = false →
    Does 0x0410 r [] (items.foldl (fun a p => templateApply p.1 p.2 a) s) (exec (.graphTemplateWrite r) s)) ∧
  (∀ (r : YcpReq) (s : State) (items : List (Nat × Bytes)), Accepted 0x0501 r s → Records r items (fun _ => 176) ruleCheck s →
    r.epoch ≠ shadowEpoch s → ∃ i, Fails 0x0501 r stSTALE_EPOCH i s (exec (.ruleWrite r) s)) ∧
  (∀ (i : Nat) (b : Bytes) (s : State), (inMode mASSURED s && shadowAssured s) = false →
    bankRule (ruleApply i b s).ep.shadowBank i = ruleStored b ∧ (ruleApply i b s).ep.activeBank = s.ep.activeBank ∧
    (∀ k, k ≠ i → bankRule (ruleApply i b s).ep.shadowBank k = bankRule s.ep.shadowBank k))

open Sys2Proof Sys2Proof.Machine in
/-- The commands of the flow tables (R88, R92, R97, R104, R411, R412, R426, R535). -/
def Obligations.FlowCommandsComplete : Prop :=
  (∀ (r : YcpReq) (s : State), Accepted 0x0401 r s → let b := reqBody r
    b.length = 24 → fld b 1 7 = 0 → 20 ≤ fld b 0 1 → fld b 0 1 ≤ 28 → statefulBank s.ep.activeBank = false →
    s.flow.mig = none →
    ∃ u, Does 0x0401 r [] u (exec (.flowTableInit r) s) ∧ u.flow.hot = [] ∧ u.flow.bucketBits = fld b 0 1 ∧
      u.flow.hashSeed = fld b 8 8 ∧ u.flow.fpSeed = fld b 16 8 ∧ u.flow.mig = none ∧ u.flow.sweepAt = 0 ∧
      u.flow.pairs.size = 2 ^ 29 ∧ u.flow.singles.size = 0 ∧ u.flow.cls = s.flow.cls ∧ u.flow.period = s.flow.period ∧
      u.flow.pairs.front = [] ∧ u.flow.bucket = [] ∧ u.flow.work = none ∧ u.flow.seeds = [] ∧
      (∀ a, a < regionBase 5 → memGet u.hbm.mem a = memGet [] a)) ∧
  (∀ (r : YcpReq) (s : State), Accepted 0x0401 r s → let b := reqBody r
    b.length = 24 → fld b 1 7 = 0 → 20 ≤ fld b 0 1 → fld b 0 1 ≤ 28 →
    statefulBank s.ep.activeBank = true ∨ s.flow.mig ≠ none → Fails 0x0401 r stBUSY 0 s (exec (.flowTableInit r) s)) ∧
  (∀ (r : YcpReq) (s : State) (k : Nat) (e : HotEntry), Accepted 0x0404 r s → let key := slice (reqBody r) 0 48
    (reqBody r).length = 56 → fld (reqBody r) 49 7 = 0 → hotOfKey key s = some k → hotGet k s = some e →
    (∀ set ∈ hotSets (compactKey s.flow.fpSeed key) s, ∀ j ∈ setPlaces set, ∀ x, hotGet j s = some x → x.bad = 0) → 132 ≤ room r →
    Answers 0x0404 r (fit 128 e.img ++ leBytes 4 0) false s (exec (.flowLookup r) s)) ∧
  (∀ (r : YcpReq) (s : State), Accepted 0x0404 r s → (reqBody r).length = 56 → fld (reqBody r) 49 7 = 0 →
    (lookupHeld (slice (reqBody r) 0 48) s = false → (findFlow (slice (reqBody r) 0 48) s).1 = none →
      Fails 0x0404 r stNOT_FOUND 0 s (exec (.flowLookup r) s)) ∧
    (lookupHeld (slice (reqBody r) 0 48) s = true → Fails 0x0404 r stBUSY 0 s (exec (.flowLookup r) s))) ∧
  (∀ (r : YcpReq) (s : State) (k : Nat) (e : HotEntry), Accepted 0x0405 r s → let key := slice (reqBody r) 0 48
    (reqBody r).length = 56 → fld (reqBody r) 49 7 = 0 → hotOfKey key s = some k → hotGet k s = some e →
    (∀ set ∈ hotSets (compactKey s.flow.fpSeed key) s, ∀ j ∈ setPlaces set, ∀ x, hotGet j s = some x → x.bad = 0) →
    (imgProv e.img = false → s.flow.mig = none → canAge (imgProfile e.img) s = true →
      imgNoslot e.img = true ∨ keyHeld key s = false → Does 0x0405 r [] (deleteHot k e s) (exec (.flowDelete r) s)) ∧
    (imgProv e.img = true ∨ s.flow.mig ≠ none ∨ (imgNoslot e.img = false ∧ keyHeld key s = true) → Fails 0x0405 r stBUSY 0 s (exec (.flowDelete r) s))) ∧
  (∀ (k : Nat) (e : HotEntry) (s : State), imgNoslot e.img = true → fpAgeTpl (fpRec s.ep.activeNo (imgProfile e.img) s) = 0 →
    deleteHot k e s = { s with flow := { s.flow with hot := tdel s.flow.hot k } }) ∧
  (∀ (r : YcpReq) (s : State), Accepted 0x0406 r s → let n := fld (reqBody r) 0 4
    (reqBody r).length = 4 →
    (1 ≤ n → n ≤ 3600 → Does 0x0406 r [] { s with flow := { s.flow with period := n } } (exec (.flowAgeingSet r) s)) ∧
    (n = 0 ∨ 3600 < n → Fails 0x0406 r stRANGE 0 s (exec (.flowAgeingSet r) s))) ∧
  (∀ (r : YcpReq) (s : State), Accepted 0x0407 r s → let b := reqBody r
    b.length = 20 → fld b 5 3 = 0 → fld b 0 4 = 1 → seedDenied (fld b 8 8) s = false → 20 ≤ fld b 4 1 → fld b 4 1 ≤ 28 →
    4 ≤ fld b 16 4 → fld b 16 4 ≤ 256 → s.flow.mig = none →
    (recordCount s ≤ 4 * 2 ^ fld b 4 1 → ∃ u, Does 0x0407 r [] u (exec (.flowMigrateStart r) s) ∧
      u.flow.mig = some { oldB := s.flow.bucketBits, newB := fld b 4 1, oldSeed := s.flow.hashSeed, newSeed := fld b 8 8 } ∧
      u.flow.migRate = fld b 16 4 ∧ u.flow.migId = (s.flow.migId + 1) % 2 ^ 32 ∧ u.flow.hot = s.flow.hot ∧
      u.flow.idx1 = s.flow.idx1) ∧
    (4 * 2 ^ fld b 4 1 < recordCount s → Fails 0x0407 r stNOSPACE 0 s (exec (.flowMigrateStart r) s))) ∧
  (∀ (r : YcpReq) (s : State) (m : Migration), Accepted 0x0407 r s → (reqBody r).length = 20 → fld (reqBody r) 5 3 = 0 →
    fld (reqBody r) 0 4 = 2 → s.flow.mig = some m → m.held = true →
    Does 0x0407 r [] { s with flow := { s.flow with mig := some { m with held := false } },
                              host := { s.host with migResumable := false } } (exec (.flowMigrateResume r) s)) ∧
  (∀ (r : YcpReq) (s : State), Accepted 0x0407 r s → (reqBody r).length = 20 → fld (reqBody r) 5 3 = 0 →
    fld (reqBody r) 0 4 = 2 → s.flow.mig = none → Fails 0x0407 r stNOT_FOUND 0 s (exec (.flowMigrateResume r) s)) ∧
  (∀ (r : YcpReq) (s : State), Accepted 0x0407 r s → (reqBody r).length = 20 → fld (reqBody r) 5 3 = 0 →
    fld (reqBody r) 0 4 = 3 → 4 ≤ fld (reqBody r) 16 4 → fld (reqBody r) 16 4 ≤ 256 →
    Does 0x0407 r [] { s with flow := { s.flow with migRate := fld (reqBody r) 16 4 } } (exec (.flowMigrateRate r) s)) ∧
  (∀ (r : YcpReq) (s : State), Accepted 0x0408 r s → let n := fld (reqBody r) 0 4
    (reqBody r).length = 4 → n < 993 → s.flow.moving = none →
    (∀ t rest, s.flow.reserve = t :: rest → Does 0x0408 r [] (raise 31 n 0 { s with flow := { s.flow with
      moving := some { logical := n, target := t }, reserve := rest } }) (exec (.hotBlockRetire r) s)) ∧
    (s.flow.reserve = [] → Fails 0x0408 r stNOSPACE 0 s (exec (.hotBlockRetire r) s))) ∧
  (∀ (r : YcpReq) (s : State), Accepted 0x8001 r s → (reqBody r).length = 48 → inMode mCOMPAT s = true →
    lookupHeld (reqBody r) s = false →
    (∀ img hot s', findFlow (reqBody r) s = (some (img, hot), s') → isV4 img = true → (ksRecord img s').length ≤ room r →
      Answers 0x8001 r (ksRecord img s') false s' (exec (.ksFlowRead r) s)) ∧
    ((findFlow (reqBody r) s).1 = none → Fails 0x8001 r stNOT_FOUND 0 s (exec (.ksFlowRead r) s))) ∧
  (∀ (r : YcpReq) (s : State), Accepted 0x8002 r s → (reqBody r).length = 48 → inMode mCOMPAT s = true →
    isV4 (reqBody r) = true → ∀ u, deleteFlow (reqBody r) s = yOk [] u →
    Does 0x8002 r [] u (exec (.ksFlowDelete r) s)) ∧
  (∀ (r : YcpReq) (s s' : State) (body : Bytes) (more : Bool), Accepted 0x8003 r s → let b := reqBody r
    b.length = 8 → inMode mCOMPAT s = true → fld b 0 4 < 2 ^ 30 →
    dumpFrom (min (fld b 4 4) (room r / 64)) ((indexedSlots s).filter fun x => decide (fld b 0 4 ≤ x.1)) s =
      (body, more, s') →
    Answers 0x8003 r body (more && decide (body.length < 64 * fld b 4 4)) s' (exec (.ksFlowDump r) s)) ∧
  (∀ (r : YcpReq) (s : State), inMode mCOMPAT s = false →
    (Accepted 0x8001 r s → (reqBody r).length = 48 → Fails 0x8001 r stDENIED 0 s (exec (.ksFlowRead r) s)) ∧
    (Accepted 0x8002 r s → (reqBody r).length = 48 → Fails 0x8002 r stDENIED 0 s (exec (.ksFlowDelete r) s)) ∧
    (Accepted 0x8003 r s → (reqBody r).length = 8 → Fails 0x8003 r stDENIED 0 s (exec (.ksFlowDump r) s)))

open Sys2Proof Sys2Proof.Machine in
/-- The sweeps, the scrub of the hot tier, the copy of a retiring block and the phases of a migration, with the bucket cache and
the slot rings (R88, R90, R92, R97, R98, R100, R103–R106). -/
def Obligations.FlowTierSweeps : Prop :=
  (∀ (s : State), s.flow.work = none →
    (s.flow.mig.map (·.copy)).getD false = true ∨ bucketHeld s.flow.idx1 s.flow.sweepAt s = true →
    exec .bulkSweepVisit s = .next s) ∧
  (∀ (l : Bytes) (s s1 s2 : State), s.flow.work = none → (s.flow.mig.map (·.copy)).getD false = false →
    bucketHeld s.flow.idx1 s.flow.sweepAt s = false → readLine 2 s.flow.idx1 s.flow.sweepAt s = (l, s1) →
    let s' := setWork (some { key := bucketKey s.flow.idx1 s.flow.sweepAt, copy := false, left := lineRecords l }) s1
    let f := sweepRecord (bucketKey s.flow.idx1 s.flow.sweepAt % 2 ^ 28)
    (visit f (lineRecords l) false s' = (true, s2) → exec .bulkSweepVisit s = .next (sweepNext (endWork s2))) ∧
    (visit f (lineRecords l) false s' = (false, s2) → exec .bulkSweepVisit s = .next (leaveBuckets s2))) ∧
  (∀ (w : BucketWork) (s s2 : State), s.flow.work = some w →
    (w.copy = true → exec .bulkSweepVisit s = .next s) ∧
    (w.copy = false → visit (sweepRecord (w.key % 2 ^ 28)) w.left w.read s = (true, s2) →
      exec .bulkSweepVisit s = .next (sweepNext (endWork s2))) ∧
    (w.copy = false → visit (sweepRecord (w.key % 2 ^ 28)) w.left w.read s = (false, s2) →
      exec .bulkSweepVisit s = .next (leaveBuckets s2))) ∧
  (∀ (f : Bool → Nat → Bool → State → Bool × State) (n : Nat) (pair again : Bool) (rest : List (Nat × Bool)) (s s1 : State),
    (f again n pair s = (true, s1) → visit f ((n, pair) :: rest) again s = visit f rest false s1) ∧
    (∀ w, f again n pair s = (false, s1) → s1.flow.work = some w → visit f ((n, pair) :: rest) again s =
      (false, setWork (some { w with left := (n, pair) :: rest, read := true }) s1))) ∧
  (∀ (s : State), s.flow.sweepAt + 1 < 2 ^ s.flow.bucketBits →
    sweepNext s = { s with flow := { s.flow with sweepAt := s.flow.sweepAt + 1 } }) ∧
  (∀ (req bucket : Nat) (r1 : Bool) (d : Bytes) (s : State), tget? s.flow.bucket (bucketKey r1 bucket) = some (some d) →
    readLine req r1 bucket s = (d, s) ∧ lineNow r1 bucket s = d) ∧
  (∀ (req bucket : Nat) (r1 : Bool) (l : Bytes) (s : State), bucketFull (bucketKey r1 bucket) s = false → lineNow r1 bucket (writeLine req r1 bucket l s) = l ∧
    (∀ w, s.flow.work = some w → w.key = bucketKey r1 bucket → (writeLine req r1 bucket l s).hbm = s.hbm ∧
      (writeLine req r1 bucket l s).flow.work = some { w with dirty := true })) ∧
  (∀ (bucket : Nat) (l : Bytes) (s : State), bucket < 2 ^ 28 → l.length = 64 → memWf s.hbm.mem = true → s.flow.log = [] →
    s.flow.work = some { key := bucketKey s.flow.idx1 bucket, copy := false, left := [], dirty := true } →
    tget? s.flow.bucket (bucketKey s.flow.idx1 bucket) = some (some l) → (endWork s).flow.work = none ∧
      (endWork s).flow.bucket = [] ∧ lineNow s.flow.idx1 bucket (endWork s) = l) ∧
  (∀ (single : Bool) (n : Nat) (s : State), (getSlots single s).back.length < 1008 →
    ringPush single n s = setSlots single { getSlots single s with back := (getSlots single s).back ++ [n] } s) ∧
  (∀ (single : Bool) (n : Nat) (s : State), let r := getSlots single s
    memWf s.hbm.mem = true → r.back.length = 1008 → r.rd ≤ r.wr →
    (getSlots single (ringPush single n s)).back = r.back.drop 16 ++ [n] ∧ (getSlots single (ringPush single n s)).wr = r.wr + 16 ∧
    (getSlots single (ringPush single n s)).size = r.size + 1 ∧
    hbmPeek (ringAddr single r.wr) 64 (ringPush single n s) = ((r.back.take 16).map (leBytes 4)).flatten) ∧
  (∀ (single : Bool) (n : Nat) (ns : List Nat) (s : State), (getSlots single s).front = n :: ns →
    ringPop single s = (some n, setSlots single { getSlots single s with front := ns } s)) ∧
  (∀ (s : State), s.flow.sweepAt + 1 = 2 ^ s.flow.bucketBits →
    (1000 * s.flow.period < idleMs (msNow s) s.flow.sweepBegan →
      sweepNext s = raise 30 0 0 (bump .SWEEP_LATE 0 { s with flow := { s.flow with sweepAt := 0, sweepBegan := msNow s } })) ∧
    (idleMs (msNow s) s.flow.sweepBegan ≤ 1000 * s.flow.period →
      sweepNext s = { s with flow := { s.flow with sweepAt := 0, sweepBegan := msNow s } })) ∧
  (∀ (s : State), (∀ k ∈ setPlaces s.flow.hotAt, ∀ e, hotGet k s = some e → e.bad = 0 ∧ expiredImg e.img s = none) →
    exec .hotSweepVisit s = .next { s with flow := { s.flow with hotAt := (s.flow.hotAt + 1) % 508416 } }) ∧
  (∀ (k : Nat) (e : HotEntry) (s : State), hotGet k s = some e → imgAlias e.img = false → imgProv e.img = false →
    (expiredImg e.img s).isSome = true →
    (imgNoslot e.img = true → canEvict s.ep.activeNo [k] s = true → hotSweepEntry k s = (true, evict s.ep.activeNo k s)) ∧
    (imgNoslot e.img = true → canEvict s.ep.activeNo [k] s = false → hotSweepEntry k s = (false, s)) ∧
    (imgNoslot e.img = false → imgBody e.img = true → hotSweepEntry k s = (true, s)) ∧
    (imgNoslot e.img = false → imgBody e.img = false → hotGet k (hotSweepEntry k s).2 =
      some { e with img := ctrlBit 4 true (ctrlBit 3 false e.img) })) ∧
  (∀ (lruBad : Bool) (s : State), (∀ k ∈ setPlaces s.flow.scrubAt, ∀ e, hotGet k s = some e → e.bad = 0) →
    ∃ t, exec (.hotTierScrub [] lruBad) s = .next t ∧ t.flow.scrubAt = (s.flow.scrubAt + 1) % 508416 ∧
      t.flow.hot = s.flow.hot ∧ t.flow.log = s.flow.log ∧
      (lruBad = false → t.ctr = s.ctr ∧ t.flow.lru = s.flow.lru) ∧
      (lruBad = true → getCtr .HOT_META_PE 0 t = (getCtr .HOT_META_PE 0 s + 1) % 2 ^ 64 ∧
        tget 0 t.flow.lru s.flow.scrubAt = 0)) ∧
  (∀ (k : Nat) (e : HotEntry) (s : State), hotGet k s = some e →
    (e.bad = 0 → hotCheck k s = s) ∧
    (e.bad = 1 → ∃ t, hotCheck k s = t ∧ hotGet k t = some { e with bad := 0 } ∧
      getCtr .HOT_CE 0 t = (getCtr .HOT_CE 0 s + 1) % 2 ^ 64 ∧ t.mace.inflight = s.mace.inflight ++ [⟨24, k, 0⟩]) ∧
    (2 ≤ e.bad → imgProv e.img = false → ∃ t, hotCheck k s = t ∧ hotGet k t = none ∧
      getCtr .HOT_UE 0 t = (getCtr .HOT_UE 0 s + 1) % 2 ^ 64 ∧ t.mace.inflight = s.mace.inflight ++ [⟨25, k, 0⟩] ∧
      t.pwr.auditDue = true)) ∧
  (∀ (s : State), s.flow.moving = none → exec .hotBlockSetCopy s = .next s) ∧
  (∀ (m : BlockMove) (s : State), s.flow.moving = some m →
    (∀ k ∈ setPlaces (512 * m.logical + m.next), ∀ e, hotGet k s = some e → e.bad = 0) →
    (m.next ≠ 511 → exec .hotBlockSetCopy s = .next { s with flow := { s.flow with
      moving := some { m with next := m.next + 1 } } }) ∧
    (m.next = 511 → ∃ t, exec .hotBlockSetCopy s = .next t ∧ t.flow.moving = none ∧ physBlock m.logical t = m.target ∧
      t.flow.hot = s.flow.hot ∧ getCtr .SPARE_SWAP 7 t = (getCtr .SPARE_SWAP 7 s + 1) % 2 ^ 64)) ∧
  (∀ (m : Migration) (s : State), s.flow.mig = some m → m.copy = false → m.held = false →
    (∀ k e, s.flow.hot.find? (fun x => unflushed x.2) = some (k, e) → hotGet k s = some e →
      ∃ t, exec .migrationFlush s = .next t ∧ hotGet k t = some { e with img := ctrlBit 4 true (ctrlBit 3 false e.img) } ∧
        t.flow.mig = some m ∧ getCtr .HOT_WB 0 t = (getCtr .HOT_WB 0 s + 1) % 2 ^ 64) ∧
    (s.flow.hot.find? (fun x => unflushed x.2) = none → ∃ t, exec .migrationFlush s = .next t ∧
      t.flow.mig = some { m with copy := true, cursor := 0 } ∧ t.flow.journalSeq = (s.flow.journalSeq + 1) % 2 ^ 32 ∧
      t.flow.hot = s.flow.hot)) ∧
  (∀ (s : State), (∀ m, s.flow.mig = some m → m.held = true) →
    exec .migrationFlush s = .next s ∧ exec .migrationCopyBucket s = .next s) ∧
  (∀ (m : Migration) (s : State), s.flow.mig = some m → m.copy = true → m.held = false →
    exec .migrationCopyBucket s = .next (copyBucket m s)) ∧
  (∀ (m : Migration) (s : State), s.flow.work = none → bucketHeld s.flow.idx1 m.cursor s = true → copyBucket m s = s) ∧
  (∀ (m : Migration) (w : BucketWork) (s s2 : State), s.flow.work = some w →
    visit (copyRecord m (w.key % 2 ^ 28)) w.left w.read s = (true, s2) → copyBucket m s = copyNext (endWork s2)) ∧
  (∀ (m : Migration) (s : State), s.flow.mig = some m → m.cursor + 1 ≠ 2 ^ m.oldB → (m.cursor + 1) % 4096 ≠ 0 →
    copyNext s = { s with flow := { s.flow with mig := some { m with cursor := m.cursor + 1 } } }) ∧
  (∀ (m : Migration) (s : State), s.flow.mig = some m → m.cursor + 1 = 2 ^ m.oldB →
    ∃ t, copyNext s = t ∧ t.flow.mig = none ∧ t.flow.idx1 = !s.flow.idx1 ∧ t.flow.bucketBits = m.newB ∧
      t.flow.hashSeed = m.newSeed ∧ t.flow.sweepAt = 0 ∧ t.flow.hot = s.flow.hot ∧
      (s.flow.hashSeed ≠ m.newSeed → s.flow.hashSeed ∈ t.flow.seeds))

open Sys2Proof Sys2Proof.Machine in
/-- The start of an admission (R115–R117, R179): the head of an admission queue hits, starts or goes on waiting, in order; a
packet that has waited the hold limit takes its overflow action; the image of a provisional entry (R79–R81, R118); the arbiter of
the ingress half and the packets that re-enter it (R19, R20, R64, R393); what each return, the confirmation, the undo and the drop
expiry of a log run (R91, R119, R127, R128, R131). -/
def Obligations.AdmissionStarts : Prop :=
  (∀ (pl : Nat) (s : State), admQueue pl s = [] → exec (.admissionQueueStart pl) s = .next s) ∧
  (∀ (pl d : Nat) (rest : List Nat) (s : State), admQueue pl s = d :: rest →
    (∀ set ∈ hotSets (pktCk d s) s, ∀ k ∈ setPlaces set, ∀ e, hotGet k s = some e → e.bad = 0) →
    (∀ k, pktPlace d s = some k →
      exec (.admissionQueueStart pl) s = .next (bufSync (flowHit d k (setAdmQueue pl rest s)))) ∧
    (∀ x, pktPlace d s = none → missPlace d s = some x →
      exec (.admissionQueueStart pl) s = .next (bufSync (startMiss d x (setAdmQueue pl rest s)))) ∧
    (pktPlace d s = none → missPlace d s = none → exec (.admissionQueueStart pl) s = .next s)) ∧
  (∀ (d l : Nat) (s : State), l < 65536 → (getPkt d s).profile < 256 → let i := newImage d l s
    isStd i = (getPkt d s).std ∧ imgProv i = true ∧ imgUndo i = l ∧ imgDirty i = true ∧ imgBody i = false ∧
    imgNoslot i = true ∧ imgProfile i = (getPkt d s).profile ∧
    ((getPkt d s).std = true → slice i 0 48 = fit 48 (getPkt d s).key)) ∧
  (∀ (d : Nat) (s : State), let k := getPkt d s
    (findPlace k.std (pktSet d s) s).isSome = true →
    ((admQueue k.pipe s).length < 4096 → queueMiss d s =
      setAdmQueue k.pipe (admQueue k.pipe s ++ [d]) (editPkt d (fun k => { k with entryBad := false }) s)) ∧
    (4096 ≤ (admQueue k.pipe s).length → (∃ x ∈ admQueue k.pipe s, (getPkt x s).hlo = k.hlo) →
      queueMiss d s = discard d (bump .ADM_OVF_ORDER k.pipe s)) ∧
    (4096 ≤ (admQueue k.pipe s).length → (∀ x ∈ admQueue k.pipe s, (getPkt x s).hlo ≠ k.hlo) →
      queueMiss d s = missOvf (fpClass (pktProfile d s)) d s)) ∧
  (∀ (pl i d : Nat) (s : State), (admQueue pl s)[i]? = some d →
    (waitedHold d s = true → exec (.admissionQueueWaitExpiry pl i) s =
      .next (bufSync (waitExpired d (setAdmQueue pl ((admQueue pl s).eraseIdx i) s)))) ∧
    (waitedHold d s = false → exec (.admissionQueueWaitExpiry pl i) s = .next s)) ∧
  (∀ (pl i d m : Nat) (s : State), (inboundList pl s)[i]? = some (d, m) →
    let s1 := setInboundList pl ((inboundList pl s).eraseIdx i) s
    (readOut 4 (mapAddr m / 64) s = false → mustWait .map m s = false →
      exec (.inboundMapReturn pl i) s = .next (bufSync (mapReturned d m s1))) ∧
    (readOut 4 (mapAddr m / 64) s = true ∨ mustWait .map m s = true → exec (.inboundMapReturn pl i) s = .next s) ∧
    (waitedHold d s = true → exec (.inboundListWaitExpiry pl i) s = .next (bufSync (waitExpired d s1))) ∧
    (waitedHold d s = false → exec (.inboundListWaitExpiry pl i) s = .next s)) ∧
  (∀ (d : Nat) (s : State), let c := fpClass (pktProfile d s)
    (bits (fld (admClass c s) 1 1) 0 2 = 2 → waitExpired d s = discard d (bump .ADM_QWAIT_EXP c s)) ∧
    (bits (fld (admClass c s) 1 1) 0 2 = 1 → waitExpired d s =
      puntFrame d (bits (fld (admClass c s) 2 1) 0 6) 3 0 (bump .ADM_QWAIT_EXP c s)) ∧
    (bits (fld (admClass c s) 1 1) 0 2 = 0 → waitExpired d s = forwardRule d (bump .ADM_QWAIT_EXP c s))) ∧
  (∀ (pl : Nat) (s : State), tget [] s.flow.rerunq pl = [] → exec (.rerunParserEntry pl) s = .next s) ∧
  (∀ (pl : Nat) (s : State), (sentinelDue pl 0 s = true → tget [] s.flow.rerunq pl ≠ [] →
      exec (.rerunParserEntry pl) s = .next (wakeHalf pl 0 s)) ∧
    (sentinelDue pl 0 s = true → tget [] s.flow.recircq pl ≠ [] → exec (.recirculationEntry pl) s = .next (wakeHalf pl 0 s)) ∧
    (sentinelDue pl 0 s = false → internalGrant pl s = none →
      exec (.rerunParserEntry pl) s = .next s ∧ exec (.recirculationEntry pl) s = .next s)) ∧
  (∀ (pl : Nat) (s : State), (portWaits pl s = false → internalGrant pl s = some s) ∧
    (portWaits pl s = true → tget 0 s.buf.granted pl < 8 → internalGrant pl s = none) ∧
    (internalWaits pl s = false → portGrant pl s = some s) ∧
    (internalWaits pl s = true → 8 ≤ tget 0 s.buf.granted pl → portGrant pl s = none) ∧
    (internalWaits pl s = true → tget 0 s.buf.granted pl < 8 → ∃ t, portGrant pl s = some t ∧
      tget 0 t.buf.granted pl = tget 0 s.buf.granted pl + 1 ∧ t.flow = s.flow ∧ t.hbm = s.hbm)) ∧
  (∀ (pl d : Nat) (rest : List Nat) (s0 s : State), tget [] s0.flow.rerunq pl = d :: rest → sentinelDue pl 0 s0 = false →
    internalGrant pl s0 = some s →
    let s1 := endHold d (wakeHalf pl 0 { s with flow := { s.flow with rerunq := tset [] s.flow.rerunq pl rest } })
    let s2 := ingressPass d true (setFrame d { getFrame d s1 with edits := [], marked := false } s1)
    ((getPkt d s1).rerun = none → exec (.rerunParserEntry pl) s0 = .next (bufSync s2)) ∧
    (∀ l, (getPkt d s1).rerun = some l → exec (.rerunParserEntry pl) s0 = .next (bufSync (rerunDone l s2)))) ∧
  (∀ (pl : Nat) (s : State), tget [] s.flow.recircq pl = [] ∨
    (sentinelDue pl 0 s = false ∧ (tget [] s.flow.rerunq pl ≠ [] ∨ srcHeld 65 s = true)) →
    exec (.recirculationEntry pl) s = .next s) ∧
  (∀ (pl d : Nat) (rest : List Nat) (s0 s : State), tget [] s0.flow.rerunq pl = [] → tget [] s0.flow.recircq pl = d :: rest →
    srcHeld 65 s0 = false → sentinelDue pl 0 s0 = false → internalGrant pl s0 = some s →
    let s1 := wakeHalf pl 0 { s with flow := { s.flow with recircq := tset [] s.flow.recircq pl rest } }
    exec (.recirculationEntry pl) s0 =
      .next (bufSync (ingressPass d true (setFrame d { getFrame d s1 with marked := false } s1)))) ∧
  (∀ (l : Nat) (u : UndoLog) (b : Bytes) (s t : State), getLog l s = some u → awaits u = true → u.phase = .index true →
    let p := logPlace u s
    u.lines.contains (bucketKey p.r1 p.partner) = true → lineWaits p.r1 p.partner s = false → claimWaits p s = false →
    readLine 0 p.r1 p.partner s = (b, t) → lineMatches (fp16Of p.hlo) b = [] →
    exec (.bulkIndexReturn l) s = .next (recAbsent l t)) ∧
  (∀ (l n x : Nat) (pair partner : Bool) (rest : List (Nat × Bool × Nat)) (u : UndoLog) (img : Bytes) (s t : State),
    getLog l s = some u → awaits u = true → u.phase = .record partner ((n, pair, x) :: rest) →
    spanOut 0 (recAddr n) (recSize pair) s = false → claimWaits (logPlace u s) s = false →
    recordResult n pair s = (some img, t) → recJudge n u.key (compactKey s.flow.fpSeed u.key) (some img) = .found →
    exec (.bulkRecordReturn l) s = .next (recPresent l n img t)) ∧
  (∀ (l sub : Nat) (u : UndoLog) (s : State), getLog l s = some u → awaits u = true → u.phase = .subctx → u.sub = some sub →
    spanOut 0 (subCtxAddr sub) 64 s = false → claimWaits (logPlace u s) s = false → mustWait .ctx sub s = false →
    ∃ b t, exec (.subscriberContextReturn l) s = .next t ∧
      let t1 := svcStore (subCtxAddr sub) b (takeCtx sub (subCtxMend sub s))
      t = claim l t1 ∨ t = beginUndo l .reject t1) ∧
  (∀ (l : Nat) (u : UndoLog) (s : State), getLog l s = some u → awaits u = true → u.phase = .claimed → u.specDone = true →
    gatesDone u s = true → indexAccepted u s = true → ∃ t, exec (.confirm l) s = .next t ∧ t = bufSync (confirm l u s)) ∧
  (∀ (l : Nat) (u : UndoLog) (s : State), getLog l s = some u → u.st = .undoing →
    (u.waitPlace = false → (∀ e ∈ u.ents, e.filled = true) → undoWaits u s = false → ∃ t, exec (.undoApply l) s = .next t ∧
      t = bufSync (undoEnd l u (applyUndo l s))) ∧
    (u.waitPlace = true → ∃ t, exec (.squashRecordPlace l) s = .next t ∧ t = bufSync (placeRecord l s))) ∧
  (∀ (l : Nat) (u : UndoLog) (s : State), getLog l s = some u → u.st = .pending → u.answered = false →
    deadlineReached u (fastClock s) = true → u.specDone = false → ∃ t, exec (.holdDeadlineExpiry l) s = .next t ∧
      t = bufSync (dropHeld l (admTrace 5 l (setLog l { u with st := .expDrop }
        (addCtr .HOLD_EXP_PKTS u.cls u.hold.length (bump .HOLD_EXP_FLOWS u.cls (fastClock s)))))))

open Sys2Proof Sys2Proof.Machine in
/-- The course of an admission (R91–R93, R103, R119, R120, R126–R133, R180, R191): the bulk answer, the claim, confirmation,
squash, undo and expiry. -/
def Obligations.AdmissionEnds : Prop :=
  (∀ (l k d : Nat) (u : UndoLog) (e : HotEntry) (s : State), getLog l s = some u → hotGet k s = some e →
    (u.st = .expDrop → hitLogged l d k s = discard d (bump .HOLD_EXP_PKTS u.cls s)) ∧
    (u.st = .undoing → u.rerunsLeft = 0 ∨ (getPkt d s).rerun = some l → deferredOf u < 65535 → ∃ t, hitLogged l d k s = t ∧
      getLog l t = some { u with hold := u.hold ++ [(d, false)] } ∧ (getFrame d t).held = true ∧
      getCtr .ADM_DEFER (getPkt d s).pipe t = (getCtr .ADM_DEFER (getPkt d s).pipe s + 1) % 2 ^ 64) ∧
    (u.st = .undoing → u.rerunsLeft ≠ 0 → (getPkt d s).rerun ≠ some l → hitLogged l d k s = deferReplay l d s) ∧
    (u.st = .undoing → 65535 ≤ deferredOf u → hitLogged l d k s = missOvf u.cls d s)) ∧
  (∀ (l : Nat) (s : State), (∀ u, getLog l s = some u → awaits u = false) →
    exec (.bulkIndexReturn l) s = .next s ∧ exec (.bulkRecordReturn l) s = .next s ∧
    exec (.subscriberContextReturn l) s = .next s ∧ exec (.confirm l) s = .next s) ∧
  (∀ (l : Nat) (u : UndoLog) (partner : Bool) (b : Bytes) (s s1 : State), getLog l s = some u → awaits u = true →
    u.phase = .index partner → let p := logPlace u s
    let bucket := if partner then p.partner else p.bucket
    u.lines.contains (bucketKey p.r1 bucket) = true → lineWaits p.r1 bucket s = false → claimWaits p s = false →
    readLine 0 p.r1 bucket s = (b, s1) →
    (lineMatches (fp16Of p.hlo) b ≠ [] → exec (.bulkIndexReturn l) s =
      .next (askMatch l (setBulk l (.record partner (lineMatches (fp16Of p.hlo) b)) s1))) ∧
    (lineMatches (fp16Of p.hlo) b = [] → exec (.bulkIndexReturn l) s = .next (lineDone l partner p s1))) ∧
  (∀ (l : Nat) (u : UndoLog) (partner : Bool) (s : State), getLog l s = some u → awaits u = true → u.phase = .index partner →
    let p := logPlace u s
    let bucket := if partner then p.partner else p.bucket
    (u.lines.contains (bucketKey p.r1 bucket) = false → exec (.bulkIndexReturn l) s = .next (askLine l p.r1 bucket s)) ∧
    (u.lines.contains (bucketKey p.r1 bucket) = true → lineWaits p.r1 bucket s = true ∨ claimWaits p s = true →
      exec (.bulkIndexReturn l) s = .next s)) ∧
  (∀ (l bucket : Nat) (r1 : Bool) (u : UndoLog) (s : State), getLog l s = some u →
    u.lines.contains (bucketKey r1 bucket) = false →
    ((tget? s.flow.bucket (bucketKey r1 bucket)).isSome = true →
      askLine l r1 bucket s = setLog l { u with lines := u.lines ++ [bucketKey r1 bucket] } s) ∧
    (tget? s.flow.bucket (bucketKey r1 bucket) = none → 65536 ≤ s.flow.bucket.length → askLine l r1 bucket s = s) ∧
    (tget? s.flow.bucket (bucketKey r1 bucket) = none → s.flow.bucket.length < 65536 →
      tget? (askLine l r1 bucket s).flow.bucket (bucketKey r1 bucket) = some none ∧
      getLog l (askLine l r1 bucket s) = some { u with lines := u.lines ++ [bucketKey r1 bucket] })) ∧
  (∀ (l : Nat) (u : UndoLog) (p : IdxPlace) (s : State), getLog l s = some u →
    lineDone l true p s = recAbsent l s ∧
    (lineOvf (lineNow p.r1 p.bucket s) = 0 → lineDone l false p s = recAbsent l s) ∧
    (lineOvf (lineNow p.r1 p.bucket s) ≠ 0 → ∃ v, getLog l (lineDone l false p s) = some v ∧ v.phase = .index true ∧
      u.lines <+: v.lines ∧ v.hold = u.hold ∧ v.ents = u.ents)) ∧
  (∀ (l n : Nat) (u : UndoLog) (partner pair : Bool) (x : Nat) (rest : List (Nat × Bool × Nat)) (s : State),
    getLog l s = some u → awaits u = true → u.phase = .record partner ((n, pair, x) :: rest) →
    let ck := compactKey s.flow.fpSeed u.key
    let waits := spanOut 0 (recAddr n) (recSize pair) s || claimWaits (logPlace u s) s
    (waits = true → exec (.bulkRecordReturn l) s = .next s) ∧
    (∀ b img s1, waits = false → recordResult n pair s = (b, s1) →
      recJudge n u.key ck b = .found → b = some img → exec (.bulkRecordReturn l) s = .next (recPresent l n img s1)) ∧
    (∀ b s1, waits = false → recordResult n pair s = (b, s1) →
      recJudge n u.key ck b ≠ .found →
      let s2 := leaveBuckets (falseMatch 0 (logPlace u s) n (recJudge n u.key ck b) s1)
      exec (.bulkRecordReturn l) s = .next (if rest = [] then lineDone l partner (logPlace u s) s2
        else askMatch l (setBulk l (.record partner rest) s2)))) ∧
  (∀ (l n : Nat) (img : Bytes) (u : UndoLog) (s : State), getLog l s = some u → u.ctx = none →
    ∃ t, recPresent l n img s = t ∧ ∃ v, getLog l t = some v ∧ v.st = .undoing ∧ v.answered = true ∧
      v.load = some (img, tget (0, 0) s.flow.wraps n) ∧ v.why = (if u.st = .pending then .squash else .conflict) ∧
      (u.st = .pending → t.ctr = s.ctr) ∧
      (u.st ≠ .pending → getCtr .ADM_EXP_CONFLICT 0 t = (getCtr .ADM_EXP_CONFLICT 0 s + 1) % 2 ^ 64)) ∧
  (∀ (l sub : Nat) (u : UndoLog) (s s1 : State), getLog l s = some u → awaits u = true → u.phase = .subctx →
    u.sub = some sub → takeCtx sub (subCtxMend sub s) = s1 →
    let c := nfCheck (cachePeek (subCtxAddr sub) 64 s1) (msNow s1)
    let waits := spanOut 0 (subCtxAddr sub) 64 s || claimWaits (logPlace u s) s || mustWait .ctx sub s
    (waits = true → exec (.subscriberContextReturn l) s = .next s) ∧
    (waits = false → c.1 = true → exec (.subscriberContextReturn l) s =
      .next (claim l (svcStore (subCtxAddr sub)
        (putF (putF c.2 20 8 ((fld c.2 20 8 + 1) % 2 ^ 64)) 28 4 (msNow s1)) s1))) ∧
    (waits = false → c.1 = false → exec (.subscriberContextReturn l) s =
      .next (beginUndo l .reject (svcStore (subCtxAddr sub)
        (putF c.2 12 4 (min 0xFFFFFFFF (fld c.2 12 4 + 1))) s1)))) ∧
  (∀ (b : Bytes) (now : Nat),
    let tokens := min (fld b 10 2 * 1000) (fld b 0 4 + idleMs now (fld b 4 4) * fld b 8 2)
    (bit (fld b 16 4) 0 = true → nfCheck b now = (false, putF (putF b 0 4 tokens) 4 4 now)) ∧
    (bit (fld b 16 4) 0 = false → fld b 8 2 = 0 → nfCheck b now = (true, putF (putF b 0 4 (fld b 0 4)) 4 4 now)) ∧
    (bit (fld b 16 4) 0 = false → fld b 8 2 ≠ 0 → 1000 ≤ tokens →
      nfCheck b now = (true, putF (putF b 0 4 (tokens - 1000)) 4 4 now)) ∧
    (bit (fld b 16 4) 0 = false → fld b 8 2 ≠ 0 → tokens < 1000 →
      nfCheck b now = (false, putF (putF b 0 4 tokens) 4 4 now))) ∧
  (∀ (l : Nat) (u : UndoLog) (s : State), getLog l s = some u → awaits u = true → u.phase = .claimed → u.specDone = true →
    (gatesDone u s = true → indexAccepted u s = true → exec (.confirm l) s = .next (bufSync (confirm l u s))) ∧
    (gatesDone u s = false ∨ indexAccepted u s = false → exec (.confirm l) s = .next s)) ∧
  (∀ (l k n : Nat) (e : HotEntry) (u : UndoLog) (s : State), logEntry l s = some (k, e) → isStd e.img = true →
    e.img.length = 128 → s.flow.mig = none → u.slot = some n → n < 2 ^ 30 → ∃ x, hotGet k (confirmEntry l u s) = some x ∧
      imgProv x.img = false ∧ imgUndo x.img = 0 ∧ imgSlotWord x.img = n ∧ slice x.img 0 48 = slice e.img 0 48) ∧
  (∀ (l : Nat) (u : UndoLog) (s : State), getLog l s = some u → u.hold = [] → u.rerunsLeft = 0 →
    getLog l (toReplay l s) = none) ∧
  (∀ (l : Nat) (u : UndoLog) (s : State), getLog l s = some u → u.st = .undoing →
    (u.waitPlace = false → u.ents.all (·.filled) = true → undoWaits u s = false → exec (.undoApply l) s =
      .next (bufSync (undoEnd l u (applyUndo l s)))) ∧
    (u.waitPlace = true → exec (.undoApply l) s = .next s ∧ exec (.squashRecordPlace l) s =
      .next (bufSync (placeRecord l s))) ∧
    (u.ents.all (·.filled) = false ∨ undoWaits u s = true → exec (.undoApply l) s = .next s)) ∧
  (∀ (l : Nat) (u : UndoLog) (s : State), getLog l s = some u →
    let bare := setLog l { u with ents := [], ctx := none } s
    let done := if symCount u.bad < 2 then forEach u.ents.reverse (applyEnt (compactKey s.flow.fpSeed u.key)) bare else bare
    applyUndo l s = (match u.ctx with
      | some c => cancelInst c done
      | none => done) ∧
    getLog l (undoEnd l { u with why := .reject } s) = none ∧ getLog l (undoEnd l { u with why := .filtered } s) = none ∧
    getLog l (undoEnd l { u with why := .abandon } s) = none) ∧
  (∀ (l : Nat) (u : UndoLog) (s : State), getLog l s = some u → u.st ≠ .pending ∨ u.answered = true ∨
    deadlineReached u (fastClock s) = false → exec (.holdDeadlineExpiry l) s = .next s) ∧
  (∀ (l : Nat) (u : UndoLog) (s : State), getLog l s = some u → u.st = .pending → u.answered = false →
    deadlineReached u (fastClock s) = true →
    let s1 := addCtr .HOLD_EXP_PKTS u.cls u.hold.length (bump .HOLD_EXP_FLOWS u.cls (fastClock s))
    let drop := bit (fld (admClass u.cls s1) 0 1) 0 = true ∨ u.specDone = false ∨
      (u.assured = true ∧ (s1.ep.bank u.bank).mode.getLsbD mASSURED = true)
    (drop → exec (.holdDeadlineExpiry l) s =
      .next (bufSync (dropHeld l (admTrace 5 l (setLog l { u with st := .expDrop } s1))))) ∧
    (¬drop → let s2 := admTrace 4 l (setLog l { u with st := .expFwd } s1)
      (logEntry l s2 = none → exec (.holdDeadlineExpiry l) s = .next s2) ∧
      (∀ k e, logEntry l s2 = some (k, e) →
        let s3 := setFlow { s2.flow with hot := tput s2.flow.hot k { e with img := ctrlBit 5 true e.img } } s2
        exec (.holdDeadlineExpiry l) s = .next (bufSync (rerunDeferred l (splice l (imgAd e.img) s3))))))

open Sys2Proof Sys2Proof.Machine in
/-- Host runs, dispatch, nodes and engines (R139–R142, R145, R148–R155, R159, R160, R371, R412, R413). -/
def Obligations.GraphsRun : Prop :=
  (∀ (r : YcpReq) (s : State), Accepted 0x0412 r s → let b := reqBody r
    let t := fld b 0 4
    let tr := tplRec s.ep.activeNo t s
    let v := (List.range 8).map fun k => fld b (8 + 8 * k) 8
    b.length = 72 → fld b 4 4 < 2 → t < 1024 → 8 ≤ room r →
    (inBp (tplPrio tr) s = true → Fails 0x0412 r stBUSY 0 s (exec (.graphRun r) s)) ∧
    (inBp (tplPrio tr) s = false → startRefused (tplPrio tr) s = true →
      Fails 0x0412 r stNOSPACE 0 s (exec (.graphRun r) s)) ∧
    (inBp (tplPrio tr) s = false → startRefused (tplPrio tr) s = false → tplCount tr ≠ 0 →
      (tplKind tr ≠ 0 → Fails 0x0412 r stINVALID 0 s (exec (.graphRun r) s)) ∧
      (tplKind tr = 0 → fld b 4 4 = 0 →
        Does 0x0412 r (leBytes 4 (nextRun s) ++ zeros 4) (startRun t v none s) (exec (.graphRun r) s)) ∧
      (tplKind tr = 0 → fld b 4 4 = 1 → Waits 0x0412 r (startRun t v (some r.mbx) s) (exec (.graphRun r) s)))) ∧
  (∀ (t : Nat) (v : List Nat) (m : Option (Fin 8)) (s : State), let l := tplPrio (tplRec s.ep.activeNo t s)
    (getLevel l s).ring = [] → (getLevel l s).slots.length < 16384 → ∃ u, startRun t v m s = u ∧
      tget? u.task.run (nextRun s) = some { tpl := t, bank := s.ep.activeNo, v := v, mbx := m } ∧
      (∃ x ∈ (getLevel l u).slots, x.ty = .start ∧ x.runId = nextRun s ∧ x.tpl = t) ∧
      getCtr .TASK_READY l u = (getCtr .TASK_READY l s + 1) % 2 ^ 64) ∧
  (∀ (r : YcpReq) (s : State), Accepted 0x0413 r s → let id := fld (reqBody r) 0 4
    (reqBody r).length = 4 →
    (tget? s.task.run id = none → Fails 0x0413 r stNOT_FOUND 0 s (exec (.graphCancel r) s)) ∧
    (∀ h, tget? s.task.run id = some h → h.ctx = none →
      Does 0x0413 r [] (cancelRun id h s) (exec (.graphCancel r) s)) ∧
    (∀ h c x, tget? s.task.run id = some h → h.ctx = some c → getCtx c s = some x →
      (x.kind = 0 ∨ 4 ≤ x.kind → Does 0x0413 r [] (cancelRun id h s) (exec (.graphCancel r) s)) ∧
      (1 ≤ x.kind → x.kind ≤ 3 → Fails 0x0413 r stDENIED 0 s (exec (.graphCancel r) s)))) ∧
  (∀ (s : State), let s1 := { s with task := { s.task with clk := (s.task.clk + 1) % 2 ^ 48 } }
    let s2 := (flit linkACT s1).2
    (s.mace.injection = none → s2 = s1) ∧
    (s.pwr.standby = .inStandby → exec .taskDispatch s = .next s) ∧
    (s.pwr.standby ≠ .inStandby → nextTask s2 = none → exec .taskDispatch s = .next s2) ∧
    (∀ t e es, s.pwr.standby ≠ .inStandby → nextTask s2 = some t → workingEngines s1 = e :: es → tget 0 s.task.suspect e = 0 →
      nextTask (runTask e t s2) = none → exec .taskDispatch s = .next (runTask e t s2)) ∧
    (∀ t e es, s.pwr.standby ≠ .inStandby → nextTask s2 = some t → workingEngines s1 = e :: es → tget 0 s.task.suspect e ≠ 0 →
      let s3 := raise 35 e 0 (bump .NODE_FAULT 0 (setSuspect e 2 (bump .TASK_DISPATCH t.level (takeTask t s2))))
      nextTask s3 = none → exec .taskDispatch s = .next (returnTask t s3))) ∧
  (∀ (t : Task) (s : State), t ∈ (getLevel t.level (returnTask t s)).slots ∧
    ∀ x ∈ (getLevel t.level s).slots, x ∈ (getLevel t.level (returnTask t s)).slots) ∧
  (∀ (t : Task) (s : State), (∀ l, l ≤ 7 → (getLevel l s).slots.Pairwise fun a b => a.stamp ≤ b.stamp) →
    nextTask s = some t → ∃ l, l ≤ 7 ∧ t ∈ (getLevel l s).slots ∧ t.stamp ≤ s.task.clk ∧
    noContext t s = false ∧ stepHeld t s = false ∧ cacheHeld t s = false ∧
    (t.ty = .start → t.pre = false → s.pwr.warm = .none ∧ ∀ x ∈ (getLevel l s).slots, noContext x s = true → t.stamp ≤ x.stamp) ∧
    ∀ l', l < l' → l' ≤ 7 → ∀ x ∈ (getLevel l' s).slots, s.task.clk < x.stamp ∨ stepHeld x s = true ∨ cacheHeld x s = true ∨
      (x.ty = .start ∧ x.pre = false ∧ (s.pwr.warm ≠ .none ∨ ∃ y ∈ (getLevel l' s).slots, noContext y s = true))) ∧
  (∀ (e : Nat) (t : Task) (s : State), 2 ≤ symCount t.bad → runTask e t s = takeTask t s) ∧
  (∀ (e : Nat) (t : Task) (x : Ctx) (s : State), t.ty = .node → symCount t.bad < 2 → getCtx t.ctx s = some x → x.bad < 2 →
    engineState e s = .working → let n := tplNode (tplRec x.bank x.tpl s) t.node
    let s1 := bump .TASK_DISPATCH t.level (takeTask t s)
    (skipped x n = true → runTask e t s = nodeDone t.ctx t.node id (addCycles e 1 s1)) ∧
    (skipped x n = false → runTask e t s =
      nodeEffect t.ctx t.node x (tplRec x.bank x.tpl s) n (addCycles e (nodeCycles x n) s1))) ∧
  (∀ (x : Ctx) (n : Bytes), skipped x n = true ↔
    nodePredEn n = true ∧ ¬(xor (x.slot (nodePred n) ≠ 0) (nodePredNeg n) = true)) ∧
  (∀ (x : Ctx) (n : Bytes) (s : State), let a := x.slot (nodeSrcA n)
    let b := x.opB n
    (nodeSub n = 0 → aluResult x n s = (a + b) % 2 ^ 64) ∧
    (nodeSub n = 1 → b ≤ a → a < 2 ^ 64 → aluResult x n s = a - b) ∧
    (nodeSub n = 2 → aluResult x n s = a &&& b) ∧ (nodeSub n = 3 → aluResult x n s = a ||| b) ∧
    (nodeSub n = 4 → aluResult x n s = a ^^^ b) ∧
    (nodeSub n = 5 → b < 64 → aluResult x n s = (a * 2 ^ b) % 2 ^ 64) ∧
    (nodeSub n = 6 → b < 64 → aluResult x n s = a / 2 ^ b) ∧
    (nodeSub n = 7 → aluResult x n s = min a b) ∧ (nodeSub n = 8 → aluResult x n s = max a b) ∧
    (nodeSub n = 9 → aluResult x n s = if a = b then 1 else 0) ∧
    (nodeSub n = 10 → aluResult x n s = if a < b then 1 else 0) ∧ (nodeSub n = 11 → aluResult x n s = b)) ∧
  (∀ (c j : Nat) (x : Ctx) (r n : Bytes) (s : State),
    (nodeOp n = 0 → nodeEffect c j x r n s = nodeDone c j id s) ∧
    (nodeOp n = 1 → nodeEffect c j x r n s = nodeDone c j (fun y => y.put (nodeDst n) (aluResult x n s)) s) ∧
    (nodeOp n = 9 ∨ nodeOp n = 10 ∨ nodeOp n = 11 → nodeAddrOk r n x = false →
      nodeEffect c j x r n s = failInst c stFAULTED (raise 38 (x.tpl * 32 + j) 0 (bump .NODE_FAULT 0 s))) ∧
    (nodeOp n = 15 → nodeSub n = 1 → nodeEffect c j x r n s =
      setCtx c { x with timers := tput x.timers j (tget s.time.free x.readyAt j + nodeImm n) } s)) ∧
  (∀ (x : Ctx) (n : Bytes) (s : State), heldEntry x (locPlace (x.slot (nodeSrcA n))) s = none →
    (∀ e, hotGet (locPlace (x.slot (nodeSrcA n))) s = some e → e.bad = 0) →
    hotUpdate x n s = (0, bump .HOT_GONE 0 s) ∧ tcpStep x n s = (0, bump .HOT_GONE 0 s)) ∧
  (∀ (c node : Nat) (s : State), (∀ x, getCtx c s = some x → node ∉ x.outst) →
    exec (.hbmNodeCompletion c node) s = .next s) ∧
  (∀ (c node : Nat) (x : Ctx) (s : State), getCtx c s = some x → node ∈ x.outst → node < 32 → x.log = none →
    let n := tplNode (tplRec x.bank x.tpl s) node
    (owed x (tget {} x.ret node) s = true → exec (.hbmNodeCompletion c node) s = .next s) ∧
    (owed x (tget {} x.ret node) s = false → nodeOp n ≠ 0x13 → nodeOp n ≠ 0x18 → ¬(nodeOp n = 0x0A ∧ x.kind = 2) →
    let s1 := setCtx c (returned node (tget {} x.ret node) (nodeDst n) x) s
    (x.st = .closing → exec (.hbmNodeCompletion c node) s = .next (closeIf c s1)) ∧
    (x.st = .frozen → exec (.hbmNodeCompletion c node) s = .next s1) ∧
    (x.st = .running → exec (.hbmNodeCompletion c node) s = .next (nodeDone c node id s1)))) ∧
  (∀ (c node t : Nat) (x : Ctx) (s : State), getCtx c s = some x → tget? x.timers node = some t →
    (t ≤ s.time.free → x.st = .running → exec (.waitEventTimer c node) s =
      .next (nodeDone c node (fun y => { y with timers := tdel y.timers node }) s)) ∧
    (s.time.free < t → exec (.waitEventTimer c node) s = .next s)) ∧
  (∀ (c : Nat) (x : Ctx) (s : State), getCtx c s = some x → x.st = .running → let r := tplRec x.bank x.tpl s
    let s1 := raise 34 x.tpl 0 (bump .GRAPH_TIMEOUT x.kind s)
    (timedOut x s = false → exec (.graphTimeout c) s = .next s) ∧
    (x.pausedNs = 0 → x.pausedAt = none → (timedOut x s = true ↔ timeoutUs r ≤ (s.time.free - x.since) / 1000)) ∧
    (timedOut x s = true → timeoutUs r ≤ (s.time.free - x.since) / 1000) ∧
    (2 * timeoutUs r ≤ (s.time.free - x.since) / 1000 → timedOut x s = true) ∧
    (timedOut x s = true → x.kind = 0 ∨ 4 ≤ x.kind →
      exec (.graphTimeout c) s = .next (endRun x.runId stTIMEOUT [] (pushRecord x (cancelInst c s1)))) ∧
    (timedOut x s = true → x.kind = 2 ∨ x.kind = 3 →
      exec (.graphTimeout c) s = .next (endRun x.runId stTIMEOUT [] (pushRecord x (cancelInst c
        { s1 with pwr := { s1.pwr with auditDue := true } })))) ∧
    (∀ l, timedOut x s = true → x.kind = 1 → x.log = some l →
      exec (.graphTimeout c) s = .next (beginUndo l .abandon s1))) ∧
  (∀ (c : Nat) (x : Ctx) (s : State), getCtx c s = some x → x.st ≠ .closing →
    (x.outst = [] → getCtx c (cancelInst c s) = none ∧ tget 0 (cancelInst c s).task.gen c = (tget 0 s.task.gen c + 1) % 256) ∧
    (x.outst ≠ [] → (getCtx c (cancelInst c s)).map (·.st) = some .closing) ∧
    (∀ t ∈ (getLevel x.level (cancelInst c s)).slots, t.ty ≠ .start → t.ctx ≠ c) ∧
    getCtr .GRAPH_CANCEL x.kind (cancelInst c s) = (getCtr .GRAPH_CANCEL x.kind s + 1) % 2 ^ 64) ∧
  (∀ (l : Nat) (s : State), (getLevel l s).ring = [] → l < 8 → exec (.spillRingRefill l) s = .next s) ∧
  (∀ (l : Nat) (t : Task) (s : State), l < 8 → (getLevel l s).ring = [t] → (getLevel l s).slots.length ≤ 16368 →
    taskAlive s t = true →
    ∃ u, exec (.spillRingRefill l) s = .next u ∧ (getLevel l u).ring = [] ∧
      (getLevel l u).slots = insertTask t (getLevel l s).slots ∧
      getCtr .SPILL_READ l u = (getCtr .SPILL_READ l s + 1) % 2 ^ 64 ∧ getCtr .SPILL_DEPTH l u = 0) ∧
  (∀ (e : Nat) (s : State), engineState e s ≠ .failed → exec (.engineSelfTest e true) s = .next (setSuspect e 0 s) ∧
    exec (.engineSelfTest e false) s =
      .next (raise 35 e 0 (bump .NODE_FAULT 0 (setSuspect e (max 1 (tget 0 s.task.suspect e)) s)))) ∧
  (∀ (s : State), s.task.joining = 0 → exec .spareEngineJoin s = .next s) ∧
  (∀ (s : State) (k e : Nat) (ks : List Nat), 0 < s.task.joining → joinOrder s = k :: ks → s.spare.engineOut = [e] → e ≠ k →
    isProactive 3 e s = false → ∃ u, exec .spareEngineJoin s = .next u ∧ engineState k u = .working ∧
      u.task.joining = s.task.joining - 1 ∧ engineState e u = engineState e s ∧
      getCtr .SPARE_SWAP 2 u = (getCtr .SPARE_SWAP 2 s + 1) % 2 ^ 64) ∧
  (∀ (e : Nat) (s : State), engineState e s = .working → let n := ((List.range 68).filter fun k => engineState k s == .working).length
    (inMode mFRUGAL s = true → 4 < n → exec (.engineClockGate e) s =
      .next { s with task := { s.task with engine := tput s.task.engine e .gated } }) ∧
    (inMode mFRUGAL s = false ∨ n ≤ 4 → exec (.engineClockGate e) s = .next s))

open Sys2Proof Sys2Proof.Machine in
/-- The commands of the flow services, the quotas of LB_BUILD, the service caches, the map sweep, the pool audit, the fold of the
counters and reservations that find no port (R166, R174, R176, R184, R186, R187, R193, R197, R459). -/
def Obligations.FlowServices : Prop :=
  (∀ (r : YcpReq) (s : State), Accepted 0x0423 r s → let n := fld (reqBody r) 0 4
    (reqBody r).length = 4 →
    (10 ≤ n → n ≤ 3600 → Does 0x0423 r [] { s with svc := { s.svc with mapSweep := n } } (exec (.xlatSweepSet r) s)) ∧
    (n < 10 ∨ 3600 < n → Fails 0x0423 r stRANGE 0 s (exec (.xlatSweepSet r) s))) ∧
  (∀ (r : YcpReq) (s : State), Accepted 0x0425 r s → let svc := fld (reqBody r) 0 4
    (reqBody r).length = 4 →
    (svc < 4096 → Does 0x0425 r [] (hbmWrite 4 (lbSlotAddr svc 0) (tableBytes (buildTable svc s))
      (spanReq 4 false (lbSlotAddr svc 0) 262144 s)) (exec (.lbBuild r) s)) ∧
    (4096 ≤ svc → Fails 0x0425 r stRANGE 0 s (exec (.lbBuild r) s))) ∧
  (∀ (bs : List Nat) (s : State), let w (b : Nat) : Nat := fld (backendRec b s) 1 1
    0 < (bs.map w).sum → ((quotas bs s).map (·.2)).sum = 65536 ∧ (quotas bs s).map (·.1) = bs ∧
    ∀ q ∈ quotas bs s, q.2 = 65536 * w q.1 / (bs.map w).sum ∨ q.2 = 65536 * w q.1 / (bs.map w).sum + 1) ∧
  (∀ (r : YcpReq) (s : State), Accepted 0x0427 r s → let b := reqBody r
    b.length = 8 →
    (fld b 0 4 = 1 → s.svc.audit = none → let x : SvcState := { s.svc with audit := some {} }
      let u := { s with svc := x, pwr := { s.pwr with auditDue := false } }
      (auditProps u).length ≤ room r → Does 0x0427 r (auditProps u) u (exec (.poolAudit r) s)) ∧
    (fld b 0 4 = 1 → s.svc.audit ≠ none → Fails 0x0427 r stBUSY 0 s (exec (.poolAudit r) s)) ∧
    (fld b 0 4 = 2 → 4 ≤ fld b 4 4 → fld b 4 4 ≤ 256 → let u := { s with svc := { s.svc with auditRate := fld b 4 4 } }
      (auditProps u).length ≤ room r → Does 0x0427 r (auditProps u) u (exec (.poolAuditRate r) s)) ∧
    (fld b 0 4 = 2 → fld b 4 4 < 4 ∨ 256 < fld b 4 4 → Fails 0x0427 r stRANGE 0 s (exec (.poolAuditRate r) s)) ∧
    (fld b 0 4 = 3 → (auditProps s).length ≤ room r →
      Answers 0x0427 r (auditProps s) false s (exec (.poolAuditStatus r) s))) ∧
  (∀ (r : YcpReq) (s : State), Accepted 0x0428 r s → let b := reqBody r
    let k := fld b 4 4
    b.length = 8 → 64 ≤ room r →
    (fld b 0 4 = 0 → k < 134217728 → tget? s.svc.pend k = none →
      (cachePeek (regionBase 6 + 64 * k) 64 s).length ≤ room r →
      Answers 0x0428 r (cachePeek (regionBase 6 + 64 * k) 64 s) false (askLine4 (mapAddr k) 64 s) (exec (.xlatQuery r) s)) ∧
    (∀ x, fld b 0 4 = 0 → k < 134217728 → tget? s.svc.pend k = some x →
      Answers 0x0428 r (mapMake 3 x.noidx x.sub x.proto x.port x.addr 0 0 0) false s (exec (.xlatQuery r) s)) ∧
    (fld b 0 4 = 1 → k < 8388608 → (dirEnt k s).length ≤ room r →
      Answers 0x0428 r (dirEnt k s) false (askLine4 (dirAddr k) 32 s) (exec (.xlatQuery r) s)) ∧
    (fld b 0 4 = 0 → 134217728 ≤ k → Fails 0x0428 r stRANGE 0 s (exec (.xlatQuery r) s)) ∧
    (2 ≤ fld b 0 4 → Fails 0x0428 r stINVALID 0 s (exec (.xlatQuery r) s))) ∧
  (∀ (a : Nat) (l : CacheLine) (s : State), tget? s.svc.cache a = some l →
    cachePeek a l.data.length s = l.data ∧ tget? (lineLeaves a s).svc.cache a = none ∧
    (l.dirty = true → lineLeaves a s = hbmWrite 4 a l.data { s with svc := { s.svc with cache := tdel s.svc.cache a } }) ∧
    (l.dirty = false → (lineLeaves a s).hbm = s.hbm) ∧
    ∀ b, (svcStore a b s).hbm = s.hbm ∧ cachePeek a b.length (svcStore a b s) = b) ∧
  (∀ (k : SvcCache) (o v : Nat) (rest : List Nat) (s : State), lru k s = v :: rest → o ∉ lru k s →
    (lru k s).length = cacheSize k → objPinned k v s = false → v ∉ rest → lru k (use k o s) = rest ++ [o]) ∧
  (∀ (k : SvcCache) (o : Nat) (s : State), o ∈ lru k s → use k o s = setLru k ((lru k s).erase o ++ [o]) s) ∧
  (∀ (s : State), allocatedBlocks s = [] → exec .mapSweepVisit s = .next s) ∧
  (∀ (g : Nat) (s : State), ((allocatedBlocks s).find? fun k => decide (s.svc.sweepAt ≤ k)) = some g →
    ∃ t, exec .mapSweepVisit s = .next t ∧ t.svc.sweepAt = (g + 1) % 2097152 ∧ t.hbm.mem = (sweepBlock g s).hbm.mem ∧
      t.svc.blocks = (sweepBlock g s).svc.blocks) ∧
  (∀ (g sub : Nat) (s : State), blockOwner g s = some sub → let p := blockPool g s
    (xpDet (xpoolDesc p s) = true → (returnBlock g s).svc.blocks = s.svc.blocks) ∧
    (xpDet (xpoolDesc p s) = false → (getBlocks p s).back.length < 15 →
      (returnBlock g s).svc.blocks = tset {} s.svc.blocks p { getBlocks p s with back := (getBlocks p s).back ++ [g] }) ∧
    (xpDet (xpoolDesc p s) = false → 15 ≤ (getBlocks p s).back.length → (returnBlock g s).svc.blocks =
      tset {} s.svc.blocks p { getBlocks p s with wr := (getBlocks p s).wr + 16, back := [] }) ∧
    (xpDet (xpoolDesc p s) = false →
      getCtr .XLAT_BLOCK_FREE p (returnBlock g s) = (getCtr .XLAT_BLOCK_FREE p s + 1) % 2 ^ 64)) ∧
  (∀ (p g : Nat) (gs : List Nat) (s : State), (getBlocks p s).front = g :: gs → blockOwned g s = true →
    popBlock p s = (some g, setBlocks p { getBlocks p s with front := gs } s)) ∧
  (∀ (p g : Nat) (s : State), let r := getBlocks p s
    memWf s.hbm.mem = true → r.back.length = 15 → p < 64 →
    hbmPeek (blockRingAddr p r.wr) 64 (pushBlock p g s) = ((r.back ++ [g]).map (leBytes 4)).flatten ∧
    (getBlocks p (pushBlock p g s)).wr = r.wr + 16) ∧
  (∀ (s : State), s.svc.acc = [] → exec .counterFold s = .next s) ∧
  (∀ (id : Nat) (p b : Int) (s : State), memWf s.hbm.mem = true → s.svc.acc = [(id, (p, b))] →
    spanUe (ctrPairAddr id) 16 s = false → ∃ t, exec .counterFold s = .next t ∧ t.svc.acc = [] ∧
      pairValue id t = pairValue id s) ∧
  (∀ (s : State), s.svc.audit = none → s.pwr.auditDue = false → ∀ n, exec (.poolAuditWalk n) s = .next s) ∧
  (∀ (n : Nat) (s : State), s.svc.audit = none → s.pwr.auditDue = true → ∃ t a, exec (.poolAuditWalk n) s = .next t ∧
    t.svc.audit = some a ∧ a.hotAt = min n 4067328 ∧ t.pwr.auditDue = false) ∧
  (∀ (n : Nat) (a : Audit) (s : State), s.svc.audit = some a → a.hotAt < 4067328 →
    ∃ t a', exec (.poolAuditWalk n) s = .next t ∧ t.svc.audit = some a' ∧ a'.hotAt = min (a.hotAt + n) 4067328 ∧
      a'.slotAt = a.slotAt ∧ t.flow = s.flow ∧ t.svc.pend = s.svc.pend ∧ t.svc.blocks = s.svc.blocks ∧
      t.svc.backend = s.svc.backend) ∧
  (∀ (n : Nat) (a : Audit) (s : State), s.svc.audit = some a → a.hotAt < 4067328 →
    (∀ k, a.hotAt ≤ k → k < a.hotAt + n → hotGet k s = none) → exec (.poolAuditWalk n) s =
      .next { s with svc := { s.svc with audit := some { a with hotAt := min (a.hotAt + n) 4067328 } } }) ∧
  (∀ (n : Nat) (a : Audit) (s : State), s.svc.audit = some a → 4067328 ≤ a.hotAt → 2 ^ s.flow.bucketBits ≤ a.slotAt →
    exec (.poolAuditWalk n) s = .next s) ∧
  (∀ (s : State), (s.svc.audit = none → exec .poolAuditEnd s = .next s) ∧
    (∀ a, s.svc.audit = some a → a.hotAt < 4067328 ∨ a.slotAt < 2 ^ s.flow.bucketBits → exec .poolAuditEnd s = .next s) ∧
    (∀ a, s.svc.audit = some a → 4067328 ≤ a.hotAt → 2 ^ s.flow.bucketBits ≤ a.slotAt → ∃ t, exec .poolAuditEnd s = .next t ∧
      t.svc.audit = none ∧ t.svc.mapLost = [] ∧ t.svc.subLost = [])) ∧
  (∀ (s : State), exec .freeBlockPush s = .next
    (forEach (s.svc.blocks.map (·.1)) unasideBlocks { s with svc := { s.svc with blockMap := [] } })) ∧
  (∀ (s : State), (∀ x ∈ s.svc.blocks, x.2.aside = []) → s.svc.blocks.Pairwise (fun a b => a.1 < b.1) →
    (∀ x ∈ s.svc.blocks, x.2 ≠ {}) → exec .freeBlockPush s = .next { s with svc := { s.svc with blockMap := [] } }) ∧
  (∀ (echo : Bool) (fp ck : Bytes) (sub : Nat) (s : State), binding sub s = none →
    (translatable echo fp ck = true → portReserve echo fp sub ck s = (.none 1, raise 48 0 0 s)) ∧
    (translatable echo fp ck = false → portReserve echo fp sub ck s = (.none 3, s))) ∧
  (∀ (fp ck : Bytes), fld ck 4 1 = 1 → translatable false fp ck = false) ∧
  (∀ (b n : Nat) (ck : Bytes) (s : State), (backendRec b s).length = 16 →
    backendActive (backendRec b (lbRelease b n ck s)) = backendActive (backendRec b s) - n)

open Sys2Proof Sys2Proof.Machine in
/-- R206: the subscriber meter of a packet. It holds of every packet that the service lookup does not drop. -/
def Obligations.SubscriberMeter : Prop :=
  ∀ (port vlan vec flags : Nat) (s : State) (x : SvcResult) (t : State),
    serviceLookup port vlan vec flags s = (some x, t) →
    (∀ o sub, svcMeterEn x.entry = true → subDerive x.entry vec flags vlan = .ok (o, sub) →
      x.meter = some ((svcMeterBase x.entry + o) % 65536)) ∧
    (svcMeterEn x.entry = false → x.meter = none) ∧
    (∀ past, subDerive x.entry vec flags vlan = .error past → x.meter = none)

open Sys2Proof Sys2Proof.Machine in
/-- The commands of the L2 table, the CAM and the subscriber contexts (R210, R212, R217, R219, R225). SET_TIME of a host
write and the VALID bit it sets are the model's (log 34). -/
def Obligations.LookupCommandsComplete : Prop :=
  (∀ (r : YcpReq) (s : State) (i : Nat), Accepted 0x0203 r s → let e := slice (reqBody r) 4 16
    let x := fit 12 (putF e 9 1 (fld e 9 1 ||| 1)) ++ leBytes 4 (msNow s)
    (reqBody r).length = 20 → fld (reqBody r) 0 4 = 1 → l2Encodes e = true → portUnused (l2Port e) s = false → 20 ≤ room r →
    (l2Find (l2Fid e) (l2Mac e) s = some i ∨
      (l2Find (l2Fid e) (l2Mac e) s = none ∧ l2Empty (l2Fid e) (l2Mac e) s = some i)) →
    Does 0x0203 r (leBytes 4 i ++ x) { s with look := { s.look with
      l2 := tset (zeros 16) s.look.l2 i x, l2Bad := tdel s.look.l2Bad i } } (exec (.l2Write r) s)) ∧
  (∀ (r : YcpReq) (s : State), Accepted 0x0203 r s → let e := slice (reqBody r) 4 16
    (reqBody r).length = 20 → fld (reqBody r) 0 4 = 1 → l2Encodes e = true →
    (portUnused (l2Port e) s = true → Fails 0x0203 r stINVALID 0 s (exec (.l2Write r) s)) ∧
    (portUnused (l2Port e) s = false → l2Find (l2Fid e) (l2Mac e) s = none → l2Empty (l2Fid e) (l2Mac e) s = none →
      Fails 0x0203 r stNOSPACE 0 s (exec (.l2Write r) s))) ∧
  (∀ (r : YcpReq) (s : State) (i : Nat), Accepted 0x0203 r s → let e := slice (reqBody r) 4 16
    (reqBody r).length = 20 → fld (reqBody r) 0 4 = 2 → l2Encodes e = true → 20 ≤ room r →
    l2Find (l2Fid e) (l2Mac e) s = some i →
    Does 0x0203 r (leBytes 4 i ++ zeros 16) { s with look := { s.look with
      l2 := tdel s.look.l2 i, l2Bad := tdel s.look.l2Bad i } } (exec (.l2WriteDelete r) s)) ∧
  (∀ (r : YcpReq) (s : State), Accepted 0x0203 r s → let e := slice (reqBody r) 4 16
    (reqBody r).length = 20 → 2 ≤ fld (reqBody r) 0 4 ∧ fld (reqBody r) 0 4 ≤ 3 → l2Encodes e = true →
    l2Find (l2Fid e) (l2Mac e) s = none →
    Fails 0x0203 r stNOT_FOUND 0 s (exec (.l2WriteDelete r) s) ∧
    Fails 0x0203 r stNOT_FOUND 0 s (exec (.l2WriteSearch r) s)) ∧
  (∀ (r : YcpReq) (s : State) (i : Nat), Accepted 0x0203 r s → let e := slice (reqBody r) 4 16
    (reqBody r).length = 20 → fld (reqBody r) 0 4 = 3 → l2Encodes e = true →
    l2Lookup (l2Fid e) (l2Mac e) s = some i → 4 + (l2Entry i s).length ≤ room r →
    Answers 0x0203 r (leBytes 4 i ++ l2Entry i s) false s (exec (.l2WriteSearch r) s)) ∧
  (∀ (r : YcpReq) (s : State), Accepted 0x0204 r s → let f := fld (reqBody r) 0 4
    let p := fld (reqBody r) 4 4
    let goes (e : Bytes) : Bool := l2Valid e && !l2Static e && (bit f 31 || bit p 31) &&
      (!bit f 31 || l2Fid e == bits f 0 12) && (!bit p 31 || l2Port e == bits p 0 6)
    (reqBody r).length = 8 → bits f 12 19 = 0 → bits p 6 25 = 0 → (bit p 31 = true → portUnused (bits p 0 6) s = false) →
    4 ≤ room r → ∃ l m bad, (∀ i, goes (tget (zeros 16) s.look.l2 i) = true → tget (zeros 16) m i = zeros 16) ∧
      (∀ i, (∀ x ∈ s.look.l2, x.1 = i → goes x.2 = false) → tget (zeros 16) m i = tget (zeros 16) s.look.l2 i) ∧
      l = (s.look.l2.filter fun x => goes x.2).length ∧
      Does 0x0204 r (leBytes 4 l) { s with look := { s.look with l2 := m, l2Bad := bad } } (exec (.l2Flush r) s)) ∧
  (∀ (r : YcpReq) (s : State), Accepted 0x0204 r s → let p := fld (reqBody r) 4 4
    (reqBody r).length = 8 → bit p 31 = true → portUnused (bits p 0 6) s = true →
    Fails 0x0204 r stINVALID 0 s (exec (.l2Flush r) s)) ∧
  (∀ (r : YcpReq) (s : State), Accepted 0x0205 r s → let b := reqBody r
    b.length = 16 → fld b 12 4 = 0 → fld b 0 4 ≤ 100 → 10 ≤ fld b 4 4 → fld b 4 4 ≤ 3600 →
    (fld b 8 4 = s.look.l2Seed ∨ s.look.l2 = [] →
      Does 0x0205 r [] { s with look := { s.look with hold := fld b 0 4, l2Age := fld b 4 4, l2Seed := fld b 8 4 } }
        (exec (.l2Config r) s)) ∧
    (fld b 8 4 ≠ s.look.l2Seed → s.look.l2 ≠ [] → Fails 0x0205 r stBUSY 0 s (exec (.l2Config r) s))) ∧
  (∀ (r : YcpReq) (s : State), Accepted 0x0206 r s → let e := slice (reqBody r) 8 32
    let x := leBytes 20 (camValue e &&& camMask (camLen e)) ++ slice e 20 12
    let i := fld (reqBody r) 4 4
    (reqBody r).length = 40 → fld (reqBody r) 0 4 = 1 → bits (fld e 22 1) 4 3 = 0 → fld e 23 9 = 0 → i < 32768 →
    camLen e ≤ 160 → 32 ≤ room r →
    Does 0x0206 r x { s with look := { s.look with
      cam := tset (zeros 32) s.look.cam i x, camBad := tdel s.look.camBad i } } (exec (.camWrite r) s)) ∧
  (∀ (r : YcpReq) (s : State), Accepted 0x0206 r s → let i := fld (reqBody r) 4 4
    let x := putF (camEntry i s) 22 1 (fld (camEntry i s) 22 1 % 128)
    (reqBody r).length = 40 → fld (reqBody r) 0 4 = 2 → camEncodes (slice (reqBody r) 8 32) = true → i < 32768 →
    x.length ≤ room r →
    Does 0x0206 r x { s with look := { s.look with
      cam := tset (zeros 32) s.look.cam i x, camBad := tdel s.look.camBad i } } (exec (.camWriteDelete r) s)) ∧
  (∀ (r : YcpReq) (s : State), Accepted 0x0206 r s → let i := fld (reqBody r) 4 4
    (reqBody r).length = 40 → fld (reqBody r) 0 4 = 3 → camEncodes (slice (reqBody r) 8 32) = true → i < 32768 →
    (tget 0 s.look.camBad i = 0 → (camEntry i s).length ≤ room r →
      Answers 0x0206 r (camEntry i s) false s (exec (.camWriteRead r) s)) ∧
    (tget 0 s.look.camBad i ≠ 0 → Fails 0x0206 r stFAULTED 0 s (exec (.camWriteRead r) s))) ∧
  (∀ (r : YcpReq) (s : State), Accepted 0x0206 r s → (reqBody r).length = 40 → camEncodes (slice (reqBody r) 8 32) = false →
    Fails 0x0206 r stINVALID 0 s (exec (.camWrite r) s) ∧ Fails 0x0206 r stINVALID 0 s (exec (.camWriteDelete r) s) ∧
    Fails 0x0206 r stINVALID 0 s (exec (.camWriteRead r) s)) ∧
  (∀ (r : YcpReq) (s : State) (i : Nat) (tie : Bool), Accepted 0x0208 r s → let p := fld (reqBody r) 0 4
    (reqBody r).length = 24 → p < 16 → camBest p (fld (reqBody r) 4 20) s = some (i, tie) → 8 ≤ room r →
    let u := bump .CAM_HITS p (camMet p (bump .CAM_SEARCHES p s))
    Answers 0x0208 r (leBytes 4 i ++ leBytes 1 (camPrio (camEntry i s)) ++ [1, 0, 0]) false
      (if tie then bump .TIE p u else u) (exec (.camSearch r) s)) ∧
  (∀ (r : YcpReq) (s : State), Accepted 0x0208 r s → let p := fld (reqBody r) 0 4
    (reqBody r).length = 24 → p < 16 → camBest p (fld (reqBody r) 4 20) s = none → 8 ≤ room r →
    Answers 0x0208 r (zeros 8) false (camMet p (bump .CAM_SEARCHES p s)) (exec (.camSearch r) s)) ∧
  (∀ (p : Nat) (s : State), (∀ x ∈ s.look.camBad, x.2 = 1 → bit (fld (camProfile p s) 20 1) (x.1 / 4096) = false) → camMet p s = s) ∧
  (∀ (p i : Nat) (s : State), s.look.camBad = [(i, 1)] → bit (fld (camProfile p s) 20 1) (i / 4096) = true →
    getCtr .CAM_PARITY 0 (camMet p s) = (getCtr .CAM_PARITY 0 s + 1) % 2 ^ 64 ∧
    (camMet p s).mace.inflight = s.mace.inflight ++ [⟨58, i, 0⟩] ∧ (camMet p s).look.camBad = [(i, 2)]) ∧
  (∀ (r : YcpReq) (s : State), Accepted 0x0209 r s → let b := reqBody r
    let sub := fld b 0 4
    let mask := fld b 4 4
    b.length = 136 → mask < 256 → fld b 24 4 < 2 → sub < 8388608 →
    (mask % 16 ≠ 0 → mustWait .ctx sub s = true → Fails 0x0209 r stBUSY 0 s (exec (.subCtxWrite r) s)) ∧
    ((bit mask 0 = true → fld b 16 2 = 0 ∨ fld b 18 2 ≠ 0) → mask % 16 = 0 ∨ mustWait .ctx sub s = false → Does 0x0209 r [] (forEach (((List.range 8).filter (bit mask)).filter (4 ≤ ·)) (fun g u =>
        hbmWrite 4 (subCtxAddr sub + 16 * g) (slice b (8 + 16 * g) 16) u)
      (if mask &&& 15 ≠ 0 then subCtxLine0 sub (((List.range 8).filter (bit mask)).filter (· < 4)) b s else s))
      (exec (.subCtxWrite r) s))) ∧
  (∀ (sub : Nat) (gs : List Nat) (b : Bytes) (l : CacheLine) (s : State), tget? s.svc.cache (subCtxAddr sub) = some l →
    l.cache = .ctx → sub ∈ s.svc.ctxLru → ∃ t, subCtxLine0 sub gs b s = t ∧ t.hbm = s.hbm ∧
      cachePeek (subCtxAddr sub) 64 t = gs.foldl (fun d g => put d (16 * g) (slice b (8 + 16 * g) 16)) l.data) ∧
  (∀ (r : YcpReq) (s : State), Accepted 0x020A r s → let sub := fld (reqBody r) 0 4
    let a := subCtxAddr sub
    (reqBody r).length = 4 → sub < 8388608 → 128 ≤ room r →
    (∀ l, tget? s.svc.cache a = some l → l.data.length = 64 → spanUe (a + 64) 64 s = false →
      Answers 0x020A r (l.data ++ hbmPeek (a + 64) 64 s) false (hbmRead 4 (a + 64) 64 s).2 (exec (.subCtxRead r) s)) ∧
    (tget? s.svc.cache a = none → spanUe a 64 s = false → spanUe (a + 64) 64 s = false →
      Answers 0x020A r (hbmPeek a 64 s ++ hbmPeek (a + 64) 64 s) false
        (hbmRead 4 (a + 64) 64 (hbmRead 4 a 64 s).2).2 (exec (.subCtxRead r) s)) ∧
    (spanUe a 64 s = false → spanUe (a + 64) 64 s = true → Fails 0x020A r stFAULTED 0 s (exec (.subCtxRead r) s)))

open Sys2Proof Sys2Proof.Machine in
/-- R220: a search of the CAM finds the matching entry of highest PRIO, the lowest index among equals, and says whether it was
a tie; no match is a miss. The canonical form of the table is what every step keeps. -/
def Obligations.CamSearchFindsTheBest : Prop :=
  ∀ (p key : Nat) (s : State), twf (zeros 32) s.look.cam = true →
    let hit (j : Nat) : Prop := camMatches p key j (camEntry j s) s = true
    (∀ i tie, camBest p key s = some (i, tie) → hit i ∧
      (∀ j, hit j → camPrio (camEntry j s) ≤ camPrio (camEntry i s)) ∧
      (∀ j, hit j → camPrio (camEntry j s) = camPrio (camEntry i s) → i ≤ j) ∧
      (tie = true ↔ ∃ j, j ≠ i ∧ hit j ∧ camPrio (camEntry j s) = camPrio (camEntry i s))) ∧
    (camBest p key s = none ↔ ∀ j, ¬ hit j)

open Sys2Proof Sys2Proof.Machine in
/-- The table command window (R224–R226): what each operation on each table leaves in the registers and in the table; it stays BUSY
for a free time (log 12). -/
def Obligations.TableWindow : Prop :=
  (∀ (v : BitVec 32) (s : State), tcwBusy s = true →
    exec (.tcwRead v) s = .next (tcwOvr s) ∧ exec (.tcwWrite v) s = .next (tcwOvr s) ∧
    exec (.tcwDelete v) s = .next (tcwOvr s) ∧ exec (.tcwSearch v) s = .next (tcwOvr s) ∧
    (bits v.toNat 0 4 = 0 ∨ 4 < bits v.toNat 0 4 ∨ 4 ≤ tcwTable v → exec (.tcwInvalidOp v) s = .next (tcwOvr s))) ∧
  (∀ (s : State), (tcwOvr s).look = s.look ∧ (tcwOvr s).host.tcw = s.host.tcw ∧ bits (tcwOvr s).host.tcwStatus 4 1 = 1 ∧
    bits (tcwOvr s).host.tcwStatus 16 16 = bits s.host.tcwStatus 16 16) ∧
  (∀ (u : Option (Nat × Nat)) (w : Bool) (s : State), ∃ t, exec (.aonTick u w) s = .next t ∧
    t.host.tcwLeft = s.host.tcwLeft - 1) ∧
  (∀ (v : BitVec 32) (s : State), let i := tcwIndex s
    tcwBusy s = false →
    (tcwTable v = 0 → tget 0 s.look.svcBad i = 0 →
      ∃ t, exec (.tcwRead v) s = .next t ∧ WindowEnds 0 (some (i, svcEntry i s)) s t) ∧
    (tcwTable v = 1 → tget 0 s.look.l2Bad i = 0 →
      ∃ t, exec (.tcwRead v) s = .next t ∧ WindowEnds 0 (some (i, l2Entry i s)) s t) ∧
    (tcwTable v = 1 → tget 0 s.look.l2Bad i ≠ 0 →
      ∃ t, exec (.tcwRead v) s = .next t ∧ WindowEnds 5 (some (i, l2Entry i s)) s t) ∧
    (tcwTable v = 2 → i < 32768 → tget 0 s.look.camBad i = 0 →
      ∃ t, exec (.tcwRead v) s = .next t ∧ WindowEnds 0 (some (i, camEntry i s)) s t) ∧
    (tcwTable v = 3 → i < 16 →
      ∃ t, exec (.tcwRead v) s = .next t ∧ WindowEnds 0 (some (i, camProfile i s)) s t) ∧
    (tcwTable v = 3 → 16 ≤ i → ∃ t, exec (.tcwRead v) s = .next t ∧ WindowEnds 2 none s t)) ∧
  (∀ (v : BitVec 32) (s : State), let i := tcwIndex s
    let d := tcwData s
    tcwBusy s = false →
    (tcwTable v = 0 → svcCheck s i (d.take 24) = stOK → ∃ t, exec (.tcwWrite v) s = .next t ∧
      WindowEnds 0 (some (i, d.take 24)) { s with look := { s.look with
        svc := tset (zeros 24) s.look.svc i (d.take 24), svcBad := tdel s.look.svcBad i } } t) ∧
    (tcwTable v = 0 → svcCheck s i (d.take 24) = stINVALID →
      ∃ t, exec (.tcwWrite v) s = .next t ∧ WindowEnds 1 none s t) ∧
    (tcwTable v = 3 → fld d 21 11 = 0 → i < 16 → ∃ t, exec (.tcwWrite v) s = .next t ∧
      WindowEnds 0 (some (i, d)) { s with look := { s.look with camProf := tset (zeros 32) s.look.camProf i d } } t)) ∧
  (∀ (v : BitVec 32) (s : State), let i := tcwIndex s
    let k := (tcwData s).take 16
    tcwBusy s = false →
    (tcwTable v = 0 → ∃ t, exec (.tcwDelete v) s = .next t ∧ WindowEnds 0 none { s with look := { s.look with
      svc := tdel s.look.svc i, svcBad := tdel s.look.svcBad i } } t) ∧
    (tcwTable v = 1 → l2Find (l2Fid k) (l2Mac k) s = none →
      ∃ t, exec (.tcwDelete v) s = .next t ∧ WindowEnds 3 none s t) ∧
    (∀ j, tcwTable v = 1 → l2Find (l2Fid k) (l2Mac k) s = some j → ∃ t, exec (.tcwDelete v) s = .next t ∧
      WindowEnds 0 none { s with look := { s.look with l2 := tdel s.look.l2 j, l2Bad := tdel s.look.l2Bad j } } t)) ∧
  (∀ (v : BitVec 32) (s : State) (i : Nat), let k := (tcwData s).take 16
    tcwBusy s = false → tcwTable v = 1 → l2Lookup (l2Fid k) (l2Mac k) s = some i →
    ∃ t, exec (.tcwSearch v) s = .next t ∧ WindowEnds 0 (some (i, l2Entry i s)) s t) ∧
  (∀ (v : BitVec 32) (s : State) (i : Nat), let d := tcwData s
    tcwBusy s = false → tcwTable v = 2 → camBest (bits (fld d 22 1) 0 4) (fld d 0 20) s = some (i, false) →
    let p := bits (fld d 22 1) 0 4
    ∃ t, exec (.tcwSearch v) s = .next t ∧
      WindowEnds 0 (some (i, camEntry i s)) (bump .CAM_HITS p (camMet p (bump .CAM_SEARCHES p s))) t) ∧
  (∀ (v : BitVec 32) (s : State), tcwBusy s = false → tcwTable v = 0 ∨ tcwTable v = 3 →
    ∃ t, exec (.tcwSearch v) s = .next t ∧ WindowEnds 1 none s t) ∧
  (∀ (v : BitVec 32) (s : State), tcwBusy s = false → bits v.toNat 0 4 = 0 ∨ 4 < bits v.toNat 0 4 ∨ 4 ≤ tcwTable v →
    ∃ t, exec (.tcwInvalidOp v) s = .next t ∧ WindowEnds 1 none s t)

open Sys2Proof Sys2Proof.Machine in
/-- The learn engine row by row (R214, R215), the ageing of the L2 table (R216) and what the scrub of the tables finds (R207,
R218, R223). -/
def Obligations.LearnEngine : Prop :=
  (∀ (x : LearnReq) (rest : List LearnReq) (s : State), s.look.learnq = x :: rest →
    let put (u : State) (i : Nat) (e : Bytes) : State := { u with look := { u.look with
      l2 := tset (zeros 16) u.look.l2 i e, l2Bad := tdel u.look.l2Bad i } }
    let u : State := { s with look := { s.look with learnq := rest } }
    let new := l2Make x.mac x.fid x.port 5 0 x.time
    (l2Find x.fid x.mac s = none →
      (∀ i, l2Empty x.fid x.mac s = some i → exec .learnApply s = .next (bump .LEARN_NEW 0 (put u i new))) ∧
      (l2Empty x.fid x.mac s = none →
        exec .learnApply s = .next (raise 60 (l2Set x.fid x.mac s) 0 (bump .LEARN_FULL 0 u)))) ∧
    (∀ i, l2Find x.fid x.mac s = some i → l2IsBad i s = false → let e := l2Entry i s
      (l2Static e = true → l2Port e ≠ x.port → exec .learnApply s = .next (bump .L2_STATIC_VIOL 0 u)) ∧
      (l2Port e = x.port → exec .learnApply s =
        .next (bump .LEARN_DUP 0 (put u i (putF e 9 1 ((fld e 9 1 ||| 4) &&& 7))))) ∧
      (l2Static e = false → l2Port e ≠ x.port → idleMs x.time (l2SetTime e) < s.look.hold → exec .learnApply s =
        .next (bump .L2_MOVE_CAND 0 (put u i (putF (putF e 9 1 (fld e 9 1 ||| 8)) 10 1 x.port)))) ∧
      (l2Static e = false → l2Port e ≠ x.port → s.look.hold ≤ idleMs x.time (l2SetTime e) →
        ∃ t, exec .learnApply s = .next t ∧
          Reports (bump .L2_MOVE 0 (put u i (l2Make x.mac x.fid x.port 5 (fld e 10 1) x.time))) t)) ∧
    (∀ i, l2Find x.fid x.mac s = some i → l2IsBad i s = true →
      (l2Static (l2Entry i s) = false → exec .learnApply s = .next (bump .LEARN_NEW 0 (put u i new))) ∧
      (l2Static (l2Entry i s) = true → exec .learnApply s = .next u))) ∧
  (∀ (s : State), s.look.learnq = [] → exec .learnApply s = .next s) ∧
  (∀ (x : LearnReq) (s : State), s.look.learnq.length < 4096 →
    learnPush x s = { s with look := { s.look with learnq := s.look.learnq ++ [x] } }) ∧
  (∀ (x : LearnReq) (s : State), 4096 ≤ s.look.learnq.length → learnPush x s = bump .LEARN_DROP 0 s) ∧
  (∀ (i : Nat) (s : State), let e := l2Entry i s
    (l2Valid e = true → l2Static e = false → l2IsBad i s = true → exec (.l2AgeingVisit i) s = .next (l2Scrubbed i s)) ∧
    (l2Valid e = true → l2Static e = false → l2IsBad i s = false → l2Hit e = true → exec (.l2AgeingVisit i) s =
      .next { s with look := { s.look with
        l2 := tset (zeros 16) s.look.l2 i (putF e 9 1 (fld e 9 1 &&& 0xFB)), l2Bad := tdel s.look.l2Bad i } }) ∧
    (l2Valid e = true → l2Static e = false → l2IsBad i s = false → l2Hit e = false → exec (.l2AgeingVisit i) s =
      .next (bump .L2_AGED 0 { s with look := { s.look with
        l2 := tdel s.look.l2 i, l2Bad := tdel s.look.l2Bad i } })) ∧
    (l2Valid e = false ∨ l2Static e = true → exec (.l2AgeingVisit i) s = .next s)) ∧
  (∀ (s : State), l2IsBad s.look.scrubL2 s = false → tget 0 s.look.camBad s.look.scrubCam ≠ 1 →
    exec (.lookupTableScrub none) s = .next { s with look := { s.look with
      scrubSvc := (s.look.scrubSvc + 1) % 262144, scrubL2 := (s.look.scrubL2 + 1) % 262144,
      scrubCam := (s.look.scrubCam + 1) % 32768 } }) ∧
  (∀ (s : State), l2IsBad s.look.scrubL2 s = true → tget 0 s.look.camBad s.look.scrubCam ≠ 1 →
    ∃ t, exec (.lookupTableScrub none) s = .next t ∧ getCtr .L2_PARITY 0 t = (getCtr .L2_PARITY 0 s + 1) % 2 ^ 64 ∧
      t.mace.inflight = s.mace.inflight ++ [⟨57, s.look.scrubL2, 0⟩]) ∧
  (∀ (s : State), l2IsBad s.look.scrubL2 s = false → tget 0 s.look.camBad s.look.scrubCam = 1 →
    ∃ t, exec (.lookupTableScrub none) s = .next t ∧ tget 0 t.look.camBad s.look.scrubCam = 2 ∧
      getCtr .CAM_PARITY 0 t = (getCtr .CAM_PARITY 0 s + 1) % 2 ^ 64 ∧
      t.mace.inflight = s.mace.inflight ++ [⟨58, s.look.scrubCam, 0⟩]) ∧
  (∀ (i : Nat) (s : State),
    (∃ t, exec (.lookupTableScrub (some (0, i))) s = .next t ∧ tget 0 t.look.svcBad i = 1 ∧ t.look.svc = s.look.svc ∧
      t.mace.inflight = s.mace.inflight ++ [⟨56, i, portMask (i / 4096)⟩]) ∧
    (∃ t, exec (.lookupTableScrub (some (1, i))) s = .next t ∧
      (l2Static (l2Entry i s) = false → l2Entry i t = zeros 16) ∧
      (l2Static (l2Entry i s) = true → l2Entry i t = l2Entry i s ∧ l2IsBad i t = true) ∧
      getCtr .L2_PARITY 0 t = (getCtr .L2_PARITY 0 s + 1) % 2 ^ 64 ∧
      t.mace.inflight = s.mace.inflight ++ [⟨57, i, 0⟩]) ∧
    (∃ t, exec (.lookupTableScrub (some (2, i))) s = .next t ∧ tget 0 t.look.camBad i = 2 ∧ t.look.cam = s.look.cam ∧
      getCtr .CAM_PARITY 0 t = (getCtr .CAM_PARITY 0 s + 1) % 2 ^ 64 ∧
      t.mace.inflight = s.mace.inflight ++ [⟨58, i, 0⟩])) ∧
  (∀ (i : Nat) (s : State),
    let found (k n m : Nat) (f : State → Prop) : Prop := ∃ t, exec (.lookupTableScrub (some (k, i))) s = .next t ∧
      t.mace.inflight = s.mace.inflight ++ [⟨n, m, 0⟩] ∧ f t
    let marked (k : Nat) (f : State → Prop) : Prop := ∃ t, exec (.lookupTableScrub (some (k, i))) s = .next t ∧
      t.mace = s.mace ∧ f t
    marked 3 (fun t => tget 0 t.buf.groupBad i = 1) ∧ found 4 53 i (fun t => tget 0 t.svc.backendBad i = 1) ∧
    found 5 53 i (fun t => (tget {} t.svc.meter i).bad = true) ∧ found 6 53 i (fun t => tget 0 t.svc.flowMeterBad i = 1) ∧
    found 8 89 i (fun t => t.lanes = s.lanes) ∧ marked 9 (fun t => l2IsBad i t = true ∧ t.look.l2 = s.look.l2) ∧
    marked 10 (fun t => tget 0 t.look.camBad i = 1 ∧ t.look.cam = s.look.cam) ∧ found 11 11 i (fun _ => True) ∧
    found 13 193 0 (fun _ => True) ∧ found 14 200 0 (fun _ => True) ∧ found 15 201 0 (fun _ => True) ∧
    marked 16 (fun t => tget 0 t.obs.slotBad (i % 262144) = 1) ∧ marked 18 (fun t => tget 0 t.task.suspect (i % 68) = 1))

open Sys2Proof Sys2Proof.Machine in
/-- Frames at the ports and at the parser (R19, R32, R47, R62, R233, R234, R252, R254–R257, R262, R273, R371, R508): reception,
pause, the arbiter's grant and the flits of a frame, the end of a frame, selection and the held frame. -/
def Obligations.FramesComeAndGo : Prop :=
  (∀ (p total : Nat) (b : Bytes) (s : State), receives p s = false ∨ arrivingAt p s = true →
    exec (.frameReceive p b total) s = .next s) ∧
  (∀ (p total : Nat) (b : Bytes) (s : State), receives p s = true → arrivingAt p s = false →
    let s0 := fastClock s
    let st := startStamp p s0
    (10240 < max total b.length → exec (.frameReceive p b total) s = .next (bump .RX_OVERSIZE p s0)) ∧
    (b.length < total → total ≤ 10240 → 64 ≤ b.length →
      exec (.frameReceive p b total) s = .next (rxStore p b (some b.length) total st s0)) ∧
    (b.length < total → total ≤ 10240 → b.length < 64 → exec (.frameReceive p b total) s =
      .next { s0 with buf := { s0.buf with rxHead := tput s0.buf.rxHead p ⟨b, total, st.1, st.2⟩ } }) ∧
    (∀ s1, total ≤ b.length → b.length ≤ 10240 → rxChecks p b s0 = (none, s1) → exec (.frameReceive p b total) s = .next s1) ∧
    (∀ c s1, total ≤ b.length → b.length ≤ 10240 → rxChecks p b s0 = (some c, s1) → exec (.frameReceive p b total) s =
      .next (match pauseOf c with
        | some (mask, quanta) => pauseReceived p mask quanta s1
        | none => rxStore p c none c.length st s1))) ∧
  (∀ (s : State), (fastClock s).time = { s.time with phase := (fastClock s).time.phase } ∧
    (s.time.phase ≤ 79 → s.time.phase ≤ (fastClock s).time.phase) ∧ (fastClock s).time.phase ≤ 79) ∧
  (∀ (p : Nat) (b : Bytes) (s : State), impIngress p b s = (some b, s) → cvuFrame 0 p b s = s →
    (fcsOk b = false → rxChecks p b s = (none, bump .RX_FCS_ERR p s)) ∧
    (fcsOk b = true → rxChecks p b s = (some b, s))) ∧
  (∀ (p total : Nat) (a : Option Nat) (b : Bytes) (st : Nat × Bytes) (s s1 : State), let prio := rxPrio p b s
    takeCells (rxCell p prio (rxPipe p b s)) (cellsOf b.length) [] s = (none, s1) →
    rxStore p b a total st s = bufSync (raise 43 p (portMask p) (bump .RX_NOBUF (8 * p + prio) s1))) ∧
  (∀ (p : Nat) (b : Bytes) (s : State), (bfld b 12 2 = 0x8100 ∨ bfld b 12 2 = 0x88A8 → rxPrio p b s = bfld b 14 2 / 8192) ∧
    (bfld b 12 2 ≠ 0x8100 → bfld b 12 2 ≠ 0x88A8 → rxPrio p b s = defPrio p s)) ∧
  (∀ (p prio owner : Nat) (s : State), let charge := 8 * p + prio
    (inXoff p prio s = true ∨ atLevel (rxPool p prio s) 3 s = true → hrUsed charge s < headroom p prio s →
      ∀ i t, popCell poolHEADROOM owner charge s = (some i, t) →
        rxCell p prio owner s = (some i, setHr charge (hrUsed charge t + 1) t)) ∧
    (inXoff p prio s = true ∨ atLevel (rxPool p prio s) 3 s = true → headroom p prio s ≤ hrUsed charge s →
      (∀ i t, allocCell (rxPool p prio s) owner charge s = (some i, t) →
        rxCell p prio owner s = (some i, bump .HR_OVERRUN charge t)) ∧
      ∀ t, allocCell (rxPool p prio s) owner charge s = (none, t) → rxCell p prio owner s = (none, t)) ∧
    (inXoff p prio s = false → atLevel (rxPool p prio s) 3 s = false →
      rxCell p prio owner s = allocCell (rxPool p prio s) owner charge s)) ∧
  (∀ (k owner x : Nat) (xs : List Nat) (s : State), owner ≤ 16 → tget [] (getPool k s).pre owner = x :: xs →
    (popPtr k owner s).1 = some x ∧ tget [] (getPool k (popPtr k owner s).2).pre owner = xs) ∧
  (∀ (p : Nat) (s : State), tget [] s.buf.rxq p = [] → exec (.parserEntry p) s = .next s) ∧
  (∀ (p d : Nat) (rest : List Nat) (s : State), tget [] s.buf.rxq p = d :: rest → let pl := (getFrame d s).owner
    (sentinelDue pl 0 s = true → exec (.parserEntry p) s = .next (wakeHalf pl 0 s)) ∧
    (sentinelDue pl 0 s = false → portReady p d s = false ∨ portGrant pl s = none → exec (.parserEntry p) s = .next s) ∧
    (∀ g, sentinelDue pl 0 s = false → portReady p d s = true → portGrant pl s = some g →
      let s0 := { g with buf := { g.buf with rxq := tset [] g.buf.rxq p rest } }
      ((getFrame d s).arrived = none → exec (.parserEntry p) s = .next (crossFabric p d true s0)) ∧
      ((getFrame d s).arrived.isSome = true → (enterFrame d pl false s0).buf.inTx.any (fun x => x.2 == d) = true →
        exec (.parserEntry p) s = .next (crossFabric p d false s0)) ∧
      ((getFrame d s).arrived.isSome = true → (enterFrame d pl false s0).buf.inTx.any (fun x => x.2 == d) = false →
        exec (.parserEntry p) s = .next s)) ∧
    (portReady p d s = true ↔ ingressHeld s = false ∧ inMask s.buf.swapHeld p = false ∧
      ((getFrame d s).arrived = none ∨ cutReady p (getFrame d s) s = true))) ∧
  (∀ (p d : Nat) (known : Bool) (s s1 : State), let pl := (getFrame d s).owner
    (flit pl s = (true, s1) → crossFabric p d known s = bufSync (pendSync p (ingressPass d known (stampEntry d pl s1)))) ∧
    (flit pl s = (false, s1) → crossFabric p d known s = bufSync (pendSync p (discard d (bump .FABRIC_UE 0 s1))))) ∧
  (∀ (l : Nat) (s : State), (s.mace.injection = none → flit l s = (true, s)) ∧
    ∀ j, s.mace.injection = some j → j.struct = injFABRIC → j.whereAt = l →
      (symCount j.symbols = 1 → (flit l s).1 = true ∧ getCtr .FABRIC_CE 0 (flit l s).2 = (getCtr .FABRIC_CE 0 s + 1) % 2 ^ 64 ∧
        (flit l s).2.mace.inflight = s.mace.inflight ++ [⟨9, l, 0⟩]) ∧
      (2 ≤ symCount j.symbols → (flit l s).1 = false ∧ (flit l s).2.mace.inflight = s.mace.inflight ++ [⟨10, l, 0⟩])) ∧
  (∀ (p : Nat) (rest : Bytes) (h : RxHead) (s : State), tget? s.buf.rxHead p = some h →
    let s0 := { s with buf := { s.buf with rxHead := tdel s.buf.rxHead p } }
    ((h.data ++ rest).length ≠ h.total → exec (.frameEndCheck p rest) s = .next (bump .RX_FCS_ERR p s0)) ∧
    ((h.data ++ rest).length = h.total → exec (.frameEndCheck p rest) s =
      .next (rxWhole p (h.data ++ rest) (h.stamp, h.ptp) s0))) ∧
  (∀ (p : Nat) (rest : Bytes) (s : State), tget? s.buf.rxHead p = none →
    (∀ d ∈ tget [] s.buf.rxq p, (getFrame d s).arrived = none) →
    ((∀ x ∈ s.buf.inTx, (getFrame x.2 s).arrived = none) → (∀ x ∈ s.buf.frame, x.2.src = p → x.2.arrived = none) →
      exec (.frameEndCheck p rest) s = .next s) ∧
    (∀ d f, (∀ x ∈ s.buf.inTx, (getFrame x.2 s).arrived = none) → s.buf.frame.find? (fun x => x.2.src == p && x.2.arrived.isSome) = some (d, f) →
      exec (.frameEndCheck p rest) s = .next (endCopies p d (f.data ++ rest) s)) ∧
    (∀ e d l, s.buf.inTx = (e, d) :: l → (getFrame d s).src = p → (getFrame d s).arrived.isSome = true →
      exec (.frameEndCheck p rest) s = .next (endCut p e d ((getFrame d s).data ++ rest) s))) ∧
  (∀ (p d : Nat) (l : List Nat) (rest : Bytes) (s : State), tget? s.buf.rxHead p = none → tget [] s.buf.rxq p = d :: l →
    (getFrame d s).arrived.isSome = true → let full := (getFrame d s).data ++ rest
    let drop (t : State) : State := bufSync (pendSync p (discard d { t with buf := { t.buf with
      rxq := tset [] t.buf.rxq p ((tget [] t.buf.rxq p).erase d) } }))
    (∀ b s0 s1, full.length = (getFrame d s).len → growFrame p d full.length s = (true, s0) → rxChecks p full s0 = (some b, s1) →
      pauseOf b = none → exec (.frameEndCheck p rest) s =
        .next (bufSync (pendSync p (setFrame d { getFrame d s1 with data := b, arrived := none } s1)))) ∧
    (∀ b s0 s1 mask quanta, full.length = (getFrame d s).len → growFrame p d full.length s = (true, s0) →
      rxChecks p full s0 = (some b, s1) → pauseOf b = some (mask, quanta) →
      exec (.frameEndCheck p rest) s = .next (drop (pauseReceived p mask quanta s1))) ∧
    (∀ s0, full.length = (getFrame d s).len → growFrame p d full.length s = (false, s0) →
      exec (.frameEndCheck p rest) s = .next (drop s0)) ∧
    (full.length ≠ (getFrame d s).len → exec (.frameEndCheck p rest) s = .next (drop (bump .RX_FCS_ERR p s)))) ∧
  (∀ (p mask : Nat) (quanta : List Nat) (s : State), hears p s = false → exec (.pauseFrameReceive p mask quanta) s = .next s) ∧
  (∀ (p mask : Nat) (quanta : List Nat) (s : State), hears p s = true → ∃ t, exec (.pauseFrameReceive p mask quanta) s = .next t ∧
    ∀ k, k < 8 → (bit mask k = true → tget 0 t.buf.rxPause (8 * p + k) = quanta.getD k 0 ∧
        getCtr .PAUSE_RX (8 * p + k) t = (getCtr .PAUSE_RX (8 * p + k) s + 1) % 2 ^ 64) ∧
      (bit mask k = false → tget 0 t.buf.rxPause (8 * p + k) = tget 0 s.buf.rxPause (8 * p + k) ∧
        getCtr .PAUSE_RX (8 * p + k) t = getCtr .PAUSE_RX (8 * p + k) s)) ∧
  (∀ (p prio : Nat) (s : State), exec (.pauseQuantaExpiry p prio) s =
    .next { s with buf := { s.buf with rxPause := tset 0 s.buf.rxPause (8 * p + prio) 0 } }) ∧
  (∀ (p prio : Nat) (s : State), (inXoff p prio s = false ∨ inSafe p s = true → exec (.pauseRepeat p prio) s = .next s) ∧
    (inXoff p prio s = true → inSafe p s = false → exec (.pauseRepeat p prio) s = .next (bump .PAUSE_TX (8 * p + prio) { s with buf := { s.buf with
      pauseOut := s.buf.pauseOut ++ [⟨p, if linkPause p s then 8 else prio, 0xFFFF⟩] } }))) ∧
  (∀ (p : Nat) (s : State), p < 64 → ((tget? s.buf.inTx p).isSome = true → exec (.schedulerSelection p) s = .next s) ∧
    (tget? s.buf.inTx p = none → (portPipes p s).any (fun pl => sentinelDue pl 1 s) = true → portFrames p s = 0 →
      exec (.schedulerSelection p) s = .next s) ∧
    (tget? s.buf.inTx p = none →
      let s0 := if portFrames p s = 0 then s else forEach (portPipes p s) (fun pl u => wakeHalf pl 1 u) s;
      (portPipes p s0).any (fun pl => sentinelDue pl 1 s0) = false →
      let s1 := dropOversize p (fastClock s0)
      let paths := eligiblePaths p s1
      let s2 := wakeTags p paths s1
      (selectQueue paths s2 = none → exec (.schedulerSelection p) s = .next (bufSync s2)) ∧
      (∀ q d rest path, selectQueue paths s2 = some q → (getQueue q s2).list = d :: rest →
        paths.find? (fun x => x.head? == some q) = some path → selectDrop p d s2 = none →
        exec (.schedulerSelection p) s = .next (dequeue p q d path (noteLate p d s2))))) ∧
  (∀ (g : Nat) (s : State), g < 2 → chainUp g s = false ∨ inMode mJOINED s = false →
    exec (.schedulerSelection (64 + g)) s = .next s) ∧
  (∀ (p d : Nat) (s : State), expired (getFrame d s) s = true →
    selectDrop p d s = some (discard d (bump .AGE_DROP (16 * p + (getFrame d s).tc) s))) ∧
  (∀ (p : Nat) (s : State), (impUnit p s).held = none → exec (.reorderRelease p) s = .next (fastClock s)) ∧
  (∀ (p d : Nat) (s : State), (impUnit p s).held = some d → let now := fastClock s
    let s1 := setImp p { impUnit p s with held := none, heldLeft := 0 } now
    (expired (getFrame d s) now = true → exec (.reorderRelease p) s = .next (ageDrop p d s1)) ∧
    (expired (getFrame d s) now = false → heldCanGo p d now = true → exec (.reorderRelease p) s = .next (transmit p d none s1)))

open Sys2Proof Sys2Proof.Machine in
/-- The pool manager and the queues keep their account (R236, R241–R243, R246, R247, R250, R258, R259, R263, R264): every check
of a free, the ager, the reclaim, the move of cells, the flush of a port. -/
def Obligations.BufferKeepsAccount : Prop :=
  (∀ (ptr pool owner : Nat) (s : State), let i := ptr / 256
    let c := getCell i s
    (ptr % 256 ≠ 0 ∨ 393216 ≤ i → freePtr ptr pool owner s = raise 40 0 0 (bump .BUF_BAD_PTR 0 s)) ∧
    (ptr % 256 = 0 → i < 393216 → 2 ≤ c.hdrBad → freePtr ptr pool owner s = failHeader i s) ∧
    (ptr % 256 = 0 → i < 393216 → c.hdrBad < 2 → c.free = true → freePtr ptr pool owner s = raise 41 i 0 (bump .BUF_DOUBLE_FREE 0 s)) ∧
    (ptr % 256 = 0 → i < 393216 → c.hdrBad < 2 → c.free = false → c.pool ≠ pool ∨ (c.refcnt = 0 ∧ c.owner ≠ owner) ∨
        (0 < c.refcnt ∧ c.owner = 18 ∧ owner ≠ 17 ∧ owner ≠ 18 ∧ owner ≠ 20) →
      freePtr ptr pool owner s = raise 42 i 0 (bump .BUF_WRONG_OWNER 0 s)) ∧
    (ptr % 256 = 0 → i < 393216 → c.hdrBad < 2 → c.free = false → c.pool = pool → 1 < c.refcnt → c.owner = 18 →
      owner = 17 ∨ owner = 18 ∨ owner = 20 → freePtr ptr pool owner s = setCell i { c with refcnt := c.refcnt - 1 } s) ∧
    (ptr % 256 = 0 → i < 393216 → c.free = false → c.pool = pool → c.refcnt = 0 → c.owner = owner → c.last = true → owner ≠ 23 →
      (c.hdrBad = 0 → freePtr ptr pool owner s = releaseCell i s) ∧
      (c.hdrBad = 1 → freePtr ptr pool owner s = releaseCell i (bump .BUF_CE 0 (setCell i { c with hdrBad := 0 } s))))) ∧
  (∀ (ptr pool owner : Nat) (s : State), let d := ptr / 32
    (ptr % 32 ≠ 0 ∨ 458752 ≤ d → freeDescPtr ptr pool owner s = raise 40 0 0 (bump .BUF_BAD_PTR 0 s)) ∧
    (ptr % 32 = 0 → d < 458752 → tget? s.buf.frame d = none →
      freeDescPtr ptr pool owner s = raise 41 d 0 (bump .BUF_DOUBLE_FREE 0 s))) ∧
  (∀ (i : Nat) (p : PoolRec), popFree (pushFree i p).free = some (i, p.free)) ∧
  (∀ (depth limit gap : Nat), (congestedNow depth limit gap false = true ↔ limit ≤ depth) ∧
    (congestedNow depth limit gap true = true ↔ ¬(depth + gap ≤ limit ∨ depth = 0))) ∧
  (∀ (d q p : Nat) (s : State), queuePort q s = some p →
    (inMask s.buf.flushed p = true → enqueue d q s = (false, true, discard d (bump .PORT_DOWN_DROP p s))) ∧
    (inMask s.buf.flushed p = false → inSafe p s = false → enqueue d q s = (true, false, linkQueue d q p s))) ∧
  (∀ (d q p : Nat) (s : State), twf {} s.buf.queue = true → (getQueue q (linkQueue d q p s)).list = (getQueue q s).list ++ [d] ∧
    (getQueue q (linkQueue d q p s)).depth = (getQueue q s).depth + cellsOf (getFrame d s).len) ∧
  (∀ (q : Nat) (s : State), exec (.agerVisit q) s = .next (bufSync (ageQueue (getQueue q s).list.length q (fastClock s))) ∧
    let t := ageQueue (getQueue q s).list.length q (fastClock s)
    (getQueue q t).list <:+ (getQueue q s).list ∧
    ∀ d rest, (getQueue q t).list = d :: rest → expired (getFrame d t) t = false) ∧
  (∀ (p : Nat) (s : State), inMask s.buf.parked p = false ∨ isUp p s = true ∨ parkExpired p s = false →
    exec (.parkTimerExpiry p) s = .next s) ∧
  (∀ (p : Nat) (s : State), let x := tget (0, 0) s.buf.parkTicks p
    parkExpired p s = true ↔ parkTime p s * 100000 ≤ 80 * x.1 ∨ 2 * (parkTime p s * 100000) ≤ 80 * x.2) ∧
  (∀ (p : Nat) (s : State), p < 64 → inMask s.buf.parked p = true → isUp p s = false → parkExpired p s = true → ∃ t,
    exec (.parkTimerExpiry p) s = .next t ∧ inMask t.buf.parked p = false ∧ inMask t.buf.flushed p = true ∧
    getCtr .LINK_FLAP p t = (getCtr .LINK_FLAP p s + 1) % 2 ^ 64 ∧
    (twf {} s.buf.queue = true → ∀ q ∈ portQueues p s, (getQueue q t).list = [] ∧ (getQueue q t).depth = 0)) ∧
  (∀ (s : State), s.buf.residue = [] → exec .mcResidueRecheck s = .next (bufSync s)) ∧
  (∀ (r : Residue) (s : State), s.buf.residue = [r] → expired (getFrame r.desc s) s = true →
    let x := discard r.desc (forEach (maskPorts r.mask) (fun p s => bump .MC_RESIDUE_AGED p s) s)
    exec .mcResidueRecheck s = .next (bufSync { x with buf := { x.buf with residue := [] } })) ∧
  (∀ (s : State), (∀ x ∈ s.buf.cell, leaked x.1 s = false) → exec .reclaimScan s = .next (bufSync s)) ∧
  (∀ (i : Nat) (c : CellHdr) (s : State), s.buf.cell = [(i, c)] → leaked i s = true →
    exec .reclaimScan s = .next (bufSync (releaseCell i (bump .BUF_RECLAIM 0 s)))) ∧
  (∀ (s : State), (∀ k ∈ [0, 1, 2, 3], (getPool k s).owes ≤ 0) → exec .poolCellMove s = .next (bufSync s)) ∧
  (∀ (a b i : Nat) (f : FreeList) (s : State),
    [0, 1, 2, 3].find? (fun k => decide (0 < (getPool k s).owes) && listHead (getPool k s).free != chainEnd) = some a →
    [0, 1, 2, 3].find? (fun k => decide ((getPool k s).owes < 0)) = some b →
    popFree (getPool a s).free = some (i, f) →
    (2 ≤ (getCell i s).hdrBad → exec .poolCellMove s = .next (bufSync (breakList a i f s))) ∧
    ((getCell i s).hdrBad < 2 → ∃ t, exec .poolCellMove s = .next t ∧
      (getPool a t).free = f ∧ (getPool a t).owes = (getPool a s).owes - 1 ∧
      popFree (getPool b t).free = some (i, (getPool b s).free) ∧ (getPool b t).owes = (getPool b s).owes + 1 ∧
      (getCell i t).pool = b ∧ (getCell i t).free = true)) ∧
  (∀ (s : State), s.buf.rebuild = [] → exec .freeListRebuildDone s = .next s) ∧
  (∀ (k : Nat) (f : FreeList) (l : Tbl FreeList) (s : State), s.buf.rebuild = (k, f) :: l → ∃ t,
    exec .freeListRebuildDone s = .next t ∧ t.buf.rebuild = tdel s.buf.rebuild k ∧
      (getPool k t).free = joinLists (getPool k s).free f) ∧
  (∀ (a b : FreeList), (joinLists a b).stack = a.stack ++ b.stack)

open Sys2Proof Sys2Proof.Machine in
/-- Gate lists, sample and export rings, samplers and the scrub of the scheduler (R195, R280, R281, R284, R289–R292, R411). -/
def Obligations.GatesAndSamples : Prop :=
  (∀ (r : YcpReq) (s : State), Accepted 0x0605 r s → let b := reqBody r
    let p := fld b 0 1
    let first := fld b 4 2
    let es := gwEntries b
    fld b 1 3 = 0 → fld b 26 6 = 0 → (∀ e ∈ es, fld e 6 1 = 0 ∧ fld e 7 1 = 0 ∧ 8 ≤ fld e 0 4 ∧ fld e 0 4 ≤ 1000000000) →
    p < 64 → portUnused p s = false → b.length = 32 + 8 * fld b 6 2 → first + fld b 6 2 ≤ 1024 → fld b 8 8 < 2 ^ 48 →
    fld b 16 4 < 1000000000 → 1000 ≤ fld b 20 4 → fld b 20 4 ≤ 1000000000 → 1 ≤ fld b 24 2 → fld b 24 2 ≤ 1024 →
    (commitPending p s = true → Fails 0x0605 r stBUSY 0 s (exec (.gateListWrite r) s)) ∧
    (commitPending p s = false → ∃ u l, Does 0x0605 r [] u (exec (.gateListWrite r) s) ∧ getPend p u = l ∧
      l.baseSec = fld b 8 8 ∧ l.baseNsec = fld b 16 4 ∧ l.cycle = fld b 20 4 ∧ l.count = fld b 24 2 ∧
      (∀ k, k ∈ l.bad ↔ k ∈ (getPend p s).bad ∧ (k < first ∨ first + es.length ≤ k)) ∧
      (∀ k, k < es.length → tget (zeros 8) l.entries (first + k) = es.getD k []) ∧
      (∀ k, k < first ∨ first + es.length ≤ k → tget (zeros 8) l.entries k = tget (zeros 8) (getPend p s).entries k) ∧
      (∀ q, q ≠ p → getPend q u = getPend q s) ∧ u.sched.gateOp = s.sched.gateOp)) ∧
  (∀ (r : YcpReq) (s : State), Accepted 0x0606 r s → let b := reqBody r
    let p := fld b 0 1
    let l := getPend p s
    b.length = 8 → fld b 2 6 = 0 → fld b 1 1 = 1 → p < 64 → portUnused p s = false →
    (commitPending p s = true → Fails 0x0606 r stBUSY 0 s (exec (.gateListCommit r) s)) ∧
    (commitPending p s = false → l.bad = [] → gateListOk l = false → Fails 0x0606 r stINVALID 0 s (exec (.gateListCommit r) s)) ∧
    (commitPending p s = false → l.bad ≠ [] → Fails 0x0606 r stFAULTED 0 s (exec (.gateListCommit r) s)) ∧
    (commitPending p s = false → gateListOk l = true → l.bad = [] → 16 ≤ room r → let now := fastClock s
      let st := adoptStart l (activeTime now) (fld (portSched p s) 4 4)
      Does 0x0606 r (leBytes 8 (st / 1000000000) ++ leBytes 4 (st % 1000000000) ++ zeros 4)
        { now with sched := { s.sched with
            gatePend := tset {} s.sched.gatePend p { l with start := st }, gateCommit := s.sched.gateCommit ||| portMask p } } (exec (.gateListCommit r) s))) ∧
  (∀ (l : GateList) (now lead : Nat), 0 < l.cycle → let st := adoptStart l now lead
    let base := l.baseSec * 1000000000 + l.baseNsec
    now + lead * uNs ≤ st * uNs ∧ ∃ k, st = base + k * l.cycle ∧ (k = 0 ∨ (base + (k - 1) * l.cycle) * uNs < now + lead * uNs)) ∧
  (∀ (r : YcpReq) (s : State), Accepted 0x0606 r s → let b := reqBody r
    let p := fld b 0 1
    b.length = 8 → fld b 2 6 = 0 → fld b 1 1 = 2 → p < 64 → portUnused p s = false → 16 ≤ room r →
    (commitPending p s = true → Does 0x0606 r (zeros 16)
      { s with sched := { s.sched with gateCommit := s.sched.gateCommit &&& ~~~(portMask p) } } (exec (.gateListAbort r) s)) ∧
    (commitPending p s = false → Fails 0x0606 r stINVALID 0 s (exec (.gateListAbort r) s))) ∧
  (∀ (p : Nat) (s : State), commitPending p s = false ∨ activeTime (fastClock s) < (getPend p s).start * uNs →
    exec (.gateListStart p) s = .next (fastClock s)) ∧
  (∀ (p : Nat) (s : State), p < 64 → commitPending p s = true → (getPend p s).start * uNs ≤ activeTime (fastClock s) → ∃ t,
    exec (.gateListStart p) s = .next t ∧ tget? t.sched.gateOp p = some (getPend p s) ∧
    getPend p t = (tget? s.sched.gateOp p).getD {} ∧ commitPending p t = false) ∧
  (∀ (p : Nat) (s : State), (opList p s = none → exec (.gateEntryChange p) s = .next (fastClock s)) ∧
    (∀ l, opList p s = some l → inMask s.obs.gatePorts p = false →
      ∃ t, exec (.gateEntryChange p) s = .next t ∧ t.sched = { s.sched with gateEntry := t.sched.gateEntry } ∧
        tget 0 t.sched.gateEntry p = entryAt (gatePos l (activeTime (fastClock s))) (cycleOf l) 0)) ∧
  (∀ (l : GateList) (t : Nat), 0 < l.cycle → l.start * uNs ≤ t → gatePos l t = (t - l.start * uNs) % (l.cycle * uNs)) ∧
  (∀ (r : YcpReq) (s : State), let b := reqBody r
    let n := fld b 0 4
    let g := fld b 4 1
    let x : Ring := { valid := true, base := fld b 8 8, log2 := g, flags := fld b 5 1 }
    b.length = 16 → fld b 6 2 = 0 → 16 ≤ g → g ≤ 30 → fld b 8 8 % 2 ^ g = 0 → regionBase 10 + 16777216 ≤ fld b 8 8 →
    fld b 8 8 + 2 ^ g ≤ regionBase 10 + 8589934592 →
    (Accepted 0x060A r s → n < 8 → fld b 5 1 < 2 →
      (ringOverlaps n x s = false → Does 0x060A r [] (ringHead n (setRing n x s)) (exec (.sampleRingSet r) s)) ∧
      (ringOverlaps n x s = true → Fails 0x060A r stINVALID 0 s (exec (.sampleRingSet r) s))) ∧
    (Accepted 0x0D01 r s → n < 16 → fld b 5 1 < 32 →
      (ringOverlaps (8 + n) x s = false → Does 0x0D01 r [] (ringHead (8 + n) (setRing (8 + n) x s)) (exec (.telemRingSet r) s)) ∧
      (ringOverlaps (8 + n) x s = true → Fails 0x0D01 r stINVALID 0 s (exec (.telemRingSet r) s)))) ∧
  (∀ (r : YcpReq) (s : State), let b := reqBody r
    let n := fld b 0 4
    b.length = 8 →
    (Accepted 0x060B r s → n < 8 → let x := getRing n s
      (fld b 4 4 + 2 ^ 32 - x.cons) % 2 ^ 32 ≤ (x.prod + 2 ^ 32 - x.cons) % 2 ^ 32 → x.valid = true →
      Does 0x060B r [] (ringHead n (setRing n { x with cons := fld b 4 4 } s)) (exec (.sampleRingAck r) s)) ∧
    (Accepted 0x0D02 r s → n < 16 → let x := getRing (8 + n) s
      (fld b 4 4 + 2 ^ 32 - x.cons) % 2 ^ 32 ≤ (x.prod + 2 ^ 32 - x.cons) % 2 ^ 32 → x.valid = true →
      Does 0x0D02 r [] (ringHead (8 + n) (setRing (8 + n) { x with cons := fld b 4 4 } s)) (exec (.telemRingAck r) s))) ∧
  (∀ (i : Nat) (s0 : State), let s := fastClock s0
    let e := tget {} s.sched.sampler i
    let k := samplerRing e.record
    let x := getRing k s
    (sampleDue e s = false ∨ x.valid = false → exec (.sampleInstant i) s0 = .next s) ∧
    (sampleDue e s = true → x.valid = true → let e' : Sampler := { record := e.record, delay := e.delay, depthMax := (getQueue (fld e.record 0 4) s).depth }
      let s1 := { s with sched := { s.sched with sampler := tset {} s.sched.sampler i e' } }
      (bit x.flags 0 = true ∨ 0 < ringFree x → exec (.sampleInstant i) s0 =
        .next (bump .SAMPLE_REC k (ringWrite 6 k (sampleBytes e x.prod s) s1))) ∧
      (bit x.flags 0 = false → ringFree x = 0 → exec (.sampleInstant i) s0 = .next (raise 68 k 0 (bump .SAMPLE_DROP k
        (ringHead k (setRing k { x with drops := (x.drops + 1) % 2 ^ 64 } s1))))))) ∧
  (∀ (k : Nat) (b : Bytes) (s : State), b.length = 32 → (getRing k (ringWrite 6 k b s)).prod = ((getRing k s).prod + 1) % 2 ^ 32) ∧
  (∀ (req k : Nat) (b : Bytes) (s : State), memWf s.hbm.mem = true → let x := getRing k s
    (getRing k (ringWrite req k b s)).pos = (x.pos + b.length / 32) % ringUnits x ∧
    (getRing k (ringWrite req k b s)).cons = x.cons ∧
    hbmPeek (x.base + 64 + 32 * x.pos) b.length (ringWrite req k b s) = b) ∧
  (∀ (n : Nat) (s : State), exec (.schedulerScrub none) s = .next s ∧
    (∃ t, exec (.schedulerScrub (some (0, n))) s = .next t ∧ isBad n t = true ∧
      getCtr .SCHED_PARITY 0 t = (getCtr .SCHED_PARITY 0 s + 1) % 2 ^ 64 ∧
      t.mace.inflight = s.mace.inflight ++ [⟨64, n, 0⟩]) ∧
    (∃ t, exec (.schedulerScrub (some (3, n))) s = .next t ∧ getTag n t = elemVt n s % 2 ^ 48 ∧
      getCtr .SCHED_STATE_PE 0 t = (getCtr .SCHED_STATE_PE 0 s + 1) % 2 ^ 64) ∧
    exec (.schedulerScrub (some (5, n))) s = .next (bump .SCHED_STATE_PE 0 (setTokens n 0 s)) ∧
    (∀ p l, p < 64 → tget? s.sched.gateOp p = some l → ∃ t, exec (.schedulerScrub (some (7, p + 64 * n))) s = .next t ∧
      opList p t = none ∧ t.mace.inflight = s.mace.inflight ++ [⟨65, p, portMask p⟩]) ∧
    (∀ p, p < 64 → ∃ t, exec (.schedulerScrub (some (8, p + 64 * n))) s = .next t ∧
      n ∈ (getPend p t).bad ∧ (getPend p t).entries = (getPend p s).entries ∧ t.sched.gateOp = s.sched.gateOp) ∧
    (∃ t, exec (.schedulerScrub (some (6, n))) s = .next t ∧ bit (fld (launchRec n t) 0 1) 0 = false ∧
      bit (fld (launchRec n t) 0 1) 1 = false))

open Sys2Proof Sys2Proof.Machine in
/-- The commands of Saffron (R297, R301, R307, R308, R310, R536, R537). -/
def Obligations.TimeCommandsComplete : Prop :=
  (∀ (r : YcpReq) (s : State), Accepted 0x0702 r s → let b := reqBody r
    let off := fld b 0 4
    let v := fld b 8 8
    b.length = 16 → fld b 4 4 = 0 →
    (timeRegResv off v = true → Fails 0x0702 r stINVALID 0 s (exec (.timeRegWrite r) s)) ∧
    (timeRegResv off v = false → v < 2 ^ 32 → (timeReg s.time off).isSome = true → off ≠ 0 →
      Does 0x0702 r [] (timeRegWrite off v s) (exec (.timeRegWrite r) s)) ∧
    (timeRegResv off v = false → v < 2 ^ 32 → off = 0 → 1 ≤ bits v 8 8 → bits v 8 8 ≤ 100 →
      let x : TimeState := { s.time with autoSwitch := bit v 0, revert := bit v 1, allowLarge := bit v 2 }
      let y : TimeState := { x with slewRate := bits v 8 8, slewMax := bits v 16 16 }
      Does 0x0702 r [] { s with time := y } (exec (.timeRegWrite r) s)) ∧
    (timeRegResv off v = false → timeReg s.time off = none → Fails 0x0702 r stRANGE 0 s (exec (.timeRegWrite r) s)) ∧
    (off = 8 → v = 1 → let x : TimeState := { s.time with snapFree := s.time.free, snapAct := activeTick s }
      let y : TimeState := { x with snapResid := s.time.resid, snapD0 := s.time.d0.val, snapD1 := s.time.d1.val }
      Does 0x0702 r [] { s with time := y } (exec (.timeSnap r) s))) ∧
  (∀ (r : YcpReq) (s : State), Accepted 0x0703 r s → let b := reqBody r
    let dom := fld b 0 1 == 1
    b.length = 16 → fld b 12 4 = 0 → fld b 0 1 < 2 → fld b 1 1 ≤ 2 → fld b 3 1 ≤ 1 → 10 ≤ fld b 4 4 → fld b 4 4 ≤ 10000 →
    10 ≤ fld b 8 4 → fld b 8 4 ≤ 10000 →
    (fld b 2 1 = (s.time.dom (!dom)).domNum → Fails 0x0703 r stINVALID 0 s (exec (.timeConfig r) s)) ∧
    (fld b 2 1 ≠ (s.time.dom (!dom)).domNum → ∃ u, Does 0x0703 r [] u (exec (.timeConfig r) s) ∧ let x := u.time.dom dom
      x.source = fld b 1 1 ∧ x.domNum = fld b 2 1 ∧ x.owner = fld b 3 1 ∧ x.syncTimeout = fld b 4 4 ∧ x.qualNs = fld b 8 4 ∧
      x.val = (s.time.dom dom).val ∧ u.time.dom (!dom) = s.time.dom (!dom) ∧
      (fld b 1 1 = (s.time.dom dom).source → fld b 2 1 = (s.time.dom dom).domNum → x.st = (s.time.dom dom).st) ∧
      (fld b 1 1 ≠ (s.time.dom dom).source ∨ fld b 2 1 ≠ (s.time.dom dom).domNum →
        x.st = (if fld b 1 1 = 0 then .freeRun else .acquiring) ∧ x.qual = 0))) ∧
  (∀ (r : YcpReq) (s : State), Accepted 0x0704 r s → let b := reqBody r
    let d := fld b 0 1 == 1
    b.length = 24 → fld b 2 6 = 0 → fld b 0 1 < 2 →
    (∀ delta : Int, delta = (timeOf (fld b 8 8) (fld b 16 8) 0 : Int) - (s.time.dom d).val →
      fld b 1 1 = 1 → fld b 8 8 < 2 ^ 48 → fld b 16 8 < 1000000000 →
      (bigMove d delta s = true → Fails 0x0704 r stDENIED 0 s (exec (.timeAdjustSet r) s)) ∧
      (bigMove d delta s = false →
        Does 0x0704 r [] (adjUpdate d delta (stepDomain d delta s)) (exec (.timeAdjustSet r) s))) ∧
    (∀ delta, delta = adjOffset b →
      fld b 1 1 = 2 →
      (bigMove d delta s = true → Fails 0x0704 r stDENIED 0 s (exec (.timeAdjustStep r) s)) ∧
      (bigMove d delta s = false →
        Does 0x0704 r [] (adjUpdate d delta (stepDomain d delta s)) (exec (.timeAdjustStep r) s))) ∧
    (∀ delta, delta = adjOffset b →
      fld b 1 1 = 3 →
      (delta.natAbs ≤ uSec → Does 0x0704 r [] (adjUpdate d delta (modDom d (fun x => { x with slewLeft := delta }) s))
        (exec (.timeAdjustSlew r) s)) ∧
      (uSec < delta.natAbs → Fails 0x0704 r stRANGE 0 s (exec (.timeAdjustSlew r) s)))) ∧
  (∀ (d : Bool) (delta : Int) (s : State), ∃ t, stepDomain d delta s = t ∧
    (t.time.dom d).val = timeNorm ((s.time.dom d).val + delta) ∧ t.time.dom (!d) = s.time.dom (!d) ∧
    t.time.resid = s.time.resid ∧ t.time.free = s.time.free ∧
    getCtr .TIME_STEP (b2n d) t = (getCtr .TIME_STEP (b2n d) s + 1) % 2 ^ 64) ∧
  (∀ (sec nsec v : Nat), sec < 2 ^ 48 → nsec < 10 ^ 9 → v < uWrap →
    timeNorm ((v : Int) + ((timeOf sec nsec 0 : Int) - v)) = timeOf sec nsec 0) ∧
  (∀ (r : YcpReq) (s : State), Accepted 0x0705 r s → let b := reqBody r
    let rv := fld b 4 4
    b.length = 8 → fld b 1 3 = 0 → fld b 0 1 < 2 → rv ≤ 3600 →
    let s1 := if rv = 0 then s else { s with time := { s.time with revertS := rv } }
    ((fld b 0 1 == 1) = s.time.active → Does 0x0705 r [] s1 (exec (.timeActiveSet r) s)) ∧
    ((fld b 0 1 == 1) ≠ s.time.active → Does 0x0705 r [] (triggerSwitch false s1) (exec (.timeActiveSet r) s))) ∧
  (∀ (auto : Bool) (s : State), let o := s.time.dom (!s.time.active)
    (o.st ≠ .locked → triggerSwitch auto s = raise 75 0 0 (bump .TIME_NOSWITCH 0 s)) ∧
    (o.st = .locked → uSec < (timeDiff o.val (activeTick s)).natAbs → s.time.allowLarge = false →
      triggerSwitch auto s = raise 75 1 0 (bump .TIME_NOSWITCH 0 s)) ∧
    (o.st = .locked → (timeDiff o.val (activeTick s)).natAbs ≤ uSec ∨ s.time.allowLarge = true →
      auto = false ∨ s.time.sinceSwitch = none →
      triggerSwitch auto s = { s with time := { s.time with pendSwitch := true } })) ∧
  (∀ (r : YcpReq) (s : State), Accepted 0x0708 r s → let b := reqBody r
    let off := (BitVec.ofNat 32 (fld b 4 4)).toInt
    b.length = 20 → fld b 1 3 = 0 → fld b 0 1 ≤ 2 → off.natAbs ≤ 1000000 → 1000 ≤ fld b 8 4 → fld b 8 4 ≤ 500000000 →
    portLaneOk (fld b 12 2) = true → portLaneOk (fld b 14 2) = true →
    (16 ≤ fld b 16 2 → 16 ≤ fld b 18 2 → ∃ u, Does 0x0708 r [] u (exec (.ppsSet r) s) ∧ u.time.ppsSel = fld b 0 1 ∧
      u.time.ppsOffset = off ∧ u.time.ppsWidth = fld b 8 4 ∧ u.time.rclk0.lane = fld b 12 2 ∧ u.time.rclk0.div = fld b 16 2 ∧
      u.time.rclk1.lane = fld b 14 2 ∧ u.time.rclk1.div = fld b 18 2 ∧ u.time.d0 = s.time.d0 ∧ u.time.d1 = s.time.d1 ∧
      (fld b 12 2 ≠ s.time.rclk0.lane → u.time.rclk0.squelched = !rclkLocked (fld b 12 2) s) ∧
      (fld b 14 2 ≠ s.time.rclk1.lane → u.time.rclk1.squelched = !rclkLocked (fld b 14 2) s) ∧
      (fld b 12 2 = s.time.rclk0.lane → u.time.rclk0.squelched = s.time.rclk0.squelched) ∧
      (fld b 14 2 = s.time.rclk1.lane → u.time.rclk1.squelched = s.time.rclk1.squelched)) ∧
    (fld b 16 2 < 16 ∨ fld b 18 2 < 16 → Fails 0x0708 r stRANGE 0 s (exec (.ppsSet r) s)))

open Sys2Proof Sys2Proof.Machine in
/-- Saffron's own events (R298–R300, R307–R310, R536). -/
def Obligations.TimeEvents : Prop :=
  (∀ (s : State), s.ep.copyMbx = none → (∀ x ∈ s.lanes.lane, x.2.checker = false) → booting s = false → ∃ t,
    exec (.aonTick none false) s = .next t ∧ t.time.free = (s.time.free + 80) % 2 ^ 64 ∧
    t.ctr = s.ctr ∧ t.mace = s.mace ∧ t.ep = s.ep ∧ t.host = { s.host with tcwLeft := s.host.tcwLeft - 1 } ∧
    t.time.active = s.time.active ∧ t.time.phase = 0 ∧
    (∀ d, (s.time.dom d).slewLeft = 0 → (s.time.dom d).freqAdj = 0 → onRef10 d s.time = false →
      (t.time.dom d).val = timeNorm ((s.time.dom d).val + 80 * uNs) ∧ (t.time.dom d).copy = (t.time.dom d).val) ∧
    (∀ d, (t.time.dom d).lastSync = min ((s.time.dom d).lastSync + 1) 4294967295 ∧ (t.time.dom d).st = (s.time.dom d).st ∧
      (t.time.dom d).wd = min ((s.time.dom d).wd + 1) 4294967295) ∧
    t.time.ppsCarry = (s.time.ppsCarry || secOf (ppsValue t) != secOf (ppsValue s)) ∧
    (s.time.resid = 0 → t.time.resid = 0) ∧ t.time.resid.natAbs ≤ s.time.resid.natAbs) ∧
  (∀ (d which : Nat) (s : State), s.ep.copyMbx = none → ∃ t, exec (.aonTick (some (d, which)) false) s = .next t ∧
    t.mace.inflight = s.mace.inflight ++ [⟨78, d, 0⟩]) ∧
  (∀ (adj : BitVec 32), tickAdvance adj ≤ 80 * uNs + 80 * uNs / 1000 ∧ 80 * (uNs : Int) - 80 * uNs / 1000 - 1 ≤ tickAdvance adj) ∧
  (∀ (s : State), s.time.pendSwitch = false → exec .switchover s = .next s) ∧
  (∀ (s : State), s.time.pendSwitch = true → let n := (s.time.dom (!s.time.active)).val
    let d := timeDiff n (activeTick s)
    ∃ t, exec .switchover s = .next t ∧ t.time.active = (!s.time.active) ∧ t.time.switched = true ∧
      t.time.pendSwitch = false ∧ t.time.d0 = s.time.d0 ∧ t.time.d1 = s.time.d1 ∧
      (d.natAbs ≤ 10 * uNs * s.time.slewMax → t.time.resid = -d) ∧
      (10 * uNs * s.time.slewMax < d.natAbs → t.time.resid = 0) ∧
      getCtr .TIME_SWITCH 0 t = (getCtr .TIME_SWITCH 0 s + 1) % 2 ^ 64 ∧
      (∃ l l', t.mace.inflight = s.mace.inflight ++ l ++ [⟨74, 0, 0⟩] ++ l')) ∧
  (∀ (s s' : State), s.time.pendSwitch = true → (s.time.dom (!s.time.active)).val < uWrap →
    (timeDiff (s.time.dom (!s.time.active)).val (activeTick s)).natAbs ≤ 10 * uNs * s.time.slewMax →
    exec .switchover s = .next s' → activeTick s' = activeTick s) ∧
  (∀ (s : State), (s.time.resid.natAbs ≤ slewStep s.time.slewRate →
      exec .slewComplete s = .next { s with time := { s.time with resid := 0 } }) ∧
    (slewStep s.time.slewRate < s.time.resid.natAbs → exec .slewComplete s = .next s)) ∧
  (∀ (s : State), (s.time.revert = false ∨ s.time.former = none → exec .revertTimer s = .next s) ∧
    (∀ f, s.time.revert = true → s.time.former = some f → f ≠ s.time.active →
      s.time.revertS * 1000000000 ≤ s.time.formerTicks * 80 → exec .revertTimer s = .next (triggerSwitch true s))) ∧
  (∀ (d : Nat) (s : State), let b := d == 1
    let x := s.time.dom b
    (x.source = 0 ∨ x.wdExpired = true ∨ wdTicks b s * 80 < x.syncTimeout * 1000000 →
      exec (.syncWatchdogExpiry d) s = .next s) ∧
    (x.source ≠ 0 → x.wdExpired = false → x.syncTimeout * 1000000 ≤ wdTicks b s * 80 →
      b ≠ s.time.active ∨ s.time.autoSwitch = false → ∃ t, exec (.syncWatchdogExpiry d) s = .next t ∧
        (t.time.dom b).st = .holdover ∧ (t.time.dom b).freqAdj = x.freqAdj ∧
        t.time.active = s.time.active ∧ t.time.pendSwitch = s.time.pendSwitch ∧
        getCtr .SYNC_TIMEOUT_CNT (b2n b) t = (getCtr .SYNC_TIMEOUT_CNT (b2n b) s + 1) % 2 ^ 64 ∧
        t.mace.inflight = s.mace.inflight ++ [⟨if b = s.time.active then 72 else 73, b2n b, 0⟩])) ∧
  (∀ (d : Nat) (s : State), let b := d == 1
    ((s.time.dom b).source = 0 → exec (.ptpMasterChange d) s = .next s) ∧
    ((s.time.dom b).source ≠ 0 → b ≠ s.time.active ∨ s.time.autoSwitch = false → exec (.ptpMasterChange d) s =
      .next (modDom b (fun x => { x with st := .acquiring, qual := 0 }) s))) ∧
  (∀ (d : Nat) (off : Int) (s : State), let b := d == 1
    let x := s.time.dom b
    (x.source ≠ 1 → exec (.servoUpdate d off) s = .next s) ∧
    (x.source = 1 → x.owner = 1 → exec (.servoUpdate d off) s = .next (modDom b acceptSync s)) ∧
    (x.source = 1 → x.owner ≠ 1 → ∃ t, exec (.servoUpdate d off) s = .next t ∧ (t.time.dom b).lastSync = 0 ∧
      (t.time.dom b).offset = off ∧ (x.qualNs < off.natAbs → (t.time.dom b).qual = 0) ∧
      (x.st = .acquiring → off.natAbs ≤ x.qualNs → 15 ≤ x.qual → (t.time.dom b).st = .locked) ∧
      (x.st = .locked → (t.time.dom b).val = x.val ∧ (t.time.dom b).st = .locked))) ∧
  (∀ (s : State), (s.time.ppsCarry = false → exec .ppsOutEdge s = .next s) ∧
    (s.time.ppsCarry = true → exec .ppsOutEdge s = .next { s with time := { s.time with ppsOut := true, ppsCarry := false } })) ∧
  (∀ (s : State), exec .ppsOutPulseEnd s = .next { s with time := { s.time with ppsOut := false } }) ∧
  (∀ (sub k : Nat) (s : State), s.time.sincePps = some k → k * 80 < 500000000 → exec (.ppsInEdge sub) s = .next s) ∧
  (∀ (sub : Nat) (s : State), s.time.sincePps = none → s.time.d0.source ≠ 2 → s.time.d1.source ≠ 2 → ∃ t,
    exec (.ppsInEdge sub) s = .next t ∧
    t.time = { s.time with ppsSeen := true, sincePps := some 0, d0 := { s.time.d0 with wd := 0 }, d1 := { s.time.d1 with wd := 0 } } ∧
    getCtr .PPS_IN_EDGES 0 t = (getCtr .PPS_IN_EDGES 0 s + 1) % 2 ^ 64) ∧
  (∀ (sub : Nat) (s : State), ∃ t, exec (.ppsInEdge sub) s = .next t ∧
    ∀ d, (t.time.dom d).lastSync = (s.time.dom d).lastSync) ∧
  (∀ (s : State), exec .ref10InQualified s = .next { s with time := { s.time with ref10Ok := true } } ∧
    (s.time.ref10Ok = false → exec .ref10InDisqualified s = .next s) ∧
    (s.time.ref10Ok = true → exec .ref10InDisqualified s =
      .next (raise 76 0 0 (bump .REF10_LOSS 0 { s with time := { s.time with ref10Ok := false } })))) ∧
  (∀ (out : Nat) (s : State), ∃ t, exec (.rclkResume out) s = .next t ∧
    (if out = 0 then t.time.rclk1 = s.time.rclk1 ∧
        t.time.rclk0.squelched = (s.time.rclk0.squelched && !rclkLocked s.time.rclk0.lane s)
     else t.time.rclk0 = s.time.rclk0 ∧
        t.time.rclk1.squelched = (s.time.rclk1.squelched && !rclkLocked s.time.rclk1.lane s)))

open Sys2Proof Sys2Proof.Machine in
/-- Lane tests and the commands of lanes (R326, R330–R335, R337): a loop or a pattern puts every lane of the port in TEST, the
end of the last one starts bring-up; a locked checker counts tick by tick, its errors a free value (log 91); a swap by name, and
RESTORE. OP codes and PARAM are the model's (log 24). -/
def Obligations.LaneCommandsComplete : Prop :=
  (∀ (r : YcpReq) (s : State), Accepted 0x0A05 r s → let b := reqBody r
    b.length = 16 → testLaneOk b = true → testDenied (testLane b) s = false → fld b 2 2 ≤ 3 →
    let u := setLane (testLane b) { getLane (testLane b) s with loop := fld b 2 2 } s
    Does 0x0A05 r [] (if fld b 2 2 = 0 then leaveTest (testLane b) u else enterTest (testLane b) u) (exec (.laneLoop r) s)) ∧
  (∀ (r : YcpReq) (s : State), Accepted 0x0A04 r s → let b := reqBody r
    b.length = 16 → testLaneOk b = true → testDenied (testLane b) s = false →
    (fld b 2 2 = 0 → Does 0x0A04 r [] (leaveTest (testLane b)
      (setLane (testLane b) { getLane (testLane b) s with pattern := none, checker := false } s)) (exec (.lanePattern r) s)) ∧
    (fld b 2 2 = 1 → fld b 4 1 ≤ 4 ∨ fld b 4 1 = 7 ∨ (fld b 4 1 = 5 ∧ laneRate (testLane b) s ≤ 2) ∨
        (fld b 4 1 = 6 ∧ 1 ≤ fld b 5 1 ∧ fld b 5 1 ≤ 64) →
      Does 0x0A04 r [] (enterTest (testLane b) (setLane (testLane b) { getLane (testLane b) s with
        pattern := some (slice b 4 12), checker := false, patAt := s.time.free } s)) (exec (.lanePattern r) s))) ∧
  (∀ (r : YcpReq) (s : State), Accepted 0x0A06 r s → let b := reqBody r
    b.length = 16 → testLaneOk b = true → testDenied (testLane b) s = false →
    (fld b 2 2 = 0 → Does 0x0A06 r [] (setLane (testLane b) { getLane (testLane b) s with
        inject := none, injAt := s.time.free } s) (exec (.laneInject r) s)) ∧
    (fld b 2 2 = 1 ∨ (fld b 2 2 = 2 ∧ 1 ≤ fld b 4 1 ∧ fld b 4 1 ≤ 64) ∨ (fld b 2 2 = 3 ∧ 10 ≤ fld b 5 1 ∧ fld b 5 1 ≤ 40) ∨
        (fld b 2 2 = 4 ∧ 1 ≤ fld b 6 1 ∧ fld b 6 1 ≤ 16 ∧ 1 ≤ fld b 8 4 ∧ fld b 8 4 ≤ 2 ^ 20 ∧
          (linkOfLane (testLane b) s).isSome = true) →
      Does 0x0A06 r [] (setLane (testLane b) { getLane (testLane b) s with
        inject := some (leBytes 2 (fld b 2 2) ++ slice b 4 12), injAt := s.time.free } s) (exec (.laneInject r) s))) ∧
  (∀ (r : YcpReq) (s : State), (reqBody r).length = 16 → testLaneOk (reqBody r) = true →
    testDenied (testLane (reqBody r)) s = true → fld (reqBody r) 2 2 ≤ 1 →
    (Accepted 0x0A04 r s → Fails 0x0A04 r stDENIED 0 s (exec (.lanePattern r) s)) ∧
    (Accepted 0x0A05 r s → Fails 0x0A05 r stDENIED 0 s (exec (.laneLoop r) s)) ∧
    (Accepted 0x0A06 r s → Fails 0x0A06 r stDENIED 0 s (exec (.laneInject r) s))) ∧
  (∀ (ix l : Nat) (s : State), linkOfLane ix s = some l →
    (getLink l (enterTest ix s)).phase = .test ∧ linkAll l 12 (enterTest ix s) = true ∧
    ((getLink l s).phase = .test → (∀ x ∈ linkLanes l s, (getLane x s).loop = 0 ∧ (getLane x s).pattern = none) →
      (getLink l (leaveTest ix s)).phase = .bringUp ∧ linkAll l 1 (leaveTest ix s) = true)) ∧
  (∀ (ix : Nat) (s : State), linkOfLane ix s = none →
    ((getLane ix s).st ≠ 13 → (getLane ix (enterTest ix s)).st = 12) ∧ ((getLane ix s).st = 13 → enterTest ix s = s) ∧
    ((getLane ix s).st = 12 → (getLane ix s).loop = 0 → (getLane ix s).pattern = none →
      (getLane ix (leaveTest ix s)).st = 1)) ∧
  (∀ (lane : Nat) (s : State), checkable (getLane lane s) = true →
    exec (.prbsCheckerLock lane) s = .next (setLane lane { getLane lane s with
      checker := true, lockAt := s.time.free, prbsErr := 0 } s)) ∧
  (∀ (lane : Nat) (s : State), checkable (getLane lane s) = false → exec (.prbsCheckerLock lane) s = .next s) ∧
  (∀ (lane n e : Nat) (s : State), (getLane lane s).checker = true → ∀ u, u = addCtr .PRBS_BITS lane (n - prbsBits lane s)
      (addCtr .PRBS_ERR lane (e - (getLane lane s).prbsErr) (setLane lane { getLane lane s with checker := false } s)) →
    ((getLane lane s).judged = false → exec (.prbsCheckerLossOfLock lane n e) s = .next u) ∧
    ((getLane lane s).judged = true → ∃ t, exec (.prbsCheckerLossOfLock lane n e) s = .next t ∧ t.lanes = u.lanes ∧
      getCtr .PRBS_BITS lane t = getCtr .PRBS_BITS lane u ∧ getCtr .PRBS_ERR lane t = getCtr .PRBS_ERR lane u ∧
      getCtr .LANE_LOL lane t = (getCtr .LANE_LOL lane s + 1) % 2 ^ 64)) ∧
  (∀ (ix : Nat) (s : State), let k := s.time.free - (getLane ix s).lockAt
    let n := laneBits (laneRate ix s) k - laneBits (laneRate ix s) (k - 80)
    ∃ e, e ≤ n ∧ getCtr .PRBS_BITS ix (prbsTick ix s) = (getCtr .PRBS_BITS ix s + n) % 2 ^ 64 ∧
      getCtr .PRBS_ERR ix (prbsTick ix s) = (getCtr .PRBS_ERR ix s + e) % 2 ^ 64 ∧
      (getLane ix (prbsTick ix s)).prbsErr = (getLane ix s).prbsErr + e) ∧
  (∀ (ix : Nat) (p : Bytes) (s : State), (getLane ix s).inject = some p → (getLane ix s).pattern.isSome = true →
    (fld p 0 2 = 1 ∨ fld p 0 2 = 2 → (getLane ix (injectTick ix s)).inject = none) ∧
    (fld p 0 2 = 3 ∨ fld p 0 2 = 4 → injectTick ix s = s)) ∧
  (∀ (lane n e : Nat) (s : State), (getLane lane s).checker = false →
    exec (.prbsCheckerLossOfLock lane n e) s = .next s) ∧
  (∀ (r : YcpReq) (s : State) (o : Host.Outcome State Fault Refusal), Accepted 0x0A07 r s →
    o = exec (.laneSwap r) s ∨ o = exec (.laneSwapRestore r) s → let b := reqBody r
    let g := fld b 0 2 / 16
    let k := fld b 0 2 % 16
    b.length = 16 → fld b 4 12 = 0 → g < 10 →
    (fld b 2 2 = 1 → k < 8 → (∀ l, linkOfLogical g k s = some l → (getLink l s).phase ≠ .retrain ∧ (getLink l s).phase ≠ .gap) →
      Does 0x0A07 r [] (trySwap g k s) o) ∧
    (fld b 2 2 = 1 → k < 8 → (∀ l, linkOfLogical g k s = some l → (getLink l s).phase = .retrain →
      Does 0x0A07 r [] (trySwap g k (setPhase l .swap s)) o)) ∧
    (fld b 2 2 = 2 → k < 9 → (getLane (9 * g + k) s).st = 13 →
      Does 0x0A07 r [] (otpAppend 2 g k 1 (laneTo (9 * g + k) 9 (untest (9 * g + k) s))) o) ∧
    (fld b 2 2 = 2 → k < 9 → (getLane (9 * g + k) s).st ≠ 13 → Fails 0x0A07 r stBUSY 0 s o))

open Sys2Proof Sys2Proof.Machine in
/-- Bring-up of lanes and recovery of links (R310, R321–R323, R325–R328, R338, R437): each state's exit, what an adaptation takes,
the stage limit, the events that take a link down, the retrain attempts, and DEGRADED. The partner's request of precoding is a
free value (log 86). -/
def Obligations.LanesComeUpAndRecover : Prop :=
  (∀ (lane : Nat) (s : State), let x : Lane := { getLane lane s with signal := true }
    ((getLane lane s).st = 1 → LaneOnly lane { x with ctrl := fld (laneRecord (laneIndex lane) s) 1 1, st := 2 } s
      (exec (.laneSignalDetected lane) s)) ∧
    ((getLane lane s).st ≠ 1 → exec (.laneSignalDetected lane) s = .next (setLane lane x s))) ∧
  (∀ (lane : Nat) (s : State), let x : Lane := { getLane lane s with cdr := true }
    ((getLane lane s).st = 2 → LaneOnly lane { x with st := 3 } s (exec (.laneCdrLock lane) s)) ∧
    ((getLane lane s).st ≠ 2 → exec (.laneCdrLock lane) s = .next (setLane lane x s))) ∧
  (∀ (lane : Nat) (inv : Bool) (s : State), let x := getLane lane s
    let on := if spareOf (lane / 9) s = some (lane % 9) then 9 else 4
    (x.st = 3 → bits x.ctrl 0 2 = 0 → LaneOnly lane { x with rxInv := inv, st := on } s
      (exec (.lanePolarityFound lane inv) s)) ∧
    (x.st = 3 → bits x.ctrl 0 2 = 1 → LaneOnly lane { x with rxInv := false, st := on } s
      (exec (.lanePolarityFound lane inv) s)) ∧
    (x.st = 3 → bits x.ctrl 0 2 = 2 → LaneOnly lane { x with rxInv := true, st := on } s
      (exec (.lanePolarityFound lane inv) s)) ∧
    (x.st ≠ 3 → exec (.lanePolarityFound lane inv) s = .next s)) ∧
  (∀ (r : Bytes) (c : Nat) (d : Byte) (f : Bytes) (x : Lane), let y := adapted r c d f x
    (bit (fld r 7 1) 5 = true → y.1 = bits (fld r 7 1) 0 5) ∧ (bit (fld r 7 1) 5 = false → y.1 = c) ∧
    (bit (fld r 9 1) 0 = false → y.2.1 = 0) ∧ (bit (fld r 9 1) 0 = true → y.2.1 = d) ∧
    (bit (fld r 8 1) 5 = true → y.2.2 = x.ffe) ∧
    (bit (fld r 8 1) 5 = false → y.2.2.length = 24 ∧ ∀ i, i < 24 → i ≠ bits (fld r 8 1) 0 5 →
      2 * ((y.2.2.getD i 0).toInt).natAbs ≤ ((y.2.2.getD (bits (fld r 8 1) 0 5) 0).toInt).natAbs)) ∧
  (∀ (lane m c : Nat) (d : Byte) (f : Bytes) (s : State), let x := getLane lane s
    let y := adapted (laneRecord (laneIndex lane) s) c d f x
    let z : Lane := { x with margin := m, ctle := y.1, dfe := y.2.1, ffe := y.2.2, st := 5, saved := some (x.rxInv, y),
                             txFfe := slice (laneRecord (laneIndex lane) s) 2 5 }
    (x.st = 4 → laneFloor lane s ≤ m → ((linkOfLane lane s).any fun l => recKr (linkRec l s)) = false →
      LaneOnly lane z s (exec (.laneEqConverged lane m c d f) s)) ∧
    (x.st = 4 → laneFloor lane s ≤ m → ((linkOfLane lane s).any fun l => recKr (linkRec l s)) = true →
      ∃ t p q, exec (.laneEqConverged lane m c d f) s = .next t ∧ getLane lane t = { z with reqPre := p, txFfe := q } ∧
        t.lanes.map = s.lanes.map ∧ t.lanes.link = s.lanes.link ∧ ∀ i, i ≠ lane → getLane i t = getLane i s) ∧
    (x.st = 4 → m < laneFloor lane s → exec (.laneEqConverged lane m c d f) s =
      .next (raise 84 lane (((linkOfLane lane s).map linkMask).getD 0) (setLane lane { x with margin := m } s))) ∧
    (x.st ≠ 4 → exec (.laneEqConverged lane m c d f) s = .next s)) ∧
  (∀ (l : Nat) (p : Bytes) (s : State), (getLink l s).phase = .bringUp → linkAll l 5 s = true →
    ∃ t, exec (.laneOrderIdentified l p) s = .next t ∧ getLink l t = { getLink l s with perm := p } ∧ linkAll l 6 t = true ∧
      (∀ i, i ∉ linkLanes l s → getLane i t = getLane i s) ∧ t.lanes.map = s.lanes.map) ∧
  (∀ (l : Nat) (p : Bytes) (s : State), linkAll l 5 s = false → exec (.laneOrderIdentified l p) s = .next s) ∧
  (∀ (l : Nat) (s : State), (getGroup (linkGroup l) s).swap = none → (getLink l s).phase = .bringUp → linkAll l 6 s = true →
    ∃ t, exec (.fecAlignLock l) s = .next t ∧ linkAll l 7 t = true ∧
      getLink l t = { getLink l s with phase := .up, attempts := 0, first := none, rf := false } ∧
      (l < 64 → t.buf.parked = s.buf.parked &&& ~~~(portMask l)) ∧
      (∀ i, i ∉ linkLanes l s → getLane i t = getLane i s) ∧ t.lanes.map = s.lanes.map ∧ t.sched = s.sched ∧ t.ep = s.ep) ∧
  (∀ (lane l : Nat) (s : State), linkOfLane lane s = some l → 2 ≤ (getLane lane s).st → (getLane lane s).st ≤ 6 →
    (getLink l s).phase = .bringUp →
    ∃ t m, exec (.laneStageLimitExpiry lane) s = .next t ∧ linkAll l 1 t = true ∧ (getLink l t).phase = .bringUp ∧
      t.mace.inflight = s.mace.inflight ++ ⟨82, lane, linkMask l⟩ :: m) ∧
  (∀ (lane l : Nat) (s : State), linkOfLane lane s = some l → (getLane lane s).st = 8 → (getLink l s).phase = .retrain →
    inMask s.pwr.waking l = false → exec (.laneStageLimitExpiry lane) s = exec (.retrainAttemptEnd l false) s) ∧
  (∀ (lane : Nat) (s : State), linkOfLane lane s = none → (getLane lane s).st = 9 → laneDepthOf lane s = .active →
    exec (.laneStageLimitExpiry lane) s = exec (.spareTrainTimeout lane) s) ∧
  (∀ (lane : Nat) (s : State), linkOfLane lane s = none → (getLane lane s).st = 11 →
    exec (.laneStageLimitExpiry lane) s = .next (swapLimit lane s)) ∧
  (∀ (lane : Nat) (s : State), (getLane lane s).judged = true →
    exec (.laneLossOfSignal lane) s = .next s ∧ exec (.laneCdrLoss lane) s = .next s) ∧
  (∀ (lane l : Nat) (s : State), (getLane lane s).judged = false → linkOfLane lane s = some l → remapped lane s = none →
    (getLink l s).phase ≠ .up → (getLink l s).phase = .gap ∨ (getLink l s).phase = .retrain → (getLink l s).first = none →
    straightSwap l s = false →
    ∃ t m, exec (.laneLossOfSignal lane) s = .next t ∧ (getLink l t).first = logicalOf (lane / 9) (lane % 9) s ∧
      (getLink l t).phase = (getLink l s).phase ∧ (getLane lane t).signal = false ∧
      t.mace.inflight = s.mace.inflight ++ ⟨80, lane, linkMask l⟩ :: m) ∧
  (∀ (lane l : Nat) (s : State), (getLane lane s).judged = false → linkOfLane lane s = some l → remapped lane s = none →
    (getLink l s).phase ≠ .up → ((getLink l s).phase ≠ .gap ∧ (getLink l s).phase ≠ .retrain) ∨ (getLink l s).first.isSome = true →
    exec (.laneLossOfSignal lane) s = .next (raise 80 lane (linkMask l) (linkHears l
      (bump .LANE_LOS lane (setLane lane { getLane lane s with signal := false } s)))) ∧
    ∃ t m, exec (.laneCdrLoss lane) s = .next t ∧ getLane lane t = { getLane lane s with cdr := false } ∧
      getLink l t = { getLink l s with rf := false } ∧
      t.mace.inflight = s.mace.inflight ++ m ++ [⟨81, lane, linkMask l⟩] ∧
      getCtr .LANE_LOL lane t = (getCtr .LANE_LOL lane s + 1) % 2 ^ 64) ∧
  (∀ (lane l : Nat) (s : State), (getLane lane s).judged = false → linkOfLane lane s = some l → remapped lane s = none →
    (getLink l s).phase = .up → fld (linkRec l s) 5 1 ≠ 0 → straightSwap l s = false →
    (∃ t m, exec (.laneLossOfSignal lane) s = .next t ∧ (getLink l t).phase = .gap ∧ (getLink l t).attempts = 0 ∧
      (getLink l t).first = logicalOf (lane / 9) (lane % 9) s ∧ (getLane lane t).signal = false ∧
      t.mace.inflight = s.mace.inflight ++ ⟨80, lane, linkMask l⟩ :: m) ∧
    (∃ t m n, exec (.laneCdrLoss lane) s = .next t ∧ (getLink l t).phase = .gap ∧ (getLink l t).attempts = 0 ∧
      (getLink l t).first = logicalOf (lane / 9) (lane % 9) s ∧ (getLane lane t).cdr = false ∧
      t.mace.inflight = s.mace.inflight ++ n ++ ⟨81, lane, linkMask l⟩ :: m)) ∧
  (∀ (lane : Nat) (s : State), logicalOf (lane / 9) (lane % 9) s = none → spareOf (lane / 9) s = some (lane % 9) →
    (getLane lane s).st = 10 → (getGroup (lane / 9) s).swap = none →
    (∃ t m, exec (.laneLossOfSignal lane) s = .next t ∧ getLane lane t = { getLane lane s with signal := false, st := 9 } ∧
      t.mace.inflight = s.mace.inflight ++ m ++ [⟨88, lane / 9, 0⟩] ∧ t.lanes.map = s.lanes.map) ∧
    (∃ t m, exec (.laneCdrLoss lane) s = .next t ∧ getLane lane t = { getLane lane s with cdr := false, st := 9 } ∧
      t.mace.inflight = s.mace.inflight ++ m ++ [⟨88, lane / 9, 0⟩] ∧ t.lanes.map = s.lanes.map)) ∧
  (∀ (l : Nat) (s : State), (getLink l s).phase = .up →
    ∃ t u, exec (.fecLockLoss l) s = .next t ∧ exec (.remoteFaultReceive l) s = .next u ∧
      (fld (linkRec l s) 5 1 ≠ 0 → (getLink l t).phase = .gap ∧ (getLink l t).first = none ∧ (getLink l t).rf = false ∧
        (getLink l u).phase = .gap ∧ (getLink l u).rf = true) ∧
      (fld (linkRec l s) 5 1 = 0 → (getLink l t).phase = .bringUp ∧ linkAll l 1 t = true ∧ linkAll l 1 u = true)) ∧
  (∀ (l : Nat) (s : State), (getLink l s).phase ≠ .up →
    exec (.fecLockLoss l) s = .next (setLink l { getLink l s with rf := false } s) ∧
    exec (.remoteFaultReceive l) s = .next s) ∧
  (∀ (p c k e : Nat) (s : State), let u := addCtr .FEC_CW p c (addCtr .FEC_CW_CORR p k (addCtr .FEC_CW_UNCORR p e s))
    exec (.uncorrWindowEnd p c k e) s = .next (if fld (portRec p s) 9 2 < e then raise 87 p (portMask p) u else u)) ∧
  (∀ (l : Nat) (s : State), (getLink l s).phase = .gap →
    ∃ t, exec (.retrainGapExpiry l) s = .next t ∧ getLink l t = { getLink l s with phase := .retrain, rf := false } ∧
      linkAll l 8 t = true ∧ (∀ i ∈ linkLanes l s, ∀ v c d f, (getLane i s).saved = some (v, c, d, f) →
        getLane i t = { getLane i s with rxInv := v, ctle := c, dfe := d, ffe := f, st := 8 })) ∧
  (∀ (l : Nat) (s : State), (getLink l s).phase ≠ .gap → exec (.retrainGapExpiry l) s = .next s) ∧
  (∀ (l : Nat) (s : State), inMask s.pwr.waking l = false → (getLink l s).phase = .retrain →
    (∃ t, exec (.retrainAttemptEnd l true) s = .next t ∧ (getLink l t).phase = .up ∧ linkAll l 7 t = true) ∧
    ((getLink l s).attempts + 1 < fld (linkRec l s) 5 1 → ∃ t m, exec (.retrainAttemptEnd l false) s = .next t ∧
      getLink l t = { getLink l s with phase := .gap, attempts := (getLink l s).attempts + 1 } ∧
      t.lanes.lane = s.lanes.lane ∧ t.lanes.map = s.lanes.map ∧
      t.mace.inflight = s.mace.inflight ++ ⟨82, (linkLanes l s).headD 0, linkMask l⟩ :: m ∧
      ∀ e, e ∈ m ↔ ∃ ix ∈ linkLanes l s, (getLane ix s).margin < laneFloor ix s ∧ e = ⟨84, ix, linkMask l⟩) ∧
    (fld (linkRec l s) 5 1 ≤ (getLink l s).attempts + 1 → (getLink l s).first = none →
      ∃ t, exec (.retrainAttemptEnd l false) s = .next t ∧ (getLink l t).phase = .bringUp ∧ linkAll l 1 t = true)) ∧
  (∀ (l : Nat) (s : State), l < 64 → inMask s.pwr.waking l = true →
    exec (.retrainAttemptEnd l false) s = .next s ∧
    ∃ t, exec (.retrainAttemptEnd l true) s = .next t ∧ linkAll l 7 t = true ∧ inMask t.pwr.waking l = false) ∧
  (∀ (lane m c y : Nat) (s : State), (getLane lane s).st ≠ 7 → (getLane lane s).st ≠ 10 →
    exec (.marginMeasurement lane m c y) s = .next s) ∧
  (∀ (lane l m c y : Nat) (s : State), linkOfLane lane s = some l → (getLane lane s).st = 7 →
    let x := getLane lane s
    m < laneFloor lane s → x.below = 7 → x.degraded = false → straightSwap l s = false → bit (fld (linkRec l s) 8 1) 0 = false →
    ∃ t, exec (.marginMeasurement lane m c y) s = .next t ∧ (getLane lane t).degraded = true ∧
      (getLane lane t).margin = m ∧ (getLane lane t).below = 8 ∧ (getLane lane t).above = 0 ∧
      t.mace.inflight = s.mace.inflight ++ [⟨83, lane, linkMask l⟩] ∧
      getCtr .FEC_SYM_ERR lane t = (getCtr .FEC_SYM_ERR lane s + c) % 2 ^ 64 ∧
      getCtr .LANE_DEGRADE lane t = (getCtr .LANE_DEGRADE lane s + 1) % 2 ^ 64 ∧ getLink l t = getLink l s) ∧
  (∀ (lane m c y : Nat) (s : State), (getLane lane s).st = 7 ∨ (getLane lane s).st = 10 → let x := getLane lane s
    laneFloor lane s ≤ m → x.degraded = false → x.winOver = false → x.winN < 9 →
    ∃ t, exec (.marginMeasurement lane m c y) s = .next t ∧ getLane lane t = { x with
        margin := m, below := 0, above := if laneFloor lane s < m then min (x.above + 1) 8 else 0, winN := x.winN + 1, winErr := x.winErr + c,
        winSym := x.winSym + y } ∧ t.mace = s.mace ∧
      getCtr .FEC_SYM_ERR lane t = (getCtr .FEC_SYM_ERR lane s + c) % 2 ^ 64)

open Sys2Proof Sys2Proof.Machine in
/-- The steering stream and lane swaps (R318, R323, R326, R329–R331, R337): three unchanged blocks, the block that is sent, requests
and acknowledgements, a refusal that leaves the map, the remap, the end of a swap, the spare, and the loss of a PLL; Gray coding
and precoding (R321). -/
def Obligations.LaneSwaps : Prop :=
  (∀ (g : Nat) (blk : Bytes) (s : State), fld blk 0 2 ≠ 0xF0A5 ∨ crc16 (blk.take 14) ≠ fld blk 14 2 →
    exec (.steeringBlockReceive g blk) s = .next (setGroup g { getGroup g s with hist := [] } s)) ∧
  (∀ (g : Nat) (blk : Bytes) (s : State), fld blk 0 2 = 0xF0A5 → crc16 (blk.take 14) = fld blk 14 2 →
    let h := (bits (fld blk 2 1) 0 4, bits (fld blk 2 1) 4 4, bit (fld blk 4 1) 0)
    let x := getGroup g s
    (x.hist.length < 2 →
      exec (.steeringBlockReceive g blk) s = .next (setGroup g { x with hist := h :: x.hist } s)) ∧
    (∀ rest, x.hist = h :: h :: rest → h.1 = 15 → x.swap = none → exec (.steeringBlockReceive g blk) s =
      .next (setGroup g { x with hist := [h, h, h], rxReq := 15, rxAck := h.2.1, partnerReady := h.2.2 } s)) ∧
    (∀ rest w, x.hist = h :: h :: rest → h.1 = 15 → x.swap = some w → w.step = 0 → h.2.1 = w.lane →
      ∃ t, exec (.steeringBlockReceive g blk) s = .next t ∧ getGroup g t = { x with
        hist := [h, h, h], rxReq := 15, rxAck := h.2.1, partnerReady := h.2.2, swap := some { w with step := 1, wait := 1 } } ∧
        t.lanes.map = s.lanes.map) ∧
    (∀ rest ph, x.hist = h :: h :: rest → h.1 < 8 → h.2.2 = true → x.swap = none → spareOf g s = some ph →
      (getLane (9 * g + ph) s).st = 10 →
      ∃ t, exec (.steeringBlockReceive g blk) s = .next t ∧ (getGroup g t).swap = some ⟨h.1, physOf g h.1 s, 1, 4⟩ ∧
        (getGroup g t).txAck = h.1 ∧ (getGroup g t).txReq = 15 ∧ (getLane (9 * g + physOf g h.1 s) t).st = 11 ∧
        t.lanes.map = s.lanes.map)) ∧
  (∀ (g k : Nat) (s : State), swapPossible g k s = true → (getGroup g s).swap = none →
    (getGroup g (trySwap g k s)).swap = some ⟨k, physOf g k s, 0, 0⟩ ∧ (getGroup g (trySwap g k s)).txReq = k ∧
    (getLane (9 * g + physOf g k s) (trySwap g k s)).st = 11 ∧ (trySwap g k s).lanes.map = s.lanes.map) ∧
  (∀ (g k : Nat) (s : State), swapPossible g k s = false → (getGroup g s).swap = none →
    (∃ m, (trySwap g k s).mace.inflight =
      s.mace.inflight ++ ⟨86, g, ((linkOfLogical g k s).map linkMask).getD 0⟩ :: m) ∧
    (trySwap g k s).lanes.map = s.lanes.map ∧
    getCtr .SWAP_REFUSED g (trySwap g k s) = (getCtr .SWAP_REFUSED g s + 1) % 2 ^ 64) ∧
  (∀ (g : Nat) (w : Swap) (s : State), (getGroup g s).swap = some w → w.step = 0 →
    ∃ t m, exec (.swapAckTimeout g) s = .next t ∧ (getGroup g t).swap = none ∧ (getGroup g t).txReq = 15 ∧
      t.lanes.map = s.lanes.map ∧ getCtr .SWAP_REFUSED g t = (getCtr .SWAP_REFUSED g s + 1) % 2 ^ 64 ∧
      t.mace.inflight = s.mace.inflight ++ ⟨86, g, ((linkOfLogical g w.lane s).map linkMask).getD 0⟩ :: m) ∧
  (∀ (g : Nat) (s : State), (getGroup g s).swap = none →
    exec (.swapAckTimeout g) s = .next s ∧ exec (.swapAdaptationDone g) s = .next s) ∧
  (∀ (g : Nat) (w : Swap) (s : State), (getGroup g s).swap = some w → 0 < w.wait → exec (.swapAdaptationDone g) s = .next s) ∧
  (∀ (g l ph : Nat) (w : Swap) (s : State), (getGroup g s).swap = some w → w.step = 1 → w.wait = 0 → spareOf g s = some ph →
    linkOfLogical g w.lane s = some l →
    ∃ t, exec (.swapAdaptationDone g) s = .next t ∧ physOf g w.lane t = ph ∧
      (∀ h k, 8 * h + k ≠ 8 * g + w.lane → physOf h k t = physOf h k s) ∧
      (getGroup g t).swap = some { w with step := 2 } ∧ (getLink l t).phase = .swap ∧ (getLane (9 * g + ph) t).st = 6) ∧
  (∀ (l : Nat) (w : Swap) (s : State), let g := linkGroup l
    (getGroup g s).swap = some w → w.step = 2 → linkOfLogical g w.lane s = some l →
    ∃ t m, exec (.fecAlignLock l) s = .next t ∧ (getLink l t).phase = .up ∧ (getGroup g t).swap = none ∧
      (getGroup g t).txReq = 15 ∧ (getLane (9 * g + w.old) t).st = 9 ∧ t.lanes.map = s.lanes.map ∧
      (l < 64 → getCtr .LANE_SWAP l t = (getCtr .LANE_SWAP l s + 1) % 2 ^ 64) ∧
      t.mace.inflight = s.mace.inflight ++ m ++ [⟨85, 9 * g + w.old, linkMask l⟩]) ∧
  (∀ (g ph m c : Nat) (d : Byte) (f : Bytes) (s : State), spareOf g s = some ph → let x := getLane (9 * g + ph) s
    let y := adapted (laneRecord (laneIndex (9 * g + ph)) s) c d f x
    (x.st = 9 → laneFloor (9 * g + ph) s ≤ m → laneDepthOf (9 * g + ph) s = .active →
      LaneOnly (9 * g + ph) { x with
        margin := m, ctle := y.1, dfe := y.2.1, ffe := y.2.2, signal := true, cdr := true, st := 10,
        saved := some (x.rxInv, y), txFfe := slice (laneRecord (laneIndex (9 * g + ph)) s) 2 5 } s (exec (.spareReady g m c d f) s)) ∧
    (x.st = 9 → m < laneFloor (9 * g + ph) s → laneDepthOf (9 * g + ph) s = .active → exec (.spareReady g m c d f) s =
      .next (raise 84 (9 * g + ph) (((linkOfLane (9 * g + ph) s).map linkMask).getD 0)
        (setLane (9 * g + ph) { x with margin := m } s))) ∧
    (x.st ≠ 9 ∨ laneDepthOf (9 * g + ph) s ≠ .active → exec (.spareReady g m c d f) s = .next s)) ∧
  (∀ (lane : Nat) (s : State), (getLane lane s).st = 9 → laneDepthOf lane s = .active → s.spare.otpLog.length < 512 →
    ∃ t m, exec (.spareTrainTimeout lane) s = .next t ∧ getLane lane t = { getLane lane s with st := 13 } ∧
      t.mace.inflight = s.mace.inflight ++ ⟨82, lane, 0⟩ :: m ∧
      t.spare = { s.spare with otpLog := s.spare.otpLog ++ [otpEntry 2 (lane / 9) (lane % 9) 0] }) ∧
  (∀ (lane : Nat) (s : State), (getLane lane s).st ≠ 9 → exec (.spareTrainTimeout lane) s = .next s) ∧
  (∀ (g pll : Nat) (s : State) (ls : List Nat),
    ls = ((groupLinks g s).filter fun l => linkOn l s && (linkLanes l s).any fun ix => lanePll ix s == pll) →
    ∃ t m, exec (.lanePllLoss g pll) s = .next t ∧
      t.mace.inflight = s.mace.inflight ++ ⟨90, g, ls.foldl (fun a l => a ||| linkMask l) 0⟩ :: m ∧
      ∀ l ∈ ls, (getLink l t).phase = .bringUp ∧ linkAll l 1 t = true) ∧
  (∀ (l k : Nat) (s : State), inMask s.pwr.waking l = false → (getLink l s).phase = .retrain →
    fld (linkRec l s) 5 1 ≤ (getLink l s).attempts + 1 → (getLink l s).first = some k →
    linkOfLogical (linkGroup l) k s = some l → straightSwap l s = false → bit (fld (linkRec l s) 8 1) 0 = true →
    spareIsReady (linkGroup l) s = true → (getGroup (linkGroup l) s).swap = none →
    ((getGroup (linkGroup l) s).partnerReady = false → ∃ t, exec (.retrainAttemptEnd l false) s = .next t ∧
      (getLink l t).phase = .bringUp ∧ t.lanes.map = s.lanes.map ∧
      getCtr .SWAP_REFUSED (linkGroup l) t = (getCtr .SWAP_REFUSED (linkGroup l) s + 1) % 2 ^ 64) ∧
    ((getGroup (linkGroup l) s).partnerReady = true → ∃ t, exec (.retrainAttemptEnd l false) s = .next t ∧
      (getLink l t).phase = .swap ∧ t.lanes.map = s.lanes.map ∧
      (getGroup (linkGroup l) t).swap = some ⟨k, physOf (linkGroup l) k s, 0, 0⟩ ∧ (getGroup (linkGroup l) t).txReq = k)) ∧
  (∀ (g : Nat) (s : State), let x := getGroup g s
    let b := steerBlock g s
    x.txReq < 16 → x.txAck < 16 → b.length = 16 ∧ fld b 0 2 = 0xF0A5 ∧ bits (fld b 2 1) 0 4 = x.txReq ∧
      bits (fld b 2 1) 4 4 = x.txAck ∧ fld b 3 1 = x.seq % 256 ∧ bit (fld b 4 1) 0 = spareIsReady g s ∧
      crc16 (b.take 14) = fld b 14 2) ∧
  (∀ a b, grayBits (grayLevel a b) = (a, b)) ∧
  (∀ (p : Nat) (ts : List Nat), p < 4 → (∀ t ∈ ts, t < 4) → unprecode p (precode p ts) = ts) ∧
  (∀ (ix : Nat) (ts : List Nat) (s : State), lanePam ix s = true → precodes true ix s = precodes false ix s →
    bit (getLane ix s).ctrl 2 = (getLane ix s).rxInv → (∀ t ∈ ts, t < 4) → heardLevels ix (sentLevels ix ts s) s = ts)

open Sys2Proof Sys2Proof.Machine in
/-- The memory commands and the work of the controllers (R155, R342, R348–R350, R352, R356–R364, R413): reads and writes of memory,
the rate, request tags, issue, refresh, returns and retries, training visits, retirement, temperature and scrub. Codes are the
model's (log 27). -/
def Obligations.MemoryWorks : Prop :=
  (∀ (r : YcpReq) (s : State), Accepted 0x0802 r s → let v := fld (reqBody r) 0 4
    let body := fun h => propList [pArr "ORDER" 1 (regions.map fun g => orderOf h g.base)]
    let h := { s.hbm with hostOrder := v }
    (reqBody r).length = 4 →
    (v ≤ 3 → s.hbm.hostWritten = false → (body h).length ≤ room r →
      Does 0x0802 r (body h) { s with hbm := h } (exec (.memMap r) s)) ∧
    (v ≤ 3 → s.hbm.hostWritten = true → Fails 0x0802 r stBUSY 0 s (exec (.memMap r) s)) ∧
    (v = 0xFF → (body s.hbm).length ≤ room r → Answers 0x0802 r (body s.hbm) false s (exec (.memMap r) s))) ∧
  (∀ (r : YcpReq) (s : State), Accepted 0x0805 r s → (reqBody r).length = 4 → let v := fld (reqBody r) 0 4
    (5 ≤ v → v ≤ 40 → Does 0x0805 r [] { s with hbm := { s.hbm with floor := v } } (exec (.memTrain r) s)) ∧
    (40 < v → Fails 0x0805 r stRANGE 0 s (exec (.memTrain r) s))) ∧
  (∀ (r : YcpReq) (s : State), Accepted 0x080A r s → (reqBody r).length = 4 → let v := fld (reqBody r) 0 4
    (1 ≤ v → v ≤ 168 → Does 0x080A r [] { s with hbm := { s.hbm with scrubHours := v } } (exec (.memScrubSet r) s)) ∧
    (v = 0 ∨ 168 < v → Fails 0x080A r stRANGE 0 s (exec (.memScrubSet r) s))) ∧
  (∀ (r : YcpReq) (s : State), Accepted 0x0806 r s → (reqBody r).length = 4 → let v := fld (reqBody r) 0 4
    v ≤ 2 →
    (slowHbm s = true → Does 0x0806 r [] { s with hbm := { s.hbm with setRate := v } } (exec (.memFreqSet r) s)) ∧
    (slowHbm s = false → v ≠ s.hbm.rate → Waits 0x0806 r { s with hbm := { s.hbm with
        setRate := v, target := some v, stopped := true, waiting := s.hbm.waiting ++ [r.mbx] } } (exec (.memFreqSet r) s))) ∧
  (∀ (t : Nat) (s : State), s.hbm.target = some t → s.pwr.standby = .no → s.ep.commit = .none →
    (s.hbm.waiting = [] → s.hbm.floor ≤ 100 → ∃ u, exec (.frequencyChangeDone [] []) s = .next u ∧ u.hbm.rate = t ∧
      u.hbm.target = none ∧ u.hbm.stopped = false ∧ u.hbm.mem = s.hbm.mem ∧ u.hbm.remap = s.hbm.remap ∧
      getCtr .MEM_FREQ_CHANGE 0 u = (getCtr .MEM_FREQ_CHANGE 0 s + 1) % 2 ^ 64 ∧
      ∀ i, i < 128 → (getPc i u).st = (getPc i s).st ∧ (getPc i u).low = [] ∧ (getPc i u).good = (getPc i u).delay ∧
        ∀ k, k < 38 → s.hbm.floor ≤ fld (getPc i u).margins k 1) ∧
    (∀ m q, s.hbm.waiting = [m] → (getMbx m s).running = some (0x0806, q) → q.mbx = m → (getMbx m s).lost = false →
      ∃ u, exec (.frequencyChangeDone [] []) s = .next u ∧ (getMbx m u).busy = false ∧ (getMbx m u).lastStatus = stOK ∧
        (getMbx m u).lastSeq = q.seq ∧ u.hbm.rate = t ∧ u.hbm.target = none ∧ u.hbm.stopped = false ∧ u.hbm.waiting = [])) ∧
  (∀ (f : List Nat) (l : List (Nat × Nat)) (s : State), s.hbm.target = none →
    exec (.frequencyChangeDone f l) s = .next s) ∧
  (∀ (r : YcpReq) (s : State), Accepted 0x0807 r s → let b := reqBody r
    let k := fld b 0 1
    let i := 32 * k + fld b 1 1
    b.length = 4 → fld b 2 2 = 0 → k < 4 → fld b 1 1 < 32 →
    ((getStack k s).retire.isSome = true → Fails 0x0807 r stBUSY 0 s (exec (.memRepair r) s)) ∧
    ((getStack k s).retire = none → spareIn k s = none → Fails 0x0807 r stNOSPACE 0 s (exec (.memRepair r) s)) ∧
    (∀ j p, (getStack k s).retire = none → spareIn k s = some j → logicalPc i s = some p → (getPc i s).st ≠ .retired →
      ∃ u, Does 0x0807 r [] u (exec (.memRepair r) s) ∧ (getStack k u).retire = some (p, 0) ∧ (getPc i u).st = .migrating ∧
        u.hbm.mem = s.hbm.mem ∧ u.hbm.remap = s.hbm.remap ∧ u.mace.inflight = s.mace.inflight ++ [⟨103, i, 0⟩])) ∧
  (∀ (r : YcpReq) (s : State) (o : Host.Outcome State Fault Refusal), Accepted 0x0808 r s →
    o = exec (.memAccess r) s ∨ o = exec (.memAccessWrite r) s → let b := reqBody r
    let n := fld b 4 4
    let a := fld b 8 8
    (fld b 0 4 = 1 → b.length = 16 → n ≤ 4016 → a + n ≤ 139500000000 → n ≤ room r → spanUe a n s = false →
      Answers 0x0808 r (memRead s.hbm.mem a n) false (spanReq 10 false a n s) o) ∧
    (fld b 0 4 = 2 → b.length = 16 + n → n ≤ 4016 → baseHOST ≤ a → a + n ≤ 139500000000 → a < 139500000000 →
      Does 0x0808 r [] (hbmWrite 10 a (slice b 16 n) s) o) ∧
    (fld b 0 4 = 2 → b.length = 16 + n → a < baseHOST → Fails 0x0808 r stDENIED 0 s o)) ∧
  (∀ (q a : Nat) (d : Bytes) (s : State) (i : Nat),
    (i < a ∨ a + d.length ≤ i → memGet (hbmWrite q a d s).hbm.mem i = memGet s.hbm.mem i) ∧
    (∀ v, d[i]? = some v → memGet (hbmWrite q a d s).hbm.mem (a + i) = v)) ∧
  (∀ (pc : Nat) (s : State), s.hbm.stopped = true →
    exec (.hbmIssueSlot pc) s = .next s ∧ exec (.hbmRefreshSlot pc) s = .next s ∧ exec .patrolScrub s = .next s ∧
    exec (.hbmReadRetry pc) s = .next s ∧ ∀ m, exec (.retrainingVisit pc m) s = .next s) ∧
  (∀ (pc : Nat) (q : HbmReq) (s : State), s.hbm.stopped = false →
    pickReq (getPc pc s) (fastClock s) = some q → pc < 128 → ∃ t, exec (.hbmIssueSlot pc) s = .next t ∧ (getPc pc t).reads = (getPc pc s).reads.erase q ∧
      (getPc pc t).wq = (getPc pc s).wq.erase q ∧
      (getPc pc t).issued = (if q.write then (getPc pc s).issued else (getPc pc s).issued ++ [q]) ∧
      t.hbm.mem = s.hbm.mem ∧
      getCtr .LINE_RD pc t = (if q.write then getCtr .LINE_RD pc s else (getCtr .LINE_RD pc s + 1) % 2 ^ 64) ∧
      getCtr .LINE_WR pc t = (if q.write then (getCtr .LINE_WR pc s + 1) % 2 ^ 64 else getCtr .LINE_WR pc s)) ∧
  (∀ (pc : Nat) (s : State), s.hbm.stopped = false → pickReq (getPc pc s) (fastClock s) = none →
    exec (.hbmIssueSlot pc) s = .next (fastClock s)) ∧
  (∀ (i : Nat) (q : HbmReq) (s : State), let x := getPc i s
    (tagsUsed x < 64 → x.waitR = [] → behindWrite x q = false →
      (getPc i (readAt i q s)).reads = x.reads ++ [q] ∧ (getPc i (readAt i q s)).waitR = []) ∧
    (64 ≤ tagsUsed x ∨ behindWrite x q = true ∨ (∃ r ∈ x.waitR, behindWrite x r = false) →
      (getPc i (readAt i q s)).reads = x.reads ∧ (getPc i (readAt i q s)).waitR = x.waitR ++ [q]) ∧
    (queuedWrite x q.line = true → readReq i q s = bump .RAW_FWD i s) ∧
    (queuedWrite x q.line = false → readReq i q s = readAt i q s) ∧
    tget 0 (readAt i q s).hbm.outst q.req = tget 0 s.hbm.outst q.req + 1) ∧
  (∀ (x : Pc) (q : HbmReq) (rest : List HbmReq) (s : State), (∀ i, tget 0 s.hbm.panic i = 0) → x.drain = true →
    x.reads = [] → x.wq = q :: rest → q.write = true → pickReq x s = some q) ∧
  (∀ (pc : Nat) (s : State), s.hbm.stopped = false → let x := getPc pc s
    let behind := (x.reads ++ x.wq).any fun q => tget 0 s.hbm.panic q.req != 0 || rowHit x q s
    (behind = true → x.owed < 8 → exec (.hbmRefreshSlot pc) s = .next (setPc pc { x with owed := x.owed + 1 } s)) ∧
    (behind = true → 8 ≤ x.owed → ∃ t, exec (.hbmRefreshSlot pc) s = .next t ∧
      (getPc pc t).owed = x.owed ∧ (getPc pc t).refBank = (x.refBank + 1) % 48 ∧
      getCtr .REFRESH pc t = (getCtr .REFRESH pc s + 1) % 2 ^ 64) ∧
    (behind = false → ∃ t, exec (.hbmRefreshSlot pc) s = .next t ∧ (getPc pc t).owed = 0 ∧
      (getPc pc t).refBank = (x.refBank + (x.owed + 1)) % 48 ∧
      getCtr .REFRESH pc t = (getCtr .REFRESH pc s + (x.owed + 1)) % 2 ^ 64)) ∧
  (∀ (pc : Nat) (q : HbmReq) (rest : List HbmReq) (s : State), (getPc pc s).waitW = q :: rest → (getPc pc s).wq.length < 64 →
    ∃ t, exec (.hbmWriteAccept pc) s = .next t ∧ (getPc pc t).wq = (getPc pc s).wq ++ [q] ∧ (getPc pc t).waitW = rest ∧
      t.hbm.mem = s.hbm.mem ∧
      ((getPc pc s).waitR = [] → tget 0 t.hbm.outst q.req = tget 0 s.hbm.outst q.req - 1) ∧
      ∀ r, (getPc pc s).waitR = [r] → r.line = q.line → tagsUsed (getPc pc s) < 64 → (∀ w ∈ rest, w.line ≠ q.line) →
        (getPc pc t).waitR = [] ∧ getCtr .RAW_FWD pc t = (getCtr .RAW_FWD pc s + 1) % 2 ^ 64) ∧
  (∀ (pc : Nat) (s : State), (getPc pc s).waitW = [] ∨ 64 ≤ (getPc pc s).wq.length →
    exec (.hbmWriteAccept pc) s = .next s) ∧
  (∀ (pc : Nat) (q : HbmReq) (rest : List HbmReq) (s : State), (getPc pc s).issued = q :: rest →
    (spanUe (64 * q.line) 64 s = true → exec (.hbmReadReturn pc) s =
      .next (pauseTimers (setPc pc { getPc pc s with issued := rest, retry := (getPc pc s).retry ++ [q] } s))) ∧
    (s.hbm.bad = [] → (getPc pc s).waitR = [] → exec (.hbmReadReturn pc) s =
      .next (outstAdd q.req (-1) (setPc pc { getPc pc s with issued := rest } s))) ∧
    (∀ w ws, s.hbm.bad = [] → (getPc pc s).waitR = w :: ws → tagsUsed (getPc pc s) = 64 →
      (getPc pc s).waitW = [] → queuedWrite (getPc pc s) w.line = false → ∃ t,
      exec (.hbmReadReturn pc) s = .next t ∧ (getPc pc t).issued = rest ∧ (getPc pc t).reads = (getPc pc s).reads ++ [w] ∧
      (getPc pc t).waitR = ws ∧ tget 0 t.hbm.outst q.req = tget 0 s.hbm.outst q.req - 1) ∧
    (q.req = 11 → spanUe (64 * q.line) 64 s = false → correctable q.line s = true → ∃ t,
      exec (.hbmReadReturn pc) s = .next t ∧ tget 0 t.hbm.bad (2 * q.line) = 0 ∧ tget 0 t.hbm.bad (2 * q.line + 1) = 0 ∧
      t.hbm.mem = s.hbm.mem)) ∧
  (∀ (pc : Nat) (s : State), (getPc pc s).issued = [] → exec (.hbmReadReturn pc) s = .next s) ∧
  (∀ (pc : Nat) (q : HbmReq) (rest : List HbmReq) (s : State), s.hbm.stopped = false → (getPc pc s).retry = q :: rest →
    let now := fastClock s
    let goes := hasSlot (getPc pc s) (shareOf q.req) now = true ∨ tget 0 s.hbm.panic q.req ≠ 0
    let u := access pc q now
    (¬goes → exec (.hbmReadRetry pc) s = .next now) ∧
    (goes → s.hbm.bad = [] → (getPc pc s).waitR = [] → exec (.hbmReadRetry pc) s =
      .next (pauseTimers (outstAdd q.req (-1) (setPc pc { getPc pc u with retry := rest } u)))) ∧
    (goes → spanUe (64 * q.line) 64 s = true → q.tries < 2 → exec (.hbmReadRetry pc) s = .next (setPc pc { getPc pc u with
        retry := { q with tries := q.tries + 1 } :: rest } u)) ∧
    (goes → spanUe (64 * q.line) 64 s = true → 2 ≤ q.tries → ∃ t, exec (.hbmReadRetry pc) s = .next t ∧
      (getPc pc t).retry = rest ∧ getCtr .HBM_UE pc t = (getCtr .HBM_UE pc s + 1) % 2 ^ 64 ∧
      t.mace.inflight = s.mace.inflight ++ [⟨97, pc + 128 * (placeOf s.hbm q.line).r, 0⟩])) ∧
  (∀ (pc : Nat) (q : HbmReq) (s : State), getCtr .LINE_RD pc (access pc q s) =
      (if q.write then getCtr .LINE_RD pc s else (getCtr .LINE_RD pc s + 1) % 2 ^ 64) ∧
    getCtr .SHARE_OPS (shareOf q.req) (access pc q s) = (getCtr .SHARE_OPS (shareOf q.req) s + 1) % 2 ^ 64 ∧
    (access pc q s).hbm.mem = s.hbm.mem) ∧
  (∀ (pc : Nat) (s : State), s.hbm.stopped = false → (getPc pc s).retry = [] →
    exec (.hbmReadRetry pc) s = .next (fastClock s)) ∧
  (∀ (x : Ctx) (s : State),
    (retrying x s = true → x.pausedAt = none → pauseTimer s x = { x with pausedAt := some s.time.free }) ∧
    (∀ t, retrying x s = false → x.pausedAt = some t →
      pauseTimer s x = { x with pausedAt := none, pausedNs := x.pausedNs + (s.time.free - t) })) ∧
  (∀ (pc : Nat) (m : Bytes) (s : State), s.hbm.stopped = false →
    ((∀ k, k < 38 → k < m.length → s.hbm.floor ≤ fld m k 1) → ∃ d : List (Int × Int), d.length = 38 ∧
      exec (.retrainingVisit pc m) s =
        .next (setPc pc { getPc pc s with margins := m.take 38, low := [], delay := d, good := d } (tookFree s)) ∧
      ∀ k, k < 38 → let a := (getPc pc s).delay.getD k (0, 0)
        ((d.getD k (0, 0)).1 - a.1).natAbs ≤ 1 ∧ ((d.getD k (0, 0)).2 - a.2).natAbs ≤ 1) ∧
    (∀ k, k < 38 → k < m.length → fld m k 1 < s.hbm.floor → tget 0 (getPc pc s).low k = 2 →
      ∃ t, exec (.retrainingVisit pc m) s = .next t ∧ ⟨100, pc, 0⟩ ∈ t.mace.inflight ∧ t.hbm.mem = s.hbm.mem)) ∧
  (∀ (k p c j : Nat) (s : State), (getStack k s).retire = some (p, c) → c < pcLines k p s → s.hbm.stopped = false →
    migrationTarget k s = some j → let q : HbmReq := { req := 11, line := pcLine k p c s, write := false, at_ := s.time.free }
    exec (.pcMigrationCopy k) s = .next (writeAt (32 * k + j) { q with write := true } (readReq (physPc k p s) q
      (addCtr .REQ_OPS 11 2 (setStack k { getStack k s with retire := some (p, c + 1) } s))))) ∧
  (∀ (k : Nat) (s : State), (getStack k s).retire = none →
    exec (.pcMigrationCopy k) s = .next s ∧ exec (.pcRemap k) s = .next s) ∧
  (∀ (k p j : Nat) (s : State), (getStack k s).retire = some (p, pcLines k p s) → p < 31 → migrationTarget k s = some j →
    queueEmpty (physPc k p s) s = true → queueEmpty (32 * k + j) s = true →
    ∃ t, exec (.pcRemap k) s = .next t ∧ physPc k p t = 32 * k + j ∧ (getPc (32 * k + j) t).st = .active ∧
      (getPc (physPc k p s) t).st = .retired ∧ (getStack k t).retire = none ∧ t.hbm.mem = s.hbm.mem ∧
      t.mace.inflight = s.mace.inflight ++ [⟨104, physPc k p s, 0⟩]) ∧
  (∀ (k : Nat) (s : State), let x := getStack k s
    exec (.temperaturePoll k none) s = .next (setStack k { x with
      fails := min (x.fails + 1) 3, doubled := x.doubled || decide (3 ≤ x.fails + 1) } s) ∧
    (∀ t, t < 800 → exec (.temperaturePoll k (some t)) s =
      .next (setStack k { x with temp := t, fails := 0, doubled := false } s)) ∧
    (∀ t, 800 ≤ t → t ≤ 850 → exec (.temperaturePoll k (some t)) s = .next (setStack k { x with temp := t, fails := 0 } s)) ∧
    (∀ t, 850 < t → t < 950 → exec (.temperaturePoll k (some t)) s =
      .next (raise 98 k 0 (setStack k { x with temp := t, fails := 0, doubled := true } s))) ∧
    (∀ t, 950 ≤ t → exec (.temperaturePoll k (some t)) s =
      .next (raise 99 k 0 (raise 98 k 0 (setStack k { x with temp := t, fails := 0, doubled := true } s))))) ∧
  (∀ (s : State), s.hbm.stopped = false → let l := s.hbm.scrubLine
    let x := getPc (linePc l s) s
    ∃ t, exec .patrolScrub s = .next t ∧ t.hbm.scrubLine = (l + 1) % 2179687500 ∧ t.hbm.mem = s.hbm.mem ∧
      t.hbm.bad = s.hbm.bad ∧ getCtr .REQ_OPS 11 t = (getCtr .REQ_OPS 11 s + 1) % 2 ^ 64 ∧
      ((x.wq ++ x.waitW).any (fun w => w.line == l) = false → tagsUsed x < 64 → x.waitR = [] →
        (getPc (linePc l s) t).reads = x.reads ++ [{ req := 11, line := l, write := false, at_ := s.time.free }]))

open Sys2Proof Sys2Proof.Machine in
/-- The address mapping is one to one (R342–R344): two lines of the address space that lie on the same stack, logical PC, bank,
column and combined row are the same line, whatever order each stripe uses; and the line that a retirement copies at its cursor lies
in the PC it retires and in the address space, in the last stripe too (R346, R363). -/
def Obligations.AddressMapIsOneToOne : Prop :=
  (∀ (h : HbmState) (a b : Nat), a < 2179687500 → b < 2179687500 → placeOf h a = placeOf h b → a = b) ∧
  (∀ (k p c : Nat) (s : State), k < 4 → p < 31 → c < 17577984 →
    placeOf s.hbm (pcLine k p c s) = ⟨k, p, c / 16 % 16, c % 16, c / 256⟩ ∧ pcLine k p c s < 2179687500) ∧
  (∀ (k p c : Nat) (s : State), k < 4 → p < 31 → 17577984 ≤ c → c < pcLines k p s →
    (placeOf s.hbm (pcLine k p c s)).s = k ∧ (placeOf s.hbm (pcLine k p c s)).p = p ∧
    (placeOf s.hbm (pcLine k p c s)).r = 68664 ∧ pcLine k p c s < 2179687500)

open Sys2Proof Sys2Proof.Machine in
/-- The commands of Mace and of SC-256 injection (R372, R378, R381, R382, R386, R390). -/
def Obligations.MaceCommandsComplete : Prop :=
  (∀ (r : YcpReq) (s : State), Accepted 0x0903 r s → (reqBody r).length = 32 →
    let m := leNat (reqBody r)
    ∃ t p, (∀ f, f < 256 → tget (sourceDefault f) t f =
        if m.testBit f then sourceCleared (getSource f s) else getSource f s) ∧
      p.safeN = decide (s.mace.safe = 0) ∧ p = { s.pins with faultN := p.faultN, safeN := p.safeN } ∧
      Does 0x0903 r [] { s with mace := { s.mace with src := t }, pins := p } (exec (.maceClear r) s)) ∧
  (∀ (x : MaceSource), sourceCleared x = { x with sticky := false, severe := false, win := [], scope := 0 }) ∧
  (∀ (r : YcpReq) (s : State), Accepted 0x0904 r s → (reqBody r).length = 8 →
    let m := BitVec.ofNat 64 (fld (reqBody r) 0 8)
    masksUnused m s = false → safeClearDenied m s = false →
    Does 0x0904 r [] { s with mace := { s.mace with safe := s.mace.safe &&& ~~~m },
                              pins := { s.pins with faultN := !anySevere s, safeN := decide (s.mace.safe &&& ~~~m = 0) } }
      (exec (.maceSafeClear r) s)) ∧
  (∀ (r : YcpReq) (s : State), Accepted 0x0904 r s → (reqBody r).length = 8 →
    let m := BitVec.ofNat 64 (fld (reqBody r) 0 8)
    (masksUnused m s = true → Fails 0x0904 r stINVALID 0 s (exec (.maceSafeClear r) s)) ∧
    (masksUnused m s = false → safeClearDenied m s = true → Fails 0x0904 r stDENIED 0 s (exec (.maceSafeClear r) s))) ∧
  (∀ (r : YcpReq) (s : State), Accepted 0x0905 r s → let b := reqBody r
    b.length = 16 → fld b 4 4 = 0 → 240 ≤ fld b 0 4 → fld b 0 4 ≤ 255 →
    Does 0x0905 r [] (raise (fld b 0 4) 0 (BitVec.ofNat 64 (fld b 8 8)) s) (exec (.maceRaise r) s)) ∧
  (∀ (r : YcpReq) (s : State), Accepted 0x0905 r s → let b := reqBody r
    b.length = 16 → fld b 4 4 = 0 → fld b 0 4 < 240 ∨ 255 < fld b 0 4 →
    Fails 0x0905 r stDENIED 0 s (exec (.maceRaise r) s)) ∧
  (∀ (r : YcpReq) (s : State), Accepted 0x0906 r s → let b := reqBody r
    b.length = 24 → fld b 4 4 = 0 → inMode mASSURED s = false → fld b 0 4 ≤ 4 → fld b 16 8 < 2 ^ 36 →
    1 ≤ symCount (fld b 16 8) → symCount (fld b 16 8) ≤ 3 →
    Does 0x0906 r [] { s with mace := { s.mace with injection := some ⟨fld b 0 4, fld b 8 8, fld b 16 8⟩ } }
      (exec (.integInject r) s)) ∧
  (∀ (r : YcpReq) (s : State), Accepted 0x0906 r s → let b := reqBody r
    b.length = 24 → fld b 4 4 = 0 → inMode mASSURED s = true → Fails 0x0906 r stDENIED 0 s (exec (.integInject r) s))

open Sys2Proof Sys2Proof.Machine in
/-- Check-value units (R12, R374–R376): their registers through CVU_REG_WRITE: EXPECT, the parameters that PRESET loads, the fields
that are locked while ENABLE is 1, their staged halves among them, and START; the check values of the presets over "123456789"; the end
of a STREAM window: the result, DONE and CVU_CHECKS, and on a mismatch MISMATCH, CVU_MISMATCH and fault source F144 + u. -/
def Obligations.CheckUnits : Prop :=
  (∀ (r : YcpReq) (s : State) (u : Nat), Accepted 0x0908 r s → let b := reqBody r
    b.length = 16 → fld b 4 4 = 0 → u < 32 → fld b 0 4 = 64 * u + 0x28 → fld b 8 8 < 2 ^ 32 →
    Does 0x0908 r [] (setCvu u { getCvu u s with
      expect := (tget 0 (getCvu u s).staged 10) * 2 ^ 32 + fld b 8 8 } s) (exec (.cvuRegWrite r) s)) ∧
  (∀ (r : YcpReq) (s : State) (u o : Nat), Accepted 0x0908 r s → let b := reqBody r
    b.length = 16 → fld b 4 4 = 0 → u < 32 → o ∈ [0x0C, 0x10, 0x14, 0x18, 0x1C, 0x20, 0x24] → fld b 0 4 = 64 * u + o →
    fld b 8 8 < 2 ^ 32 → (getCvu u s).enable = true → Does 0x0908 r [] (setCvu u (getCvu u s) s) (exec (.cvuRegWrite r) s)) ∧
  (∀ (r : YcpReq) (s : State) (u n : Nat) (p : CrcParams), Accepted 0x0908 r s → let b := reqBody r
    b.length = 16 → fld b 4 4 = 0 → u < 32 → fld b 0 4 = 64 * u → fld b 8 8 = 8192 * n → crcPreset n = some p →
    (getCvu u s).enable = false →
    Does 0x0908 r [] (setCvu u { getCvu u s with
      mode := 0, width := p.width, poly := p.poly, init := p.init, refin := p.refin, refout := p.refout,
      xorout := p.xorout, badPreset := false } s) (exec (.cvuPreset r) s)) ∧
  (∀ (r : YcpReq) (s : State) (u n : Nat) (p : CrcParams), Accepted 0x0908 r s → let b := reqBody r
    b.length = 16 → fld b 4 4 = 0 → u < 32 → fld b 0 4 = 64 * u → fld b 8 8 = 8192 * n + 1 → crcPreset n = some p →
    (getCvu u s).enable = true →
    Does 0x0908 r [] (setCvu u { getCvu u s with
      width := p.width, poly := p.poly, init := p.init, refin := p.refin, refout := p.refout,
      xorout := p.xorout, badPreset := false } s) (exec (.cvuPreset r) s)) ∧
  (∀ (r : YcpReq) (s : State) (u : Nat), Accepted 0x0908 r s → let b := reqBody r
    b.length = 16 → fld b 4 4 = 0 → u < 32 → fld b 0 4 = 64 * u → fld b 8 8 = 0x11A01 → (getCvu u s).enable = true →
    (getCvu u s).mode = 0 → (getCvu u s).badPreset = false → 8 ≤ (getCvu u s).width → (getCvu u s).width ≤ 64 →
    (getCvu u s).stream ≠ 7 → ((getCvu u s).stream ≤ 3 → (getCvu u s).window ≠ 0) →
    Does 0x0908 r [] (setCvu u { getCvu u s with busy := true, done := false, acc := [] } s) (exec (.cvuStart r) s)) ∧
  (crcPreset 1 = some ⟨32, 0x04C11DB7, 0xFFFFFFFF, true, true, 0xFFFFFFFF⟩ ∧
    crcPreset 2 = some ⟨32, 0x1EDC6F41, 0xFFFFFFFF, true, true, 0xFFFFFFFF⟩ ∧
    crcPreset 3 = some ⟨16, 0x1021, 0xFFFF, false, false, 0⟩ ∧
    crcPreset 4 = some ⟨64, 0x42F0E1EBA9EA3693, 2 ^ 64 - 1, true, true, 2 ^ 64 - 1⟩) ∧
  (∀ p, (crcPreset 1 = some p → crc p (ascii "123456789") = 0xCBF43926) ∧
    (crcPreset 2 = some p → crc p (ascii "123456789") = 0xE3069283) ∧
    (crcPreset 3 = some p → crc p (ascii "123456789") = 0x29B1) ∧
    (crcPreset 4 = some p → crc p (ascii "123456789") = 0x995DC9BBDF1939FA)) ∧
  (∀ (u : Nat) (data : Bytes) (s s1 : State), let x := getCvu u s
    let res := crc (cvuParams x) (streamBytes x s)
    cvuRuns u s = true → x.mode = 0 → x.busy = true → windowFull x = true → res = x.expect % 2 ^ x.width →
    s1 = (if x.stream = 4 then addCtr .REQ_OPS 11 (((streamBytes x s).length + 63) / 64) s else s) →
    exec (.cvuStreamDone u data) s =
      .next (bump .CVU_CHECKS u (setCvu u { x with busy := false, done := true, result := res } s1))) ∧
  (∀ (u : Nat) (data : Bytes) (s : State), cvuRuns u s = false ∨ (getCvu u s).busy = false ∨
    ((getCvu u s).stream ∉ [4, 5] ∧ (getCvu u s).acc.length < (getCvu u s).window) → exec (.cvuStreamDone u data) s = .next s) ∧
  (∀ (u : Nat) (data : Bytes) (s s1 : State), let x := getCvu u s
    let res := crc (cvuParams x) (streamBytes x s)
    cvuRuns u s = true → x.mode = 0 → x.busy = true → windowFull x = true → res ≠ x.expect % 2 ^ x.width →
    s1 = (if x.stream = 4 then addCtr .REQ_OPS 11 (((streamBytes x s).length + 63) / 64) s else s) → ∃ t, exec (.cvuStreamDone u data) s = .next t ∧
      (∃ l, t.mace.inflight = s.mace.inflight ++ l ++ [⟨144 + u, x.sel, cvuPorts x⟩]) ∧
      Reports (bump .CVU_MISMATCH u (bump .CVU_CHECKS u
        (setCvu u { x with busy := false, done := true, mismatch := true, result := res } s1))) t)

open Sys2Proof Sys2Proof.Machine in
/-- A fault source and its window (R378–R382, R384, R385): a count is the events of the current sub-window and the 15 before it, a
roll drops the oldest, and an event is counted once; the event leaves the queue of those on their way; a source that reaches
N becomes SEVERE, asserts FAULT_N and runs its reaction over the scopes of its window; a reserved source is never raised. -/
def Obligations.FaultsAreClassified : Prop :=
  (∀ (f : Nat) (s : State),
    exec (.maceSubwindowRoll f) s = .next (setSource f { getSource f s with win := winRoll (getSource f s).win } s)) ∧
  (∀ (w : List SubWin), winSum (winRoll w) = winSum (w.take 15)) ∧
  (∀ (w : List SubWin), winScope (winRoll w) = winScope (w.take 15)) ∧
  (∀ (sc : BitVec 64) (w : List SubWin), winSum (winAdd sc w) = winSum w + 1) ∧
  (∀ (sc : BitVec 64) (w : List SubWin), winScope (winAdd sc w) = winScope w ||| sc) ∧
  (∀ (e : FaultEv) (rest : List FaultEv) (s : State), s.mace.inflight = e :: rest → sourceRow e.src = none →
    exec .maceEvent s = .next { s with mace := { s.mace with inflight := rest } }) ∧
  (∀ (e : FaultEv) (rest : List FaultEv) (s : State), s.mace.inflight = e :: rest → (sourceRow e.src).isSome = true →
    exec .maceEvent s = .next (bufSync (maceEvent e { s with mace := { s.mace with inflight := rest } }))) ∧
  (∀ (e : FaultEv) (s : State), let x := noteEvent e (eventScope e s) (getSource e.src s)
    x.severe = false → winSum x.win < x.n → x.eventRing = false → e.src ≤ 255 →
    (getSource e.src (maceEvent e s)) = x) ∧
  (∀ (e : FaultEv) (s : State), let x := noteEvent e (eventScope e s) (getSource e.src s)
    x.severe = false → x.n ≤ winSum x.win → effReaction (inMode mASSURED s) x = rLOG → e.src ≤ 255 →
    getSource e.src (maceEvent e s) = { x with severe := true, scope := x.scope ||| winScope x.win } ∧
    (maceEvent e s).pins.faultN = false) ∧
  (∀ (e : FaultEv) (s : State), let x := getSource e.src s
    noteEvent e (eventScope e s) x = { x with
      sticky := true, events := x.events + 1, lastInst := e.inst % 2 ^ 32, win := winAdd (eventScope e s) x.win })

open Sys2Proof Sys2Proof.Machine in
/-- R388, R384: ports that enter the safe state are in it, with those that were; SAFE_N is asserted; SAFE_ENTER counts each
port once, and only when it was not in the safe state; a source whose reaction is SAFE and that becomes SEVERE brings the ports of its
window there (R379, R380); the end of a sub-window (R379). -/
def Obligations.SafeStateEntry : Prop :=
  (∀ (mask : BitVec 64) (s : State), s.buf.inTx = [] →
    (enterSafe mask s).mace.safe = s.mace.safe ||| mask ∧
    (enterSafe mask s).pins.safeN = decide (s.mace.safe ||| mask = 0) ∧
    (∀ p, p < 64 → getCtr .SAFE_ENTER p (enterSafe mask s) =
      if mask.getLsbD p && !s.mace.safe.getLsbD p then (getCtr .SAFE_ENTER p s + 1) % 2 ^ 64 else getCtr .SAFE_ENTER p s) ∧
    (enterSafe mask s).ep = s.ep ∧ (enterSafe mask s).sched = s.sched ∧ (enterSafe mask s).flow = s.flow) ∧
  (∀ (e : FaultEv) (rest : List FaultEv) (s : State), s.mace.inflight = e :: rest → (sourceRow e.src).isSome = true →
    s.buf.inTx = [] → let x := noteEvent e (eventScope e s) (getSource e.src s)
    x.severe = false → x.n ≤ winSum x.win → effReaction (inMode mASSURED s) x = rSAFE →
    ∃ t, exec .maceEvent s = .next t ∧ t.mace.safe = s.mace.safe ||| winScope x.win ∧ t.pins.faultN = false ∧
      t.pins.safeN = decide (s.mace.safe ||| winScope x.win = 0) ∧ (getSource e.src t).severe = true) ∧
  (∀ (f : Nat) (s : State), ∃ t, exec (.maceSubwindowRoll f) s = .next t ∧
    getSource f t = { getSource f s with win := winRoll (getSource f s).win } ∧ ∀ k, k ≠ f → getSource k t = getSource k s)

open Sys2Proof Sys2Proof.Machine in
/-- R381: the reaction in effect, and a MACE_SET that weakens a source whose default ARX is SAFE or WARM while ASSURED is in
force. -/
def Obligations.ReactionInEffect : Prop :=
  (∀ (x : MaceSource) (assured : Bool),
    (assured = false → effReaction assured x = x.reaction) ∧
    (assured = true → x.arx ≤ x.reaction → effReaction assured x = x.reaction) ∧
    (assured = true → x.reaction ≤ x.arx → effReaction assured x = x.arx)) ∧
  (∀ (r : YcpReq) (s : State) (f : Nat) (b : Bytes), Accepted 0x0902 r s → reqBody r = listBody [(f, b)] → b.length = 16 →
    sourceLayout.clean b = true → fld b 0 1 = f → (sourceRow f).isSome = true → inMode mASSURED s = true →
    (sourceDefault f).arx = rSAFE ∨ (sourceDefault f).arx = rWARM → let x := getSource f s
    let y := sourceWritten x b
    effReaction true y < effReaction true x ∨ x.n < y.n ∨ y.w < x.w → Fails 0x0902 r stDENIED 0 s (exec (.maceSet r) s))

open Sys2Proof Sys2Proof.Machine in
/-- The step of the block: the command at the front of the queue is executed on the state with the rest of the queue.  On an empty
queue it runs the request whose turn has come, and without one it idles: the model's choice (logs 1 and 12). -/
def Obligations.StepRunsFrontCommand : Prop :=
  (∀ (c : Instr) (rest : List Instr) (s : State),
    step { s with pending := c :: rest } = exec c { s with pending := rest }) ∧
  (∀ (s : State), s.pending = [] → (nextRequest s = none → step s = .next s) ∧
    ∀ c t, nextRequest s = some (c, t) → step s = exec c t)

open Sys2Proof Sys2Proof.Machine in
/-- R405: LAST_SEQ with its OPCODE and STATUS; a request refused for its doorbell leaves them; a request whose SEQ equals LAST_SEQ
is not executed again and its stored response is rewritten with flag REPLAY and its own epoch; what warm and cold resets leave. They
hold of every command: `h` is what the command does with a request it takes. The room of the replayed request holds the response,
and its DMA write succeeds (R407). -/
def Obligations.ReplayExecutesNothing : Prop :=
  (∀ (op : Nat) (h : YHandler) (r : YcpReq) (s : State), Accepted op r s →
    let x := fitted r s (h r (reqBody r) (room r) s)
    x.wait = false → (∀ u, x.after u = u) → (getMbx r.mbx x.st).lost = false →
    ∃ t, ycp op r h s = .next t ∧ (getMbx r.mbx t).lastSeq = r.seq ∧ (getMbx r.mbx t).lastOp = op ∧
      (getMbx r.mbx t).lastStatus = x.status ∧ (getMbx r.mbx t).stored = x.body) ∧
  (∀ (op : Nat) (h : YHandler) (r : YcpReq) (s : State), served r s = true → (getMbx r.mbx s).busy = false →
    (getMbx r.mbx s).lost = false → r.doorbell ≠ r.seq → ∃ t, ycp op r h s = .next t ∧
      (getMbx r.mbx t).lastSeq = (getMbx r.mbx s).lastSeq ∧ (getMbx r.mbx t).lastOp = (getMbx r.mbx s).lastOp ∧
      (getMbx r.mbx t).lastStatus = (getMbx r.mbx s).lastStatus) ∧
  (∀ (op : Nat) (h : YHandler) (r : YcpReq) (s : State), served r s = true → (getMbx r.mbx s).busy = false →
    (getMbx r.mbx s).lost = false → r.doorbell = r.seq → r.seq = (getMbx r.mbx s).lastSeq →
    let m := getMbx r.mbx s
    let hdr := respHeader m.lastOp r m.lastStatus m.stored.length m.lastDetail true m.lastMore m.lastEpoch
    m.lastStatus ≠ stOK ∨ (m.stored.length ≤ room r ∧ (isDma r = true → m.stored ≠ [] → r.dmaWriteOk = true)) →
    ∃ t, ycp op r h s = .next t ∧ getCtr .MBX_REPLAYS r.mbx.val t = (getCtr .MBX_REPLAYS r.mbx.val s + 1) % 2 ^ 64 ∧
      Reports (setMbx r.mbx { m with busy := false, done := true, running := none, buf := if isDma r then hdr else hdr ++ m.stored } s) t) ∧
  (∀ (s : State) (m : Fin 8), (getMbx m (warmReset s)).stored = [] ∧
    (getMbx m (warmReset s)).lastSeq = (getMbx m s).lastSeq) ∧
  (∀ (s : State) (m : Fin 8) (cause : Nat), (getMbx m (cold cause s)).lastSeq = 0)

open Sys2Proof Sys2Proof.Machine in
/-- R403, R408, R427: a doorbell whose SEQ differs from the header's completes with INVALID, executes nothing, keeps LAST_SEQ
with its OPCODE, STATUS and response, and raises F194; a doorbell that finds the mailbox BUSY is discarded, sets OVR and
raises F194; an opcode that is not defined completes with UNKNOWN_OP before every other check, and changes nothing; while four
commands execute, a further one waits its turn and its mailbox is BUSY (R404). How it waits, and the LENGTH of a replay that the room
of its request does not hold, are the model's (log 12). -/
def Obligations.WrongRequestsExecuteNothing : Prop :=
  (∀ (op : Nat) (h : YHandler) (r : YcpReq) (s : State), served r s = true → (getMbx r.mbx s).busy = false →
    (getMbx r.mbx s).lost = false → r.doorbell ≠ r.seq →
    let m := getMbx r.mbx s
    let hdr := respHeader op r stINVALID 0 0 false false s.ep.epoch
    ∃ t, ycp op r h s = .next t ∧ t.mace.inflight = s.mace.inflight ++ [⟨194, r.mbx.val, 0⟩] ∧
      Reports (setMbx r.mbx { m with busy := false, done := true, running := none, buf := hdr } s) t) ∧
  (∀ (op : Nat) (h : YHandler) (r : YcpReq) (s : State), served r s = true → (getMbx r.mbx s).busy = true →
    ∃ t, ycp op r h s = .next t ∧ t.mace.inflight = s.mace.inflight ++ [⟨194, r.mbx.val, 0⟩] ∧
      Reports (setMbx r.mbx { getMbx r.mbx s with ovr := true } s) t) ∧
  (∀ (n : Nat) (s : State), n < 8 → (getMbx (Fin.ofNat 8 n) s).busy = true →
    exec (.doorbellWhileBusy n) s =
      .next (raise 194 n 0 (setMbx (Fin.ofNat 8 n) { getMbx (Fin.ofNat 8 n) s with ovr := true } s))) ∧
  (∀ (op : Nat) (r : YcpReq) (s : State), opDefined op = false → served r s = true → (getMbx r.mbx s).busy = false →
    (getMbx r.mbx s).lost = false → r.doorbell = r.seq → r.seq ≠ (getMbx r.mbx s).lastSeq →
    Fails op r stUNKNOWN_OP 0 s (exec (.unknownOp op r) s)) ∧
  (∀ (op : Nat) (h : YHandler) (r : YcpReq) (s : State), served r s = true → (getMbx r.mbx s).busy = false →
    (getMbx r.mbx s).lost = false → r.doorbell = r.seq → r.seq = (getMbx r.mbx s).lastSeq →
    let m := getMbx r.mbx s
    m.lastStatus = stOK → room r < m.stored.length →
    ∃ t, ycp op r h s = .next t ∧ Reports (setMbx r.mbx { m with
      busy := false, done := true, running := none, buf := respHeader m.lastOp r stLENGTH 0 0 true false m.lastEpoch } s) t) ∧
  (∀ (op : Nat) (h : YHandler) (r : YcpReq) (s : State), served r s = true → (s.host.stage = stageRECOVERY → op ∈ romOps) →
    (getMbx r.mbx s).busy = false → r.doorbell = r.seq → r.seq ≠ (getMbx r.mbx s).lastSeq →
    4 ≤ executing s ∨ (s.host.waiting ≠ [] ∧ s.host.waiting.head? ≠ some (op, r)) →
    let t := setMbx r.mbx { getMbx r.mbx s with busy := true } s
    ycp op r h s = .next { t with host := { t.host with waiting := s.host.waiting ++ [(op, r)] } })

open Sys2Proof Sys2Proof.Machine in
/-- The commands of the host interface (R413, R417, R426, R538). Derived from the tables of R413 and R426. -/
def Obligations.HostCommandsComplete : Prop :=
  (∀ (r : YcpReq) (s : State), Accepted 0x0100 r s → (reqBody r).length ≤ room r →
    Answers 0x0100 r (reqBody r) false s (exec (.nop r) s)) ∧
  (∀ (r : YcpReq) (s : State), Accepted 0x0120 r s → let b := reqBody r
    b.length = 16 → fld b 1 1 = 1 → fld b 3 1 = 0 → fld b 0 1 ≤ 15 → 6 ≤ fld b 2 1 ∧ fld b 2 1 ≤ 16 →
    fld b 8 8 % (if fld b 0 1 < 8 then 32 else 64) = 0 →
    (8 ≤ fld b 0 1 → 2048 ≤ fld b 4 4 ∧ fld b 4 4 ≤ 16384) →
    Does 0x0120 r [] (setQ (fld b 0 1) { getQ (fld b 0 1) s with
      enabled := true, log2 := fld b 2 1, bufLen := fld b 4 4, base := fld b 8 8, stopped := false } s)
      (exec (.dmaQueueSet r) s)) ∧
  (∀ (r : YcpReq) (s : State), Accepted 0x0120 r s → let b := reqBody r
    b.length = 16 → fld b 1 1 = 0 → fld b 3 1 = 0 → fld b 0 1 ≤ 15 →
    Does 0x0120 r [] (setQ (fld b 0 1) { getQ (fld b 0 1) s with enabled := false } s) (exec (.dmaQueueSet r) s)) ∧
  (∀ (r : YcpReq) (s : State), Accepted 0x0120 r s → let b := reqBody r
    b.length = 16 → fld b 1 1 ≤ 1 → fld b 3 1 = 0 → 15 < fld b 0 1 →
    Fails 0x0120 r stRANGE 0 s (exec (.dmaQueueSet r) s)) ∧
  (∀ (r : YcpReq) (s : State), Accepted 0x0122 r s → let b := reqBody r
    b.length = 64 → (∀ c, c < 64 → fld b c 1 ≤ 7) →
    ∃ m, (∀ c, c < 64 → tget 0 m c = fld b c 1) ∧
      Does 0x0122 r [] { s with host := { s.host with puntMap := m } } (exec (.puntMapSet r) s)) ∧
  (∀ (r : YcpReq) (s : State), Accepted 0x8011 r s → reqBody r = [] → inMode mCOMPAT s = true → 16 ≤ room r →
    Answers 0x8011 r ((List.range 8).map fun p => leBytes 2 (fld (qosRec (ksRequester p) s) 4 2 / 10)).flatten false s
      (exec (.ksQosGet r) s)) ∧
  (∀ (r : YcpReq) (s : State), Accepted 0x8010 r s → let b := reqBody r
    b.length = 16 → inMode mCOMPAT s = true → (∀ p, p < 8 → 5 ≤ fld b (2 * p) 2 ∧ fld b (2 * p) 2 ≤ 6553) →
    ∃ q, (∀ p, p < 8 → tget (qosDefault (ksRequester p)) q (ksRequester p) =
        putF (qosRec (ksRequester p) s) 4 2 (10 * fld b (2 * p) 2)) ∧
      Does 0x8010 r [] { s with hbm := { s.hbm with qos := q } } (exec (.ksQosSet r) s)) ∧
  (∀ (r : YcpReq) (s : State), Accepted 0x8010 r s → (reqBody r).length = 16 → inMode mCOMPAT s = false →
    Fails 0x8010 r stDENIED 0 s (exec (.ksQosSet r) s))

open Sys2Proof Sys2Proof.Machine in
/-- Firmware and security commands (R421, R422, R424, R425). A NOR flash that programming can only clear, and an erased
sector of 0xFF, are the model's (log 53). -/
def Obligations.FirmwareCommandsComplete : Prop :=
  (∀ (r : YcpReq) (s : State), Accepted 0x0C04 r s → let b := reqBody r
    let n := fld b 8 4
    let a := slotBase (fld b 0 1 == 1) + fld b 4 4
    let m := erased a n s.fw.flash
    b.length = 16 + n → fld b 1 3 = 0 → fld b 12 4 = 0 → fld b 0 1 ≤ 1 → runningSlot (fld b 0 1 == 1) s = false →
    n ≤ 65536 → fld b 4 4 + n ≤ slotSize → programmed a (slice b 16 n) m = slice b 16 n →
    Does 0x0C04 r [] { s with fw := { s.fw with flash := memWrite m a (slice b 16 n) } } (exec (.fwWrite r) s)) ∧
  (∀ (r : YcpReq) (s : State), Accepted 0x0C04 r s → let b := reqBody r
    b.length = 16 + fld b 8 4 → fld b 1 3 = 0 → fld b 12 4 = 0 → fld b 0 1 ≤ 1 → runningSlot (fld b 0 1 == 1) s = true →
    Fails 0x0C04 r stDENIED 0 s (exec (.fwWrite r) s)) ∧
  (∀ (r : YcpReq) (s : State), Accepted 0x0C05 r s → let b := reqBody r
    b.length = 8 → fld b 1 7 = 0 → fld b 0 1 ≤ 1 → checkImage (fld b 0 1 == 1) s = .accepted →
    Answers 0x0C05 r [] false s (exec (.fwVerify r) s)) ∧
  (∀ (r : YcpReq) (s : State), Accepted 0x0C05 r s → let b := reqBody r
    b.length = 8 → fld b 1 7 = 0 → fld b 0 1 ≤ 1 → checkImage (fld b 0 1 == 1) s = .rollback →
    Fails 0x0C05 r stROLLBACK 0 s (exec (.fwVerify r) s)) ∧
  (∀ (r : YcpReq) (s : State), Accepted 0x0C05 r s → let b := reqBody r
    b.length = 8 → fld b 1 7 = 0 → fld b 0 1 ≤ 1 → checkImage (fld b 0 1 == 1) s = .signature →
    Fails 0x0C05 r stSIGNATURE 0 s (exec (.fwVerify r) s)) ∧
  (∀ (r : YcpReq) (s : State), Accepted 0x0C08 r s → let b := reqBody r
    b.length = 8 → fld b 1 7 = 0 → s.fw.rollback ≤ fld b 0 1 → fld b 0 1 ≤ 32 → fld b 0 1 ≤ s.fw.imgRollback →
    4 ≤ room r →
    Does 0x0C08 r (leBytes 4 (fld b 0 1)) { s with fw := { s.fw with rollback := fld b 0 1 } }
      (exec (.rollbackAdvance r) s)) ∧
  (∀ (r : YcpReq) (s : State), Accepted 0x0C08 r s → let b := reqBody r
    b.length = 8 → fld b 1 7 = 0 → s.fw.rollback ≤ fld b 0 1 → fld b 0 1 ≤ 32 → s.fw.imgRollback < fld b 0 1 →
    Fails 0x0C08 r stROLLBACK 0 s (exec (.rollbackAdvance r) s)) ∧
  (∀ (r : YcpReq) (s : State), Accepted 0x0C02 r s → (reqBody r).length = 32 → 240 ≤ room r →
    let p := reportBody (reqBody r) s
    Answers 0x0C02 r (p ++ fit 64 (Config.ecdsaSign (sha256 p))) false s (exec (.attest r) s)) ∧
  (∀ (r : YcpReq) (s : State), Accepted 0x0C01 r s → reqBody r = [] → 4000 ≤ room r →
    identityBody.take 4 = leBytes 4 3 ∧ Answers 0x0C01 r identityBody false s (exec (.identity r) s))

open Sys2Proof Sys2Proof.Machine in
/-- FW_ACTIVATE and FW_CONFIRM (R421, R424): the next BOOT_CTRL in force names the slot and the trial flag, and no byte of
flash outside one copy's 32 bytes changes. The SEQ of BOOT_CTRL does not wrap here. -/
def Obligations.ActivateSelectsTheSlot : Prop :=
  (∀ (r : YcpReq) (s : State), Accepted 0x0C06 r s → let b := reqBody r
    b.length = 8 → fld b 2 6 = 0 → fld b 0 1 ≤ 1 → fld b 1 1 ≤ 1 → checkImage (fld b 0 1 == 1) s = .accepted →
    (∀ k, bootNow s = some k → bootSeq (bootCopy k s) < 2 ^ 32 - 1) →
    ∃ m u, u = { s with fw := { s.fw with flash := m, trialTried := false } } ∧
      bootActive u = (fld b 0 1 == 1) ∧ bootTrial u = (fld b 1 1 == 1) ∧
      (∃ k, k < 2 ∧ ∀ a, a < 4096 * k ∨ 4096 * k + 32 ≤ a → memGet m a = memGet s.fw.flash a) ∧
      Does 0x0C06 r [] u (exec (.fwActivate r) s)) ∧
  (∀ (r : YcpReq) (s : State), Accepted 0x0C07 r s → reqBody r = [] → s.fw.trial = true → bootTrial s = true →
    (∀ k, bootNow s = some k → bootSeq (bootCopy k s) < 2 ^ 32 - 1) →
    ∃ m u, u = { s with fw := { s.fw with flash := m } } ∧
      bootActive u = s.fw.slot ∧ bootTrial u = false ∧
      (∃ k, k < 2 ∧ ∀ a, a < 4096 * k ∨ 4096 * k + 32 ≤ a → memGet m a = memGet s.fw.flash a) ∧
      Does 0x0C07 r [] u (exec (.fwConfirm r) s))

open Sys2Proof Sys2Proof.Machine in
/-- What FW_WRITE leaves in flash (R424): the data where it was written, 0xFF in the rest of every sector whose first byte the
write covers, and every other byte as it was. The erased value is the model's (log 53). -/
def Obligations.FlashWriteFrame : Prop :=
  ∀ (f : Tbl Byte) (a : Nat) (data : Bytes) (x : Nat),
    let m := memWrite (erased a data.length f) a data
    (∀ i, x = a + i → i < data.length → data[i]? = some (memGet m x)) ∧
    (x < a ∨ a + data.length ≤ x → a ≤ 65536 * (x / 65536) → 65536 * (x / 65536) < a + data.length →
      memGet m x = 0xFF) ∧
    (x < a ∨ a + data.length ≤ x → 65536 * (x / 65536) < a ∨ a + data.length ≤ 65536 * (x / 65536) →
      memGet m x = memGet f x)

open Sys2Proof Sys2Proof.Machine in
/-- Writes of the direct registers under their access codes (R9, R12, R401, R403). The 4 KiB alignment of a written address is
the model's (log 17), as is a GO that finds a SUMMARY running (log 55). -/
def Obligations.DirectRegisterWrites : Prop :=
  (∀ (off : Nat) (v : BitVec 32) (s : State), off % 4 = 0 →
    (off < 0x0010 ∨ off = 0x0014 ∨ off = 0x0090 ∨ off = 0x0098 ∨ off = 0x009C ∨ (0x0220 ≤ off ∧ off < 0x0240) ∨
      (0x0260 ≤ off ∧ off < 0x2000) ∨ (0x2200 ≤ off ∧ off < 0x10000) ∨ 0x18000 ≤ off) →
    exec (.registerWrite off v) s = .next s) ∧
  (∀ (v : BitVec 32) (s : State), exec (.registerWrite 0x00C8 v) s = .next { s with host := { s.host with sumLen := v.toNat } }) ∧
  (∀ (v : BitVec 32) (s : State), s.host.evrEnable = false →
    exec (.registerWrite 0x0080 v) s =
      .next { s with host := { s.host with evrBase := s.host.evrBaseHi * 2 ^ 32 + v.toNat / 4096 * 4096 } } ∧
    exec (.registerWrite 0x0088 v) s = .next { s with host := { s.host with evrLog2 := v.toNat % 32 } }) ∧
  (∀ (off : Nat) (v : BitVec 32) (s : State), s.host.evrEnable = true → off = 0x0080 ∨ off = 0x0084 ∨ off = 0x0088 →
    exec (.registerWrite off v) s = .next s) ∧
  (∀ (m : Fin 8) (v : BitVec 32) (s : State),
    exec (.registerWrite (0x0060 + 4 * m.val) v) s = .next (setMbx m { getMbx m s with
      done := (getMbx m s).done && !v.getLsbD 1, ovr := (getMbx m s).ovr && !v.getLsbD 2 } s)) ∧
  (∀ (m : Fin 8) (off : Nat) (v : BitVec 32) (s : State), off % 4 = 0 → off < 4096 → (getMbx m s).busy = true →
    exec (.registerWrite (0x10000 + 4096 * m.val + off) v) s =
      .next (raise 194 m.val 0 (setMbx m { getMbx m s with ovr := true } s))) ∧
  (∀ (v : BitVec 32) (s : State), v.getLsbD 0 = true → s.host.sumBusy = false → 262144 ≤ s.host.sumLen →
    exec (.sumCtrlGo v) s = .next { s with host := { s.host with
      sumDone := s.host.sumDone && !v.getLsbD 2, sumErr := s.host.sumErr && !v.getLsbD 3, sumAuto := v.getLsbD 4,
      sumBusy := true, snapId := newSnapId s, sumId := newSnapId s } }) ∧
  (∀ (v : BitVec 32) (s : State), v.getLsbD 0 = true → s.host.sumBusy = false → s.host.sumLen < 262144 →
    exec (.sumCtrlGo v) s = .next { s with host := { s.host with
      sumDone := s.host.sumDone && !v.getLsbD 2, sumErr := true, sumAuto := v.getLsbD 4 } }) ∧
  (∀ (v : BitVec 32) (s : State), exec (.evrConsWrite v) s = .next { s with host := { s.host with evrCons := v } }) ∧
  (∀ (v : BitVec 32) (s : State), exec (.evrCtrlEnable v) s = .next { s with host := { s.host with
      evrEnable := v.getLsbD 0, evrModerate := v.toNat / 256 % 256 } }) ∧
  (∀ (q : Nat) (v : BitVec 32) (s : State), q < 8 →
    exec (.injTailWrite q v) s = .next (setQ q { getQ q s with tail := v } s) ∧
    exec (.puntTailWrite q v) s = .next (setQ (8 + q) { getQ (8 + q) s with tail := v } s))

open Sys2Proof Sys2Proof.Machine in
/-- The event ring and its backlog (R401, R414): where an entry goes, what it holds and what is left waiting. -/
def Obligations.EventRingOrder : Prop :=
  (∀ (e : EvEntry) (rest : List EvEntry) (s : State), evrRoom s.host = true → s.host.resetEvent = none →
    s.host.backlog = e :: rest → s.host.ovfDropped = 0 →
    ∃ t tail, exec .eventRingWrite s = .next t ∧ Reports s t ∧ t.host.backlog = rest ∧
      t.host.evrProd = s.host.evrProd + 1 ∧
      t.host.dmaOut = s.host.dmaOut ++
        ⟨(s.host.evrBase + 32 * (s.host.evrProd.toNat % 2 ^ s.host.evrLog2)) % 2 ^ 64, evrBytes s.host e⟩ :: tail) ∧
  (∀ (s : State), evrRoom s.host = false → exec .eventRingWrite s = .next s) ∧
  (∀ (ty : Nat) (b : Bytes) (s : State), evrRoom s.host = false → s.host.backlog.length < 4096 →
    postEvent ty b s = { s with host := { s.host with backlog := s.host.backlog ++ [⟨ty, fit 28 b⟩] } }) ∧
  (∀ (ty : Nat) (b : Bytes) (s : State), evrRoom s.host = false → 4096 ≤ s.host.backlog.length →
    let t := postEvent ty b s
    t.host.backlog = s.host.backlog ∧ t.host.ovfDropped = s.host.ovfDropped + 1 ∧
      getCtr .EVR_DROP 0 t = (getCtr .EVR_DROP 0 s + 1) % 2 ^ 64 ∧
      t.mace.inflight = s.mace.inflight ++ [⟨195, 0, 0⟩] ∧ Reports s t) ∧
  (∀ (e : EvEntry) (rest : List EvEntry) (s : State), evrRoom s.host = true → s.host.resetEvent = none →
    s.host.backlog = e :: rest → rest.length < 4096 → 0 < s.host.ovfDropped →
    ∃ t, exec .eventRingWrite s = .next t ∧ Reports s t ∧ t.host.ovfDropped = 0 ∧
      t.host.backlog = rest ++ [⟨2, fit 28 (leBytes 8 s.host.ovfDropped)⟩]) ∧
  (∀ (s : State), s.host.modPending = true →
    ∃ t, exec .evrInterruptModeration s = .next t ∧ Reports s t ∧ t.host.modPending = false ∧
      t.host.modRunning = s.host.modRunning) ∧
  (∀ (s : State), s.host.modPending = false →
    exec .evrInterruptModeration s = .next { s with host := { s.host with modRunning := false } })

open Sys2Proof Sys2Proof.Machine in
/-- A function-level reset and the pins of the PCIe link (R401, R402, R448, R530): only the HOST domain is reset, the ring and
every queue are disabled, the mailboxes emptied, and LAST_SEQ and EVR_PROD stay; the liveness of Clove (R385, R401, R428): the
heartbeat, its absence, and a firmware assertion; the RESET event goes first to a ring that has room, and the interval of vector 0
(R401, R446). -/
def Obligations.HostLinkAndLiveness : Prop :=
  (∀ (s : State), s.host.sumAuto = false →
    ∃ h, exec .functionLevelReset s = .next { s with host := h } ∧ h.evrEnable = false ∧ h.flrSeen = true ∧
      h.evrProd = s.host.evrProd ∧ h.backlog = s.host.backlog ∧ h.sumPtr = s.host.sumPtr ∧ h.sumLen = s.host.sumLen ∧
      h.sumAuto = s.host.sumAuto ∧ h.stage = s.host.stage ∧ h.waiting = [] ∧
      (∀ q, q < 16 → tget {} h.dmaq q = { tget {} s.host.dmaq q with enabled := false }) ∧
      ∀ m : Fin 8, tget {} h.mbx m.val = { getMbx m s with
        buf := [], done := false, ovr := false, busy := (getMbx m s).running.isSome, lost := (getMbx m s).running.isSome }) ∧
  (∀ (s : State), ∃ h, exec .perstNAssert s = .next { s with host := h, pins := { s.pins with perstN := false } } ∧
      h.linkUp = false ∧ h.evrEnable = false ∧ h.evrProd = s.host.evrProd ∧ h.flrSeen = s.host.flrSeen ∧
      ∀ m : Fin 8, tget {} h.mbx m.val = { getMbx m s with
        buf := [], done := false, ovr := false, busy := (getMbx m s).running.isSome, lost := (getMbx m s).running.isSome }) ∧
  (∀ (s : State), exec .perstNRelease s = .next { s with pins := { s.pins with perstN := true } }) ∧
  (∀ (s : State), s.pins.perstN = true → ∃ f l g, l ∈ [8, 4, 2, 1] ∧ g ∈ [25, 50, 80, 160, 320] ∧
    exec .pcieLinkUp s = .next { s with fresh := f, host := { s.host with linkUp := true, pcieLanes := l, pcieGtps := g } }) ∧
  (∀ (s : State), s.host.linkUp = true →
    exec .pcieLinkDown s = .next (raise 192 0 0 { s with host := { s.host with linkUp := false, pcieLanes := 0, pcieGtps := 0 } })) ∧
  (∀ (s : State), s.fw.halted = false →
    exec .devHeartbeat s = .next { s with host := { s.host with heartbeat := s.host.heartbeat + 1 },
                                          obs := { s.obs with lossPosted := false } }) ∧
  (∀ (s : State), s.fw.halted = true → exec .devHeartbeat s = .next s) ∧
  (∀ (s : State), exec .cloveHeartbeatTimeout s = .next (raise 8 0 0 s)) ∧
  (∀ (e : EvEntry) (s : State), evrRoom s.host = true → s.host.resetEvent = some e →
    exec .eventRingWrite s = .next (evrWrite e { s with host := { s.host with resetEvent := none } })) ∧
  (∀ (s : State), evrRoom s.host = true → s.host.resetEvent = none → s.host.backlog = [] →
    exec .eventRingWrite s = .next s) ∧
  (∀ (s : State), ∃ t, exec .evrInterruptModeration s = .next t ∧ t.host.modPending = false ∧
    (s.host.modPending = true → t = interrupt 0 { s with host := { s.host with modPending := false } }) ∧
    (s.host.modPending = false → t = { s with host := { s.host with modRunning := false } })) ∧
  (∀ (s : State), exec .firmwareAssertion s =
    .next (raise 199 0 0 { s with host := { s.host with stage := 15 }, fw := { s.fw with halted := true } }))

open Sys2Proof Sys2Proof.Machine in
/-- SUMMARY (R418, R420): a new snapshot with the next SNAP_ID, reading on from a kept one, a stale one, and the DMA of a whole
block; the collection is one step (log 55). The inject and punt queues (R416, R417, R538): an accepted descriptor, one with an
error, a DMA fault, a punt written to a posted buffer, and one that finds none. -/
def Obligations.SummaryAndFrameDma : Prop :=
  (∀ (r : YcpReq) (s : State), Accepted 0x0101 r s → let b := reqBody r
    let id := (s.host.snapId + 1) % 2 ^ 32
    let n := min (min (fld b 8 4) (room r)) 4064
    b.length = 16 → fld b 12 4 = 0 → fld b 0 4 = 0 →
    Answers 0x0101 r ((sumBlock id s).take n) (decide (n < (sumBlock id s).length))
      (bump .SUMMARIES 0 { s with host := { s.host with snapId := id, keptId := id, snap := sumBlock id s } })
      (exec (.summary r) s)) ∧
  (∀ (r : YcpReq) (s : State), Accepted 0x0101 r s → let b := reqBody r
    let off := fld b 0 4
    let n := min (min (fld b 8 4) (room r)) 4064
    b.length = 16 → fld b 12 4 = 0 → 0 < off → off ≤ s.host.snap.length → fld b 4 4 = s.host.keptId →
    s.host.snap ≠ [] →
    Answers 0x0101 r ((s.host.snap.drop off).take n) (decide (off + n < s.host.snap.length)) s (exec (.summary r) s)) ∧
  (∀ (r : YcpReq) (s : State), Accepted 0x0101 r s → let b := reqBody r
    b.length = 16 → fld b 12 4 = 0 → 0 < fld b 0 4 → s.host.snap = [] ∨ fld b 4 4 ≠ s.host.keptId →
    Fails 0x0101 r stSTALE_SNAPSHOT 0 s (exec (.summary r) s)) ∧
  (∀ (r : YcpReq) (s : State), Accepted 0x0101 r s → let b := reqBody r
    b.length = 16 → fld b 12 4 = 0 → s.host.snap.length < fld b 0 4 → s.host.snap ≠ [] → fld b 4 4 = s.host.keptId →
    Fails 0x0101 r stRANGE 0 s (exec (.summary r) s)) ∧
  (∀ (s : State), s.host.sumBusy = true →
    let id := s.host.sumId
    ∃ t, exec (.summaryDmaDone true) s = .next t ∧
      (∃ tail, t.host.dmaOut = s.host.dmaOut ++ ⟨s.host.sumPtr % 2 ^ 64, sumBlock id s⟩ :: tail) ∧
      Reports (bump .SUMMARIES 0 { s with host := { s.host with
        keptId := if s.host.snapId = id then id else s.host.keptId,
        snap := if s.host.snapId = id then sumBlock id s else s.host.snap,
        sumBusy := false, sumDone := true, sumSnapId := id % 65536 } }) t) ∧
  (∀ (s : State), s.host.sumBusy = true →
    let id := s.host.sumId
    exec (.summaryDmaDone false) s = .next (raise 196 0 0 (bump .SUMMARIES 0 { s with host := { s.host with
      keptId := if s.host.snapId = id then id else s.host.keptId,
      snap := if s.host.snapId = id then sumBlock id s else s.host.snap, sumBusy := false, sumErr := true } }))) ∧
  (∀ (q st : Nat) (b : Bytes) (data : Option Bytes) (s : State), q < 8 → queueReady (getQ q s) = true →
    injBad b s = some st →
    ∃ t, exec (.injectDescriptor q (some b) data) s = .next t ∧
      (getQ q t).head = (getQ q s).head + 1 ∧
      (∃ tail, t.host.dmaOut = s.host.dmaOut ++
        ⟨((getQ q s).base + 32 * ((getQ q s).head.toNat % 2 ^ (getQ q s).log2) + 15) % 2 ^ 64, leBytes 1 st⟩ :: tail) ∧
      Reports (bump .INJ_ERRORS q (setQ q { getQ q s with head := (getQ q s).head + 1, waits := none } s)) t) ∧
  (∀ (q : Nat) (s : State) (data : Option Bytes), q < 8 → queueReady (getQ q s) = true →
    ∃ t, exec (.injectDescriptor q none data) s = .next t ∧
      (∃ l, t.mace.inflight = s.mace.inflight ++ l ++ [⟨196, q, 0⟩]) ∧
      Reports (setQ q { getQ q s with stopped := true } s) t) ∧
  (∀ (q pl d st : Nat) (b data : Bytes) (cells : List Nat) (s s0 s1 s2 s3 : State), q < 8 → queueReady (getQ q s) = true →
    injBad b s = none → let u := fastClock (injWake b s)
    atLevel poolHOST 3 u = false → u.pwr.ingressStopped = false → pl = rxPipe (injPort b) data u →
    (injIngress b = false → s0 = u) → (injIngress b = true → injEnters q pl u = some s0) →
    takeCells (allocCell poolHOST ownINJECT 0) (cellsOf (injLen b + 4)) [] s0 = (some cells, s1) →
    takeDesc poolFDESC (injFrame b data cells s1) (linkCells (injLen b + 4) cells s1) = some (d, s2) →
    injRun b d pl (cvuSnoop 0 2 q (fit (injLen b) data) s2) = (st, s3) →
    exec (.injectDescriptor q (some b) (some data)) s = .next (bufSync (injDone q st s3))) ∧
  (∀ (q pl : Nat) (b data : Bytes) (s : State), q < 8 → queueReady (getQ q s) = true →
    injBad b s = none → injIngress b = true → let u := fastClock (injWake b s)
    atLevel poolHOST 3 u = false → u.pwr.ingressStopped = false → pl = rxPipe (injPort b) data u → injEnters q pl u = none →
    exec (.injectDescriptor q (some b) (some data)) s = .next (injWaits q pl (wakeHalf pl 0 u))) ∧
  (∀ (q pl : Nat) (s : State), injOpen pl s = true → tget [] s.flow.rerunq pl = [] → recircWaits pl s = false →
    (∀ k n, k < 8 → injTurn pl k s = some n → injPlace q pl s ≤ n) →
    (portWaits pl s = false → injEnters q pl s = some s) ∧
    (portWaits pl s = true → tget 0 s.buf.granted pl < 8 → injEnters q pl s = none) ∧
    (portWaits pl s = true → 8 ≤ tget 0 s.buf.granted pl → injEnters q pl s = some (setGranted pl 0 s))) ∧
  (∀ (q k n pl : Nat) (s : State), k < 8 → injTurn pl k s = some n → n < injPlace q pl s → injEnters q pl s = none) ∧
  (∀ (q n pl : Nat) (s : State), injTurn pl q s = some n → injPlace q pl s = n) ∧
  (∀ (q k n pl : Nat) (s : State), k < 8 → injTurn pl q s = none → injTurn pl k s = some n → n < injPlace q pl s) ∧
  (∀ (q : Nat) (x : PuntItem) (rest : List PuntItem) (entry : Bytes) (s s1 : State),
    nextPunt s (tget [] s.buf.puntq q) = some (x, rest) →
    let s0 := { s with buf := { s.buf with puntq := tset [] s.buf.puntq q rest } }
    queueReady (getQ (8 + q) s) = true → puntRead x s0 = (true, s1) →
    exec (.puntDelivery q (some entry) true) s = .next (bufSync (puntWrite q x entry s1))) ∧
  (∀ (q : Nat) (x : PuntItem) (rest : List PuntItem) (entry : Option Bytes) (ok : Bool) (s : State),
    nextPunt s (tget [] s.buf.puntq q) = some (x, rest) → queueReady (getQ (8 + q) s) = false →
    exec (.puntDelivery q entry ok) s = .next (bufSync (puntGone x (bump .PUNT_DROP q
      { s with buf := { s.buf with puntq := tset [] s.buf.puntq q rest } }))))

open Sys2Proof Sys2Proof.Machine in
/-- RESET and what each block reset does (R406, R413, R443, R447): a cold reset, a warm reset and a reset of each kind of block
start after the response is sent; the token, ASSURED and a pipeline that is no spare are checked first. Clove restarts at
stage ROM and executing commands lose their responses, with every table of the forwarding path as it was; lanes of a group
leave their states; a pipeline owes its sentinel; firmware owes a pool audit after a reset of ACT. -/
def Obligations.ResetCommandsStart : Prop :=
  (∀ (r : YcpReq) (s : State), Accepted 0x0105 r s → let b := reqBody r
    b.length = 12 → fld b 8 4 = 0x52535421 →
    (fld b 0 4 = 1 → Restarts 0x0105 r (fun u => step2 (cold 1 u)) s (exec (.resetCold r) s)) ∧
    (fld b 0 4 = 2 → Restarts 0x0105 r (startWarm 1) s (exec (.resetWarm r) s)) ∧
    (fld b 0 4 = 3 → fld b 4 4 = 1 →
      Restarts 0x0105 r (fun u => mgmtReset (blockEvent 1 u)) s (exec (.resetBlockMgmt r) s)) ∧
    (fld b 0 4 = 3 → fld b 4 4 = 2 →
      Restarts 0x0105 r (fun u => oweReset 3 1 2 (hostFlr u)) s (exec (.resetBlockHost r) s)) ∧
    (fld b 0 4 = 3 → fld b 4 4 = 3 → inMode mASSURED s = false →
      Restarts 0x0105 r (fun u => bufSync (actReset (blockEvent 3 u))) s (exec (.resetBlockAct r) s)) ∧
    (∀ g, g < 10 → fld b 0 4 = 3 → fld b 4 4 = 0x10 + g →
      (inMode mASSURED s = false ∨ 8 ≤ g ∨ ∀ k, k < 8 → assuredPort (8 * g + k) s = false) →
      Restarts 0x0105 r (fun u => bufSync (groupReset g (blockEvent (0x10 + g) u))) s (exec (.resetBlockLaneGroup r) s)) ∧
    (∀ pl, pl < 17 → fld b 0 4 = 3 → fld b 4 4 = 0x20 + pl → isSparePipe pl s = true →
      Restarts 0x0105 r (fun u => pipeReset pl (blockEvent (0x20 + pl) u)) s (exec (.resetBlockPipeline r) s))) ∧
  (∀ (r : YcpReq) (s : State), Accepted 0x0105 r s → let b := reqBody r
    b.length = 12 → 1 ≤ fld b 0 4 ∧ fld b 0 4 ≤ 2 → fld b 8 4 ≠ 0x52535421 →
    Fails 0x0105 r stTOKEN 0 s (exec (.resetCold r) s) ∧ Fails 0x0105 r stTOKEN 0 s (exec (.resetWarm r) s)) ∧
  (∀ (r : YcpReq) (s : State), Accepted 0x0105 r s → let b := reqBody r
    b.length = 12 → fld b 0 4 = 3 → fld b 4 4 = 3 → inMode mASSURED s = true →
    Fails 0x0105 r stDENIED 0 s (exec (.resetBlockAct r) s)) ∧
  (∀ (r : YcpReq) (s : State) (pl : Nat), Accepted 0x0105 r s → let b := reqBody r
    b.length = 12 → fld b 0 4 = 3 → pl < 17 → fld b 4 4 = 0x20 + pl → isSparePipe pl s = false →
    Fails 0x0105 r stBUSY 0 s (exec (.resetBlockPipeline r) s)) ∧
  (∀ (r : YcpReq) (s : State), Accepted 0x0105 r s → let b := reqBody r
    b.length = 12 → fld b 0 4 = 3 → blockCode (fld b 4 4) = false →
    Fails 0x0105 r stINVALID 0 s (exec (.resetBlockMgmt r) s)) ∧
  (∀ n, n < 2 ^ 32 → (blockCode n = true ↔ (1 ≤ n ∧ n ≤ 3) ∨ (0x10 ≤ n ∧ n ≤ 0x19) ∨ (0x20 ≤ n ∧ n ≤ 0x30))) ∧
  (∀ (s : State), (mgmtReset s).host.stage = stageROM ∧ (mgmtReset s).pwr.mgmtOnly = true ∧
    (mgmtReset s).host.waiting = [] ∧
    (∀ m : Fin 8, getMbx m (mgmtReset s) = { getMbx m s with
      busy := (getMbx m s).running.isSome, lost := (getMbx m s).lost || (getMbx m s).running.isSome }) ∧
    (mgmtReset s).buf = s.buf ∧ (mgmtReset s).flow = s.flow ∧ (mgmtReset s).ep = s.ep ∧ (mgmtReset s).hbm = s.hbm ∧
    (mgmtReset s).lanes = s.lanes ∧ (mgmtReset s).ctr = s.ctr ∧ (mgmtReset s).mace = s.mace) ∧
  (∀ (s : State), s.time.d0.st = .locked → s.time.d0.owner = 0 → (mgmtReset s).time.d0.st = .holdover) ∧
  (∀ (s : State), (s.time.d0.st ≠ .locked ∨ s.time.d0.owner ≠ 0) → (mgmtReset s).time.d0 = s.time.d0) ∧
  (∀ (pl half : Nat) (s : State), half < 2 → tget 0 (pipeReset pl s).mace.sentinelOwed (2 * pl + half) = 1 ∧
    sentinelDue pl half (pipeReset pl s) = true) ∧
  (∀ (pl half : Nat) (s : State), half < 2 → s.pwr.standby ≠ .inStandby → tget .off s.pwr.domain (pipeDomain pl) = .off →
    tget .off (pipeReset pl s).pwr.domain (pipeDomain pl) = .waking) ∧
  (∀ (g k : Nat) (s : State), k < 9 → (getLane (9 * g + k) (groupReset g s)).st ∈ [0, 1, 9] ∧
    (getLane (9 * g + k) (groupReset g s)).loop = 0 ∧ (getLane (9 * g + k) (groupReset g s)).pattern = none) ∧
  (∀ (s : State), (actReset s).pwr.auditDue = true)

open Sys2Proof Sys2Proof.Machine in
/-- R444: what a cold reset keeps and what it clears. The order in which the RESET event stands before others is R446. -/
def Obligations.ColdResetKeepsRecords : Prop :=
  ∀ (cause : Nat) (s : State), let t := cold cause s
    t.mace.src = s.mace.src ∧ t.mace.safe = 0 ∧ t.pins.faultN = !anySevere s ∧ t.pins.safeN = true ∧
    t.time = State.reset.time ∧ t.ep = State.reset.ep ∧ t.ctr = [] ∧ t.sched = State.reset.sched ∧
    t.look = State.reset.look ∧ t.flow = State.reset.flow ∧ t.task = State.reset.task ∧ t.svc = State.reset.svc ∧
    t.lanes = State.reset.lanes ∧ t.hbm.mem = [] ∧ t.fw.cfgHash = State.reset.fw.cfgHash ∧
    (∀ m : Fin 8, getMbx m t = {}) ∧ t.host.sumPtr = 0 ∧ t.host.sumLen = 0 ∧ t.host.sumAuto = false ∧
    t.buf.frame = [] ∧ t.buf.cell = [] ∧
    t.fw.flash = s.fw.flash ∧ t.fw.rollback = s.fw.rollback ∧ t.fw.otpKeys = s.fw.otpKeys ∧
    t.spare.otpLog = s.spare.otpLog ∧ t.host.devid = s.host.devid ∧ t.pending = s.pending ∧
    t.host.resetEvent = some ⟨18, fit 28 (leBytes 1 1 ++ leBytes 1 cause ++ zeros 2 ++ leBytes 8 (now302 State.reset))⟩

open Sys2Proof Sys2Proof.Machine in
/-- R445, R444: what stands after a warm reset, once its quiesce has ended: the safe state, the fault records, the epoch
banks, CFG_HASH, the SUMMARY registers and the safe ports are kept; Clove is at stage ROM; every mailbox is idle with an empty
stored response; a DRAINING bank is the shadow again (log 51). -/
def Obligations.WarmResetKeepsTables : Prop :=
  ∀ (s : State), let t := warmReset s
    t.pwr.warm = .none ∧ t.pwr.lastReset = .warm ∧ t.host.stage = stageROM ∧
    t.mace.src = s.mace.src ∧ t.mace.safe = s.mace.safe ∧ t.ep.epoch = s.ep.epoch ∧ t.ep.bank0 = s.ep.bank0 ∧
    t.ep.bank1 = s.ep.bank1 ∧ t.ep.commit = .none ∧ t.ep.st0 ≠ .draining ∧ t.ep.st1 ≠ .draining ∧
    t.fw.cfgHash = s.fw.cfgHash ∧ t.fw.flash = s.fw.flash ∧ t.fw.rollback = s.fw.rollback ∧
    t.host.sumPtr = s.host.sumPtr ∧ t.host.sumLen = s.host.sumLen ∧ t.host.sumAuto = s.host.sumAuto ∧
    (∀ m : Fin 8, (getMbx m t).busy = false ∧ (getMbx m t).stored = [] ∧ (getMbx m t).running = none) ∧
    t.flow.hot = s.flow.hot ∧ t.flow.log = [] ∧ t.task.ctx = [] ∧ t.buf.frame = [] ∧
    t.svc.cache = [] ∧ t.svc.pend = [] ∧
    (s.pwr.trained = true → t.hbm.mem = s.hbm.mem)

open Sys2Proof Sys2Proof.Machine in
/-- The reset pins, the supplies and the strap sample (R443, R444, R522, R523, R530); start-up and the end of a quiesce (R422,
R445, R447–R450): the stages, what each step brings up, and the restart of Clove alone. -/
def Obligations.PinsAndStartUp : Prop :=
  (∀ (devid : Nat) (spi testN : Bool) (s : State), ∃ t, exec (.aonPowerGood devid spi testN) s = .next t ∧
    t.host.devid = devid % 4 ∧ t.pins.testN = testN ∧ t.pins.spiQuad = spi ∧ t.pins.faultN = true ∧ t.pins.safeN = true ∧
    t.mace.src = [] ∧ t.mace.safe = 0 ∧ t.time = State.reset.time ∧ t.ep = State.reset.ep ∧ t.fw.flash = s.fw.flash ∧
    t.fw.rollback = s.fw.rollback ∧ t.hbm.mem = [] ∧ t.pending = s.pending) ∧
  (∀ (s : State), exec .rstNAssert s = .next (cold 0 { s with pins := { s.pins with rstN := false } })) ∧
  (∀ (s : State), s.pins.mainPg = true → s.host.stage = stageROM → s.pwr.standby ≠ .inStandby →
    tget .off s.pwr.domain domMGMT = .off → ∃ t,
    exec .rstNRelease s = .next t ∧ t.pins.rstN = true ∧ tget .off t.pwr.domain domMGMT = .waking ∧
      domainsSettled [domMGMT] t = false ∧ t.mace.src = s.mace.src) ∧
  (∀ (s : State), s.pins.mainPg = false → s.pins.jtag < 3 →
    exec .rstNRelease s = .next { s with pins := { s.pins with rstN := true } }) ∧
  (∀ (s : State), s.pins.mainPg = true → ∃ t, exec .mainPgFall s = .next t ∧ t.pins.mainPg = false ∧
    t.mace = { s.mace with inflight := s.mace.inflight ++ [⟨5, 0, 0⟩] } ∧ t.time = s.time ∧ t.ep = State.reset.ep ∧
    t.flow = State.reset.flow ∧ t.pwr.domain = [] ∧ t.pwr.cause = 3) ∧
  (∀ (s : State), s.pins.mainPg = false → exec .mainPgFall s = .next s) ∧
  (∀ (s : State), s.pins.mainPg = false → s.pins.rstN = true → s.host.stage = stageROM → s.pwr.standby ≠ .inStandby →
    tget .off s.pwr.domain domMGMT = .off →
    ∃ t, exec .mainPgRise s = .next t ∧ t.pins.mainPg = true ∧ tget .off t.pwr.domain domMGMT = .waking ∧
      t.mace.src = s.mace.src ∧
      (s.pwr.lastReset = .cold → s.pwr.cause = 3 → t.mace.safe = 0)) ∧
  (∀ (s : State), s.pwr.warm = .none → s.pins.rstN = true → s.pins.mainPg = true → s.buf.inTx = [] → s.flow.log = [] →
    s.flow.rerunq = [] → s.task.ctx = [] → s.task.level = [] → exec .wrstNAssert s = .next (bufSync { s with
      pins := { s.pins with wrstN := false },
      pwr := { s.pwr with warm := .quiescing, cause := 0, ingressStopped := true } })) ∧
  (∀ (s : State), s.pwr.warm ≠ .none → exec .wrstNAssert s = .next { s with pins := { s.pins with wrstN := false } }) ∧
  (∀ (s : State), s.pwr.warm = .held →
    exec .wrstNRelease s = .next (warmReset { s with pins := { s.pins with wrstN := true } })) ∧
  (∀ (s : State), s.pwr.warm ≠ .held → exec .wrstNRelease s = .next { s with pins := { s.pins with wrstN := true } }) ∧
  (∀ (s : State), s.pwr.warmReacted = true → s.pwr.clockFails = true ∨ s.pwr.supplyFails = true →
    exec .persistentFailureColdReset s = .next (step2 (cold 3 s))) ∧
  (∀ (s : State), (booting s = true ↔ s.host.stage ≤ stageVERIFY ∧ s.pwr.warm = .none ∧ domainOn domMGMT s = true ∧
      s.pins.testN = true) ∧
    (booting s = true → (bootTick s).host.stage = min (s.host.stage + 1) stageVERIFY) ∧ (booting s = false → bootTick s = s)) ∧
  (∀ (s : State), booting s = true → checkImage (firstSlot s) s = .accepted → ∃ t, exec .bootImageChecked s = .next t ∧ t.host.stage = stageFW_INIT ∧
      t.fw.slot = firstSlot s ∧ t.fw.fwVersion = imgVersion (imgHeader (firstSlot s) s) ∧
      t.fw.fwHash = sha256 (slice (imgHeader (firstSlot s) s) 0 192)) ∧
  (∀ (s : State), booting s = true → checkImage (firstSlot s) s ≠ .accepted → checkImage (!firstSlot s) s ≠ .accepted →
    ∃ t, exec .bootImageChecked s = .next t ∧ t.host.stage = stageRECOVERY) ∧
  (∀ (s : State), s.pins.testN = false → exec .bootImageChecked s = .next s) ∧
  (∀ (s : State), booting s = true → checkImage (firstSlot s) s = .accepted → s.pwr.mgmtOnly = false →
    s.pwr.standby ≠ .inStandby → ∃ t, exec .bootImageChecked s = .next t ∧
      ∀ d ∈ step4Domains, tget .off s.pwr.domain d = .off → tget .off t.pwr.domain d = .waking) ∧
  (∀ (s : State), s.host.stage = stageFW_INIT → s.pwr.warm = .none → s.pwr.mgmtOnly = false → s.pwr.standby ≠ .inStandby →
    domainsSettled step4Domains s = true →
    ∃ t, exec .fwInitDone s = .next t ∧ t.host.stage = stageMEMORY ∧ t.pwr.loaded = true ∧
      ∀ k, k < 4 → tget .off s.pwr.domain (domHBM k) = .off → tget .off t.pwr.domain (domHBM k) = .waking) ∧
  (∀ (s : State), s.pwr.mgmtOnly = false →
    (domainsSettled step4Domains s = false → exec .fwInitDone s = .next s) ∧
    (domainsSettled hbmDomains s = false → exec (.fullTrainingDone [] []) s = .next s) ∧
    (domainsSettled ((List.range 10).map domLG) s = false → exec .startUpReady s = .next s)) ∧
  (∀ (s : State), s.host.stage = stageMEMORY → s.pwr.warm = .none → s.pwr.mgmtOnly = false → s.pwr.standby ≠ .inStandby →
    domainsSettled hbmDomains s = true →
    ∃ t, exec (.fullTrainingDone [] []) s = .next t ∧ t.host.stage = stageLANES ∧ t.pwr.trained = true ∧
      ∀ g, g < 10 → tget .off s.pwr.domain (domLG g) = .off → tget .off t.pwr.domain (domLG g) = .waking) ∧
  (∀ (s : State) (failed : List Nat) (lanes : List (Nat × Nat)), s.host.stage ≠ stageMEMORY →
    exec (.fullTrainingDone failed lanes) s = .next s) ∧
  (∀ (s : State), s.host.stage = stageLANES → s.pwr.warm = .none → s.pwr.mgmtOnly = false →
    domainsSettled ((List.range 10).map domLG) s = true → (s.pwr.lastReset ≠ .warm ∨ s.host.sumAuto = false) →
    exec .startUpReady s = .next { s with
      pwr := { s.pwr with ingressStopped := false, portDepth := [], laneDepth := [], mgmtOnly := false },
      host := { s.host with stage := stageREADY } }) ∧
  (∀ (s : State), s.host.stage = stageLANES → s.pwr.warm = .none → s.pwr.mgmtOnly = true →
    exec .startUpReady s = .next { s with
      pwr := { s.pwr with mgmtOnly := false }, host := { s.host with stage := stageREADY } }) ∧
  (∀ (s : State), s.pwr.warm = .quiescing → s.task.ctx = [] → s.flow.log = [] →
    ∃ t, exec .warmQuiesceDone s = .next t ∧
      (s.pins.wrstN = true → t.pwr.warm = .none ∧ t.host.stage = stageROM ∧ t.pwr.lastReset = .warm) ∧
      (s.pins.wrstN = false → t.pwr.warm = .held ∧ t.hbm.stopped = true ∧ t.host.stage = s.host.stage)) ∧
  (∀ (s : State), s.pwr.warm = .quiescing → ∃ t, exec .warmQuiesceTimeout s = .next t ∧
      (s.pins.wrstN = true → t.pwr.warm = .none ∧ t.host.stage = stageROM ∧ t.pwr.lastReset = .warm) ∧
      (s.pins.wrstN = false → t.pwr.warm = .held ∧ t.pwr.auditDue = true)) ∧
  (∀ (s : State), s.pwr.warm ≠ .quiescing → exec .warmQuiesceDone s = .next s ∧ exec .warmQuiesceTimeout s = .next s)

open Sys2Proof Sys2Proof.Machine in
/-- Sleep under FRUGAL (R435–R440): CG_IDLE, the depths of ports, lanes and pipelines, and their counters. -/
def Obligations.SleepDepths : Prop :=
  (∀ (r : YcpReq) (s : State), Accepted 0x0B02 r s → let b := reqBody r
    b.length = 8 → fld b 4 4 = 0 → 50 ≤ fld b 0 4 → fld b 0 4 ≤ 100000 →
    Does 0x0B02 r [] { s with pwr := { s.pwr with cgIdle := fld b 0 4 } } (exec (.frugalSet r) s)) ∧
  (∀ (r : YcpReq) (s : State), Accepted 0x0B02 r s → let b := reqBody r
    b.length = 8 → fld b 4 4 = 0 → fld b 0 4 < 50 ∨ 100000 < fld b 0 4 →
    Fails 0x0B02 r stRANGE 0 s (exec (.frugalSet r) s)) ∧
  (∀ (p : Nat) (s : State), maySleep p 0 s = true → portDepthOf p s = .active →
    ∃ t, exec (.portQuietEnter p) s = .next t ∧ portDepthOf p t = .quiet ∧
      getCtr .LPI_ENTER p t = (getCtr .LPI_ENTER p s + 1) % 2 ^ 64 ∧ t.buf = s.buf) ∧
  (∀ (p : Nat) (s : State), maySleep p 0 s = false → exec (.portQuietEnter p) s = .next s) ∧
  (∀ (p : Nat) (s : State), maySleep p 1 s = true → portDepthOf p s = .active ∨ portDepthOf p s = .quiet →
    ∃ t, exec (.portDozeEnter p) s = .next t ∧ portDepthOf p t = .doze ∧
      getCtr .DOZE_ENTER p t = (getCtr .DOZE_ENTER p s + 1) % 2 ^ 64 ∧ t.buf = s.buf) ∧
  (∀ (p : Nat) (s : State), portDepthOf p s = .quiet →
    ∃ t, exec (.portWake p) s = .next t ∧ portDepthOf p t = .active ∧
      getCtr .LPI_WAKE p t = (getCtr .LPI_WAKE p s + 1) % 2 ^ 64 ∧ t.buf = s.buf) ∧
  (∀ (p : Nat) (s : State), p < 64 → portDepthOf p s = .doze →
    ∃ t, exec (.portWake p) s = .next t ∧ portDepthOf p t = .active ∧ inMask t.pwr.waking p = true ∧
      getCtr .LPI_WAKE p t = (getCtr .LPI_WAKE p s + 1) % 2 ^ 64) ∧
  (∀ (p : Nat) (s : State), portDepthOf p s = .active → exec (.portWake p) s = .next s) ∧
  (∀ (p : Nat) (s : State), inMask s.pwr.waking p = true → exec (.dozeWakeTimeout p) s =
    .next (linkDown p none { s with pwr := { s.pwr with waking := s.pwr.waking &&& ~~~(portMask p) } })) ∧
  (∀ (p : Nat) (s : State), inMask s.pwr.waking p = false → exec (.dozeWakeTimeout p) s = .next s) ∧
  (∀ (pl half : Nat) (s : State), inMode mFRUGAL s = true → keepPipe pl s = false → inPipeSwap pl s = false →
    pipeDepthOf (2 * pl + half) s = .active →
    exec (.pipelineClockGate pl half) s = .next (bump .PIPE_CG pl
      { s with pwr := { s.pwr with pipeDepth := tset .active s.pwr.pipeDepth (2 * pl + half) .gated } })) ∧
  (∀ (k : Nat) (s : State), k < 5 → inMode mFRUGAL s = true → domainOn (domPIPE k) s = true → keepDomain k s = false →
    (∀ pl ∈ domainPipes k, pipeQualifies pl s = true) →
    ∃ t, exec (.pipeDomainPowerGate k) s = .next t ∧ tget .off t.pwr.domain (domPIPE k) = .off ∧
      ∀ pl ∈ domainPipes k, pipeDepthOf (2 * pl) t = .powerGated ∧ pipeDepthOf (2 * pl + 1) t = .powerGated ∧
        getCtr .PIPE_PG pl t = (getCtr .PIPE_PG pl s + 1) % 2 ^ 64) ∧
  (∀ (k : Nat) (s : State), inMode mFRUGAL s = false → exec (.pipeDomainPowerGate k) s = .next s ∧
    exec (.pipelineClockGate k 0) s = .next s)

open Sys2Proof Sys2Proof.Machine in
/-- Power domains that switch on, late or not at all (R432, R446, R450), standby (R442), and the monitors of clocks, supplies, the
junction temperature and JTAG (R434, R520, R527, R528). The JTAG instruction codes are the model's (log 7). -/
def Obligations.DomainsAndMonitors : Prop :=
  (∀ (d : Nat) (late : Bool) (s : State), d ≠ 0 → tget .off s.pwr.domain d = .waking →
    ∃ t, exec (.domainPowerGood d late) s = .next t ∧ domainOn d t = true ∧
      getCtr .DOMAIN_ON d t = (getCtr .DOMAIN_ON d s + 1) % 2 ^ 64 ∧
      (late = true → ∃ l l', t.mace.inflight = s.mace.inflight ++ l ++ [⟨226, d, 0⟩] ++ l')) ∧
  (∀ (d : Nat) (late : Bool) (s : State), tget .off s.pwr.domain d ≠ .waking →
    exec (.domainPowerGood d late) s = .next s ∧ exec (.domainPowerFail d true) s = .next s) ∧
  (∀ (d : Nat) (s : State), tget .off s.pwr.domain d = .waking → domainPorts d s = [] →
    exec (.domainPowerFail d true) s =
      .next (raise 224 d 0 { s with pwr := { s.pwr with domain := tset .off s.pwr.domain d .failed } })) ∧
  (∀ (d : Nat) (s : State), tget .off s.pwr.domain d = .off → d < domPIPE 0 ∨ domPIPE 4 < d →
    exec (.domainPowerFail d false) s =
      .next (raise 225 d 0 { s with pwr := { s.pwr with domain := tset .off s.pwr.domain d .on } })) ∧
  (∀ (r : YcpReq) (s : State), Accepted 0x0B04 r s → let b := reqBody r
    b.length = 8 → fld b 0 4 = 1 → inMode mASSURED s = false → inMode mJOINED s = false → fld b 4 4 ≤ 100 →
    s.pwr.standby = .no → standbyBusy s = false →
    Waits 0x0B04 r { s with pwr := { s.pwr with
      standby := .entering, standbyDrain := fld b 4 4, standbyMbx := some r.mbx, ingressStopped := true } }
      (exec (.powerStandbyEnter r) s)) ∧
  (∀ (r : YcpReq) (s : State), Accepted 0x0B04 r s → let b := reqBody r
    b.length = 8 → fld b 0 4 = 1 → inMode mASSURED s = true ∨ inMode mJOINED s = true →
    Fails 0x0B04 r stDENIED 0 s (exec (.powerStandbyEnter r) s)) ∧
  (∀ (r : YcpReq) (s : State), Accepted 0x0B04 r s → let b := reqBody r
    b.length = 8 → fld b 0 4 = 1 → inMode mASSURED s = false → inMode mJOINED s = false → fld b 4 4 ≤ 100 →
    standbyBusy s = true → Fails 0x0B04 r stBUSY 0 s (exec (.powerStandbyEnter r) s)) ∧
  (∀ (r : YcpReq) (s : State), Accepted 0x0B04 r s → (reqBody r).length = 8 → fld (reqBody r) 0 4 = 2 →
    s.pwr.standby = .inStandby →
    Waits 0x0B04 r (domainsBack { s with pwr := { s.pwr with standby := .leaving, standbyMbx := some r.mbx } })
      (exec (.powerStandbyExit r) s)) ∧
  (∀ (s : State) (d : Nat), s.pwr.standby ≠ .inStandby → d ∈ hbmDomains ++ standbyDomains →
    (tget .off s.pwr.domain d = .off ∨ tget .off s.pwr.domain d = .retention →
      tget .off (domainsBack s).pwr.domain d = .waking) ∧
    (tget .off s.pwr.domain d = .failed → tget .off (domainsBack s).pwr.domain d = .failed)) ∧
  (∀ (s : State), s.pwr.standby = .entering → drained s = true →
    ∃ t, exec .standbyEntered s = .next t ∧ t.pwr.standby = .inStandby ∧ t.pwr.standbyMbx = none ∧ t.hbm.stopped = true ∧
      ∀ k, k < 4 → tget .off t.pwr.domain (domHBM k) = .retention) ∧
  (∀ (s : State), s.pwr.standby ≠ .entering → exec .standbyEntered s = .next s) ∧
  (∀ (s : State), s.pwr.standby = .leaving → domainsSettled (hbmDomains ++ standbyDomains) s = true →
    ∃ t, exec (.standbyExitDone [] []) s = .next t ∧ t.pwr.standby = .no ∧ t.pwr.ingressStopped = false ∧
      t.pwr.portDepth = [] ∧ (inMode mFRUGAL s = false → t.pwr.domain = s.pwr.domain)) ∧
  (∀ (s : State), s.pwr.standby ≠ .leaving ∨ domainsSettled (hbmDomains ++ standbyDomains) s = false →
    exec (.standbyExitDone [] []) s = .next s) ∧
  (∀ (ref25 core clove : Bool) (hbm : List Nat) (s : State),
    ∃ t, exec (.clockMonitorCheck ref25 core clove hbm []) s = .next t ∧
      t.mace.inflight = s.mace.inflight ++ (if ref25 then [⟨1, 0, 0⟩] else []) ++ (if core then [⟨2, 0, 0⟩] else []) ++
        (if clove then [⟨3, 0, 0⟩] else []) ++ hbm.map (fun k => ⟨4, k, 0⟩) ∧
      t.pwr = { s.pwr with clockFails := ref25 || core || clove || !hbm.isEmpty } ∧ t.ctr = s.ctr ∧ t.buf = s.buf) ∧
  (∀ (rail : Nat) (s : State), s.pins.mainPg = true → exec (.supplyOutOfRange rail) s =
    .next (raise 5 rail 0 { s with pwr := { s.pwr with supplyFails := true } })) ∧
  (∀ (rail : Nat) (s : State), s.pins.mainPg = false → exec (.supplyOutOfRange rail) s = .next s) ∧
  (∀ (t : Int) (s : State), 950 ≤ t → t ≤ 1000 →
    exec (.junctionTemperatureCross t) s = .next { s with pins := { s.pins with tj := t } }) ∧
  (∀ (t : Int) (s : State), t < 950 →
    exec (.junctionTemperatureCross t) s = .next { s with pins := { s.pins with tj := t, talertN := true } }) ∧
  (∀ (t : Int) (s : State), 1000 < t → t ≤ 1050 →
    exec (.junctionTemperatureCross t) s = .next { s with pins := { s.pins with tj := t, talertN := false } }) ∧
  (∀ (t : Int) (s : State), 1050 < t → t ≤ 1100 → s.pins.tj ≤ 1050 →
    exec (.junctionTemperatureCross t) s = .next (raise 6 0 0 { s with pins := { s.pins with tj := t, talertN := false } })) ∧
  (∀ (t : Int) (s : State), 1100 < t → 1050 < s.pins.tj → s.pins.tj ≤ 1100 →
    exec (.junctionTemperatureCross t) s = .next (raise 7 0 0 { s with pins := { s.pins with tj := t, talertN := false } })) ∧
  (∀ (ir : Nat) (s : State), ir < 3 ∨ (ir ≤ 5 ∧ s.pins.rstN = false) →
    exec (.jtagAccess ir) s = .next { s with pins := { s.pins with jtag := ir } }) ∧
  (∀ (ir : Nat) (s : State), 5 < ir ∨ (3 ≤ ir ∧ s.pins.rstN = true) →
    exec (.jtagAccess ir) s = .next { s with pins := { s.pins with jtag := 0 } })

open Sys2Proof Sys2Proof.Machine in
/-- The joined ring (R454–R461, R463, R466, R467, R469): JOIN_CONFIG, blocks and their credits, CONTROL frames, arrivals, the
wrap, and the loss of a member. What starts the groups and takes credit is the model's (log 54). -/
def Obligations.JoinedRing : Prop :=
  (∀ (r : YcpReq) (s : State) (o : Host.Outcome State Fault Refusal), Accepted 0x0E01 r s →
    o = exec (.joinConfigSet r) s ∨ o = exec (.joinConfigAdd r) s ∨ o = exec (.joinConfigTimeouts r) s →
    let b := reqBody r
    b.length = 80 → fld b 3 1 = 0 → fld b 6 2 = 0 → fld b 1 1 < 16 → fld b 2 1 < 16 →
    (fld b 0 1 = 1 → bit (fld b 1 1) s.host.devid = true → inMode mASSURED s = false → inMode mJOINED s = false →
      timeoutsInRange b = true → fallbackSound b s = true → Does 0x0E01 r [] (joinSet b s) o) ∧
    (fld b 0 1 = 1 → bit (fld b 1 1) s.host.devid = true → inMode mASSURED s = false → timeoutsInRange b = true →
      inMode mJOINED s = true → Fails 0x0E01 r stBUSY 0 s o) ∧
    (fld b 0 1 = 2 → bit (fld b 1 1) s.host.devid = true → Does 0x0E01 r [] (joinAdd b s) o) ∧
    (fld b 0 1 = 3 → inMode mASSURED s = false → timeoutsInRange b = true → Does 0x0E01 r [] { s with
        join := { s.join with wrapTimeout := fld b 8 4, memberTimeout := fld b 12 4 } } o) ∧
    (fld b 0 1 = 3 → inMode mASSURED s = true → 100 < fld b 8 4 ∨ 360 < fld b 12 4 → Fails 0x0E01 r stDENIED 0 s o)) ∧
  (∀ (b : Bytes) (s : State),
    (joinSet b s).join = { s.join with
      configured := true, members := fld b 1 1, chainParse := fld b 2 1, fastClasses := fld b 4 2,
      wrapTimeout := fld b 8 4, memberTimeout := fld b 12 4, fallback := slice b 16 64 } ∧
    (joinAdd b s).join.present = s.join.present ||| (fld b 1 1 &&& s.join.members) ∧ (joinAdd b s).join.moved = [] ∧
    (∀ l, l = 64 ∨ l = 65 → (getLink l s).phase = .off → (getLink l (joinSet b s)).phase = .bringUp)) ∧
  (∀ (g : Nat) (blk : Bytes) (bad : Bool) (s : State), isUp (64 + g) s = false →
    exec (.chainBlockReceive g blk bad) s = .next s) ∧
  (∀ (g : Nat) (blk : Bytes) (s : State), isUp (64 + g) s = true →
    ∃ t b, exec (.chainBlockReceive g blk true) s = .next t ∧ t.join.out = s.join.out ++ [(g, b)] ∧
      bits (fld b 0 32) 0 12 = (getChain g s).txSeq % 4096 ∧ (getChain g t).rxSeq = (getChain g s).rxSeq ∧
      ((getChain g s).rxSeq < 4096 → bits (fld b 0 32) 12 12 = (getChain g s).rxSeq ∧ bit (fld b 0 32) 24 = true)) ∧
  (∀ (g : Nat) (blk : Bytes) (s : State), isUp (64 + g) s = true → let u := fld blk 0 32
    let x := getChain g s
    (bits u 0 12 = (x.rxSeq + 1) % 4096 → ∃ t, exec (.chainBlockReceive g blk false) s = .next t ∧
      (getChain g t).rxSeq = bits u 0 12 ∧ (getChain g t).creditFast = x.creditFast + bits u 25 15 ∧
      (getChain g t).creditNorm = x.creditNorm + bits u 40 15) ∧
    (bits u 0 12 ≠ (x.rxSeq + 1) % 4096 → bit u 24 = false →
      exec (.chainBlockReceive g blk false) s = .next (setChain g (ackUpTo (bits u 12 12) x) s))) ∧
  (∀ (g : Nat) (s : State), isUp (64 + g) s = true → (getChain g s).unacked ≠ [] → 3 ≤ (getChain g s).retries →
    ∃ t m, exec (.chainRetransmitExhausted g) s = .next t ∧ (getLink (64 + g) t).phase = .gap ∧
      t.mace.inflight = s.mace.inflight ++ ⟨212, g, 0⟩ :: ⟨208 + g, g, 0⟩ :: m) ∧
  (∀ (g : Nat) (s : State), (getChain g s).unacked = [] → exec (.chainRetransmitExhausted g) s = .next s) ∧
  (∀ (s : State), isUp 64 s = true → isUp 65 s = true →
    ∃ t b c, exec .controlFrameSend s = .next t ∧ t.join.out = s.join.out ++ [(0, b), (1, c)] ∧
      slice b 32 32 = controlFrame 0 s ∧ slice c 32 32 = controlFrame 1 s) ∧
  (∀ (s : State), isUp 64 s = false → isUp 65 s = false → exec .controlFrameSend s = .next s) ∧
  (∀ (g : Nat) (f : Bytes) (rest : List Bytes) (s : State), g < 2 → (getChain g s).ctl = f :: rest →
    (cfSrc f ≠ s.host.devid → cfHops f ≠ 0 → (getChain g s).held = false →
      ∃ t, exec (.controlFrameReceive g) s = .next t ∧ (getChain g t).ctl = rest ∧
        tget 3 t.join.links (cfSrc f) = fld f 24 1 % 4 ∧ tget 0 t.join.theirs (cfSrc f) = fld f 19 1 % 16) ∧
    (cfHops f = 0 → fld f 16 1 = s.host.devid ∨ fld f 16 1 ≠ neighbour s.host.devid g s →
      ∃ t, exec (.controlFrameReceive g) s = .next t ∧ (getChain g t).held = true ∧ (getChain g t).ctl = rest ∧
        ⟨214, g, 0⟩ ∈ t.mace.inflight)) ∧
  (∀ (g : Nat) (s : State), (getChain g s).ctl = [] → exec (.controlFrameReceive g) s = .next s) ∧
  (∀ (g : Nat) (s : State), fifoHead g 0 s = none → exec (.flowFrameArrival g) s = .next s) ∧
  (∀ (g : Nat) (s : State), fifoHead g 1 s = none → exec (.resultFrameArrival g) s = .next s) ∧
  (∀ (g : Nat) (f : Bytes) (fast : Bool) (s : State), inMode mJOINED s = false →
    (fifoHead g 0 s = some (f, fast) →
      exec (.flowFrameArrival g) s = .next (bump .CHAIN_NOT_JOINED g (fifoTake g f fast s))) ∧
    (fifoHead g 1 s = some (f, fast) →
      exec (.resultFrameArrival g) s = .next (bump .CHAIN_NOT_JOINED g (fifoTake g f fast s)))) ∧
  (∀ (f : Bytes) (s : State), (cfDst f ≠ s.host.devid → chainEnter f s = some s) ∧
    (cfDst f = s.host.devid → (ingressHeld s = true ∨ sentinelDue (chainPipe f s) 0 s = true → chainEnter f s = none) ∧
      (ingressHeld s = false → sentinelDue (chainPipe f s) 0 s = false → chainEnter f s = portGrant (chainPipe f s) s))) ∧
  (∀ (g : Nat) (f : Bytes) (fast : Bool) (s : State), inMode mJOINED s = true → chainHeld g s = false →
    chainEnter f s = none → let t := if sentinelDue (chainPipe f s) 0 s then wakeHalf (chainPipe f s) 0 s else s
    (fifoHead g 0 s = some (f, fast) → exec (.flowFrameArrival g) s = .next t) ∧
    (fifoHead g 1 s = some (f, fast) → exec (.resultFrameArrival g) s = .next t)) ∧
  (∀ (g d : Nat) (f : Bytes) (fast : Bool) (s s1 u : State), inMode mJOINED s = true → chainHeld g s = false →
    chainEnter f s = some s1 → chainStore g f s1 = (some d, u) → let v := fifoTake g f fast u
    (fifoHead g 0 s = some (f, fast) → cfDst f = s.host.devid →
      exec (.flowFrameArrival g) s = .next (bufSync (flowArrive d f v))) ∧
    (fifoHead g 0 s = some (f, fast) → cfDst f ≠ s.host.devid →
      exec (.flowFrameArrival g) s = .next (bufSync (transit g d f v))) ∧
    (fifoHead g 1 s = some (f, fast) → cfDst f = s.host.devid →
      exec (.resultFrameArrival g) s = .next (bufSync (resultArrive d f v))) ∧
    (fifoHead g 1 s = some (f, fast) → cfDst f ≠ s.host.devid →
      exec (.resultFrameArrival g) s = .next (bufSync (transit g d f v)))) ∧
  (∀ (g d : Nat) (f : Bytes) (s : State), g < 2 → cfHops f < 3 → bit s.join.present (cfDst f) = true →
    usable s.host.devid (1 - g) s = true →
    (cfFast f = true → (getChain (1 - g) (transit g d f s)).fastq = (getChain (1 - g) s).fastq ++ [d]) ∧
    (cfFast f = false → (getChain (1 - g) (transit g d f s)).normq = (getChain (1 - g) s).normq ++ [d])) ∧
  (∀ (g : Nat) (s : State), g < 2 → let x := getChain g s
    let y := getChain (1 - g) s
    (chainUp g s = false → x.wrapped = false → inMode mJOINED s = true → timerDone (s.join.wrapTimeout * 1000) x.wrapTicks = true →
      ∃ t m, exec (.wrapTimeoutExpiry g) s = .next t ∧ (getChain g t).wrapped = true ∧ (getChain g t).fastq = [] ∧
        (getChain g t).normq = [] ∧ (getChain (1 - g) t).fastq = y.fastq ++ x.fastq ∧
        (getChain (1 - g) t).normq = y.normq ++ x.normq ∧
        t.mace.inflight = s.mace.inflight ++ ⟨210, g, 0⟩ :: m ∧
        getCtr .RING_WRAP 0 t = (getCtr .RING_WRAP 0 s + 1) % 2 ^ 64) ∧
    (chainUp g s = true ∨ x.wrapped = true ∨ inMode mJOINED s = false ∨
      timerDone (s.join.wrapTimeout * 1000) x.wrapTicks = false → exec (.wrapTimeoutExpiry g) s = .next s) ∧
    (chainUp g s = true → x.wrapped = true → ∃ t, exec (.unwrap g) s = .next t ∧
      Reports (setChain g { x with wrapped := false } s) t) ∧
    (x.wrapped = false → exec (.unwrap g) s = .next s)) ∧
  (∀ (m : Nat) (s : State), m < 4 → bit s.join.present m = true → m ≠ s.host.devid → inMode mJOINED s = true →
    ∃ t, exec (.memberTimeoutExpiry m) s = .next t ∧ bit t.join.present m = false ∧
      (∀ k, k ≠ m → bit t.join.present k = bit s.join.present k) ∧
      (∀ i, i < 16 → homeOf i s ≠ m → homeOf i t = homeOf i s) ∧
      (∀ i, i < 16 → homeOf i s = m → i ∈ t.join.moved) ∧ ⟨211, m, 0⟩ ∈ t.mace.inflight) ∧
  (∀ (m : Nat) (s : State), bit s.join.present m = false → exec (.memberTimeoutExpiry m) s = .next (bufSync s)) ∧
  (∀ (s : State), movedSubs s = [] →
    exec .fallbackRebind s = .next { s with join := { s.join with moved := [] } }) ∧
  (∀ (s : State), (∃ u ∈ movedSubs s, mustWait .port u s = true) → exec .fallbackRebind s = .next s) ∧
  (∀ (u q : Nat) (s : State), movedSubs s = [u] → mustWait .port u s = false → q = fld s.join.fallback (dirPool (dirEnt u s)) 1 → q ≠ 0xFF →
    ∃ t, exec .fallbackRebind s = .next t ∧ t.join = { s.join with moved := [] } ∧
      dirEnt u t = dirWith (putF (dirEnt u s) 0 1 (putBits (fld (dirEnt u s) 0 1) 1 6 q)) [])

open Sys2Proof Sys2Proof.Machine in
/-- MODE_SET (R62, R474): FRUGAL at once in both banks' copies, every other bit in the shadow copy alone and under the epoch
rules; the response carries both words. -/
def Obligations.ModeWord : Prop :=
  (∀ (r : YcpReq) (s : State), Accepted 0x0103 r s → let b := reqBody r
    let m := BitVec.ofNat 16 (fld b 0 2)
    b.length = 8 → fld b 2 6 = 0 → fld b 0 2 < 64 → r.epoch = shadowEpoch s → shadowBusy s = false →
    m.getLsbD mFRUGAL = inMode mFRUGAL s → 8 ≤ room r →
    Does 0x0103 r (leBytes 2 (activeMode s).toNat ++ leBytes 2 (fld b 0 2) ++ zeros 4)
      { s with ep := s.ep.setBank (!s.ep.activeNo) { s.ep.shadowBank with mode := m } } (exec (.modeSet r) s)) ∧
  (∀ (r : YcpReq) (s : State), Accepted 0x0103 r s → let b := reqBody r
    let m := BitVec.ofNat 16 (fld b 0 2)
    b.length = 8 → fld b 2 6 = 0 → fld b 0 2 < 64 → modeRest m = modeRest s.ep.shadowBank.mode → 8 ≤ room r →
    ∃ u, Does 0x0103 r (leBytes 2 (activeMode u).toNat ++ leBytes 2 u.ep.shadowBank.mode.toNat ++ zeros 4) u
        (exec (.modeSet r) s) ∧
      inMode mFRUGAL u = m.getLsbD mFRUGAL ∧ u.ep.shadowBank.mode.getLsbD mFRUGAL = m.getLsbD mFRUGAL ∧
      modeRest (activeMode u) = modeRest (activeMode s) ∧
      modeRest u.ep.shadowBank.mode = modeRest s.ep.shadowBank.mode ∧
      u.ep.commit = s.ep.commit ∧ u.ep.epoch = s.ep.epoch ∧ u.buf = s.buf ∧ u.look = s.look) ∧
  (∀ (r : YcpReq) (s : State), Accepted 0x0103 r s → let b := reqBody r
    let m := BitVec.ofNat 16 (fld b 0 2)
    b.length = 8 → fld b 2 6 = 0 → fld b 0 2 < 64 → modeRest m ≠ modeRest s.ep.shadowBank.mode →
    (r.epoch ≠ shadowEpoch s → Fails 0x0103 r stSTALE_EPOCH 0 s (exec (.modeSet r) s)) ∧
    (r.epoch = shadowEpoch s → shadowBusy s = true → Fails 0x0103 r stBUSY 0 s (exec (.modeSet r) s))) ∧
  (∀ (r : YcpReq) (s : State), Accepted 0x0103 r s → (reqBody r).length = 8 → fld (reqBody r) 2 6 = 0 →
    64 ≤ fld (reqBody r) 0 2 → Fails 0x0103 r stINVALID 0 s (exec (.modeSet r) s))

open Sys2Proof Sys2Proof.Machine in
/-- EPOCH_COMMIT, the boundary of a drained commit and its abandonment, BANK_COPY, and the end of a DRAINING bank (R55, R57, R59,
R60, R62, R63, R481). The time of the boundary in the response, the DETAIL of a failed commit and the ticks that a copy takes are
the model's (log 50). -/
def Obligations.EpochCommits : Prop :=
  (∀ (r : YcpReq) (s : State), Accepted 0x0110 r s → let b := reqBody r
    b.length = 4 → fld b 0 4 = 0 ∨ (5 ≤ fld b 0 4 ∧ fld b 0 4 ≤ 1000) → 8 ≤ room r → shadowBusy s = false →
    validate s = (stOK, 0) → modeRest (activeMode s) = modeRest s.ep.shadowBank.mode →
    let st0 : BankSt := if s.ep.activeNo then .active else .draining
    let st1 : BankSt := if s.ep.activeNo then .draining else .active
    Does 0x0110 r (leBytes 8 (now302 s)) { s with ep := { s.ep with
      st0 := st0, st1 := st1, epoch := s.ep.epoch + 1, lastEpoch := s.ep.epoch + 1, lastTime := now302 s,
      commit := .none, commitMbx := none } } (exec (.epochCommit r) s)) ∧
  (∀ (r : YcpReq) (s : State), Accepted 0x0110 r s → let b := reqBody r
    b.length = 4 → fld b 0 4 = 0 ∨ (5 ≤ fld b 0 4 ∧ fld b 0 4 ≤ 1000) → 8 ≤ room r → shadowBusy s = false →
    s.pwr.standby = .no → s.join.configured = true → validate s = (stOK, 0) →
    modeRest (activeMode s) ≠ modeRest s.ep.shadowBank.mode → slowHbm s = false →
    let limit := if fld b 0 4 = 0 then 20 else fld b 0 4
    Waits 0x0110 r { s with ep := { s.ep with commitMbx := some r.mbx, commit := .draining, drainLimit := limit } }
      (exec (.epochCommit r) s)) ∧
  (∀ (r : YcpReq) (s : State) (st n : Nat), Accepted 0x0110 r s → let b := reqBody r
    b.length = 4 → fld b 0 4 = 0 ∨ (5 ≤ fld b 0 4 ∧ fld b 0 4 ≤ 1000) → 8 ≤ room r → s.pwr.standby = .no →
    s.join.configured = true → shadowBusy s = false → validate s = (st, n) → st ≠ stOK →
    Fails 0x0110 r st n s (exec (.epochCommit r) s)) ∧
  (∀ (r : YcpReq) (s : State), Accepted 0x0110 r s → let b := reqBody r
    b.length = 4 → fld b 0 4 = 0 ∨ (5 ≤ fld b 0 4 ∧ fld b 0 4 ≤ 1000) → 8 ≤ room r → s.pwr.standby = .no →
    shadowBusy s = true → Fails 0x0110 r stBUSY 0 s (exec (.epochCommit r) s)) ∧
  (∀ (s : State) (m : Fin 8) (q : YcpReq), s.ep.commit = .draining → packetsOf s.ep.activeNo s = 0 →
    s.ep.commitMbx = some m → (getMbx m s).running = some (0x0110, q) → q.mbx = m → isDma q = false →
    ∃ t, exec .drainedCommitBoundary s = .next t ∧ t.ep.epoch = s.ep.epoch + 1 ∧ t.ep.commit = .none ∧
      t.ep.commitMbx = none ∧ t.ep.lastTime = now302 s ∧ (getMbx m t).busy = false ∧ (getMbx m t).lastStatus = stOK ∧
      (getMbx m t).lastSeq = q.seq ∧ (getMbx m t).stored = leBytes 8 (now302 s)) ∧
  (∀ (s : State), packetsOf s.ep.activeNo s ≠ 0 → exec .drainedCommitBoundary s = .next s) ∧
  (∀ (s : State) (m : Fin 8) (q : YcpReq), s.ep.commit = .draining → s.ep.commitMbx = some m →
    (getMbx m s).running = some (0x0110, q) → q.mbx = m →
    ∃ t, exec .drainLimitExpiry s = .next t ∧ t.ep = { s.ep with commit := .none, commitMbx := none } ∧
      (∃ l, t.mace.inflight = s.mace.inflight ++ ⟨21, 0, 0⟩ :: l) ∧ (getMbx m t).busy = false ∧
      (getMbx m t).lastStatus = stTIMEOUT) ∧
  (∀ (s : State), s.ep.commit ≠ .draining → exec .drainLimitExpiry s = .next s) ∧
  (∀ (s : State), bankSt (!s.ep.activeNo) s = .draining → inFlight (!s.ep.activeNo) s = 0 →
    let st0 : BankSt := if s.ep.activeNo then .shadow else s.ep.st0
    let st1 : BankSt := if s.ep.activeNo then s.ep.st1 else .shadow
    ∃ t, exec .epochBankDrained s = .next t ∧ Reports { s with ep := { s.ep with st0 := st0, st1 := st1 } } t) ∧
  (∀ (s : State), inFlight (!s.ep.activeNo) s ≠ 0 → exec .epochBankDrained s = .next s) ∧
  (∀ (r : YcpReq) (s : State), Accepted 0x0111 r s → reqBody r = [] → r.epoch = shadowEpoch s → shadowBusy s = false →
    ∃ n, n < 625000 ∧ Waits 0x0111 r { s with fresh := s.fresh + 1, ep := { s.ep with copyMbx := some r.mbx, copyLeft := n } }
      (exec (.bankCopy r) s)) ∧
  (∀ (r : YcpReq) (s : State), Accepted 0x0111 r s → reqBody r = [] → r.epoch = shadowEpoch s → shadowBusy s = true →
    Fails 0x0111 r stBUSY 0 s (exec (.bankCopy r) s)) ∧
  (∀ (r : YcpReq) (s : State), Accepted 0x0111 r s → reqBody r = [] → r.epoch ≠ shadowEpoch s →
    Fails 0x0111 r stSTALE_EPOCH 0 s (exec (.bankCopy r) s)) ∧
  (∀ (s : State), s.ep.copyMbx.isSome = true → shadowBusy s = true) ∧
  (∀ (s : State) (m : Fin 8), s.ep.copyMbx = some m →
    (s.ep.copyLeft ≠ 0 → ∃ t, exec (.aonTick none false) s = .next t ∧
      t.ep = { s.ep with copyLeft := s.ep.copyLeft - 1 } ∧ getMbx m t = getMbx m s) ∧
    (∀ q, s.ep.copyLeft = 0 → (getMbx m s).running = some (0x0111, q) → q.mbx = m → (getMbx m s).lost = false →
      ∃ t, exec (.aonTick none false) s = .next t ∧ t.ep.copyMbx = none ∧ t.ep.epoch = s.ep.epoch ∧
        t.ep.commit = s.ep.commit ∧ t.ep.dup = s.ep.dup ∧ (getMbx m t).busy = false ∧ (getMbx m t).lastStatus = stOK ∧
        (getMbx m t).lastSeq = q.seq ∧
        (halvesTaken s = false → t.ep.activeBank = s.ep.activeBank ∧ t.ep.shadowBank = s.ep.activeBank) ∧
        (∀ i, i < 32768 → bankRule t.ep.shadowBank i = bankRule s.ep.activeBank i ∧
          bankRule t.ep.activeBank i = bankRule s.ep.activeBank i) ∧
        (halvesTaken s = true → ∀ i, i < 32768 →
          bankRule t.ep.shadowBank (32768 + i) = bankRule s.ep.shadowBank (32768 + i))))

open Sys2Proof Sys2Proof.Machine in
/-- TCAM parity and the twin copies (R53, R65, R67): a failed entry is marked and reported, a repair copies its twin, the twin
copy and the clearing of the halves change the halves that they name. -/
def Obligations.TcamTwins : Prop :=
  (∀ (b : Bool) (n : Nat) (s : State), n < 65536 → ∃ t, exec (.tcamScrub (some (0, b, n))) s = .next t ∧
    tcamBad b n t = true ∧ (∀ c k, k < 65536 → (c, k) ≠ (b, n) → tcamBad c k t = tcamBad c k s) ∧
    t.mace.inflight = s.mace.inflight ++ [⟨if entryInUse b n s then 18 else 19, 65536 * b2n b + n, 0⟩] ∧
    t.ep.bank0 = s.ep.bank0 ∧ t.ep.bank1 = s.ep.bank1) ∧
  (∀ (k n : Nat) (b : Bool) (s : State), 1 ≤ k → k ≤ 5 → n < 4096 → ∃ t, exec (.tcamScrub (some (k, b, n))) s = .next t ∧
    parserBad b (k - 1) n t = true ∧ t.mace.inflight =
      s.mace.inflight ++ [⟨if k ≤ 2 then 16 else 17, (k - 1) * 4096 + n, 0⟩]) ∧
  (∀ (s : State), exec (.tcamScrub none) s = .next s) ∧
  (∀ (b : Bool) (n : Nat) (s : State), n < 65536 → tcamBad b n s = true → twinned b n s = true →
    tcamBad (twinOf b n).1 (twinOf b n).2 s = false →
    ∃ t, exec (.twinRepair b n) s = .next t ∧ tcamBad b n t = false ∧
      bankRule (t.ep.bank b) n = bankRule (s.ep.bank (twinOf b n).1) (twinOf b n).2 ∧
      (∀ c k, (c, k) ≠ (b, n) → bankRule (t.ep.bank c) k = bankRule (s.ep.bank c) k)) ∧
  (∀ (b : Bool) (n : Nat) (s : State), tcamBad b n s = false → exec (.twinRepair b n) s = .next s) ∧
  (∀ (s : State), s.ep.dup = .pending → ∃ t, exec .twinCopyDone s = .next t ∧ t.ep.dup = .active ∧
    t.ep.activeBank = s.ep.activeBank ∧
    ∀ i, i < 32768 → bankRule t.ep.shadowBank (32768 + i) = bankRule s.ep.activeBank i ∧
      bankRule t.ep.shadowBank i = bankRule s.ep.shadowBank i ∧ tcamBad (!s.ep.activeNo) (32768 + i) t = false) ∧
  (∀ (s : State), s.ep.dup ≠ .pending → exec .twinCopyDone s = .next s) ∧
  (∀ (s : State), s.ep.dup = .clearing → ∃ t, exec .twinHalfClearDone s = .next t ∧ t.ep.dup = .off ∧
    ∀ (b : Bool) (i : Nat), i < 32768 → bankRule (t.ep.bank b) (32768 + i) = zeros 176 ∧
      bankRule (t.ep.bank b) i = bankRule (s.ep.bank b) i ∧ tcamBad b (32768 + i) t = false) ∧
  (∀ (s : State), s.ep.dup ≠ .clearing → exec .twinHalfClearDone s = .next s)

open Sys2Proof Sys2Proof.Machine in
/-- Swaps of spares (R387, R485–R488, R490): SPARE_POLICY_SET, a swap started by name, and the end of a pipeline, a TCAM block
and an SRAM row swap. KIND and UNIT of SPARE_SWAP are the model's (log 48). -/
def Obligations.SpareSwaps : Prop :=
  (∀ (r : YcpReq) (s : State), Accepted 0x0108 r s → (reqBody r).length = 32 → policyLayout.clean (reqBody r) = true →
    policyLayout.inRange (reqBody r) = true →
    Does 0x0108 r [] { s with spare := { s.spare with policy := reqBody r } } (exec (.sparePolicySet r) s)) ∧
  (∀ (r : YcpReq) (s : State), Accepted 0x0108 r s → (reqBody r).length = 32 → policyLayout.clean (reqBody r) = true →
    policyLayout.inRange (reqBody r) = false → Fails 0x0108 r stRANGE 0 s (exec (.sparePolicySet r) s)) ∧
  (∀ (r : YcpReq) (s : State) (b n : Nat), Accepted 0x0109 r s → (reqBody r).length = 8 → fld (reqBody r) 0 4 = 2 →
    let pl := fld (reqBody r) 4 4
    pl < 17 → blockOfPipe pl s = some b → s.spare.swap = none → sparePipe false s = some n →
    domainOn (pipeDomain pl) s = true → domainOn (pipeDomain n) s = true → (∀ k, pipeDepthOf k s ≠ .powerGated) →
    ∃ p, p.domain = s.pwr.domain ∧ (∀ half, half < 2 →
        tget .active p.pipeDepth (2 * pl + half) = .active ∧ tget .active p.pipeDepth (2 * n + half) = .active) ∧
      Does 0x0109 r [] { s with
        spare := { s.spare with swap := some ⟨pl, n, b, false⟩ },
        buf := { s.buf with swapHeld := s.buf.swapHeld ||| portsMask (blockPorts b s) }, pwr := p } (exec (.spareSwap r) s)) ∧
  (∀ (r : YcpReq) (s : State) (t : Nat) (rest : List Nat), Accepted 0x0109 r s → (reqBody r).length = 8 →
    fld (reqBody r) 0 4 = 5 → let n := fld (reqBody r) 4 4
    n < 32 → (∀ x ∈ s.spare.tcamCopy, x.1 ≠ n) → s.spare.tcamFree = t :: rest →
    Does 0x0109 r [] { s with spare := { s.spare with tcamFree := rest, tcamCopy := s.spare.tcamCopy ++ [(n, t)] } }
      (exec (.spareSwap r) s)) ∧
  (∀ (r : YcpReq) (s : State), Accepted 0x0109 r s → (reqBody r).length = 8 →
    swapState (fld (reqBody r) 0 4) (fld (reqBody r) 4 4) false s ≠ stOK →
    Fails 0x0109 r (swapState (fld (reqBody r) 0 4) (fld (reqBody r) 4 4) false s) 0 s (exec (.spareSwap r) s)) ∧
  (∀ (w : PipeSwap) (s : State), s.spare.swap = some w → domainOn (pipeDomain w.new) s = false →
    exec .pipelineSwapDone s = .next s) ∧
  (∀ (w : PipeSwap) (s : State), s.spare.swap = some w → s.spare.pipeWait = [] → domainOn (pipeDomain w.new) s = true →
    ∃ t, exec .pipelineSwapDone s = .next t ∧ t.spare.swap = none ∧ t.spare.pipeOf w.block = w.new ∧
      (∀ b, b ≠ w.block → t.spare.pipeOf b = s.spare.pipeOf b) ∧
      (∀ p ∈ blockPorts w.block s, p < 64 → t.buf.swapHeld.getLsbD p = false) ∧
      (s.spare.otpLog.length < 512 → ∃ l, t.spare.otpLog = s.spare.otpLog ++ otpEntry 3 w.block w.old w.new :: l) ∧
      ⟨129, w.old, 0⟩ ∈ t.mace.inflight ∧ (∀ half, half < 2 → tget 0 t.mace.sentinelOwed (2 * w.old + half) = 1) ∧
      domainOn (pipeDomain w.new) t = true) ∧
  (∀ (s : State), s.spare.swap = none → exec .pipelineSwapDone s = .next s) ∧
  (∀ (n k : Nat) (rest : List (Nat × Nat)) (s : State), s.spare.tcamCopy = (n, k) :: rest →
    ∃ t, exec .tcamBlockSwapDone s = .next t ∧ physTcam n t = k ∧ t.spare.tcamCopy = rest ∧ t.ep = s.ep ∧
      getCtr .SPARE_SWAP 5 t = (getCtr .SPARE_SWAP 5 s + 1) % 2 ^ 64) ∧
  (∀ (s : State), s.spare.tcamCopy = [] → exec .tcamBlockSwapDone s = .next s) ∧
  (∀ (x : Nat) (rest : List Nat) (s : State), s.spare.rowPend = x :: rest →
    ∃ t, exec .sramRowReplaceDone s = .next t ∧ t.spare.rowPend = rest ∧
      tget 0 t.spare.rowsUsed (x / 1024) = tget 0 s.spare.rowsUsed (x / 1024) + 1 ∧
      getCtr .SPARE_SWAP 6 t = (getCtr .SPARE_SWAP 6 s + 1) % 2 ^ 64) ∧
  (∀ (s : State), s.spare.rowPend = [] → exec .sramRowReplaceDone s = .next s)

open Sys2Proof Sys2Proof.Machine in
/-- The sentinel (R393, R486; one result for the halves that run is the model's, log 10), wear samples (R489) and the swap policy (R490, R491). -/
def Obligations.ServiceLife : Prop :=
  (∀ (pl : Nat) (ok : Bool) (s : State), domainOn (pipeDomain pl) s = false → exec (.sentinelRun pl ok) s = .next s) ∧
  (∀ (pl h : Nat) (s : State), h ∈ sentinelHalves pl s ↔ h < 2 ∧ (pipeDepthOf (2 * pl + h) s ≠ .gated ∨ inMode mASSURED s = true)) ∧
  (∀ (pl : Nat) (ok : Bool) (s : State), domainOn (pipeDomain pl) s = true → ∃ t, exec (.sentinelRun pl ok) s = .next t ∧
    ∀ h, h < 2 → let k := 2 * pl + h
      (h ∉ sentinelHalves pl s → tget 0 t.mace.sentinelOwed k = 1 ∧ tget 0 t.mace.sentinel k = tget 0 s.mace.sentinel k ∧
        tget? t.mace.sentinelSig k = tget? s.mace.sentinelSig k) ∧
      (h ∈ sentinelHalves pl s → tget 0 t.mace.sentinelOwed k = 0 ∧ tget 0 t.mace.sentinel k = b2n ok ∧
        ∃ v, tget? t.mace.sentinelSig k = some v ∧ (ok = true ↔ v = Config.sentinelSig k))) ∧
  (∀ (pl : Nat) (ok : Bool) (s : State), domainOn (pipeDomain pl) s = true → sentinelHalves pl s = [] →
    exec (.sentinelRun pl ok) s = .next (oweSentinel pl s)) ∧
  (∀ (pl : Nat) (s : State), domainOn (pipeDomain pl) s = true → sentinelHalves pl s = [0, 1] →
    tget? s.spare.pipeJudge pl = none →
    exec (.sentinelRun pl true) s = .next (bump .SENTINEL_RUN pl (sentinelRan pl true 1 (sentinelRan pl true 0 s)))) ∧
  (∀ (pl : Nat) (s : State), domainOn (pipeDomain pl) s = true → sentinelHalves pl s ≠ [] →
    ∃ t, exec (.sentinelRun pl false) s = .next t ∧
      getCtr .SENTINEL_FAIL pl t = (getCtr .SENTINEL_FAIL pl s + 1) % 2 ^ 64 ∧
      t.mace.inflight = s.mace.inflight ++ [⟨112 + pl, pl, pipeScope pl s⟩]) ∧
  (∀ (pl n : Nat) (s : State), domainOn (pipeDomain pl) s = true → sentinelHalves pl s ≠ [] →
    tget? s.spare.pipeJudge pl = some n →
    ∃ t, exec (.sentinelRun pl true) s = .next t ∧
      (n % 16 < 2 → tget? t.spare.pipeJudge pl = some (n + 1) ∧ pipeMark pl t = pipeMark pl s) ∧
      (2 ≤ n % 16 → tget? t.spare.pipeJudge pl = none ∧ pipeMark pl t = if 16 ≤ n then 2 else 0)) ∧
  (∀ (ro : List Nat) (s : State), today s = s.spare.wearDay →
    ∃ t, exec (.wearSample ro) s = .next t ∧ (∀ k v, k < 130 → ro[k]? = some v → tget 0 t.spare.roShift k = v) ∧
      t = { s with spare := t.spare } ∧ t.spare = { s.spare with roShift := t.spare.roShift, wearSum := t.spare.wearSum }) ∧
  (∀ (s : State), polBit 0 s = false → exec .sparePolicyEvaluation s = .next s) ∧
  (∀ (s : State), today s = s.spare.wearDay → s.spare.running.isSome = true → exec .sparePolicyEvaluation s = .next s) ∧
  (∀ (s : State) (u : Nat), today s = s.spare.wearDay → polBit 0 s = true → s.spare.running = none →
    (∀ k, 1 ≤ k → k < 5 → policyUnit k s = none) → policyUnit 5 s = some u →
    ∃ c, s.spare.tcamFree.head? = some c ∧ exec .sparePolicyEvaluation s = .next { s with spare := { s.spare with
      running := some (5, u), tcamFree := s.spare.tcamFree.tail, tcamCopy := s.spare.tcamCopy ++ [(u, c)] } }) ∧
  (∀ (s : State) (k u : Nat), s.spare.waiting = some (k, u) → polBit 0 s = true → windowOpen s = true →
    s.spare.running = none → swapState k u true { s with spare := { s.spare with waiting := none } } = stOK →
    exec .spareWindowOpen s = .next (startPolicy k u { s with spare := { s.spare with waiting := none } })) ∧
  (∀ (s : State), s.spare.waiting = none ∨ windowOpen s = false → exec .spareWindowOpen s = .next s)

open Sys2Proof Sys2Proof.Machine in
/-- The observation port and the trace (R495–R498, R501–R505, R511): transactions change only what the port drives and its
OBS_STATUS, an address outside the map reads 0, and a record is written whole. Operation codes of TRACE_CTRL are the
model's (log 11). -/
def Obligations.ObservationAndTrace : Prop :=
  (∀ (a n : Nat) (s : State), let ws := (List.range n).map fun k => obsWord s (a / 4 * 4 + 4 * k)
    exec (.obsRead a n) s = .next { s with obs := { s.obs with
      sdo := (ws.map fun w => leBytes 4 w.val).flatten, notReady := ws.any (·.notReady), ue := ws.any (·.ue),
      map := ws.any (·.map), badCmd := false, words := min n (2 ^ 24 - 1) } }) ∧
  (∀ (a : Nat) (s : State), 0x300000000 ≤ a → a < 2 ^ 40 → obsWord s a = { val := 0, notReady := false, map := true }) ∧
  (∀ (a : Nat) (s : State), 0x1000000 ≤ a → a < 0x1800000 → domainOn domCORE s = false →
    obsWord s a = { val := 0, notReady := true, map := false }) ∧
  (∀ (a : Nat) (s : State), 0x1000000 ≤ a → a < 0x1800000 → domainOn domCORE s = true →
    traceBad s ((a - 0x1000000) / 32) = true → obsWord s a = { val := 0, notReady := false, map := false, ue := true }) ∧
  (∀ (s : State) (v : Nat),
    v = b2n s.obs.notReady + 2 * b2n s.obs.ue + 4 * b2n s.obs.map + 8 * b2n s.obs.badCmd + 256 * s.obs.words →
    exec .obsStatus s = .next { s with obs := { s.obs with sdo := leBytes 4 v } }) ∧
  (∀ (s : State), exec .obsIdent s = .next { s with obs := { s.obs with
    sdo := [0x60, 0x09] ++ leBytes 1 Config.stepping.toNat ++ leBytes 1 s.host.devid ++ [1, 0, 0, 0] } }) ∧
  (∀ (b : Byte) (s : State), b ≠ 0x03 → b ≠ 0x05 → b ≠ 0x9F →
    exec (.obsBadCmd b) s = .next { s with obs := { s.obs with badCmd := true, sdo := [0xFF] } }) ∧
  (∀ (r : YcpReq) (s : State), Accepted 0x0D20 r s → let b := reqBody r
    b.length = 146 → traceSetLayout.clean b = true → fld b 0 1 = 1 ∨ fld b 0 1 = 2 → traceSetLayout.inRange b = true →
    fld b 4 2 < 256 ∨ fld b 4 2 = 0xFFFF →
    (s.obs.trc = .running → Fails 0x0D20 r stBUSY 0 s (exec (.traceSet r) s)) ∧
    (s.obs.trc ≠ .running → ∃ f, (∀ k, k < 8 → tget (zeros 16) f k = slice b (18 + 16 * k) 16) ∧
      Does 0x0D20 r [] { s with obs := { s.obs with
        trcMode := fld b 0 1, trcTypes := fld b 2 2, stopSrc := fld b 4 2, post := fld b 6 4,
        gatePorts := BitVec.ofNat 64 (fld b 10 8), filters := f, filterHits := [] } } (exec (.traceSet r) s))) ∧
  (∀ (r : YcpReq) (s : State) (o : Host.Outcome State Fault Refusal), Accepted 0x0D21 r s → (reqBody r).length = 4 →
    o = exec (.traceStart r) s ∨ o = exec (.traceStop r) s ∨ o = exec (.traceClear r) s →
    (fld (reqBody r) 0 4 = 1 → Does 0x0D21 r [] { s with obs := { s.obs with trc := .running, postLeft := none } } o) ∧
    (fld (reqBody r) 0 4 = 2 → s.obs.trc = .running →
      Does 0x0D21 r [] { s with obs := { s.obs with trc := .stopped, fifo := [], postLeft := none } } o) ∧
    (fld (reqBody r) 0 4 = 3 → s.obs.trc ≠ .running →
      Does 0x0D21 r [] { s with obs := { s.obs with trcSeq := 0, trcWr := 0, wrapped := false, fifo := [] } } o) ∧
    (fld (reqBody r) 0 4 = 3 → s.obs.trc = .running → Fails 0x0D21 r stBUSY 0 s o)) ∧
  (∀ (r : YcpReq) (s : State), Accepted 0x0D23 r s → (reqBody r).length = 16 →
    (s.obs.trc ≠ .running → Does 0x0D23 r [] s (exec (.traceMark r) s)) ∧
    (s.obs.trc = .running → bit s.obs.trcTypes 9 = true → (s.obs.fifo.filter fun x => x.type == 9).length < 64 →
      Does 0x0D23 r [] { s with obs := { s.obs with fifo := s.obs.fifo ++ [⟨9, 0, now302 s, reqBody r⟩] } }
        (exec (.traceMark r) s))) ∧
  (∀ (s : State), s.obs.trc ≠ .running ∨ s.obs.fifo = [] → exec .traceRecordWrite s = .next s) ∧
  (∀ (s : State) (x : TraceRec) (rest : List TraceRec), s.obs.trc = .running → s.obs.fifo = x :: rest → x.type ≠ 2 →
    s.obs.trcWr < 262144 →
    (s.obs.trcMode = 1 → s.obs.postLeft = none → ∃ t, exec .traceRecordWrite s = .next t ∧
      traceSlot t s.obs.trcWr = traceBytes s.obs.trcSeq x ∧
      (∀ k, k ≠ s.obs.trcWr → traceSlot t k = traceSlot s k) ∧ t.obs = { s.obs with
        slots := t.obs.slots, slotBad := t.obs.slotBad, fifo := rest, trcWr := (s.obs.trcWr + 1) % 262144, trcSeq := s.obs.trcSeq + 1,
        wrapped := s.obs.wrapped || decide (262144 ≤ s.obs.trcWr + 1) }) ∧
    (s.obs.postLeft = some 1 → s.obs.trcMode = 1 → ∃ t, exec .traceRecordWrite s = .next t ∧ t.obs.trc = .frozen ∧
      t.obs.fifo = [] ∧ t.obs.trcSeq = s.obs.trcSeq + 1) ∧
    (s.obs.trcMode = 2 → s.obs.wrapped = true → ∃ t, exec .traceRecordWrite s = .next t ∧
      t.obs = { s.obs with trc := .stopped, fifo := [], postLeft := none }))

open Sys2Proof Sys2Proof.Machine in
/-- Arming of the impairment units and the frames that they choose (R506–R512): a token, its confirmation, and every end of an
armed unit. Which token is given is a free value (log 2). -/
def Obligations.ImpairmentUnits : Prop :=
  (∀ (r : YcpReq) (s : State) (o : Host.Outcome State Fault Refusal), Accepted 0x0D31 r s →
    o = exec (.impairRequest r) s ∨ o = exec (.impairConfirm r) s ∨ o = exec (.impairDisarm r) s →
    let b := reqBody r
    let m := BitVec.ofNat 64 (fld b 4 8)
    let mine : ImpToken := ⟨fld b 12 4, r.mbx.val, m⟩
    let void := { s with obs := { s.obs with token := none, expired := none } }
    b.length = 20 → fld b 16 4 = 0 → (masksUnused m s = true → Fails 0x0D31 r stINVALID 0 s o) ∧ (masksUnused m s = false →
    (fld b 0 4 = 1 → inMode mASSURED s = false → 4 ≤ room r → ∃ k, 0 < k ∧ k < 2 ^ 32 ∧
      Does 0x0D31 r (leBytes 4 k) { s with
        fresh := s.fresh + 1, obs := { s.obs with token := some ⟨k, r.mbx.val, m⟩, expired := none } } o) ∧
    (fld b 0 4 = 1 → inMode mASSURED s = true → Fails 0x0D31 r stDENIED 0 s o) ∧
    (fld b 0 4 = 2 → inMode mASSURED s = false → s.obs.token = some mine → ∃ u, Does 0x0D31 r [] u o ∧
      (∀ p, p < 64 → m.getLsbD p = true → impUnit p u = { impUnit p s with
        armed := true, lfsr := if impSeed (impUnit p s).record = 0 then 1 else impSeed (impUnit p s).record, seen := 0,
        armedAt := s.time.free } ∧ getCtr .ARMS p u = (getCtr .ARMS p s + 1) % 2 ^ 64) ∧
      (∀ p, p < 64 → m.getLsbD p = false → impUnit p u = impUnit p s) ∧ u.obs.token = none ∧ u.obs.expired = none ∧
      ∃ l, u.mace.inflight = s.mace.inflight ++ ⟨232, 0, m⟩ :: l) ∧
    (fld b 0 4 = 2 → inMode mASSURED s = false → s.obs.token ≠ some mine → s.obs.expired ≠ some mine →
      ∃ t, o = .next t ∧ Reports (answered 0x0D31 r stTOKEN 0 [] false false void) t) ∧
    (fld b 0 4 = 2 → inMode mASSURED s = false → s.obs.token ≠ some mine → s.obs.expired = some mine →
      ∃ t, o = .next t ∧ Reports (answered 0x0D31 r stTIMEOUT 0 [] false false void) t) ∧
    (fld b 0 4 = 2 → inMode mASSURED s = true → ∃ t, o = .next t ∧
      Reports (answered 0x0D31 r stDENIED 0 [] false false { s with obs := { s.obs with token := none } }) t) ∧
    (fld b 0 4 = 3 → Does 0x0D31 r [] (disarmAll 1 m s) o))) ∧
  (∀ (ev : Nat) (m : BitVec 64) (s : State), (∀ p, p < 64 → (impUnit p s).held = none) → ∀ p, p < 64 →
    impUnit p (disarmAll ev m s) =
      if m.getLsbD p then { impUnit p s with armed := false } else impUnit p s) ∧
  (∀ (p : Nat) (s : State), p < 64 → exec (.impairArmTimeExpiry p) s = .next (disarmAll 2 (portMask p) s) ∧
    ((impUnit p s).armed = false → exec (.impairArmTimeExpiry p) s = .next s)) ∧
  (∀ (s : State) (t : ImpToken), s.obs.token = some t → exec .impairTokenExpiry s =
    .next { s with obs := { s.obs with token := none, expired := some t } }) ∧
  (∀ (s : State), s.obs.token = none → exec .impairTokenExpiry s = .next s) ∧
  (∀ (u : ImpUnit),
    (impSel u.record = 0 → impChoose u = (true, { u with seen := u.seen + 1 })) ∧
    (impSel u.record = 1 → impChoose u = (decide (lfsrNext u.lfsr < impThresh u.record), { u with
      lfsr := lfsrNext u.lfsr, seen := u.seen + 1 })) ∧
    (impSel u.record = 2 → 1 ≤ impPeriod u.record →
      impChoose u = (decide (u.seen % impPeriod u.record < impCount u.record), { u with seen := u.seen + 1 }))) ∧
  (∀ (p d : Nat) (s : State), (impUnit p s).armed = false ∨ impEligible p (getFrame d s) (impUnit p s).record s = false →
    impEgress p d s = (.pass, s))
end

