-- ==== Sys2Proof/Laws/Bytes.lean ====
section
/-!
SUPPORT. The laws of byte strings and their little-endian fields.
-/
namespace Sys2Proof.Machine

@[simp] theorem leBytes_length (n v : Nat) : (leBytes n v).length = n := by
  induction n generalizing v with
  | zero => rfl
  | succ n ih => simp [leBytes, ih]

@[simp] theorem zeros_length (n : Nat) : (zeros n).length = n := by simp [zeros]

theorem leNat_leBytes (n v : Nat) : leNat (leBytes n v) = v % 256 ^ n := by
  induction n generalizing v with
  | zero => simp [leBytes, leNat, Nat.mod_one]
  | succ n ih =>
    have h : v % 256 ^ (n + 1) = v % 256 + 256 * (v / 256 % 256 ^ n) := by
      rw [Nat.pow_succ, Nat.mul_comm, Nat.mod_mul]
    simp [leBytes, leNat, ih, h]

theorem leNat_zeros (n : Nat) : leNat (zeros n) = 0 := by
  induction n with
  | zero => rfl
  | succ n ih =>
    have : zeros (n + 1) = 0 :: zeros n := rfl
    simp [this, leNat, ih]

@[simp] theorem fit_length (n : Nat) (b : Bytes) : (fit n b).length = n := by
  simp [fit]
  omega

theorem fit_self {n : Nat} {b : Bytes} (h : b.length = n) : fit n b = b := by
  subst h
  simp [fit, zeros]

/-- A string cut to the length of its first part. -/
theorem fit_append {n : Nat} {a b : Bytes} (h : a.length = n) : fit n (a ++ b) = a := by
  subst h
  simp [fit, zeros]

@[simp] theorem slice_length (b : Bytes) (o n : Nat) : (slice b o n).length = n := fit_length _ _

/-- The first field of a string. -/
theorem slice_append_left {n : Nat} {a b : Bytes} (h : a.length = n) : slice (a ++ b) 0 n = a := by
  simp [slice, fit_append h]

/-- A field behind the first part of a string. -/
theorem slice_append_right {o n k : Nat} {a b : Bytes} (h : a.length = k) (ho : k ≤ o) :
    slice (a ++ b) o n = slice b (o - k) n := by
  subst h
  unfold slice
  rw [List.drop_append]
  have : a.drop o = [] := List.drop_of_length_le ho
  rw [this, List.nil_append]

theorem slice_self {n : Nat} {b : Bytes} (h : b.length = n) : slice b 0 n = b := by
  simp [slice, fit_self h]

theorem fld_append_left {n : Nat} {a b : Bytes} (h : a.length = n) : fld (a ++ b) 0 n = leNat a := by
  rw [fld, slice_append_left h]

theorem fld_append_right {o n k : Nat} {a b : Bytes} (h : a.length = k) (ho : k ≤ o) :
    fld (a ++ b) o n = fld b (o - k) n := by
  rw [fld, slice_append_right h ho, ← fld]

theorem leNat_lt (b : Bytes) : leNat b < 256 ^ b.length := by
  induction b with
  | nil => simp [leNat]
  | cons x b ih =>
    simp only [leNat, List.length_cons, Nat.pow_succ]
    have := x.isLt
    omega

theorem fld_lt (b : Bytes) (o n : Nat) : fld b o n < 256 ^ n := by
  have := leNat_lt (slice b o n)
  rwa [slice_length] at this

end Sys2Proof.Machine
end

