-- ==== Sys2Proof/Laws/State.lean ====
section
/-!
SUPPORT. One lemma per field per update of State, true by rfl.
-/
namespace Sys2Proof.Machine

/-! setHost -/

section
variable (x : HostState) (s : State)
@[simp] theorem setHost_pending : (setHost x s).pending = s.pending := rfl
@[simp] theorem setHost_host : (setHost x s).host = x := rfl
@[simp] theorem setHost_fw : (setHost x s).fw = s.fw := rfl
@[simp] theorem setHost_ep : (setHost x s).ep = s.ep := rfl
@[simp] theorem setHost_time : (setHost x s).time = s.time := rfl
@[simp] theorem setHost_mace : (setHost x s).mace = s.mace := rfl
@[simp] theorem setHost_pwr : (setHost x s).pwr = s.pwr := rfl
@[simp] theorem setHost_pins : (setHost x s).pins = s.pins := rfl
@[simp] theorem setHost_obs : (setHost x s).obs = s.obs := rfl
@[simp] theorem setHost_sched : (setHost x s).sched = s.sched := rfl
@[simp] theorem setHost_buf : (setHost x s).buf = s.buf := rfl
@[simp] theorem setHost_lanes : (setHost x s).lanes = s.lanes := rfl
@[simp] theorem setHost_spare : (setHost x s).spare = s.spare := rfl
@[simp] theorem setHost_hbm : (setHost x s).hbm = s.hbm := rfl
@[simp] theorem setHost_join : (setHost x s).join = s.join := rfl
@[simp] theorem setHost_look : (setHost x s).look = s.look := rfl
@[simp] theorem setHost_flow : (setHost x s).flow = s.flow := rfl
@[simp] theorem setHost_task : (setHost x s).task = s.task := rfl
@[simp] theorem setHost_svc : (setHost x s).svc = s.svc := rfl
@[simp] theorem setHost_ctr : (setHost x s).ctr = s.ctr := rfl
@[simp] theorem setHost_fresh : (setHost x s).fresh = s.fresh := rfl
@[simp] theorem setHost_setHost (y : HostState) : setHost y (setHost x s) = setHost y s := rfl
end

/-! setFw -/

section
variable (x : FwState) (s : State)
@[simp] theorem setFw_pending : (setFw x s).pending = s.pending := rfl
@[simp] theorem setFw_host : (setFw x s).host = s.host := rfl
@[simp] theorem setFw_fw : (setFw x s).fw = x := rfl
@[simp] theorem setFw_ep : (setFw x s).ep = s.ep := rfl
@[simp] theorem setFw_time : (setFw x s).time = s.time := rfl
@[simp] theorem setFw_mace : (setFw x s).mace = s.mace := rfl
@[simp] theorem setFw_pwr : (setFw x s).pwr = s.pwr := rfl
@[simp] theorem setFw_pins : (setFw x s).pins = s.pins := rfl
@[simp] theorem setFw_obs : (setFw x s).obs = s.obs := rfl
@[simp] theorem setFw_sched : (setFw x s).sched = s.sched := rfl
@[simp] theorem setFw_buf : (setFw x s).buf = s.buf := rfl
@[simp] theorem setFw_lanes : (setFw x s).lanes = s.lanes := rfl
@[simp] theorem setFw_spare : (setFw x s).spare = s.spare := rfl
@[simp] theorem setFw_hbm : (setFw x s).hbm = s.hbm := rfl
@[simp] theorem setFw_join : (setFw x s).join = s.join := rfl
@[simp] theorem setFw_look : (setFw x s).look = s.look := rfl
@[simp] theorem setFw_flow : (setFw x s).flow = s.flow := rfl
@[simp] theorem setFw_task : (setFw x s).task = s.task := rfl
@[simp] theorem setFw_svc : (setFw x s).svc = s.svc := rfl
@[simp] theorem setFw_ctr : (setFw x s).ctr = s.ctr := rfl
@[simp] theorem setFw_fresh : (setFw x s).fresh = s.fresh := rfl
@[simp] theorem setFw_setFw (y : FwState) : setFw y (setFw x s) = setFw y s := rfl
end

/-! setEp -/

section
variable (x : EpochState) (s : State)
@[simp] theorem setEp_pending : (setEp x s).pending = s.pending := rfl
@[simp] theorem setEp_host : (setEp x s).host = s.host := rfl
@[simp] theorem setEp_fw : (setEp x s).fw = s.fw := rfl
@[simp] theorem setEp_ep : (setEp x s).ep = x := rfl
@[simp] theorem setEp_time : (setEp x s).time = s.time := rfl
@[simp] theorem setEp_mace : (setEp x s).mace = s.mace := rfl
@[simp] theorem setEp_pwr : (setEp x s).pwr = s.pwr := rfl
@[simp] theorem setEp_pins : (setEp x s).pins = s.pins := rfl
@[simp] theorem setEp_obs : (setEp x s).obs = s.obs := rfl
@[simp] theorem setEp_sched : (setEp x s).sched = s.sched := rfl
@[simp] theorem setEp_buf : (setEp x s).buf = s.buf := rfl
@[simp] theorem setEp_lanes : (setEp x s).lanes = s.lanes := rfl
@[simp] theorem setEp_spare : (setEp x s).spare = s.spare := rfl
@[simp] theorem setEp_hbm : (setEp x s).hbm = s.hbm := rfl
@[simp] theorem setEp_join : (setEp x s).join = s.join := rfl
@[simp] theorem setEp_look : (setEp x s).look = s.look := rfl
@[simp] theorem setEp_flow : (setEp x s).flow = s.flow := rfl
@[simp] theorem setEp_task : (setEp x s).task = s.task := rfl
@[simp] theorem setEp_svc : (setEp x s).svc = s.svc := rfl
@[simp] theorem setEp_ctr : (setEp x s).ctr = s.ctr := rfl
@[simp] theorem setEp_fresh : (setEp x s).fresh = s.fresh := rfl
@[simp] theorem setEp_setEp (y : EpochState) : setEp y (setEp x s) = setEp y s := rfl
end

/-! setTime -/

section
variable (x : TimeState) (s : State)
@[simp] theorem setTime_pending : (setTime x s).pending = s.pending := rfl
@[simp] theorem setTime_host : (setTime x s).host = s.host := rfl
@[simp] theorem setTime_fw : (setTime x s).fw = s.fw := rfl
@[simp] theorem setTime_ep : (setTime x s).ep = s.ep := rfl
@[simp] theorem setTime_time : (setTime x s).time = x := rfl
@[simp] theorem setTime_mace : (setTime x s).mace = s.mace := rfl
@[simp] theorem setTime_pwr : (setTime x s).pwr = s.pwr := rfl
@[simp] theorem setTime_pins : (setTime x s).pins = s.pins := rfl
@[simp] theorem setTime_obs : (setTime x s).obs = s.obs := rfl
@[simp] theorem setTime_sched : (setTime x s).sched = s.sched := rfl
@[simp] theorem setTime_buf : (setTime x s).buf = s.buf := rfl
@[simp] theorem setTime_lanes : (setTime x s).lanes = s.lanes := rfl
@[simp] theorem setTime_spare : (setTime x s).spare = s.spare := rfl
@[simp] theorem setTime_hbm : (setTime x s).hbm = s.hbm := rfl
@[simp] theorem setTime_join : (setTime x s).join = s.join := rfl
@[simp] theorem setTime_look : (setTime x s).look = s.look := rfl
@[simp] theorem setTime_flow : (setTime x s).flow = s.flow := rfl
@[simp] theorem setTime_task : (setTime x s).task = s.task := rfl
@[simp] theorem setTime_svc : (setTime x s).svc = s.svc := rfl
@[simp] theorem setTime_ctr : (setTime x s).ctr = s.ctr := rfl
@[simp] theorem setTime_fresh : (setTime x s).fresh = s.fresh := rfl
@[simp] theorem setTime_setTime (y : TimeState) : setTime y (setTime x s) = setTime y s := rfl
end

/-! setMace -/

section
variable (x : MaceState) (s : State)
@[simp] theorem setMace_pending : (setMace x s).pending = s.pending := rfl
@[simp] theorem setMace_host : (setMace x s).host = s.host := rfl
@[simp] theorem setMace_fw : (setMace x s).fw = s.fw := rfl
@[simp] theorem setMace_ep : (setMace x s).ep = s.ep := rfl
@[simp] theorem setMace_time : (setMace x s).time = s.time := rfl
@[simp] theorem setMace_mace : (setMace x s).mace = x := rfl
@[simp] theorem setMace_pwr : (setMace x s).pwr = s.pwr := rfl
@[simp] theorem setMace_pins : (setMace x s).pins = s.pins := rfl
@[simp] theorem setMace_obs : (setMace x s).obs = s.obs := rfl
@[simp] theorem setMace_sched : (setMace x s).sched = s.sched := rfl
@[simp] theorem setMace_buf : (setMace x s).buf = s.buf := rfl
@[simp] theorem setMace_lanes : (setMace x s).lanes = s.lanes := rfl
@[simp] theorem setMace_spare : (setMace x s).spare = s.spare := rfl
@[simp] theorem setMace_hbm : (setMace x s).hbm = s.hbm := rfl
@[simp] theorem setMace_join : (setMace x s).join = s.join := rfl
@[simp] theorem setMace_look : (setMace x s).look = s.look := rfl
@[simp] theorem setMace_flow : (setMace x s).flow = s.flow := rfl
@[simp] theorem setMace_task : (setMace x s).task = s.task := rfl
@[simp] theorem setMace_svc : (setMace x s).svc = s.svc := rfl
@[simp] theorem setMace_ctr : (setMace x s).ctr = s.ctr := rfl
@[simp] theorem setMace_fresh : (setMace x s).fresh = s.fresh := rfl
@[simp] theorem setMace_setMace (y : MaceState) : setMace y (setMace x s) = setMace y s := rfl
end

/-! setPwr -/

section
variable (x : PowerState) (s : State)
@[simp] theorem setPwr_pending : (setPwr x s).pending = s.pending := rfl
@[simp] theorem setPwr_host : (setPwr x s).host = s.host := rfl
@[simp] theorem setPwr_fw : (setPwr x s).fw = s.fw := rfl
@[simp] theorem setPwr_ep : (setPwr x s).ep = s.ep := rfl
@[simp] theorem setPwr_time : (setPwr x s).time = s.time := rfl
@[simp] theorem setPwr_mace : (setPwr x s).mace = s.mace := rfl
@[simp] theorem setPwr_pwr : (setPwr x s).pwr = x := rfl
@[simp] theorem setPwr_pins : (setPwr x s).pins = s.pins := rfl
@[simp] theorem setPwr_obs : (setPwr x s).obs = s.obs := rfl
@[simp] theorem setPwr_sched : (setPwr x s).sched = s.sched := rfl
@[simp] theorem setPwr_buf : (setPwr x s).buf = s.buf := rfl
@[simp] theorem setPwr_lanes : (setPwr x s).lanes = s.lanes := rfl
@[simp] theorem setPwr_spare : (setPwr x s).spare = s.spare := rfl
@[simp] theorem setPwr_hbm : (setPwr x s).hbm = s.hbm := rfl
@[simp] theorem setPwr_join : (setPwr x s).join = s.join := rfl
@[simp] theorem setPwr_look : (setPwr x s).look = s.look := rfl
@[simp] theorem setPwr_flow : (setPwr x s).flow = s.flow := rfl
@[simp] theorem setPwr_task : (setPwr x s).task = s.task := rfl
@[simp] theorem setPwr_svc : (setPwr x s).svc = s.svc := rfl
@[simp] theorem setPwr_ctr : (setPwr x s).ctr = s.ctr := rfl
@[simp] theorem setPwr_fresh : (setPwr x s).fresh = s.fresh := rfl
@[simp] theorem setPwr_setPwr (y : PowerState) : setPwr y (setPwr x s) = setPwr y s := rfl
end

/-! setPins -/

section
variable (x : PinState) (s : State)
@[simp] theorem setPins_pending : (setPins x s).pending = s.pending := rfl
@[simp] theorem setPins_host : (setPins x s).host = s.host := rfl
@[simp] theorem setPins_fw : (setPins x s).fw = s.fw := rfl
@[simp] theorem setPins_ep : (setPins x s).ep = s.ep := rfl
@[simp] theorem setPins_time : (setPins x s).time = s.time := rfl
@[simp] theorem setPins_mace : (setPins x s).mace = s.mace := rfl
@[simp] theorem setPins_pwr : (setPins x s).pwr = s.pwr := rfl
@[simp] theorem setPins_pins : (setPins x s).pins = x := rfl
@[simp] theorem setPins_obs : (setPins x s).obs = s.obs := rfl
@[simp] theorem setPins_sched : (setPins x s).sched = s.sched := rfl
@[simp] theorem setPins_buf : (setPins x s).buf = s.buf := rfl
@[simp] theorem setPins_lanes : (setPins x s).lanes = s.lanes := rfl
@[simp] theorem setPins_spare : (setPins x s).spare = s.spare := rfl
@[simp] theorem setPins_hbm : (setPins x s).hbm = s.hbm := rfl
@[simp] theorem setPins_join : (setPins x s).join = s.join := rfl
@[simp] theorem setPins_look : (setPins x s).look = s.look := rfl
@[simp] theorem setPins_flow : (setPins x s).flow = s.flow := rfl
@[simp] theorem setPins_task : (setPins x s).task = s.task := rfl
@[simp] theorem setPins_svc : (setPins x s).svc = s.svc := rfl
@[simp] theorem setPins_ctr : (setPins x s).ctr = s.ctr := rfl
@[simp] theorem setPins_fresh : (setPins x s).fresh = s.fresh := rfl
@[simp] theorem setPins_setPins (y : PinState) : setPins y (setPins x s) = setPins y s := rfl
end

/-! setObs -/

section
variable (x : ObsState) (s : State)
@[simp] theorem setObs_pending : (setObs x s).pending = s.pending := rfl
@[simp] theorem setObs_host : (setObs x s).host = s.host := rfl
@[simp] theorem setObs_fw : (setObs x s).fw = s.fw := rfl
@[simp] theorem setObs_ep : (setObs x s).ep = s.ep := rfl
@[simp] theorem setObs_time : (setObs x s).time = s.time := rfl
@[simp] theorem setObs_mace : (setObs x s).mace = s.mace := rfl
@[simp] theorem setObs_pwr : (setObs x s).pwr = s.pwr := rfl
@[simp] theorem setObs_pins : (setObs x s).pins = s.pins := rfl
@[simp] theorem setObs_obs : (setObs x s).obs = x := rfl
@[simp] theorem setObs_sched : (setObs x s).sched = s.sched := rfl
@[simp] theorem setObs_buf : (setObs x s).buf = s.buf := rfl
@[simp] theorem setObs_lanes : (setObs x s).lanes = s.lanes := rfl
@[simp] theorem setObs_spare : (setObs x s).spare = s.spare := rfl
@[simp] theorem setObs_hbm : (setObs x s).hbm = s.hbm := rfl
@[simp] theorem setObs_join : (setObs x s).join = s.join := rfl
@[simp] theorem setObs_look : (setObs x s).look = s.look := rfl
@[simp] theorem setObs_flow : (setObs x s).flow = s.flow := rfl
@[simp] theorem setObs_task : (setObs x s).task = s.task := rfl
@[simp] theorem setObs_svc : (setObs x s).svc = s.svc := rfl
@[simp] theorem setObs_ctr : (setObs x s).ctr = s.ctr := rfl
@[simp] theorem setObs_fresh : (setObs x s).fresh = s.fresh := rfl
@[simp] theorem setObs_setObs (y : ObsState) : setObs y (setObs x s) = setObs y s := rfl
end

/-! setSched -/

section
variable (x : SchedState) (s : State)
@[simp] theorem setSched_pending : (setSched x s).pending = s.pending := rfl
@[simp] theorem setSched_host : (setSched x s).host = s.host := rfl
@[simp] theorem setSched_fw : (setSched x s).fw = s.fw := rfl
@[simp] theorem setSched_ep : (setSched x s).ep = s.ep := rfl
@[simp] theorem setSched_time : (setSched x s).time = s.time := rfl
@[simp] theorem setSched_mace : (setSched x s).mace = s.mace := rfl
@[simp] theorem setSched_pwr : (setSched x s).pwr = s.pwr := rfl
@[simp] theorem setSched_pins : (setSched x s).pins = s.pins := rfl
@[simp] theorem setSched_obs : (setSched x s).obs = s.obs := rfl
@[simp] theorem setSched_sched : (setSched x s).sched = x := rfl
@[simp] theorem setSched_buf : (setSched x s).buf = s.buf := rfl
@[simp] theorem setSched_lanes : (setSched x s).lanes = s.lanes := rfl
@[simp] theorem setSched_spare : (setSched x s).spare = s.spare := rfl
@[simp] theorem setSched_hbm : (setSched x s).hbm = s.hbm := rfl
@[simp] theorem setSched_join : (setSched x s).join = s.join := rfl
@[simp] theorem setSched_look : (setSched x s).look = s.look := rfl
@[simp] theorem setSched_flow : (setSched x s).flow = s.flow := rfl
@[simp] theorem setSched_task : (setSched x s).task = s.task := rfl
@[simp] theorem setSched_svc : (setSched x s).svc = s.svc := rfl
@[simp] theorem setSched_ctr : (setSched x s).ctr = s.ctr := rfl
@[simp] theorem setSched_fresh : (setSched x s).fresh = s.fresh := rfl
@[simp] theorem setSched_setSched (y : SchedState) : setSched y (setSched x s) = setSched y s := rfl
end

/-! setBuf -/

section
variable (x : BufState) (s : State)
@[simp] theorem setBuf_pending : (setBuf x s).pending = s.pending := rfl
@[simp] theorem setBuf_host : (setBuf x s).host = s.host := rfl
@[simp] theorem setBuf_fw : (setBuf x s).fw = s.fw := rfl
@[simp] theorem setBuf_ep : (setBuf x s).ep = s.ep := rfl
@[simp] theorem setBuf_time : (setBuf x s).time = s.time := rfl
@[simp] theorem setBuf_mace : (setBuf x s).mace = s.mace := rfl
@[simp] theorem setBuf_pwr : (setBuf x s).pwr = s.pwr := rfl
@[simp] theorem setBuf_pins : (setBuf x s).pins = s.pins := rfl
@[simp] theorem setBuf_obs : (setBuf x s).obs = s.obs := rfl
@[simp] theorem setBuf_sched : (setBuf x s).sched = s.sched := rfl
@[simp] theorem setBuf_buf : (setBuf x s).buf = x := rfl
@[simp] theorem setBuf_lanes : (setBuf x s).lanes = s.lanes := rfl
@[simp] theorem setBuf_spare : (setBuf x s).spare = s.spare := rfl
@[simp] theorem setBuf_hbm : (setBuf x s).hbm = s.hbm := rfl
@[simp] theorem setBuf_join : (setBuf x s).join = s.join := rfl
@[simp] theorem setBuf_look : (setBuf x s).look = s.look := rfl
@[simp] theorem setBuf_flow : (setBuf x s).flow = s.flow := rfl
@[simp] theorem setBuf_task : (setBuf x s).task = s.task := rfl
@[simp] theorem setBuf_svc : (setBuf x s).svc = s.svc := rfl
@[simp] theorem setBuf_ctr : (setBuf x s).ctr = s.ctr := rfl
@[simp] theorem setBuf_fresh : (setBuf x s).fresh = s.fresh := rfl
@[simp] theorem setBuf_setBuf (y : BufState) : setBuf y (setBuf x s) = setBuf y s := rfl
end

/-! setLanes -/

section
variable (x : LaneState) (s : State)
@[simp] theorem setLanes_pending : (setLanes x s).pending = s.pending := rfl
@[simp] theorem setLanes_host : (setLanes x s).host = s.host := rfl
@[simp] theorem setLanes_fw : (setLanes x s).fw = s.fw := rfl
@[simp] theorem setLanes_ep : (setLanes x s).ep = s.ep := rfl
@[simp] theorem setLanes_time : (setLanes x s).time = s.time := rfl
@[simp] theorem setLanes_mace : (setLanes x s).mace = s.mace := rfl
@[simp] theorem setLanes_pwr : (setLanes x s).pwr = s.pwr := rfl
@[simp] theorem setLanes_pins : (setLanes x s).pins = s.pins := rfl
@[simp] theorem setLanes_obs : (setLanes x s).obs = s.obs := rfl
@[simp] theorem setLanes_sched : (setLanes x s).sched = s.sched := rfl
@[simp] theorem setLanes_buf : (setLanes x s).buf = s.buf := rfl
@[simp] theorem setLanes_lanes : (setLanes x s).lanes = x := rfl
@[simp] theorem setLanes_spare : (setLanes x s).spare = s.spare := rfl
@[simp] theorem setLanes_hbm : (setLanes x s).hbm = s.hbm := rfl
@[simp] theorem setLanes_join : (setLanes x s).join = s.join := rfl
@[simp] theorem setLanes_look : (setLanes x s).look = s.look := rfl
@[simp] theorem setLanes_flow : (setLanes x s).flow = s.flow := rfl
@[simp] theorem setLanes_task : (setLanes x s).task = s.task := rfl
@[simp] theorem setLanes_svc : (setLanes x s).svc = s.svc := rfl
@[simp] theorem setLanes_ctr : (setLanes x s).ctr = s.ctr := rfl
@[simp] theorem setLanes_fresh : (setLanes x s).fresh = s.fresh := rfl
@[simp] theorem setLanes_setLanes (y : LaneState) : setLanes y (setLanes x s) = setLanes y s := rfl
end

/-! setSpare -/

section
variable (x : SpareState) (s : State)
@[simp] theorem setSpare_pending : (setSpare x s).pending = s.pending := rfl
@[simp] theorem setSpare_host : (setSpare x s).host = s.host := rfl
@[simp] theorem setSpare_fw : (setSpare x s).fw = s.fw := rfl
@[simp] theorem setSpare_ep : (setSpare x s).ep = s.ep := rfl
@[simp] theorem setSpare_time : (setSpare x s).time = s.time := rfl
@[simp] theorem setSpare_mace : (setSpare x s).mace = s.mace := rfl
@[simp] theorem setSpare_pwr : (setSpare x s).pwr = s.pwr := rfl
@[simp] theorem setSpare_pins : (setSpare x s).pins = s.pins := rfl
@[simp] theorem setSpare_obs : (setSpare x s).obs = s.obs := rfl
@[simp] theorem setSpare_sched : (setSpare x s).sched = s.sched := rfl
@[simp] theorem setSpare_buf : (setSpare x s).buf = s.buf := rfl
@[simp] theorem setSpare_lanes : (setSpare x s).lanes = s.lanes := rfl
@[simp] theorem setSpare_spare : (setSpare x s).spare = x := rfl
@[simp] theorem setSpare_hbm : (setSpare x s).hbm = s.hbm := rfl
@[simp] theorem setSpare_join : (setSpare x s).join = s.join := rfl
@[simp] theorem setSpare_look : (setSpare x s).look = s.look := rfl
@[simp] theorem setSpare_flow : (setSpare x s).flow = s.flow := rfl
@[simp] theorem setSpare_task : (setSpare x s).task = s.task := rfl
@[simp] theorem setSpare_svc : (setSpare x s).svc = s.svc := rfl
@[simp] theorem setSpare_ctr : (setSpare x s).ctr = s.ctr := rfl
@[simp] theorem setSpare_fresh : (setSpare x s).fresh = s.fresh := rfl
@[simp] theorem setSpare_setSpare (y : SpareState) : setSpare y (setSpare x s) = setSpare y s := rfl
end

/-! setHbm -/

section
variable (x : HbmState) (s : State)
@[simp] theorem setHbm_pending : (setHbm x s).pending = s.pending := rfl
@[simp] theorem setHbm_host : (setHbm x s).host = s.host := rfl
@[simp] theorem setHbm_fw : (setHbm x s).fw = s.fw := rfl
@[simp] theorem setHbm_ep : (setHbm x s).ep = s.ep := rfl
@[simp] theorem setHbm_time : (setHbm x s).time = s.time := rfl
@[simp] theorem setHbm_mace : (setHbm x s).mace = s.mace := rfl
@[simp] theorem setHbm_pwr : (setHbm x s).pwr = s.pwr := rfl
@[simp] theorem setHbm_pins : (setHbm x s).pins = s.pins := rfl
@[simp] theorem setHbm_obs : (setHbm x s).obs = s.obs := rfl
@[simp] theorem setHbm_sched : (setHbm x s).sched = s.sched := rfl
@[simp] theorem setHbm_buf : (setHbm x s).buf = s.buf := rfl
@[simp] theorem setHbm_lanes : (setHbm x s).lanes = s.lanes := rfl
@[simp] theorem setHbm_spare : (setHbm x s).spare = s.spare := rfl
@[simp] theorem setHbm_hbm : (setHbm x s).hbm = x := rfl
@[simp] theorem setHbm_join : (setHbm x s).join = s.join := rfl
@[simp] theorem setHbm_look : (setHbm x s).look = s.look := rfl
@[simp] theorem setHbm_flow : (setHbm x s).flow = s.flow := rfl
@[simp] theorem setHbm_task : (setHbm x s).task = s.task := rfl
@[simp] theorem setHbm_svc : (setHbm x s).svc = s.svc := rfl
@[simp] theorem setHbm_ctr : (setHbm x s).ctr = s.ctr := rfl
@[simp] theorem setHbm_fresh : (setHbm x s).fresh = s.fresh := rfl
@[simp] theorem setHbm_setHbm (y : HbmState) : setHbm y (setHbm x s) = setHbm y s := rfl
end

/-! setJoin -/

section
variable (x : JoinState) (s : State)
@[simp] theorem setJoin_pending : (setJoin x s).pending = s.pending := rfl
@[simp] theorem setJoin_host : (setJoin x s).host = s.host := rfl
@[simp] theorem setJoin_fw : (setJoin x s).fw = s.fw := rfl
@[simp] theorem setJoin_ep : (setJoin x s).ep = s.ep := rfl
@[simp] theorem setJoin_time : (setJoin x s).time = s.time := rfl
@[simp] theorem setJoin_mace : (setJoin x s).mace = s.mace := rfl
@[simp] theorem setJoin_pwr : (setJoin x s).pwr = s.pwr := rfl
@[simp] theorem setJoin_pins : (setJoin x s).pins = s.pins := rfl
@[simp] theorem setJoin_obs : (setJoin x s).obs = s.obs := rfl
@[simp] theorem setJoin_sched : (setJoin x s).sched = s.sched := rfl
@[simp] theorem setJoin_buf : (setJoin x s).buf = s.buf := rfl
@[simp] theorem setJoin_lanes : (setJoin x s).lanes = s.lanes := rfl
@[simp] theorem setJoin_spare : (setJoin x s).spare = s.spare := rfl
@[simp] theorem setJoin_hbm : (setJoin x s).hbm = s.hbm := rfl
@[simp] theorem setJoin_join : (setJoin x s).join = x := rfl
@[simp] theorem setJoin_look : (setJoin x s).look = s.look := rfl
@[simp] theorem setJoin_flow : (setJoin x s).flow = s.flow := rfl
@[simp] theorem setJoin_task : (setJoin x s).task = s.task := rfl
@[simp] theorem setJoin_svc : (setJoin x s).svc = s.svc := rfl
@[simp] theorem setJoin_ctr : (setJoin x s).ctr = s.ctr := rfl
@[simp] theorem setJoin_fresh : (setJoin x s).fresh = s.fresh := rfl
@[simp] theorem setJoin_setJoin (y : JoinState) : setJoin y (setJoin x s) = setJoin y s := rfl
end

/-! setLook -/

section
variable (x : LookupState) (s : State)
@[simp] theorem setLook_pending : (setLook x s).pending = s.pending := rfl
@[simp] theorem setLook_host : (setLook x s).host = s.host := rfl
@[simp] theorem setLook_fw : (setLook x s).fw = s.fw := rfl
@[simp] theorem setLook_ep : (setLook x s).ep = s.ep := rfl
@[simp] theorem setLook_time : (setLook x s).time = s.time := rfl
@[simp] theorem setLook_mace : (setLook x s).mace = s.mace := rfl
@[simp] theorem setLook_pwr : (setLook x s).pwr = s.pwr := rfl
@[simp] theorem setLook_pins : (setLook x s).pins = s.pins := rfl
@[simp] theorem setLook_obs : (setLook x s).obs = s.obs := rfl
@[simp] theorem setLook_sched : (setLook x s).sched = s.sched := rfl
@[simp] theorem setLook_buf : (setLook x s).buf = s.buf := rfl
@[simp] theorem setLook_lanes : (setLook x s).lanes = s.lanes := rfl
@[simp] theorem setLook_spare : (setLook x s).spare = s.spare := rfl
@[simp] theorem setLook_hbm : (setLook x s).hbm = s.hbm := rfl
@[simp] theorem setLook_join : (setLook x s).join = s.join := rfl
@[simp] theorem setLook_look : (setLook x s).look = x := rfl
@[simp] theorem setLook_flow : (setLook x s).flow = s.flow := rfl
@[simp] theorem setLook_task : (setLook x s).task = s.task := rfl
@[simp] theorem setLook_svc : (setLook x s).svc = s.svc := rfl
@[simp] theorem setLook_ctr : (setLook x s).ctr = s.ctr := rfl
@[simp] theorem setLook_fresh : (setLook x s).fresh = s.fresh := rfl
@[simp] theorem setLook_setLook (y : LookupState) : setLook y (setLook x s) = setLook y s := rfl
end

/-! setFlow -/

section
variable (x : FlowState) (s : State)
@[simp] theorem setFlow_pending : (setFlow x s).pending = s.pending := rfl
@[simp] theorem setFlow_host : (setFlow x s).host = s.host := rfl
@[simp] theorem setFlow_fw : (setFlow x s).fw = s.fw := rfl
@[simp] theorem setFlow_ep : (setFlow x s).ep = s.ep := rfl
@[simp] theorem setFlow_time : (setFlow x s).time = s.time := rfl
@[simp] theorem setFlow_mace : (setFlow x s).mace = s.mace := rfl
@[simp] theorem setFlow_pwr : (setFlow x s).pwr = s.pwr := rfl
@[simp] theorem setFlow_pins : (setFlow x s).pins = s.pins := rfl
@[simp] theorem setFlow_obs : (setFlow x s).obs = s.obs := rfl
@[simp] theorem setFlow_sched : (setFlow x s).sched = s.sched := rfl
@[simp] theorem setFlow_buf : (setFlow x s).buf = s.buf := rfl
@[simp] theorem setFlow_lanes : (setFlow x s).lanes = s.lanes := rfl
@[simp] theorem setFlow_spare : (setFlow x s).spare = s.spare := rfl
@[simp] theorem setFlow_hbm : (setFlow x s).hbm = s.hbm := rfl
@[simp] theorem setFlow_join : (setFlow x s).join = s.join := rfl
@[simp] theorem setFlow_look : (setFlow x s).look = s.look := rfl
@[simp] theorem setFlow_flow : (setFlow x s).flow = x := rfl
@[simp] theorem setFlow_task : (setFlow x s).task = s.task := rfl
@[simp] theorem setFlow_svc : (setFlow x s).svc = s.svc := rfl
@[simp] theorem setFlow_ctr : (setFlow x s).ctr = s.ctr := rfl
@[simp] theorem setFlow_fresh : (setFlow x s).fresh = s.fresh := rfl
@[simp] theorem setFlow_setFlow (y : FlowState) : setFlow y (setFlow x s) = setFlow y s := rfl
end

/-! setTask -/

section
variable (x : TaskState) (s : State)
@[simp] theorem setTask_pending : (setTask x s).pending = s.pending := rfl
@[simp] theorem setTask_host : (setTask x s).host = s.host := rfl
@[simp] theorem setTask_fw : (setTask x s).fw = s.fw := rfl
@[simp] theorem setTask_ep : (setTask x s).ep = s.ep := rfl
@[simp] theorem setTask_time : (setTask x s).time = s.time := rfl
@[simp] theorem setTask_mace : (setTask x s).mace = s.mace := rfl
@[simp] theorem setTask_pwr : (setTask x s).pwr = s.pwr := rfl
@[simp] theorem setTask_pins : (setTask x s).pins = s.pins := rfl
@[simp] theorem setTask_obs : (setTask x s).obs = s.obs := rfl
@[simp] theorem setTask_sched : (setTask x s).sched = s.sched := rfl
@[simp] theorem setTask_buf : (setTask x s).buf = s.buf := rfl
@[simp] theorem setTask_lanes : (setTask x s).lanes = s.lanes := rfl
@[simp] theorem setTask_spare : (setTask x s).spare = s.spare := rfl
@[simp] theorem setTask_hbm : (setTask x s).hbm = s.hbm := rfl
@[simp] theorem setTask_join : (setTask x s).join = s.join := rfl
@[simp] theorem setTask_look : (setTask x s).look = s.look := rfl
@[simp] theorem setTask_flow : (setTask x s).flow = s.flow := rfl
@[simp] theorem setTask_task : (setTask x s).task = x := rfl
@[simp] theorem setTask_svc : (setTask x s).svc = s.svc := rfl
@[simp] theorem setTask_ctr : (setTask x s).ctr = s.ctr := rfl
@[simp] theorem setTask_fresh : (setTask x s).fresh = s.fresh := rfl
@[simp] theorem setTask_setTask (y : TaskState) : setTask y (setTask x s) = setTask y s := rfl
end

/-! setSvc -/

section
variable (x : SvcState) (s : State)
@[simp] theorem setSvc_pending : (setSvc x s).pending = s.pending := rfl
@[simp] theorem setSvc_host : (setSvc x s).host = s.host := rfl
@[simp] theorem setSvc_fw : (setSvc x s).fw = s.fw := rfl
@[simp] theorem setSvc_ep : (setSvc x s).ep = s.ep := rfl
@[simp] theorem setSvc_time : (setSvc x s).time = s.time := rfl
@[simp] theorem setSvc_mace : (setSvc x s).mace = s.mace := rfl
@[simp] theorem setSvc_pwr : (setSvc x s).pwr = s.pwr := rfl
@[simp] theorem setSvc_pins : (setSvc x s).pins = s.pins := rfl
@[simp] theorem setSvc_obs : (setSvc x s).obs = s.obs := rfl
@[simp] theorem setSvc_sched : (setSvc x s).sched = s.sched := rfl
@[simp] theorem setSvc_buf : (setSvc x s).buf = s.buf := rfl
@[simp] theorem setSvc_lanes : (setSvc x s).lanes = s.lanes := rfl
@[simp] theorem setSvc_spare : (setSvc x s).spare = s.spare := rfl
@[simp] theorem setSvc_hbm : (setSvc x s).hbm = s.hbm := rfl
@[simp] theorem setSvc_join : (setSvc x s).join = s.join := rfl
@[simp] theorem setSvc_look : (setSvc x s).look = s.look := rfl
@[simp] theorem setSvc_flow : (setSvc x s).flow = s.flow := rfl
@[simp] theorem setSvc_task : (setSvc x s).task = s.task := rfl
@[simp] theorem setSvc_svc : (setSvc x s).svc = x := rfl
@[simp] theorem setSvc_ctr : (setSvc x s).ctr = s.ctr := rfl
@[simp] theorem setSvc_fresh : (setSvc x s).fresh = s.fresh := rfl
@[simp] theorem setSvc_setSvc (y : SvcState) : setSvc y (setSvc x s) = setSvc y s := rfl
end

/-! addCtr -/

section
variable (c : Ctr) (i n : Nat) (s : State)
@[simp] theorem addCtr_pending : (addCtr c i n s).pending = s.pending := rfl
@[simp] theorem addCtr_host : (addCtr c i n s).host = s.host := rfl
@[simp] theorem addCtr_fw : (addCtr c i n s).fw = s.fw := rfl
@[simp] theorem addCtr_ep : (addCtr c i n s).ep = s.ep := rfl
@[simp] theorem addCtr_time : (addCtr c i n s).time = s.time := rfl
@[simp] theorem addCtr_mace : (addCtr c i n s).mace = s.mace := rfl
@[simp] theorem addCtr_pwr : (addCtr c i n s).pwr = s.pwr := rfl
@[simp] theorem addCtr_pins : (addCtr c i n s).pins = s.pins := rfl
@[simp] theorem addCtr_obs : (addCtr c i n s).obs = s.obs := rfl
@[simp] theorem addCtr_sched : (addCtr c i n s).sched = s.sched := rfl
@[simp] theorem addCtr_buf : (addCtr c i n s).buf = s.buf := rfl
@[simp] theorem addCtr_lanes : (addCtr c i n s).lanes = s.lanes := rfl
@[simp] theorem addCtr_spare : (addCtr c i n s).spare = s.spare := rfl
@[simp] theorem addCtr_hbm : (addCtr c i n s).hbm = s.hbm := rfl
@[simp] theorem addCtr_join : (addCtr c i n s).join = s.join := rfl
@[simp] theorem addCtr_look : (addCtr c i n s).look = s.look := rfl
@[simp] theorem addCtr_flow : (addCtr c i n s).flow = s.flow := rfl
@[simp] theorem addCtr_task : (addCtr c i n s).task = s.task := rfl
@[simp] theorem addCtr_svc : (addCtr c i n s).svc = s.svc := rfl
@[simp] theorem addCtr_fresh : (addCtr c i n s).fresh = s.fresh := rfl
end

/-! bump -/

section
variable (c : Ctr) (i : Nat) (s : State)
@[simp] theorem bump_pending : (bump c i s).pending = s.pending := rfl
@[simp] theorem bump_host : (bump c i s).host = s.host := rfl
@[simp] theorem bump_fw : (bump c i s).fw = s.fw := rfl
@[simp] theorem bump_ep : (bump c i s).ep = s.ep := rfl
@[simp] theorem bump_time : (bump c i s).time = s.time := rfl
@[simp] theorem bump_mace : (bump c i s).mace = s.mace := rfl
@[simp] theorem bump_pwr : (bump c i s).pwr = s.pwr := rfl
@[simp] theorem bump_pins : (bump c i s).pins = s.pins := rfl
@[simp] theorem bump_obs : (bump c i s).obs = s.obs := rfl
@[simp] theorem bump_sched : (bump c i s).sched = s.sched := rfl
@[simp] theorem bump_buf : (bump c i s).buf = s.buf := rfl
@[simp] theorem bump_lanes : (bump c i s).lanes = s.lanes := rfl
@[simp] theorem bump_spare : (bump c i s).spare = s.spare := rfl
@[simp] theorem bump_hbm : (bump c i s).hbm = s.hbm := rfl
@[simp] theorem bump_join : (bump c i s).join = s.join := rfl
@[simp] theorem bump_look : (bump c i s).look = s.look := rfl
@[simp] theorem bump_flow : (bump c i s).flow = s.flow := rfl
@[simp] theorem bump_task : (bump c i s).task = s.task := rfl
@[simp] theorem bump_svc : (bump c i s).svc = s.svc := rfl
@[simp] theorem bump_fresh : (bump c i s).fresh = s.fresh := rfl
end

/-! setGauge -/

section
variable (c : Ctr) (i v : Nat) (s : State)
@[simp] theorem setGauge_pending : (setGauge c i v s).pending = s.pending := rfl
@[simp] theorem setGauge_host : (setGauge c i v s).host = s.host := rfl
@[simp] theorem setGauge_fw : (setGauge c i v s).fw = s.fw := rfl
@[simp] theorem setGauge_ep : (setGauge c i v s).ep = s.ep := rfl
@[simp] theorem setGauge_time : (setGauge c i v s).time = s.time := rfl
@[simp] theorem setGauge_mace : (setGauge c i v s).mace = s.mace := rfl
@[simp] theorem setGauge_pwr : (setGauge c i v s).pwr = s.pwr := rfl
@[simp] theorem setGauge_pins : (setGauge c i v s).pins = s.pins := rfl
@[simp] theorem setGauge_obs : (setGauge c i v s).obs = s.obs := rfl
@[simp] theorem setGauge_sched : (setGauge c i v s).sched = s.sched := rfl
@[simp] theorem setGauge_buf : (setGauge c i v s).buf = s.buf := rfl
@[simp] theorem setGauge_lanes : (setGauge c i v s).lanes = s.lanes := rfl
@[simp] theorem setGauge_spare : (setGauge c i v s).spare = s.spare := rfl
@[simp] theorem setGauge_hbm : (setGauge c i v s).hbm = s.hbm := rfl
@[simp] theorem setGauge_join : (setGauge c i v s).join = s.join := rfl
@[simp] theorem setGauge_look : (setGauge c i v s).look = s.look := rfl
@[simp] theorem setGauge_flow : (setGauge c i v s).flow = s.flow := rfl
@[simp] theorem setGauge_task : (setGauge c i v s).task = s.task := rfl
@[simp] theorem setGauge_svc : (setGauge c i v s).svc = s.svc := rfl
@[simp] theorem setGauge_fresh : (setGauge c i v s).fresh = s.fresh := rfl
end

/-! tookFree -/

section
variable  (s : State)
@[simp] theorem tookFree_pending : (tookFree s).pending = s.pending := rfl
@[simp] theorem tookFree_host : (tookFree s).host = s.host := rfl
@[simp] theorem tookFree_fw : (tookFree s).fw = s.fw := rfl
@[simp] theorem tookFree_ep : (tookFree s).ep = s.ep := rfl
@[simp] theorem tookFree_time : (tookFree s).time = s.time := rfl
@[simp] theorem tookFree_mace : (tookFree s).mace = s.mace := rfl
@[simp] theorem tookFree_pwr : (tookFree s).pwr = s.pwr := rfl
@[simp] theorem tookFree_pins : (tookFree s).pins = s.pins := rfl
@[simp] theorem tookFree_obs : (tookFree s).obs = s.obs := rfl
@[simp] theorem tookFree_sched : (tookFree s).sched = s.sched := rfl
@[simp] theorem tookFree_buf : (tookFree s).buf = s.buf := rfl
@[simp] theorem tookFree_lanes : (tookFree s).lanes = s.lanes := rfl
@[simp] theorem tookFree_spare : (tookFree s).spare = s.spare := rfl
@[simp] theorem tookFree_hbm : (tookFree s).hbm = s.hbm := rfl
@[simp] theorem tookFree_join : (tookFree s).join = s.join := rfl
@[simp] theorem tookFree_look : (tookFree s).look = s.look := rfl
@[simp] theorem tookFree_flow : (tookFree s).flow = s.flow := rfl
@[simp] theorem tookFree_task : (tookFree s).task = s.task := rfl
@[simp] theorem tookFree_svc : (tookFree s).svc = s.svc := rfl
@[simp] theorem tookFree_ctr : (tookFree s).ctr = s.ctr := rfl
end

end Sys2Proof.Machine
end

