-- ==== Sys2Proof/Laws/Tables.lean ====
section
/-!
SUPPORT. The laws of the sparse tables and of the memories that are kept in them.
-/
namespace Sys2Proof.Machine
section
variable {α : Type}

theorem twfFrom_mono [DecidableEq α] {d : α} {n m : Nat} (h : m ≤ n) : ∀ {t : Tbl α}, twfFrom d n t = true → twfFrom d m t = true
  | [], _ => rfl
  | (k, v) :: t, w => by
    simp only [twfFrom, Bool.and_eq_true, decide_eq_true_eq] at w ⊢
    exact ⟨⟨by omega, w.1.2⟩, w.2⟩

/-- A key below every listed one is not listed. -/
theorem tget?_below [DecidableEq α] {d : α} {n k : Nat} (h : k < n) :
    ∀ {t : Tbl α}, twfFrom d n t = true → tget? t k = none
  | [], _ => rfl
  | (k', v) :: t, w => by
    simp only [twfFrom, Bool.and_eq_true, decide_eq_true_eq] at w
    have : ¬ k' = k := by omega
    simp only [tget?, this, if_false]
    exact tget?_below (n := k' + 1) (by omega) w.2

@[simp] theorem tget?_tput (t : Tbl α) (k : Nat) (v : α) : tget? (tput t k v) k = some v := by
  induction t with
  | nil => simp [tput, tget?]
  | cons p t ih =>
    obtain ⟨k', v'⟩ := p
    simp only [tput]
    split
    · simp [tget?]
    · split
      · simp [tget?]
      · rename_i h1 h2
        have : ¬ k' = k := fun h => h2 h.symm
        simp [tget?, this, ih]

theorem tget?_tput_ne (t : Tbl α) {k j : Nat} (v : α) (h : j ≠ k) : tget? (tput t k v) j = tget? t j := by
  induction t with
  | nil => simp [tput, tget?, Ne.symm h]
  | cons p t ih =>
    obtain ⟨k', v'⟩ := p
    simp only [tput]
    split
    · simp [tget?, Ne.symm h]
    · split
      · rename_i h1 h2
        subst h2
        simp [tget?, Ne.symm h]
      · simp only [tget?, ih]

theorem tget?_tdel_ne (t : Tbl α) {k j : Nat} (h : j ≠ k) : tget? (tdel t k) j = tget? t j := by
  induction t with
  | nil => rfl
  | cons p t ih =>
    obtain ⟨k', v'⟩ := p
    simp only [tdel]
    split
    · rename_i h1
      subst h1
      simp only [tget?, Ne.symm h, if_false, ih]
    · simp only [tget?, ih]

/-- A deleted key is not listed. -/
@[simp] theorem tget?_tdel (t : Tbl α) (k : Nat) : tget? (tdel t k) k = none := by
  induction t with
  | nil => rfl
  | cons p t ih =>
    obtain ⟨k', v'⟩ := p
    simp only [tdel]
    split
    · exact ih
    · rename_i h
      simp only [tget?, h, if_false]
      exact ih

@[simp] theorem tget_tput (d : α) (t : Tbl α) (k : Nat) (v : α) : tget d (tput t k v) k = v := by simp [tget]

theorem tget_tput_ne (d : α) (t : Tbl α) {k j : Nat} (v : α) (h : j ≠ k) : tget d (tput t k v) j = tget d t j := by
  simp [tget, tget?_tput_ne t v h]

theorem tget_tdel_ne (d : α) (t : Tbl α) {k j : Nat} (h : j ≠ k) : tget d (tdel t k) j = tget d t j := by
  simp [tget, tget?_tdel_ne t h]

/-- Another key of a written table reads as before. -/
theorem tget_tset_ne [DecidableEq α] (d : α) (t : Tbl α) {k j : Nat} (v : α) (h : j ≠ k) :
    tget d (tset d t k v) j = tget d t j := by
  unfold tset
  split
  · exact tget_tdel_ne d t h
  · exact tget_tput_ne d t v h

/-- The written key reads back. -/
@[simp] theorem tget_tset [DecidableEq α] (d : α) (t : Tbl α) (k : Nat) (v : α) : tget d (tset d t k v) k = v := by
  unfold tset
  split
  · rename_i h
    rw [tget, tget?_tdel, h]
    rfl
  · exact tget_tput d t k v

/-- Both at once. -/
theorem tget_tset_if [DecidableEq α] (d : α) (t : Tbl α) (k j : Nat) (v : α) :
    tget d (tset d t k v) j = if j = k then v else tget d t j := by
  split
  · rename_i h
    subst h
    exact tget_tset d t j v
  · rename_i h
    exact tget_tset_ne d t v h

theorem twfFrom_tput [DecidableEq α] {d v : α} {n k : Nat} (hv : v ≠ d) (hn : n ≤ k) :
    ∀ {t : Tbl α}, twfFrom d n t = true → twfFrom d n (tput t k v) = true
  | [], _ => by simp [tput, twfFrom, hv, hn]
  | (k', v') :: t, w => by
    simp only [twfFrom, Bool.and_eq_true, decide_eq_true_eq] at w
    simp only [tput]
    split
    · rename_i h
      simp only [twfFrom, Bool.and_eq_true, decide_eq_true_eq]
      exact ⟨⟨hn, hv⟩, ⟨by omega, w.1.2⟩, w.2⟩
    · split
      · rename_i h1 h2
        subst h2
        simp only [twfFrom, Bool.and_eq_true, decide_eq_true_eq]
        exact ⟨⟨hn, hv⟩, w.2⟩
      · simp only [twfFrom, Bool.and_eq_true, decide_eq_true_eq]
        exact ⟨w.1, twfFrom_tput hv (by omega) w.2⟩

theorem twfFrom_tdel [DecidableEq α] {d : α} {k : Nat} :
    ∀ {n : Nat} {t : Tbl α}, twfFrom d n t = true → twfFrom d n (tdel t k) = true
  | _, [], _ => rfl
  | n, (k', v) :: t, w => by
    simp only [twfFrom, Bool.and_eq_true, decide_eq_true_eq] at w
    simp only [tdel]
    split
    · exact twfFrom_mono (by omega) (twfFrom_tdel w.2)
    · simp only [twfFrom, Bool.and_eq_true, decide_eq_true_eq]
      exact ⟨w.1, twfFrom_tdel w.2⟩

/-- A write keeps the canonical form. -/
theorem twf_tset [DecidableEq α] (d : α) (t : Tbl α) (k : Nat) (v : α) (w : twf d t = true) :
    twf d (tset d t k v) = true := by
  unfold tset
  split
  · exact twfFrom_tdel w
  · rename_i h
    exact twfFrom_tput h (Nat.zero_le k) w

end

/-! Memory. -/

theorem memWfFrom_mono {n m : Nat} (h : m ≤ n) : ∀ {t : Tbl Byte}, memWfFrom n t = true → memWfFrom m t = true
  | [], _ => rfl
  | (k, v) :: t, w => by
    simp only [memWfFrom, Bool.and_eq_true, decide_eq_true_eq] at w ⊢
    exact ⟨⟨by omega, w.1.2⟩, w.2⟩

/-- A byte below every listed one is not listed. -/
theorem memWfFrom_below {n k : Nat} (h : k < n) : ∀ {t : Tbl Byte}, memWfFrom n t = true → tget? t k = none
  | [], _ => rfl
  | (k', v) :: t, w => by
    simp only [memWfFrom, Bool.and_eq_true, decide_eq_true_eq] at w
    have : ¬ k' = k := by omega
    simp only [tget?, this, if_false]
    exact memWfFrom_below (n := k' + 1) (by omega) w.2

theorem memWfFrom_tput {v : Byte} {n k : Nat} (hv : v ≠ memDefault k) (hn : n ≤ k) :
    ∀ {t : Tbl Byte}, memWfFrom n t = true → memWfFrom n (tput t k v) = true
  | [], _ => by simp [tput, memWfFrom, hv, hn]
  | (k', v') :: t, w => by
    simp only [memWfFrom, Bool.and_eq_true, decide_eq_true_eq] at w
    simp only [tput]
    split
    · rename_i h
      simp only [memWfFrom, Bool.and_eq_true, decide_eq_true_eq]
      exact ⟨⟨hn, hv⟩, ⟨by omega, w.1.2⟩, w.2⟩
    · split
      · rename_i h1 h2
        subst h2
        simp only [memWfFrom, Bool.and_eq_true, decide_eq_true_eq]
        exact ⟨⟨hn, hv⟩, w.2⟩
      · simp only [memWfFrom, Bool.and_eq_true, decide_eq_true_eq]
        exact ⟨w.1, memWfFrom_tput hv (by omega) w.2⟩

theorem memWfFrom_tdel {k : Nat} : ∀ {n : Nat} {t : Tbl Byte}, memWfFrom n t = true → memWfFrom n (tdel t k) = true
  | _, [], _ => rfl
  | n, (k', v) :: t, w => by
    simp only [memWfFrom, Bool.and_eq_true, decide_eq_true_eq] at w
    simp only [tdel]
    split
    · exact memWfFrom_mono (by omega) (memWfFrom_tdel w.2)
    · simp only [memWfFrom, Bool.and_eq_true, decide_eq_true_eq]
      exact ⟨w.1, memWfFrom_tdel w.2⟩

/-- A write of one byte keeps the canonical form. -/
theorem memWf_tset (m : Tbl Byte) (a : Nat) (x : Byte) (w : memWf m = true) : memWf (tset (memDefault a) m a x) = true := by
  unfold tset
  split
  · exact memWfFrom_tdel w
  · rename_i h
    exact memWfFrom_tput h (Nat.zero_le a) w

/-- A memory that forgets bytes keeps the canonical form. -/
theorem memWf_filter (p : Nat → Bool) : ∀ (n : Nat) (m : Tbl Byte), memWfFrom n m = true →
    memWfFrom n (m.filter fun c => p c.1) = true
  | _, [], _ => rfl
  | n, (k, v) :: t, w => by
    simp only [memWfFrom, Bool.and_eq_true, decide_eq_true_eq] at w
    simp only [List.filter_cons]
    split
    · simp only [memWfFrom, Bool.and_eq_true, decide_eq_true_eq]
      exact ⟨w.1, memWf_filter p _ t w.2⟩
    · exact memWfFrom_mono (by omega) (memWf_filter p _ t w.2)

/-- A write of any length keeps the canonical form of a memory. -/
theorem memWf_memWrite (b : Bytes) : ∀ (m : Tbl Byte) (a : Nat), memWf m = true → memWf (memWrite m a b) = true := by
  induction b with
  | nil => exact fun m a w => w
  | cons x b ih => exact fun m a w => ih _ _ (memWf_tset m a x w)

/-- Another byte of a written memory reads as before. -/
theorem memGet_tset_ne (m : Tbl Byte) {a i : Nat} (x : Byte) (h : i ≠ a) : memGet (tset (memDefault a) m a x) i = memGet m i := by
  unfold memGet tset
  split
  · exact tget_tdel_ne _ m h
  · exact tget_tput_ne _ m x h

/-- A byte below the written ones reads as before. -/
theorem memGet_memWrite_below (b : Bytes) : ∀ (m : Tbl Byte) (a i : Nat), i < a → memGet (memWrite m a b) i = memGet m i := by
  induction b with
  | nil => exact fun m a i _ => rfl
  | cons x b ih =>
    intro m a i h
    rw [memWrite, ih _ _ _ (by omega)]
    exact memGet_tset_ne m x (by omega)

/-- A byte outside the written ones reads as before. -/
theorem memGet_memWrite_out (b : Bytes) : ∀ (m : Tbl Byte) (a i : Nat), i < a ∨ a + b.length ≤ i →
    memGet (memWrite m a b) i = memGet m i := by
  induction b with
  | nil => exact fun m a i _ => rfl
  | cons x b ih =>
    intro m a i h
    simp only [List.length_cons] at h
    rw [memWrite, ih _ _ _ (by omega)]
    exact memGet_tset_ne m x (by omega)

/-- Written bytes read back. -/
theorem memGet_memWrite (b : Bytes) : ∀ (m : Tbl Byte) (a k : Nat), (h : k < b.length) →
    memGet (memWrite m a b) (a + k) = b[k] := by
  induction b with
  | nil => intro m a k h; simp at h
  | cons x b ih =>
    intro m a k h
    rw [memWrite]
    cases k with
    | zero =>
      rw [memGet_memWrite_below _ _ _ _ (by omega)]
      exact tget_tset _ m a x
    | succ k =>
      have e : a + (k + 1) = (a + 1) + k := by omega
      rw [e, ih _ _ _ (by simpa using h)]
      rfl

end Sys2Proof.Machine
end

