-- ==== Sys2Proof/Laws/Reports.lean ====
section
/-!
SUPPORT. What the reporting operations leave alone, and the completion of a YCP command.
-/
namespace Sys2Proof.Machine

theorem Reports.refl (s : State) : Reports s s := by constructor <;> first | rfl | intros; rfl

theorem Reports.trans {u v t : State} (h : Reports u v) (k : Reports v t) : Reports u t where
  pending := k.pending.trans h.pending
  fresh := k.fresh.trans h.fresh
  pins := k.pins.trans h.pins
  fw := k.fw.trans h.fw
  ep := k.ep.trans h.ep
  time := k.time.trans h.time
  pwr := k.pwr.trans h.pwr
  sched := k.sched.trans h.sched
  buf := k.buf.trans h.buf
  lanes := k.lanes.trans h.lanes
  spare := k.spare.trans h.spare
  hbm := k.hbm.trans h.hbm
  join := k.join.trans h.join
  look := k.look.trans h.look
  flow := k.flow.trans h.flow
  task := k.task.trans h.task
  svc := k.svc.trans h.svc
  mace := by rw [k.mace, h.mace]
  obs := by rw [k.obs, h.obs]
  host := by rw [k.host, h.host]
  mbx := fun m => (k.mbx m).trans (h.mbx m)
  ctr := fun c i hc => (k.ctr c i hc).trans (h.ctr c i hc)

/-! Counters. -/

theorem ctorIdx_lt (c : Ctr) : c.ctorIdx < 256 := by cases c <;> decide

theorem ctorIdx_inj {c d : Ctr} (h : c.ctorIdx = d.ctorIdx) : c = d := by
  rw [← Ctr.ofNat_ctorIdx c, ← Ctr.ofNat_ctorIdx d, h]

/-- Two counters share no key. -/
theorem ctrKey_inj {c d : Ctr} {i j : Nat} (h : ctrKey c i = ctrKey d j) : c = d ∧ i = j := by
  simp only [ctrKey] at h
  have hc := ctorIdx_lt c
  have hd := ctorIdx_lt d
  exact ⟨ctorIdx_inj (by omega), by omega⟩

theorem getCtr_addCtr (c d : Ctr) (i j n : Nat) (s : State) :
    getCtr c i (addCtr d j n s) = if c = d ∧ i = j then (getCtr d j s + n) % 2 ^ 64 else getCtr c i s := by
  split
  · rename_i h
    obtain ⟨rfl, rfl⟩ := h
    exact tget_tset _ _ _ _
  · rename_i h
    exact tget_tset_ne _ _ _ fun e => h (ctrKey_inj e)

theorem getCtr_bump (c d : Ctr) (i j : Nat) (s : State) :
    getCtr c i (bump d j s) = if c = d ∧ i = j then (getCtr d j s + 1) % 2 ^ 64 else getCtr c i s :=
  getCtr_addCtr c d i j 1 s

theorem getCtr_setGauge (c d : Ctr) (i j v : Nat) (s : State) :
    getCtr c i (setGauge d j v s) = if c = d ∧ i = j then v else getCtr c i s := by
  split
  · rename_i h
    obtain ⟨rfl, rfl⟩ := h
    exact tget_tset _ _ _ _
  · rename_i h
    exact tget_tset_ne _ _ _ fun e => h (ctrKey_inj e)

/-! The reporting operations. -/

theorem reports_bump {c : Ctr} (i : Nat) (s : State) (h : c ∈ reportCtrs) : Reports s (bump c i s) where
  pending := rfl
  fresh := rfl
  pins := rfl
  fw := rfl
  ep := rfl
  time := rfl
  pwr := rfl
  sched := rfl
  buf := rfl
  lanes := rfl
  spare := rfl
  hbm := rfl
  join := rfl
  look := rfl
  flow := rfl
  task := rfl
  svc := rfl
  mace := rfl
  obs := rfl
  host := rfl
  mbx := fun _ => rfl
  ctr := fun d j hd => by
    rw [getCtr_bump, if_neg]
    rintro ⟨rfl, _⟩
    exact hd h

theorem reports_raise {src : Nat} (i : Nat) (m : BitVec 64) (s : State) (h : src ≠ 25 ∧ src ≠ 27 ∧ src ≠ 49) :
    Reports s (raise src i m s) := by
  obtain ⟨h1, h2, h3⟩ := h
  have e : (s.pwr.auditDue || src == 25 || src == 27 || src == 49) = s.pwr.auditDue := by
    rw [beq_eq_false_iff_ne.mpr h1, beq_eq_false_iff_ne.mpr h2, beq_eq_false_iff_ne.mpr h3, Bool.or_false, Bool.or_false,
      Bool.or_false]
  have p : (raise src i m s).pwr = s.pwr := by
    unfold raise
    dsimp only
    rw [e]
  constructor <;> first | rfl | exact p | (intros; rfl)

theorem reports_dmaWrite (a : Nat) (b : Bytes) (s : State) : Reports s (dmaWrite a b s) := by
  constructor <;> first | rfl | (intros; rfl)

theorem reports_interrupt (v : Nat) (s : State) : Reports s (interrupt v s) := by
  unfold interrupt
  dsimp only
  split
  · constructor <;> first | rfl | (intros; rfl)
  · exact reports_dmaWrite _ _ s

theorem reports_modPending (s : State) (b : Bool) : Reports s { s with host := { s.host with modPending := b } } := by
  constructor <;> first | rfl | (intros; rfl)

theorem reports_evrInterrupt (s : State) : Reports s (evrInterrupt s) := by
  unfold evrInterrupt
  split
  · exact reports_interrupt 0 s
  · split
    · exact reports_modPending s true
    · refine (reports_interrupt 0 s).trans ?_
      constructor <;> first | rfl | (intros; rfl)

theorem reports_evrWrite (e : EvEntry) (s : State) : Reports s (evrWrite e s) := by
  unfold evrWrite
  dsimp only
  refine Reports.trans (v := dmaWrite (s.host.evrBase + 32 * (s.host.evrProd.toNat % 2 ^ s.host.evrLog2))
    (evrBytes s.host e) s) (reports_dmaWrite _ _ s) ?_
  refine Reports.trans ?_ (reports_evrInterrupt _)
  constructor <;> first | rfl | (intros; rfl)

theorem reports_evrBacklog (e : EvEntry) (s : State) : Reports s (evrBacklog e s) := by
  unfold evrBacklog
  split
  · constructor <;> first | rfl | (intros; rfl)
  · refine Reports.trans ?_ (reports_raise 0 0 _ (by decide))
    refine Reports.trans ?_ (reports_bump 0 _ (by decide))
    constructor <;> first | rfl | (intros; rfl)

theorem reports_postEvent (ty : Nat) (b : Bytes) (s : State) : Reports s (postEvent ty b s) := by
  unfold postEvent
  dsimp only
  split
  · exact reports_evrWrite _ s
  · exact reports_evrBacklog _ s

theorem reports_traceRec (ty sub : Nat) (b : Bytes) (s : State) : Reports s (traceRec ty sub b s) := by
  unfold traceRec
  split
  · split
    · constructor <;> first | rfl | (intros; rfl)
    · refine (reports_bump 0 s (c := .TRC_LOST) (by decide)).trans ?_
      refine (reports_raise (src := 234) 0 0 _ (by decide)).trans ?_
      dsimp only
      split
      · exact Reports.refl _
      · refine Reports.trans ?_ (reports_postEvent _ _ _)
        constructor <;> first | rfl | (intros; rfl)
  · exact Reports.refl s

/-! The completion of a YCP command. -/

/-- A mailbox written: it reads back, and the others stand. -/
theorem getMbx_setMbx (m k : Fin 8) (b : Mailbox) (s : State) :
    getMbx k (setMbx m b s) = if k = m then b else getMbx k s := by
  unfold getMbx setMbx
  dsimp only
  rw [tget_tset_if]
  simp only [Fin.val_inj]

@[simp] theorem getMbx_setMbx_self (m : Fin 8) (b : Mailbox) (s : State) : getMbx m (setMbx m b s) = b := by
  rw [getMbx_setMbx, if_pos rfl]

@[simp] theorem setMbx_setMbx (m : Fin 8) (a b : Mailbox) (s : State) :
    getMbx m (setMbx m b (setMbx m a s)) = b := getMbx_setMbx_self m b _

/-- A mailbox written on both sides of a report. -/
theorem Reports.setMbx {u t : State} (h : Reports u t) (m : Fin 8) (b : Mailbox) :
    Reports (setMbx m b u) (setMbx m b t) where
  pending := h.pending
  fresh := h.fresh
  pins := h.pins
  fw := h.fw
  ep := h.ep
  time := h.time
  pwr := h.pwr
  sched := h.sched
  buf := h.buf
  lanes := h.lanes
  spare := h.spare
  hbm := h.hbm
  join := h.join
  look := h.look
  flow := h.flow
  task := h.task
  svc := h.svc
  mace := h.mace
  obs := h.obs
  host := by
    unfold Machine.setMbx
    dsimp only
    rw [h.host]
  mbx := fun k => by rw [getMbx_setMbx, getMbx_setMbx, h.mbx]
  ctr := h.ctr

theorem reports_setMbx_setMbx (m : Fin 8) (a b : Mailbox) (s : State) :
    Reports (setMbx m b s) (setMbx m b (setMbx m a s)) where
  pending := rfl
  fresh := rfl
  pins := rfl
  fw := rfl
  ep := rfl
  time := rfl
  pwr := rfl
  sched := rfl
  buf := rfl
  lanes := rfl
  spare := rfl
  hbm := rfl
  join := rfl
  look := rfl
  flow := rfl
  task := rfl
  svc := rfl
  mace := rfl
  obs := rfl
  host := rfl
  mbx := fun k => by
    rw [getMbx_setMbx, getMbx_setMbx, getMbx_setMbx]
    split <;> rfl
  ctr := fun _ _ _ => rfl

/-- A response written over a request that is not lost (R403, R407). -/
theorem reports_respond (op : Nat) (r : YcpReq) (st dt : Nat) (b : Bytes) (rp mo : Bool) (ep : BitVec 32) (s : State)
    (h : (getMbx r.mbx s).lost = false) :
    Reports (setMbx r.mbx { getMbx r.mbx s with
        busy := false, done := true, running := none,
        buf := if isDma r then respHeader op r st b.length dt rp mo ep else respHeader op r st b.length dt rp mo ep ++ b } s)
      (respond op r st dt b rp mo ep s) := by
  unfold respond
  dsimp only
  simp only [h, Bool.false_eq_true, if_false]
  refine Reports.trans ?_ (reports_interrupt _ _)
  have hd : Reports s (if (isDma r && !b.isEmpty) = true then dmaWrite (rspAddr r) b s else s) := by
    split
    · exact reports_dmaWrite _ _ s
    · exact Reports.refl _
  exact hd.setMbx _ _

/-- What a completed command leaves: its effect, its response and LAST_SEQ, and what reporting writes (R403–R407, R423). -/
theorem reports_complete (op : Nat) (r : YcpReq) (x : YRes) (hl : (getMbx r.mbx x.st).lost = false)
    (ha : x.after = fun s => s) :
    Reports (answered op r x.status x.detail x.body x.more (x.status = stOK && x.cfg) x.st) (complete op r x) := by
  -- the effect and CFG_HASH, before the response
  let cfg : Bool := x.status = stOK && x.cfg
  let u0 : State := { x.st with fw := { x.st.fw with
      cfgHash := if cfg then sha256 (x.st.fw.cfgHash ++ reqHeader20 op r ++ reqBody r) else x.st.fw.cfgHash } }
  let s0 : State := if cfg then cfgExtend op r x.st else x.st
  have h0 : Reports u0 s0 := by
    by_cases c : cfg = true
    · simp only [u0, s0, c, if_true]
      exact reports_bump (c := .CFG_COUNT) 0 _ (by decide)
    · simp only [u0, s0, c, if_false, Bool.false_eq_true]
      exact Reports.refl _
  let a : Mailbox := { getMbx r.mbx s0 with lastSeq := r.seq, lastOp := op, lastStatus := x.status, stored := x.body,
                                            lastDetail := x.detail, lastMore := x.more, lastEpoch := s0.ep.epoch }
  let s1 : State := bump .MBX_CMDS r.mbx.val (setMbx r.mbx a s0)
  let s2 : State := if x.status = stOK then s1 else bump .MBX_ERRORS r.mbx.val s1
  have h1 : Reports (setMbx r.mbx a s0) s1 := reports_bump (c := .MBX_CMDS) _ _ (by decide)
  have h2 : Reports s1 s2 := by
    simp only [s2]
    split
    · exact Reports.refl _
    · exact reports_bump (c := .MBX_ERRORS) _ _ (by decide)
  have h3 : Reports (setMbx r.mbx a u0) s2 := ((h0.setMbx r.mbx a).trans h1).trans h2
  have m3 : getMbx r.mbx s2 = a := by rw [h3.mbx, getMbx_setMbx_self]
  have m0 : getMbx r.mbx s0 = getMbx r.mbx x.st := h0.mbx _
  have e3 : s2.ep = x.st.ep := h3.ep
  have e0 : s0.ep = x.st.ep := h0.ep
  have l2 : (getMbx r.mbx s2).lost = false := by
    rw [m3]
    simp only [a, m0, hl]
  have h4 := reports_respond op r x.status x.detail x.body false x.more s2.ep.epoch s2 l2
  have h5 : Reports (answered op r x.status x.detail x.body x.more cfg x.st)
      (respond op r x.status x.detail x.body false x.more s2.ep.epoch s2) := by
    refine Reports.trans ?_ h4
    refine Reports.trans ?_ (h3.setMbx r.mbx _)
    rw [m3, e3]
    unfold answered
    simp only [a, m0, e0]
    exact reports_setMbx_setMbx r.mbx _ _ u0
  unfold complete
  rw [ha]
  refine Reports.trans ?_ (reports_traceRec _ _ _ _)
  have h6 (s : State) : Reports s (if r.flags.getLsbD 1 then
      postEvent 1 (leBytes 1 r.mbx.val ++ zeros 3 ++ leBytes 4 r.seq.toNat ++ leBytes 2 x.status ++ leBytes 2 op) s
    else s) := by
    split
    · exact reports_postEvent _ _ _
    · exact Reports.refl _
  exact h5.trans (h6 _)

end Sys2Proof.Machine
end

