-- ==== Sys2Proof/Laws/Ycp.lean ====
section
/-!
SUPPORT. An accepted request runs its handler, and its command completes.
-/
namespace Sys2Proof.Machine
variable {op : Nat} {r : YcpReq} {h : YHandler} {s : State}

/-- An accepted request reaches its handler, and the handler's answer is completed or left running (R403–R408). -/
theorem ycp_accepted (ha : Accepted op r s) :
    ycp op r h s = .next (
      let x := fitted r s (h r (reqBody r) (room r) s)
      if x.wait then setMbx r.mbx { getMbx r.mbx x.st with busy := true, running := some (op, r) } x.st
      else complete op r x) := by
  have hx : execute r h s = fitted r s (h r (reqBody r) (room r) s) := by
    have hf : (r.flags.toNat < 4) = True := eq_true ha.flags
    obtain ⟨h6, h20, h24⟩ := ha.reserved
    unfold execute need
    cases hd : isDma r
    · have hl := ha.inline hd
      simp [hf, h6, h20, h24, hl]
    · obtain ⟨hz, hlen, hq, hs, _⟩ := ha.byDma hd
      have hn : r.dmaData.isNone = false := by
        cases hdd : r.dmaData
        · rw [hdd] at hs; cases hs
        · rfl
      rw [hz]
      simp [hf, h6, h20, h24, hlen, hq, hn]
  have ht : ycpTake op r h s =
      (let x := fitted r s (h r (reqBody r) (room r) s)
       if x.wait then setMbx r.mbx { getMbx r.mbx x.st with busy := true, running := some (op, r) } x.st
       else complete op r x) := by
    have hr : (s.host.stage == stageRECOVERY && !romOps.contains op) = false := by
      by_cases c : s.host.stage = stageRECOVERY
      · simp [ha.rom c]
      · simp [c]
    have hw : s.host.waiting = [] := ha.turn.2
    unfold ycpTake takesNow turnTaken
    rw [hr, hw]
    simp [hx, ha.turn.1]
  unfold ycp ycpRun ycpGate
  rw [ht]
  simp [ha.served, ha.busy, ha.bell, ha.seq]

theorem getMbx_of_host {m : Fin 8} {u t : State} (e : u.host = t.host) : getMbx m u = getMbx m t := by
  unfold getMbx
  rw [e]

/-- A handler that answers at once, with a response that fits. -/
theorem ycp_completes (ha : Accepted op r s) {x : YRes} (hx : h r (reqBody r) (room r) s = x) (hw : x.wait = false)
    (hb : x.status = stOK → x.body.length ≤ room r) (hafter : x.after = fun s => s)
    (hl : (getMbx r.mbx x.st).lost = false) :
    ∃ t, ycp op r h s = .next t ∧
      Reports (answered op r x.status x.detail x.body x.more (x.status = stOK && x.cfg) x.st) t := by
  have hfit : fitted r s x = x := by
    unfold fitted
    by_cases c : x.status = stOK
    · have hb := Nat.not_lt.mpr (hb c)
      have hd : (isDma r && !x.body.isEmpty && !r.dmaWriteOk) = false := by
        cases hd : isDma r
        · simp
        · simp [(ha.byDma hd).2.2.2.2]
      simp [hw, c, hb, hd]
    · simp [c]
  refine ⟨_, ycp_accepted ha, ?_⟩
  rw [hx, hfit]
  simp only [hw, Bool.false_eq_true, if_false]
  exact reports_complete op r x hl hafter

/-- A configuration command that answers at once. -/
theorem ycp_does (ha : Accepted op r s) {b : Bytes} {u : State} (hx : h r (reqBody r) (room r) s = yOk b u)
    (hb : b.length ≤ room r) (hl : (getMbx r.mbx u).lost = (getMbx r.mbx s).lost) : Does op r b u (ycp op r h s) :=
  ycp_completes ha hx rfl (fun _ => hb) rfl (hl.trans ha.lost)

/-- A read that answers at once. -/
theorem ycp_answers (ha : Accepted op r s) {b : Bytes} {u : State} (hx : h r (reqBody r) (room r) s = yRead b u)
    (hb : b.length ≤ room r) (hl : (getMbx r.mbx u).lost = (getMbx r.mbx s).lost) :
    Answers op r b false u (ycp op r h s) :=
  ycp_completes ha hx rfl (fun _ => hb) rfl (hl.trans ha.lost)

/-- A failure: the state stands. -/
theorem ycp_fails (ha : Accepted op r s) {st i : Nat} (hx : h r (reqBody r) (room r) s = yFailAt st i s) (h0 : st ≠ stOK) :
    Fails op r st i s (ycp op r h s) := by
  obtain ⟨t, e, k⟩ := ycp_completes ha hx rfl (fun c => absurd c h0) rfl ha.lost
  refine ⟨t, e, ?_⟩
  have hc : (decide ((yFailAt st i s).status = stOK) && (yFailAt st i s).cfg) = false := by simp [yFailAt, h0]
  rw [hc] at k
  exact k

/-- A command that goes on executing. -/
theorem ycp_waits (ha : Accepted op r s) {u : State}
    (hx : h r (reqBody r) (room r) s = { yOk [] u with wait := true }) : Waits op r u (ycp op r h s) := by
  unfold Waits
  rw [ycp_accepted ha, hx]
  rfl

/-- A command whose effect follows its response. -/
theorem ycp_restarts (ha : Accepted op r s) {k : State → State}
    (hx : h r (reqBody r) (room r) s = { yOk [] s with after := k }) : Restarts op r k s (ycp op r h s) := by
  have e : fitted r s { yOk [] s with after := k } = { yOk [] s with after := k } := by
    unfold fitted
    simp [yOk]
  refine ⟨complete op r (yOk [] s), reports_complete op r (yOk [] s) ha.lost rfl, ?_⟩
  rw [ycp_accepted ha, hx, e]
  rfl

end Sys2Proof.Machine
end

