-- ==== Sys2Proof/Laws/Forms.lean ====
section
/-!
SUPPORT. What the body forms L and S of YCP do with a request (R409).
-/
namespace Sys2Proof.Machine

/-- The items that a form-L body spells. -/
theorem parseItems_list (size : Nat → Nat) (items : List (Nat × Bytes)) :
    ∀ fuel, (items.map fun p => leBytes 4 p.1 ++ p.2).flatten.length ≤ fuel →
    (∀ p ∈ items, p.1 < 2 ^ 32 ∧ p.2.length = size p.1) →
    parseItems size fuel (items.map fun p => leBytes 4 p.1 ++ p.2).flatten = some items := by
  induction items with
  | nil => intro fuel _ _; cases fuel <;> rfl
  | cons p items ih =>
    intro fuel hf hp
    obtain ⟨h1, h2⟩ := hp p (by simp)
    have hi := ih
    obtain ⟨i, b⟩ := p
    simp only at h1 h2
    cases fuel with
    | zero => simp at hf
    | succ fuel =>
      have hfld : fld (leBytes 4 i ++ b ++ (items.map fun p => leBytes 4 p.1 ++ p.2).flatten) 0 4 = i := by
        rw [List.append_assoc, fld_append_left (leBytes_length 4 i), leNat_leBytes]
        exact Nat.mod_eq_of_lt h1
      simp only [List.map_cons, List.flatten_cons] at hf ⊢
      generalize hrest : (items.map fun p => leBytes 4 p.1 ++ p.2).flatten = rest at *
      have hne : leBytes 4 i ++ b ++ rest ≠ [] := by simp [leBytes]
      have hlen : ¬ (leBytes 4 i ++ b ++ rest).length < 4 + size i := by simp [h2]
      have hdrop : (leBytes 4 i ++ b ++ rest).drop (4 + size i) = rest := by
        rw [List.drop_append, List.drop_of_length_le (by simp [h2])]
        simp [h2]
      have hsl : slice (leBytes 4 i ++ b ++ rest) 4 (size i) = b := by
        rw [List.append_assoc, slice_append_right (leBytes_length 4 i) (Nat.le_refl 4)]
        exact slice_append_left h2
      have hr := hi fuel (by simp at hf ⊢; omega) (fun q hq => hp q (by simp [hq]))
      cases hc : leBytes 4 i ++ b ++ rest with
      | nil => exact absurd hc hne
      | cons x xs =>
        rw [hc] at hfld hlen hdrop hsl
        rw [parseItems]
        simp only [hfld, hlen, if_false, hdrop, hsl, hr, Option.map_some]
        intro hnil
        cases hnil

/-- Every item of a list passes its check. -/
theorem firstFail_none {chk : Nat → Bytes → Nat} {items : List (Nat × Bytes)}
    (h : ∀ p ∈ items, chk p.1 p.2 = stOK) : firstFail chk items = none := by
  have e : ((items.zipIdx.map fun p => (chk p.1.1 p.1.2, p.2)).filter fun p => p.1 ≠ stOK) = [] := by
    rw [List.filter_eq_nil_iff]
    intro p hp
    obtain ⟨q, hq, rfl⟩ := List.mem_map.1 hp
    have hm : q.1 ∈ items := by
      obtain ⟨_, _, hh⟩ := List.mem_zipIdx hq
      rw [hh]
      exact List.getElem_mem _
    simp [h q.1 hm]
  unfold firstFail
  simp only [e]
  rfl

/-- A form-L request whose items all pass is applied in list order, as one unit (R409). -/
theorem formL_ok {size : Nat → Nat} {chk : State → Nat → Bytes → Nat} {app : Nat → Bytes → State → State} {r : YcpReq}
    {rm : Nat} {s : State} {items : List (Nat × Bytes)} (hn : items.length < 2 ^ 32)
    (hp : ∀ p ∈ items, p.1 < 2 ^ 32 ∧ p.2.length = size p.1 ∧ chk s p.1 p.2 = stOK) :
    formL size chk app r (listBody items) rm s = yOk [] (items.foldl (fun a p => app p.1 p.2 a) s) := by
  have h8 : ¬ (listBody items).length < 8 := by simp [listBody]; omega
  have h8' : 8 ≤ (listBody items).length := Nat.le_of_not_lt h8
  have h0 : fld (listBody items) 4 4 = 0 := by
    unfold listBody
    rw [List.append_assoc, fld_append_right (leBytes_length 4 _) (Nat.le_refl 4),
      fld_append_left (zeros_length 4), leNat_zeros]
  have hc : fld (listBody items) 0 4 = items.length := by
    unfold listBody
    rw [List.append_assoc, fld_append_left (leBytes_length 4 _), leNat_leBytes]
    exact Nat.mod_eq_of_lt hn
  have hd : (listBody items).drop 8 = (items.map fun p => leBytes 4 p.1 ++ p.2).flatten := by
    unfold listBody
    rw [List.drop_append, List.drop_of_length_le (by simp)]
    simp
  have hi : parseItems size (listBody items).length ((listBody items).drop 8) = some items := by
    rw [hd]
    exact parseItems_list size items _ (by simp [listBody]; omega) (fun p h => ⟨(hp p h).1, (hp p h).2.1⟩)
  unfold formL need
  simp [h0, h8', hi, hc, firstFail_none fun p h => (hp p h).2.2]

/-- A form-L command that also holds its result to a condition. -/
theorem formLX_ok {size : Nat → Nat} {chk : State → Nat → Bytes → Nat} {app : Nat → Bytes → State → State}
    {post : State → State → Nat} {r : YcpReq} {rm : Nat} {s : State} {items : List (Nat × Bytes)}
    (hn : items.length < 2 ^ 32)
    (hp : ∀ p ∈ items, p.1 < 2 ^ 32 ∧ p.2.length = size p.1 ∧ chk s p.1 p.2 = stOK)
    (hpost : post s (items.foldl (fun a p => app p.1 p.2 a) s) = stOK) :
    formLX size chk app post r (listBody items) rm s = yOk [] (items.foldl (fun a p => app p.1 p.2 a) s) := by
  unfold formLX
  rw [formL_ok hn hp]
  simp [yOk, hpost]

@[simp] theorem need_pos {c : Bool} {st : Nat} {s : State} {k : YRes} (h : c = true) : need c st s k = k := by
  simp [need, h]

@[simp] theorem need_neg {c : Bool} {st : Nat} {s : State} {k : YRes} (h : c = false) : need c st s k = yFail st s := by
  simp [need, h]

/-- A form-O request of the right size whose reserved bytes are 0 and whose fields hold the encodings of the command. -/
theorem formE_ok {n : Nat} {resv : List (Nat × Nat)} {enc : List (Nat × (Bytes → State → Bool))} {k : Bytes → State → YRes}
    {r : YcpReq} {b : Bytes} {rm : Nat} {s : State} (hl : b.length = n) (hr : ∀ p ∈ resv, fld b p.1 p.2 = 0)
    (he : ∀ e ∈ enc, e.2 b s = true) : formE n resv enc k r b rm s = k b s := by
  have h1 : (resv.all fun p => fld b p.1 p.2 == 0) = true := by
    rw [List.all_eq_true]
    intro p hp
    simp [hr p hp]
  have h2 : (enc.all fun e => decide (b.length < e.1) || e.2 b s) = true := by
    rw [List.all_eq_true]
    intro e h
    simp [he e h]
  unfold formE
  rw [need_pos (by rw [h1, h2]; rfl), need_pos (by simp [hl])]

/-- A form-O request of the right size whose reserved bytes are 0. -/
theorem formO_ok {n : Nat} {resv : List (Nat × Nat)} {k : Bytes → State → YRes} {r : YcpReq} {b : Bytes} {rm : Nat}
    {s : State} (hl : b.length = n) (hr : ∀ p ∈ resv, fld b p.1 p.2 = 0) : formO n resv k r b rm s = k b s :=
  formE_ok hl hr fun _ h => absurd h (List.not_mem_nil)

/-- A request with an empty body. -/
theorem emptyBody_ok {k : State → YRes} {r : YcpReq} {b : Bytes} {rm : Nat} {s : State} (h : b = []) :
    emptyBody k r b rm s = k s := by
  subst h
  rfl

theorem selBody_length (first count sel : Nat) : (selBody first count sel).length = 16 := by simp [selBody]

theorem fld4 {v : Nat} (b : Bytes) (h : v < 2 ^ 32) : fld (leBytes 4 v ++ b) 0 4 = v := by
  rw [fld_append_left (leBytes_length 4 v), leNat_leBytes]
  exact Nat.mod_eq_of_lt h

/-- The fields of a selection. -/
theorem selBody_fields {first count sel : Nat} (hf : first < 2 ^ 32) (hc : count < 2 ^ 32) (hs : sel < 2 ^ 32) :
    fld (selBody first count sel) 0 4 = first ∧ fld (selBody first count sel) 4 4 = count ∧
      fld (selBody first count sel) 8 4 = sel ∧ fld (selBody first count sel) 12 4 = 0 := by
  unfold selBody
  simp only [List.append_assoc]
  refine ⟨fld4 _ hf, ?_, ?_, ?_⟩
  · rw [fld_append_right (leBytes_length 4 _) (by decide)]
    exact fld4 _ hc
  · rw [fld_append_right (leBytes_length 4 _) (by decide), fld_append_right (leBytes_length 4 _) (by decide)]
    exact fld4 _ hs
  · rw [fld_append_right (leBytes_length 4 _) (by decide), fld_append_right (leBytes_length 4 _) (by decide),
      fld_append_right (leBytes_length 4 _) (by decide)]
    rw [fld, slice_self (zeros_length 4), leNat_zeros]

/-- A form-S request answers whole records in ascending index, up to COUNT and as many as fit (R409). -/
theorem formSel_ok {sels total size : Nat} {rec : State → Nat → Nat → Bytes} {r : YcpReq} {rm : Nat} {s : State}
    {first count sel : Nat} (hf : first < 2 ^ 32) (hc : count < 2 ^ 32) (hs : sel < 2 ^ 32) (ht : first < total)
    (hl : sel < sels) (hr : 8 + size ≤ rm) :
    formSel sels total size rec r (selBody first count sel) rm s =
      (let n := min (min count (total - first)) ((rm - 8) / size)
       { yRead (leBytes 4 n ++ zeros 4 ++ ((List.range n).map fun k => fit size (rec s sel (first + k))).flatten) s with
         more := decide (n < count ∧ first + n < total) }) := by
  obtain ⟨h0, h4, h8, h12⟩ := selBody_fields hf hc hs
  have h1 : (sels != 1 || sel == 0) = true := by
    by_cases c : sels = 1
    · have : sel = 0 := by omega
      simp [this]
    · simp [c]
  unfold formSel need selOf
  simp [selBody_length, h0, h4, h8, h12, h1, ht, hl, hr]

end Sys2Proof.Machine
end

