-- ==== Sys2Proof/WellFormed.lean ====
section
/-!
DEFINITION. What makes a command well formed: every number it carries lies in the range the spec gives the object it
names, and a request body fits the mailbox (R407: at most 4,064 bytes inline).
-/
namespace Sys2Proof

/-- A request as a mailbox can hold it: 4,096 bytes less the 32-byte header (R400, R407). -/
def YcpReq.wf (r : YcpReq) : Bool := decide (r.body.length ≤ 4064)

/-- A command is well formed. -/
def Instr.wellFormed : Instr → Bool
  | .nop r => r.wf
  | .summary r => r.wf
  | .modeSet r => r.wf
  | .devInfo r => r.wf
  | .resetCold r => r.wf
  | .resetWarm r => r.wf
  | .resetBlockMgmt r => r.wf
  | .resetBlockHost r => r.wf
  | .resetBlockAct r => r.wf
  | .resetBlockLaneGroup r => r.wf
  | .resetBlockPipeline r => r.wf
  | .counterRead r => r.wf
  | .spareStatus r => r.wf
  | .sparePolicySet r => r.wf
  | .spareSwap r => r.wf
  | .epochCommit r => r.wf
  | .bankCopy r => r.wf
  | .epochStatus r => r.wf
  | .dmaQueueSet r => r.wf
  | .puntMapSet r => r.wf
  | .svcTableWrite r => r.wf
  | .svcTableRead r => r.wf
  | .l2Write r => r.wf
  | .l2WriteDelete r => r.wf
  | .l2WriteSearch r => r.wf
  | .l2Flush r => r.wf
  | .l2Config r => r.wf
  | .camWrite r => r.wf
  | .camWriteDelete r => r.wf
  | .camWriteRead r => r.wf
  | .camProfileSet r => r.wf
  | .camSearch r => r.wf
  | .subCtxWrite r => r.wf
  | .subCtxRead r => r.wf
  | .tableStatus r => r.wf
  | .portConfig r => r.wf
  | .portStatus r => r.wf
  | .bufPoolSet r => r.wf
  | .bufClassSet r => r.wf
  | .portBufSet r => r.wf
  | .mcGroupSet r => r.wf
  | .mirrorSessionSet r => r.wf
  | .bufStatus r => r.wf
  | .queueStatus r => r.wf
  | .flowTableInit r => r.wf
  | .flowTableStatus r => r.wf
  | .flowProfileWrite r => r.wf
  | .flowLookup r => r.wf
  | .flowDelete r => r.wf
  | .flowAgeingSet r => r.wf
  | .flowMigrateStart r => r.wf
  | .flowMigrateResume r => r.wf
  | .flowMigrateRate r => r.wf
  | .hotBlockRetire r => r.wf
  | .flowAdmitClassSet r => r.wf
  | .flowAdmitStatus r => r.wf
  | .graphTemplateWrite r => r.wf
  | .graphTemplateRead r => r.wf
  | .graphRun r => r.wf
  | .graphCancel r => r.wf
  | .taskStatus r => r.wf
  | .taskConfig r => r.wf
  | .svcProfileSet r => r.wf
  | .xlatPoolSet r => r.wf
  | .xlatSubSet r => r.wf
  | .xlatSweepSet r => r.wf
  | .lbBackendSet r => r.wf
  | .lbBuild r => r.wf
  | .lbTableWrite r => r.wf
  | .poolAudit r => r.wf
  | .poolAuditRate r => r.wf
  | .poolAuditStatus r => r.wf
  | .xlatQuery r => r.wf
  | .ruleWrite r => r.wf
  | .ruleRead r => r.wf
  | .ruleCounters r => r.wf
  | .parseGraphWrite r => r.wf
  | .parseProfileWrite r => r.wf
  | .clsProfileWrite r => r.wf
  | .meterSet r => r.wf
  | .flowMeterProfileSet r => r.wf
  | .schedElemSet r => r.wf
  | .schedElemRead r => r.wf
  | .shaperSet r => r.wf
  | .portSchedSet r => r.wf
  | .gateListWrite r => r.wf
  | .gateListCommit r => r.wf
  | .gateListAbort r => r.wf
  | .gateStatus r => r.wf
  | .launchClassSet r => r.wf
  | .sampleSet r => r.wf
  | .sampleRingSet r => r.wf
  | .sampleRingAck r => r.wf
  | .schedStatus r => r.wf
  | .timeRegRead r => r.wf
  | .timeRegWrite r => r.wf
  | .timeSnap r => r.wf
  | .timeConfig r => r.wf
  | .timeAdjustSet r => r.wf
  | .timeAdjustStep r => r.wf
  | .timeAdjustSlew r => r.wf
  | .timeActiveSet r => r.wf
  | .timeStatus r => r.wf
  | .ptpPortSet r => r.wf
  | .ppsSet r => r.wf
  | .memStatus r => r.wf
  | .memMap r => r.wf
  | .memPageSet r => r.wf
  | .memQosSet r => r.wf
  | .memTrain r => r.wf
  | .memFreqSet r => r.wf
  | .memRepair r => r.wf
  | .memAccess r => r.wf
  | .memAccessWrite r => r.wf
  | .memCounters r => r.wf
  | .memScrubSet r => r.wf
  | .maceStatus r => r.wf
  | .maceSet r => r.wf
  | .maceClear r => r.wf
  | .maceSafeClear r => r.wf
  | .maceRaise r => r.wf
  | .integInject r => r.wf
  | .cvuRegRead r => r.wf
  | .cvuRegWrite r => r.wf
  | .cvuPreset r => r.wf
  | .cvuStart r => r.wf
  | .safetyStatus r => r.wf
  | .laneConfig r => r.wf
  | .laneStatus r => r.wf
  | .lanePattern r => r.wf
  | .laneLoop r => r.wf
  | .laneInject r => r.wf
  | .laneSwap r => r.wf
  | .laneSwapRestore r => r.wf
  | .laneMap r => r.wf
  | .powerStatus r => r.wf
  | .frugalSet r => r.wf
  | .portSleepSet r => r.wf
  | .powerStandbyEnter r => r.wf
  | .powerStandbyExit r => r.wf
  | .identity r => r.wf
  | .attest r => r.wf
  | .fwStatus r => r.wf
  | .fwWrite r => r.wf
  | .fwVerify r => r.wf
  | .fwActivate r => r.wf
  | .fwConfirm r => r.wf
  | .rollbackAdvance r => r.wf
  | .telemRingSet r => r.wf
  | .telemRingAck r => r.wf
  | .svcCounterRead r => r.wf
  | .traceSet r => r.wf
  | .traceStart r => r.wf
  | .traceStop r => r.wf
  | .traceClear r => r.wf
  | .traceRead r => r.wf
  | .traceMark r => r.wf
  | .counterCatalog r => r.wf
  | .traceStatus r => r.wf
  | .impairSet r => r.wf
  | .impairRequest r => r.wf
  | .impairConfirm r => r.wf
  | .impairDisarm r => r.wf
  | .impairStatus r => r.wf
  | .joinConfigSet r => r.wf
  | .joinConfigAdd r => r.wf
  | .joinConfigTimeouts r => r.wf
  | .joinStatus r => r.wf
  | .ksFlowRead r => r.wf
  | .ksFlowDelete r => r.wf
  | .ksFlowDump r => r.wf
  | .ksQosSet r => r.wf
  | .ksQosGet r => r.wf
  | .registerWrite off _ => decide (off < 131072)
  | .sumCtrlGo _ => true
  | .evrConsWrite _ => true
  | .evrCtrlEnable _ => true
  | .injTailWrite q _ => decide (q < 8)
  | .puntTailWrite q _ => decide (q < 8)
  | .tcwRead _ => true
  | .tcwWrite _ => true
  | .tcwDelete _ => true
  | .tcwSearch _ => true
  | .obsRead addr _ => decide (addr < 1099511627776)
  | .obsStatus => true
  | .obsIdent => true
  | .aonPowerGood devid _ _ => decide (devid < 4)
  | .rstNAssert => true
  | .rstNRelease => true
  | .wrstNAssert => true
  | .wrstNRelease => true
  | .mainPgRise => true
  | .mainPgFall => true
  | .perstNAssert => true
  | .functionLevelReset => true
  | .pcieLinkDown => true
  | .ppsInEdge sub => decide (sub < 5242880)
  | .ref10InQualified => true
  | .ref10InDisqualified => true
  | .clockMonitorCheck _ _ _ _ _ => true
  | .supplyOutOfRange rail => decide (rail < 12)
  | .junctionTemperatureCross _ => true
  | .domainPowerGood dom _ => decide (dom < 24)
  | .domainPowerFail dom _ => decide (dom < 24)
  | .bootImageChecked => true
  | .fwInitDone => true
  | .fullTrainingDone _ _ => true
  | .startUpReady => true
  | .warmQuiesceDone => true
  | .warmQuiesceTimeout => true
  | .frameReceive p _ _ => decide (p < 64)
  | .pauseFrameReceive p mask _ => decide (p < 64) && decide (mask < 256)
  | .pauseQuantaExpiry p prio => decide (p < 64) && decide (prio < 8)
  | .pauseRepeat p prio => decide (p < 64) && decide (prio < 8)
  | .remoteFaultReceive link => decide (link < 66)
  | .parserEntry p => decide (p < 64)
  | .frameEndCheck p _ => decide (p < 64)
  | .admissionQueueStart pl => decide (pl < 17)
  | .admissionQueueWaitExpiry pl _ => decide (pl < 17)
  | .bulkIndexReturn l => decide (l < 65536)
  | .bulkRecordReturn l => decide (l < 65536)
  | .squashRecordPlace l => decide (l < 65536)
  | .undoApply l => decide (l < 65536)
  | .subscriberContextReturn l => decide (l < 65536)
  | .confirm l => decide (l < 65536)
  | .rerunParserEntry pl => decide (pl < 17)
  | .holdDeadlineExpiry l => decide (l < 65536)
  | .recirculationEntry pl => decide (pl < 17)
  | .inboundMapReturn pl _ => decide (pl < 17)
  | .inboundListWaitExpiry pl _ => decide (pl < 17)
  | .schedulerSelection p => decide (p < 66)
  | .reorderRelease p => decide (p < 64)
  | .agerVisit q => decide (q < 132096)
  | .parkTimerExpiry p => decide (p < 64)
  | .mcResidueRecheck => true
  | .reclaimScan => true
  | .poolCellMove => true
  | .freeListRebuildDone => true
  | .injectDescriptor q _ _ => decide (q < 8)
  | .puntDelivery q _ _ => decide (q < 8)
  | .eventRingWrite => true
  | .summaryDmaDone _ => true
  | .taskDispatch => true
  | .hbmNodeCompletion c node => decide (c < 65536) && decide (node < 33)
  | .waitEventTimer c node => decide (c < 65536) && decide (node < 32)
  | .graphTimeout c => decide (c < 65536)
  | .spillRingRefill level => decide (level < 8)
  | .engineSelfTest engine _ => decide (engine < 68)
  | .spareEngineJoin => true
  | .engineClockGate engine => decide (engine < 68)
  | .bulkSweepVisit => true
  | .hotSweepVisit => true
  | .hotTierScrub _ _ => true
  | .hotBlockSetCopy => true
  | .migrationFlush => true
  | .migrationCopyBucket => true
  | .mapSweepVisit => true
  | .counterFold => true
  | .poolAuditEnd => true
  | .freeBlockPush => true
  | .learnApply => true
  | .l2AgeingVisit idx => decide (idx < 262144)
  | .lookupTableScrub _ => true
  | .tcamScrub _ => true
  | .twinRepair _ n => decide (n < 65536)
  | .twinCopyDone => true
  | .twinHalfClearDone => true
  | .epochBankDrained => true
  | .drainedCommitBoundary => true
  | .drainLimitExpiry => true
  | .gateListStart p => decide (p < 64)
  | .gateEntryChange p => decide (p < 64)
  | .sampleInstant idx => decide (idx < 8192)
  | .schedulerScrub _ => true
  | .aonTick _ _ => true
  | .servoUpdate d _ => decide (d < 2)
  | .syncWatchdogExpiry d => decide (d < 2)
  | .switchover => true
  | .slewComplete => true
  | .revertTimer => true
  | .ppsOutEdge => true
  | .rclkResume out => decide (out < 2)
  | .laneSignalDetected lane => decide (lane < 90)
  | .laneCdrLock lane => decide (lane < 90)
  | .lanePolarityFound lane _ => decide (lane < 90)
  | .laneEqConverged lane margin ctle _ _ => decide (lane < 90) && decide (margin < 65536) && decide (ctle < 32)
  | .laneOrderIdentified link _ => decide (link < 66)
  | .fecAlignLock link => decide (link < 66)
  | .laneStageLimitExpiry lane => decide (lane < 90)
  | .laneLossOfSignal lane => decide (lane < 90)
  | .laneCdrLoss lane => decide (lane < 90)
  | .fecLockLoss link => decide (link < 66)
  | .uncorrWindowEnd p _ _ _ => decide (p < 64)
  | .retrainGapExpiry link => decide (link < 66)
  | .retrainAttemptEnd link _ => decide (link < 66)
  | .marginMeasurement lane margin _ _ => decide (lane < 90) && decide (margin < 65536)
  | .steeringBlockReceive g _ => decide (g < 10)
  | .swapAckTimeout g => decide (g < 10)
  | .swapAdaptationDone g => decide (g < 10)
  | .spareReady g margin ctle _ _ => decide (g < 10) && decide (margin < 65536) && decide (ctle < 32)
  | .spareTrainTimeout lane => decide (lane < 90)
  | .lanePllLoss g pll => decide (g < 10) && decide (pll < 2)
  | .hbmIssueSlot pc => decide (pc < 128)
  | .hbmRefreshSlot pc => decide (pc < 128)
  | .hbmWriteAccept pc => decide (pc < 128)
  | .hbmReadReturn pc => decide (pc < 128)
  | .hbmReadRetry pc => decide (pc < 128)
  | .retrainingVisit pc _ => decide (pc < 128)
  | .pcMigrationCopy stack => decide (stack < 4)
  | .pcRemap stack => decide (stack < 4)
  | .temperaturePoll stack _ => decide (stack < 4)
  | .patrolScrub => true
  | .frequencyChangeDone _ _ => true
  | .maceEvent => true
  | .maceSubwindowRoll src => decide (src < 256)
  | .pipelineSwapDone => true
  | .tcamBlockSwapDone => true
  | .sramRowReplaceDone => true
  | .sentinelRun pl _ => decide (pl < 17)
  | .cvuStreamDone u _ => decide (u < 32)
  | .portQuietEnter p => decide (p < 64)
  | .portDozeEnter p => decide (p < 64)
  | .portWake p => decide (p < 64)
  | .dozeWakeTimeout p => decide (p < 64)
  | .pipelineClockGate pl half => decide (pl < 17) && decide (half < 2)
  | .pipeDomainPowerGate dom => decide (dom < 5)
  | .standbyEntered => true
  | .standbyExitDone _ _ => true
  | .wearSample _ => true
  | .sparePolicyEvaluation => true
  | .spareWindowOpen => true
  | .traceRecordWrite => true
  | .impairArmTimeExpiry p => decide (p < 64)
  | .impairTokenExpiry => true
  | .chainBlockReceive g _ _ => decide (g < 2)
  | .chainRetransmitExhausted g => decide (g < 2)
  | .controlFrameSend => true
  | .controlFrameReceive g => decide (g < 2)
  | .flowFrameArrival g => decide (g < 2)
  | .resultFrameArrival g => decide (g < 2)
  | .wrapTimeoutExpiry g => decide (g < 2)
  | .unwrap g => decide (g < 2)
  | .memberTimeoutExpiry m => decide (m < 4)
  | .fallbackRebind => true
  | .devHeartbeat => true
  | .cloveHeartbeatTimeout => true
  | .unknownOp op r => decide (op < 65536) && r.wf
  | .doorbellWhileBusy mbx => decide (mbx < 8)
  | .tcwInvalidOp _ => true
  | .obsBadCmd _ => true
  | .firmwareAssertion => true
  | .pcieLinkUp => true
  | .perstNRelease => true
  | .prbsCheckerLock lane => decide (lane < 90)
  | .prbsCheckerLossOfLock lane _ _ => decide (lane < 90)
  | .ptpMasterChange d => decide (d < 2)
  | .ppsOutPulseEnd => true
  | .poolAuditWalk _ => true
  | .jtagAccess ir => decide (ir < 256)
  | .persistentFailureColdReset => true
  | .evrInterruptModeration => true

end Sys2Proof
end

