-- ==== Sys2Proof/Tests/Slice0.lean ====
section
/-!
SUPPORT. Tests: ill-formed commands that WellFormed refuses, worked examples of the spec, and for every statement a witness of
each of its clauses: operands and a state that meet the clause's hypotheses together.
-/
namespace Sys2Proof.Tests
open Sys2Proof.Machine
set_option Elab.async false
set_option linter.unusedVariables false

/-- A request in mailbox 0 with an inline body, with SEQ 1 and EPOCH `e`. -/
def req (b : Bytes) (e : BitVec 32 := 0) : YcpReq :=
  { mbx := 0, doorbell := 1, tag := 0, flags := 0, rsv6 := 0, length := BitVec.ofNat 32 b.length, epoch := e, seq := 1,
    rsv20 := 0, rsv24 := 0, body := b, dmaData := none, dmaWriteOk := true }

/-- A state in which firmware serves the mailboxes: stage READY. -/
def ready : State := { State.reset with host := { State.reset.host with stage := 6 } }

/-- A request whose mailbox is free, on a device that is READY. -/
def servedAt (b : Bytes) (s : State) : Bool :=
  decide (b.length ≤ 4064) && s.host.stage == 6 && !s.fw.halted && !(getMbx 0 s).busy && !(getMbx 0 s).lost &&
    (getMbx 0 s).lastSeq == 0 && decide (executing s < 4) && s.host.waiting.isEmpty

theorem takes {op : Nat} {b : Bytes} {e : BitVec 32} {s : State} (h : servedAt b s = true) : Accepted op (req b e) s := by
  simp only [servedAt, Bool.and_eq_true, Bool.not_eq_true', beq_iff_eq, decide_eq_true_eq] at h
  obtain ⟨⟨⟨⟨⟨⟨⟨h1, h2⟩, h3⟩, h4⟩, h5⟩, h6⟩, h7⟩, h8⟩ := h
  refine ⟨?_, ?_, h4, h5, rfl, ?_, ⟨h7, List.isEmpty_iff.mp h8⟩, (by decide : (0 : BitVec 16).toNat < 4), ⟨rfl, rfl, rfl⟩, ?_, ?_⟩
  · simp [served, h2, h3, stageFW_INIT, stageREADY]
  · intro h
    rw [h2] at h
    cases h
  · show (1 : BitVec 32) ≠ _
    rw [show (getMbx (req b e).mbx s).lastSeq = 0 from h6]
    decide
  · intro _
    show (BitVec.ofNat 32 b.length).toNat ≤ 4064
    rw [BitVec.toNat_ofNat]
    exact Nat.le_trans (Nat.mod_le _ _) h1
  · intro h
    exact absurd (show (0 : BitVec 16).getLsbD 0 = true from h) (by decide)

/-- The same request by DMA, with room for `max` bytes of response. -/
def reqDma (b : Bytes) (max : Nat) : YcpReq :=
  { req (zeros 8 ++ leBytes 4 b.length ++ leBytes 4 max ++ zeros 16) with flags := 1, dmaData := some b }

theorem takesDma {op : Nat} {b : Bytes} {max : Nat} {s : State} (h : servedAt [] s = true)
    (hn : (leNat (leBytes 4 b.length)) ≤ 16777216) : Accepted op (reqDma b max) s := by
  have k : Accepted op (req []) s := takes h
  have e : reqLen (reqDma b max) = leNat (leBytes 4 b.length) := rfl
  refine ⟨k.served, k.rom, k.busy, k.lost, rfl, k.seq, k.turn, (by decide : (1 : BitVec 16).toNat < 4), ⟨rfl, rfl, rfl⟩, ?_, ?_⟩
  · intro h
    exact absurd (show (1 : BitVec 16).getLsbD 0 = false from h) (by decide)
  · intro _
    refine ⟨rfl, rfl, ?_, rfl, rfl⟩
    rw [e]
    exact hn

/-- The image of a standard flow whose key is zero: CTRL, SLOT and LAST. -/
def img (ctrl slot last : Nat) : Bytes := zeros 48 ++ leBytes 4 ctrl ++ leBytes 4 slot ++ leBytes 4 last ++ zeros 68

def ent (ctrl slot last : Nat) : HotEntry := { img := img ctrl slot last }

/-- A migration with the numbers of its old and new index. -/
def m0 : Migration := { oldB := 20, newB := 21, oldSeed := 0, newSeed := 0 }

/-- The first way of the set of the key that is zero. -/
def keyPlace : Nat := 8 * hotSetOf (flowHash 0 (compactKey 0 (zeros 48))).1

/-- A state with one hot flow in a place. -/
def oneHot (k : Nat) (e : HotEntry) (s : State) : State := { s with flow := { s.flow with hot := [(k, e)] } }

/-- A state with the undo log 0 in use. -/
def oneLog (u : UndoLog) (s : State) : State := { s with flow := { s.flow with log := [(0, u)] } }

/-- Bank 0, which is active at reset, with a flow profile 0. -/
def profile0 (b : Bytes) (s : State) : State :=
  { s with ep := { s.ep with bank0 := { s.ep.bank0 with flowProf := [(0, b)] } } }

/-- Bank 0 with template 1. -/
def template1 (b : Bytes) (s : State) : State :=
  { s with ep := { s.ep with bank0 := { s.ep.bank0 with templates := [(1, b)] } } }

/-- The mode word of bank 0, with one bit set. -/
def moded (n : Nat) (s : State) : State :=
  { s with ep := { s.ep with bank0 := { s.ep.bank0 with mode := 1 <<< n } } }

/-- Task level 0 in back-pressure. -/
def pressed (s : State) : State := { s with task := { s.task with level := [(0, { bp := true })] } }

/-- One packet in an admission queue. -/
def queued (s : State) : State := { s with flow := { s.flow with admq := [(0, [0])] } }

/-- Bytes in flow memory. -/
def withMem (m : List Host.Cell) (s : State) : State := { s with hbm := { s.hbm with mem := m } }

/-- Bytes of flow memory at an address. -/
def cells (a : Nat) (b : Bytes) : List Host.Cell := (b.mapIdx fun i v => (a + i, v)).filter fun c => c.2 != 0

/-- A log whose key is zero. -/
def u0 : UndoLog := { key := zeros 48 }

/-- The places of that key's index lines at reset. -/
def p0 : IdxPlace := placeOfKey (compactKey 0 (zeros 48)) State.reset

/-- An index line in which one slot matches that key. -/
def line0 : Bytes := leBytes 1 1 ++ zeros 3 ++ leBytes 6 (slotMake (fp16Of p0.hlo) 5 true) ++ zeros 54

theorem someEta {α β : Type} {x : Option (α × β)} (h : x.isSome = true) : x = some ((x.get h).1, (x.get h).2) :=
  (Option.some_get h).symm

theorem sum_replicate (n k : Nat) : (List.replicate n k).sum = n * k := by simp

/-- Many records in bucket 0 of the reset index: its line is in the bucket cache. -/
def many (n : Nat) : State :=
  { withMem (List.replicate n (idxBase false, 15)) ready with
    flow := { ready.flow with bucket := [(bucketKey false 0, some (15 :: zeros 63))] } }

theorem recordCount_many (n : Nat) : recordCount (many n) = n * 15 := by
  show (((List.replicate n (idxBase false, (15 : Byte))).filter fun c =>
    decide (idxBase false ≤ c.1 ∧ c.1 < idxBase false + 64 * 2 ^ 28) && c.1 % 64 == 0).map fun c =>
      lineCount (lineNow false ((c.1 - idxBase false) / 64) (many n))).sum = _
  rw [List.filter_replicate, if_pos (by decide +kernel), List.map_replicate, sum_replicate]
  rfl

theorem manyRecords : 4 * 2 ^ fld (reqBody (req (leBytes 4 1 ++ leBytes 1 20 ++ zeros 11 ++ leBytes 4 100))) 4 1 <
    recordCount (many 279621) := by
  rw [recordCount_many]
  decide +kernel

/-- A frame with what the pipeline knows of it. -/
def withPkt (d : Nat) (k : Pkt) (s : State) : State := { s with buf := { s.buf with frame := [(d, { pkt := some k })] } }

theorem fstSome {α β : Type} {x : Option α × β} (h : x.1.isSome = true) : x = (some (x.1.get h), x.2) := by
  rw [Option.some_get]

theorem fstEq {α β : Type} {x : α × β} {a : α} (h : x.1 = a) : x = (a, x.2) := by rw [← h]

theorem deleteFlow_hot {key : Bytes} {s s' : State} {k : Nat} {e : HotEntry}
    (h : setsCheck (compactKey s.flow.fpSeed key) s = s') (h1 : hotOfKey key s' = some k)
    (h2 : hotGet k s' = some e)
    (h3 : (!imgProv e.img && s.flow.mig.isNone && canAge (imgProfile e.img) s' && (imgNoslot e.img || !keyHeld key s')) = true) :
    deleteFlow key s = yOk [] (deleteHot k e s') := by
  simp only [deleteFlow, h, h1, h2, h3, need]
  rfl

/-- A state with one context in use. -/
def oneCtx (x : Ctx) (s : State) : State := { s with task := { s.task with ctx := [(0, x)] } }

/-- A state with one task on level 0. -/
def oneTask (t : Task) (s : State) : State := { s with task := { s.task with level := [(0, { slots := [t] })] } }

/-- A host run whose start task has not run yet. -/
def run0 : HostRun := { tpl := 0, bank := false, v := [] }

/-- A template of one node that does nothing. -/
def tpl0 (kind : Nat) : Bytes := tplMake kind 0 0 "" [{ op := 0 }]

/-- Start tasks in the ring of level 0. -/
def starts (n : Nat) (s : State) : State :=
  { s with task := { s.task with level := [(0, { ring := List.replicate n { ty := .start, level := 0 } })] } }

theorem starts_inRing (n : Nat) (s : State) : startsInRing 0 (starts n s) = n := by
  show ((List.replicate n ({ ty := .start, level := 0 } : Task)).filter fun t => t.ty == .start).length = _
  rw [List.filter_replicate, if_pos (by decide), List.length_replicate]

theorem starts_ring (n : Nat) (s : State) : (getLevel 0 (starts (n + 1) s)).ring.isEmpty = false := rfl

def manyStarts (s : State) : State := starts (2097151 + 1) s

theorem startsRefused {l : Nat} (s : State) (hl : l = 0) : startRefused l (manyStarts s) = true := by
  subst hl
  rw [startRefused, manyStarts, starts_inRing, starts_ring]
  simp

/-- A full cache: object 0 is the least recently used. -/
def fullCache (s : State) : State := { s with svc := { s.svc with ctxLru := 0 :: List.replicate 16383 1 } }

/-- A service entry of port 0 and VLAN 0. -/
def serviced (e : Bytes) (s : State) : State := { s with look := { s.look with svc := [(0, e)] } }

theorem notRep {n x : Nat} (h : x ≠ 1) : x ∉ List.replicate n 1 := fun m => h (List.eq_of_mem_replicate m)

theorem notFull {n x : Nat} (h : x ≠ 1) (h0 : x ≠ 0) : x ∉ 0 :: List.replicate n 1 := by
  simp [h, h0]

theorem fullLength (n : Nat) : (0 :: List.replicate n 1).length = n + 1 := by simp

/-- The first way of the L2 set of FID 0 and address 0. -/
def l2Slot : Nat := 8 * l2Set 0 (zeros 6) State.reset

/-- The L2 entry of FID 0, address 0 and port 0, with its control bits. -/
def learned (ctrl : Nat) (s : State) : State := { s with look := { s.look with l2 := [(l2Slot, l2Make (zeros 6) 0 0 ctrl 0 0)] } }

/-- That set full of other addresses. -/
def fullSet (s : State) : State :=
  { s with look := { s.look with l2 := (List.range 8).map fun w => (l2Slot + w, l2Make [2] 0 0 1 0 0) } }

/-- The address 0 waits in the learn queue. -/
def learning (port time : Nat) (s : State) : State :=
  { s with look := { s.look with learnq := [{ fid := 0, mac := zeros 6, port := port, time := time }] } }

/-- A CAM with one entry, which every key matches. -/
def camOne (s : State) : State :=
  { s with look := { s.look with cam := [(0, zeros 22 ++ [128] ++ zeros 9)], camProf := [(0, zeros 20 ++ [1] ++ zeros 11)] } }

/-- Values of the table command window. -/
def window (t : Tbl Nat) (s : State) : State := { s with host := { s.host with tcw := t } }

/-- Port 0 enabled and up. -/
def port0 (s : State) : State :=
  { s with lanes := { s.lanes with port := [(0, put (portDefault 0) 1 [1])], link := [(0, { phase := .up })] } }

/-- A frame whose check sequence holds. -/
def good : Bytes := withFcs (zeros 64)

/-- One frame. -/
def withFrame (f : Frame) (s : State) : State := { s with buf := { s.buf with frame := [(0, f)] } }

/-- A descriptor timestamp one second before the start of time. -/
def longAgo : Nat := (2 ^ 32 - 1) * 2 ^ 30

/-- The body of GATE_LIST_WRITE with one entry. -/
def gateBody : Bytes := zeros 6 ++ leBytes 2 1 ++ zeros 12 ++ leBytes 4 1000 ++ leBytes 2 1 ++ zeros 6 ++ leBytes 4 8 ++ zeros 4

/-- A gate list of one entry. -/
def gates : GateList := { entries := [(0, leBytes 4 1000 ++ zeros 4)], cycle := 1000, count := 1 }

/-- The body of SAMPLE_RING_SET for ring 0. -/
def ringBody : Bytes := zeros 4 ++ [16] ++ zeros 3 ++ leBytes 8 (regionBase 10 + 16777216)

/-- Port 0 enabled under a record, its link in a phase, and the lanes given. -/
def linked (b : Bytes) (ph : LinkPhase) (t : Tbl Lane) (s : State) : State :=
  { s with lanes := { s.lanes with port := [(0, b)], link := [(0, { phase := ph })], lane := t } }

/-- The reset record of port 0, enabled. -/
def rec0 : Bytes := put (portDefault 0) 1 [1]

theorem oneLink {g k a : Nat} {s : State} {P : Nat → Prop} (h : linkOfLogical g k s = some a) (p : P a) :
    ∀ l, linkOfLogical g k s = some l → P l := by
  intro l e
  rw [h] at e
  cases e
  exact p

/-- A steering block. -/
def steer (a c : Byte) : Bytes :=
  let x := leBytes 2 0xF0A5 ++ [a, 0, c] ++ zeros 9
  x ++ leBytes 2 (crc16 x)

def withGroup (x : LaneGroup) (s : State) : State := { s with lanes := { s.lanes with group := [(0, x)] } }

/-- Domain 1 of the time base. -/
def domain1 (x : TimeDomain) (s : State) : State := { s with time := { s.time with d1 := x } }

/-- PC 0, with the controllers running and the bad symbols given. -/
def pc0 (x : Pc) (bad : Tbl Nat) (s : State) : State :=
  { s with hbm := { s.hbm with pc := [(0, x)], bad := bad, stopped := false } }

/-- A read of line 0. -/
def read0 : HbmReq := { req := 0, line := 0, write := false }

/-- A command that does nothing. -/
def handler : YHandler := fun _ _ _ s => yOk [] s

/-- The public key of RFC 6979, A.2.5. -/
def pubkey : Bytes :=
  beBytes 32 0x60FED4BA255A9D31C961EB74C6356D68C049B8923B61FA6CE669622E60F29FB6 ++
    beBytes 32 0x7903FE1008B8BC99A41AE9E95628BC64F2F1B20C2D7E9F5177A3C294D4462299

/-- An image with no body and ROLLBACK 1, signed with that key. -/
def image : Bytes :=
  leBytes 4 0x59584657 ++ leBytes 2 1 ++ zeros 6 ++ [1] ++ zeros 19 ++ sha256 [] ++ pubkey ++
    beBytes 32 0x088bb9ff22ab291a74c86fc677ba897baadee370cc6129b82d170ba3fc26415c ++
    beBytes 32 0x3e6ec12b862391d893b5bdb2a396121c349e6bd7929e9ea9a9de6d123cfdaa49 ++ zeros 64

/-- That image in slot A, and the hash of its key in OTP key slot 0. -/
def flashed (s : State) : State :=
  { s with fw := { s.fw with flash := cells 0x100000 image, otpKeys := [(0, sha256 pubkey)] } }

/-- The same with BOOT_CTRL copy A: slot A, a trial pending. -/
def trialled (s : State) : State :=
  { bootWrite false true (flashed s) with fw := { (bootWrite false true (flashed s)).fw with trial := true } }

/-- The event ring enabled, with one entry waiting. -/
def ringed (s : State) : State :=
  { s with host := { s.host with evrEnable := true, backlog := [⟨1, []⟩], modPending := true } }

/-- Injection queue 0 and punt queue 0 ready. -/
def queues (s : State) : State :=
  { s with host := { s.host with dmaq := [(0, { enabled := true, tail := 1 }), (8, { enabled := true, tail := 1 })] } }

/-- A copy in punt queue 0. -/
def copy0 : PuntItem := { data := [], port := 0, code := 0, kind := 0, reason := 0, stamp := 0, ptp := none }

def punted (s : State) : State := { s with buf := { s.buf with puntq := [(0, [copy0])] } }

/-- A descriptor of a 60-byte frame for port 0, into its ingress. -/
def inj0 : Bytes := zeros 8 ++ leBytes 2 60 ++ leBytes 2 1 ++ zeros 20

/-- A full backlog. -/
def evFull : State := { State.reset with host := { State.reset.host with backlog := List.replicate 4096 ⟨1, []⟩ } }

theorem evFull_len : 4096 ≤ evFull.host.backlog.length := by
  show 4096 ≤ (List.replicate 4096 (⟨1, []⟩ : EvEntry)).length
  exact Nat.le_of_eq List.length_replicate.symm

/-- Port 0 up, injection queue 0 ready and the domain of pipeline 0 on. -/
def injState : State := { port0 (queues ready) with pwr := { ready.pwr with domain := [(domPIPE 0, .on)] } }

/-- Power state. -/
def frugal (s : State) : State := linked rec0 .up [] (moded mFRUGAL { s with pwr := { s.pwr with sleepRec := [(0, [3])] } })

/-- JOIN_CONFIG: operation and member bits, with the least timeouts and no fallback pools. -/
def joinBody (op members : Nat) : Bytes :=
  leBytes 1 op ++ leBytes 1 members ++ zeros 6 ++ leBytes 4 100 ++ leBytes 4 300 ++ List.replicate 64 0xFF

/-- Both chain links up. -/
def chained (s : State) : State :=
  { s with lanes := { s.lanes with link := [(64, { phase := .up }), (65, { phase := .up })] } }

/-- Chain group 0. -/
def withChain (x : ChainGroup) (s : State) : State := { s with join := { s.join with group := [(0, x)] } }

/-- JOINED, with members 0 and 1 present. -/
def joined (s : State) : State :=
  { moded mJOINED s with join := { s.join with members := 3, present := 3, homeMap := List.replicate 16 1 } }

/-- One subscriber whose home moved here. -/
def movedOne : State :=
  { joined (withMem [(dirAddr 5, 1)] State.reset) with
    join := { State.reset.join with moved := [5], fallback := zeros 64 } }

/-- A marked packet of bank 0 in flight. -/
def flying (s : State) : State := { s with buf := { s.buf with frame := [(0, { pkt := some {} })] } }

/-- Bank 1, the shadow at reset, with a mode word. -/
def shadowMode (n : Nat) (s : State) : State :=
  { s with ep := { s.ep with bank1 := { s.ep.bank1 with mode := 1 <<< n } } }

/-- The request of an EPOCH_COMMIT that waits in mailbox 0. -/
def commitWaits (s : State) : State :=
  { s with ep := { s.ep with commit := .draining, commitMbx := some 0 }
           host := { s.host with mbx := [(0, { busy := true, running := some (0x0110, req (zeros 4)) })] } }

/-- A daily window that is open at time 0. -/
def openWindow : Bytes := put policyDefault 4 (zeros 4)

/-- A TCAM block with as many errors in the day as the policy asks for. -/
def agedTcam : State := { State.reset with spare := { State.reset.spare with errDay := [(5 * 16777216 + 3, 255)] } }

/-! A state with one part changed. -/

def onFlow (f : FlowState → FlowState) (s : State) : State := { s with flow := f s.flow }
def onBuf (f : BufState → BufState) (s : State) : State := { s with buf := f s.buf }
def onMace (f : MaceState → MaceState) (s : State) : State := { s with mace := f s.mace }
def onTask (f : TaskState → TaskState) (s : State) : State := { s with task := f s.task }
def onSvc (f : SvcState → SvcState) (s : State) : State := { s with svc := f s.svc }
def onLook (f : LookupState → LookupState) (s : State) : State := { s with look := f s.look }
def onLanes (f : LaneState → LaneState) (s : State) : State := { s with lanes := f s.lanes }
def onHbm (f : HbmState → HbmState) (s : State) : State := { s with hbm := f s.hbm }
def onHost (f : HostState → HostState) (s : State) : State := { s with host := f s.host }
def onEp (f : EpochState → EpochState) (s : State) : State := { s with ep := f s.ep }
def onPwr (f : PowerState → PowerState) (s : State) : State := { s with pwr := f s.pwr }
def onPins (f : PinState → PinState) (s : State) : State := { s with pins := f s.pins }
def onJoin (f : JoinState → JoinState) (s : State) : State := { s with join := f s.join }
def onTime (f : TimeState → TimeState) (s : State) : State := { s with time := f s.time }
def onSched (f : SchedState → SchedState) (s : State) : State := { s with sched := f s.sched }

/-- The fast clock as late as it can stand before the next tick. -/
def late (s : State) : State := onTime (fun t => { t with phase := 79 }) s

theorem fastClock_late {s : State} (h : s.time.phase = 79) : fastClock s = tookFree s := by
  show { tookFree s with time := { s.time with phase := min 79 (s.time.phase + freeVal s % (80 - s.time.phase)) } } = tookFree s
  rw [h, Nat.mod_one]
  show { tookFree s with time := { s.time with phase := 79 } } = tookFree s
  rw [← h]
  rfl

/-- A read of a line waits at its PC. -/
def reading (req line : Nat) (s : State) : State :=
  onHbm (fun h => { h with pc := [(linePc line s, { reads := [{ req := req, line := line, write := false }] })] }) s

/-- A write of a line waits for room in the queue of its PC. -/
def writing (req line : Nat) (s : State) : State :=
  onHbm (fun h => { h with pc := [(linePc line s, { waitW := [{ req := req, line := line, write := true }] })] }) s

/-- A frame received whole waits at port 0 for pipeline 0. -/
def portFrame0 (s : State) : State := onBuf (fun b => { b with rxq := [(0, [0])], frame := [(0, {})] }) s

/-- Packet 0 waits in the re-run queue of pipeline 0. -/
def rerun0 (s : State) : State := onFlow (fun f => { f with rerunq := [(0, [0])] }) s

/-- A check frame is owed to pipeline 0. -/
def sentinel0 (s : State) : State := onMace (fun m => { m with sentinelOwed := [(0, 1)] }) s

/-- Internal traffic of pipeline 0 had its grant so many port grants ago. -/
def granted0 (n : Nat) (s : State) : State := onBuf (fun b => { b with granted := [(0, n)] }) s

/-- The line of bucket 0 names record 5, whose flow has been idle, and no context is free. -/
def sweptLine (s : State) : State :=
  pressed (withMem (cells (lineAddr false 0) (leBytes 1 1 ++ zeros 3 ++ leBytes 6 (slotMake 0 5 true)) ++ cells (64 * 5) (img 1 5 (2 ^ 32 - 4000000)))
    (profile0 (zeros 6 ++ leBytes 2 1 ++ zeros 12 ++ leBytes 2 1 ++ zeros 10) s))

def sweptWork : BucketWork := { key := bucketKey false 0, copy := false, left := [(5, true)] }


/-- The bucket cache full of lines of other buckets. -/
def fullBuckets (s : State) : State := onFlow (fun f => { f with bucket := List.replicate 65536 (1, none) }) s

theorem tget_replicate {α : Type} {a k : Nat} {v : α} (h : a ≠ k) (n : Nat) : tget? (List.replicate n (a, v)) k = none := by
  induction n with
  | zero => rfl
  | succ n ih => simp [List.replicate, tget?, h, ih]

theorem fullBuckets_none (s : State) : tget? (fullBuckets s).flow.bucket (bucketKey false 0) = none :=
  tget_replicate (by decide) 65536

theorem fullBuckets_length (s : State) : 65536 ≤ (fullBuckets s).flow.bucket.length :=
  Nat.le_of_eq List.length_replicate.symm


/-- Port 0 with cut-through or without, class 0 with it, and the head of a packet that matches no rule sent to port 0. -/
def cutting (en : Byte) (s : State) : State :=
  let b : Bank := { s.ep.bank0 with
    profiles := [(0, put (profileDefault 0) 1 [2])], cls := [(0, leBytes 8 (1 + 2 ^ 20) ++ zeros 8)] }
  let f : Frame := { data := zeros 512, len := 1000, arrived := some 0 }
  onEp (fun e => { e with bank0 := b }) (onBuf (fun z => { z with
    rxq := [(0, [0])], port := [(0, put portBufDefault 0 [en])], cls := [(0, put classDefault 1 [1])], frame := [(0, f)] })
      (serviced ([1, 1] ++ zeros 22) (port0 s)))

/-- A pause frame for priority 0. -/
def pauseFrame : Bytes := withFcs ([1, 0x80, 0xC2, 0, 0, 1] ++ zeros 6 ++ [0x88, 8, 1, 1, 0, 1] ++ zeros 46)

/-- No cell is left in pools 0 and 1. -/
def noCells (s : State) : State := onBuf (fun z => { z with pool := [(0, { levels := 15 }), (1, {})] }) s

/-- The head of a frame of `n` bytes waits at port 0. -/
def heading (n : Nat) (s : State) : State :=
  onBuf (fun z => { z with rxq := [(0, [0])], frame := [(0, { arrived := some 0, len := n })] }) s

/-- An upset of the fabric at link 0, in so many symbols of the flit. -/
def upset (m : Nat) : Injection := { struct := injFABRIC, whereAt := 0, symbols := m }


/-- The head of the chain FIFO of group 0 of a joined member. -/
def arriving (b : Byte) (s : State) : State := moded mJOINED (withChain { fifoNorm := [[b]] } s)

/-- BANK_COPY runs for the request in mailbox 0. -/
def copying (n : Nat) : State :=
  { ready with
    ep := { ready.ep with copyMbx := some 0, copyLeft := n }
    host := { ready.host with mbx := [(0, { busy := true, running := some (0x0111, req []) })] } }

/-- A re-run packet waits for the pipelines of the two arrivals, after eight port grants. -/
def crowded (s : State) : State :=
  onBuf (fun b => { b with granted := [(0, 8), (14, 8)] }) (onFlow (fun f => { f with rerunq := [(0, [0]), (14, [0])] }) s)

/-- The cache of subscriber contexts holds one object over and over, whose confirmation awaits it. -/
def pinnedN (n : Nat) (s : State) : State :=
  { oneLog { u0 with phase := .subctx, sub := some 0 } s with svc := { s.svc with ctxLru := List.replicate n 0 } }

def pinned0 (s : State) : State := pinnedN 16384 s

theorem pinnedN_waits {n o : Nat} (hn : 16384 ≤ n) (ho : o = 1) (s : State) : mustWait .ctx o (pinnedN n s) = true := by
  subst ho
  have h0 : objPinned .ctx 0 (pinnedN n s) = true := by simp [objPinned, pinnedN, oneLog]
  show (decide (16384 ≤ (List.replicate n 0).length) && (List.replicate n 0).all (fun o => objPinned .ctx o (pinnedN n s)) &&
    !(List.replicate n 0).contains 1) = true
  rw [List.length_replicate, List.all_replicate, List.contains_replicate, h0, decide_eq_true hn]
  simp

theorem pinned0_waits {o : Nat} (ho : o = 1) (s : State) : mustWait .ctx o (pinned0 s) = true :=
  pinnedN_waits (Nat.le_refl 16384) ho s

/-- Port 0 takes the lane of port 1. -/
def wide0 (s : State) : State := { s with lanes := { s.lanes with port := [(0, put (portDefault 0) 1 [3])] } }

theorem noTurn {pl : Nat} {s : State} {P : Nat → Nat → Prop} (h : ∀ k, k < 8 → (injTurn pl k s).isNone = true) :
    ∀ k n, k < 8 → injTurn pl k s = some n → P k n := by
  intro k n hk e
  have := h k hk
  rw [e] at this
  cases this

/-- Inject queue 0 waits for pipeline 0 with arrival number 5; queue 1 is ready. -/
def inTurn (s : State) : State :=
  onHost (fun h => { h with dmaq := [(0, { enabled := true, tail := 1, waits := some (0, 5) }), (1, { enabled := true, tail := 1 })] }) s

/-! WellFormed refuses an ill-formed command, one for each kind of check. -/

/-- R407: a body of 4,065 bytes does not fit a mailbox. -/
theorem test_wf_body : (Instr.nop (req (zeros 4065))).wellFormed = false := by decide +kernel

/-- The longest body does. -/
theorem test_wf_body_max : (Instr.nop (req (zeros 4064))).wellFormed = true := by decide +kernel

theorem test_wf_unknown_op : (Instr.unknownOp 65536 (req [])).wellFormed = false := by decide +kernel

theorem test_wf_register : (Instr.registerWrite 131072 0).wellFormed = false := by decide

theorem test_wf_queue : (Instr.injTailWrite 8 0).wellFormed = false ∧ (Instr.puntTailWrite 8 0).wellFormed = false := by decide

theorem test_wf_agequeue : (Instr.agerVisit 132096).wellFormed = false := by decide

theorem test_wf_obs : (Instr.obsRead 1099511627776 1).wellFormed = false := by decide

theorem test_wf_devid : (Instr.aonPowerGood 4 true true).wellFormed = false := by decide

theorem test_wf_port : (Instr.frameReceive 64 [] 0).wellFormed = false ∧ (Instr.portWake 64).wellFormed = false := by decide

theorem test_wf_pause : (Instr.pauseQuantaExpiry 0 8).wellFormed = false ∧ (Instr.pauseFrameReceive 0 256 []).wellFormed = false := by
  decide

theorem test_wf_link : (Instr.remoteFaultReceive 66).wellFormed = false ∧ (Instr.schedulerSelection 66).wellFormed = false := by decide

theorem test_wf_lane : (Instr.laneCdrLock 90).wellFormed = false ∧ (Instr.laneEqConverged 0 0 32 0 []).wellFormed = false := by decide

theorem test_wf_group : (Instr.swapAckTimeout 10).wellFormed = false ∧ (Instr.lanePllLoss 0 2).wellFormed = false ∧
    (Instr.chainBlockReceive 2 [] false).wellFormed = false := by decide

theorem test_wf_pipe : (Instr.admissionQueueStart 17).wellFormed = false ∧ (Instr.pipelineClockGate 16 2).wellFormed = false := by
  decide

theorem test_wf_log : (Instr.confirm 65536).wellFormed = false ∧ (Instr.hbmNodeCompletion 0 33).wellFormed = false ∧
    (Instr.waitEventTimer 0 32).wellFormed = false := by decide

theorem test_wf_engine : (Instr.engineClockGate 68).wellFormed = false ∧ (Instr.spillRingRefill 8).wellFormed = false := by decide

theorem test_wf_power : (Instr.domainPowerGood 24 false).wellFormed = false ∧ (Instr.pipeDomainPowerGate 5).wellFormed = false ∧
    (Instr.supplyOutOfRange 12).wellFormed = false := by decide

theorem test_wf_memory : (Instr.hbmIssueSlot 128).wellFormed = false ∧ (Instr.pcRemap 4).wellFormed = false := by decide

theorem test_wf_tables : (Instr.l2AgeingVisit 262144).wellFormed = false ∧ (Instr.twinRepair false 65536).wellFormed = false ∧
    (Instr.sampleInstant 8192).wellFormed = false := by decide

theorem test_wf_units : (Instr.maceSubwindowRoll 256).wellFormed = false ∧ (Instr.cvuStreamDone 32 []).wellFormed = false ∧
    (Instr.slewComplete).wellFormed = true := by decide

theorem test_wf_time : (Instr.syncWatchdogExpiry 2).wellFormed = false ∧ (Instr.rclkResume 2).wellFormed = false ∧
    (Instr.ppsInEdge 5242880).wellFormed = false := by decide

theorem test_wf_others : (Instr.memberTimeoutExpiry 4).wellFormed = false ∧ (Instr.doorbellWhileBusy 8).wellFormed = false ∧
    (Instr.jtagAccess 256).wellFormed = false := by decide

/-! Worked examples and check values of the spec. -/

/-- The ASCII bytes of 123456789. -/
def digits9 : Bytes := [0x31, 0x32, 0x33, 0x34, 0x35, 0x36, 0x37, 0x38, 0x39]

/-- R374. -/
theorem test_crc_presets : crc32 digits9 = 0xCBF43926 ∧ crc32c digits9 = 0xE3069283 ∧ crc16 digits9 = 0x29B1 ∧
    crc crc64Params digits9 = 0x995DC9BBDF1939FA := by decide +kernel

/-- R369: a unit whose only symbol is d31 = 1. -/
theorem test_sc256_check : sc256Check (zeros 31 ++ [1]) = [0x0F, 0x36, 0x78, 0x40] := by decide +kernel

/-- R370: one bad symbol is corrected. -/
theorem test_sc256_corrects :
    sc256Decode (zeros 5 ++ [0x80] ++ zeros 25 ++ [1, 0x0F, 0x36, 0x78, 0x40]) = .corrected (zeros 31 ++ [1]) := by decide +kernel

/-- SHA-256 of the empty string (FIPS 180-4's algorithm). -/
theorem test_sha256 : sha256 [] = beBytes 32 0xE3B0C44298FC1C149AFBF4C8996FB92427AE41E4649B934CA495991B7852B855 := by decide +kernel

/-- RFC 6979, A.2.5: P-256, SHA-256, message "sample". -/
theorem test_ecdsa : ecdsaVerify pubkey (sha256 [0x73, 0x61, 0x6D, 0x70, 0x6C, 0x65])
    (beBytes 32 0xEFD48B2AACB6A8FD1140DD9CD45E81D69D2C877B56AAF991C34D0EA84EAF3716 ++
      beBytes 32 0xF7CB1C942D657C41D436C7A1B6E29F65F3E900DBB9AFF4064DC4AB2F843ACDA8) = true := by decide +kernel

/-- Another message does not verify. -/
theorem test_ecdsa_refuses : ecdsaVerify pubkey (sha256 [0x73])
    (beBytes 32 0xEFD48B2AACB6A8FD1140DD9CD45E81D69D2C877B56AAF991C34D0EA84EAF3716 ++
      beBytes 32 0xF7CB1C942D657C41D436C7A1B6E29F65F3E900DBB9AFF4064DC4AB2F843ACDA8) = false := by decide +kernel

/-- An image with a good signature is accepted; with an OTP count above its ROLLBACK it is not (R422). -/
theorem test_image : checkImage false (flashed ready) = .accepted ∧
    checkImage false { flashed ready with fw := { (flashed ready).fw with rollback := 2 } } = .rollback := by decide +kernel

/-- A changed header byte fails as a signature. -/
theorem test_image_changed : checkImage false
    { flashed ready with fw := { (flashed ready).fw with flash := cells 0x100000 (put image 8 [1]) } } = .signature := by
  decide +kernel

/-! The worked example of chapter 3: hashes 0x9E3A51C7 and 0x4C1D8E2B, B = 28. -/

theorem test_hot_set : hotSetOf 0x9E3A51C7 = 314240 ∧ fp16Of 0x9E3A51C7 = 0x51C7 := by decide +kernel

theorem test_index_line : lineAddr false 0x4C1D8E2 = 0x1130763880 ∧ partnerOf 28 0x9E3A51C7 0x4C1D8E2 = 0x1DDA8E2 := by decide +kernel

theorem test_slot_bytes : leBytes 6 (slotMake 0x51C7 0x0A3F1C20 true) = [0xC7, 0x51, 0x20, 0x1C, 0x3F, 0xCA] := by decide +kernel

theorem test_lines : subCtxAddr 0x2F1A3 = 0x198178D180 ∧ recAddr 0x0A3F1C20 = 0x28FC70800 ∧
    mapAddr (337 * 65536 + 41236) = 0x1A14684500 := by decide +kernel

/-- The worked example of R346: the decode of that index line. -/
theorem test_place : let x := placeOf State.reset.hbm 1153554658
    x.s = 1 ∧ x.p = 27 ∧ x.b = 15 ∧ x.c = 4 ∧ x.r = 36339 ∧ x.r / 24576 = 1 ∧ x.r % 24576 = 11763 := by decide +kernel

/-- The examples of R516 (spec/20_package_pins_electrical.md:48). -/
theorem test_lane_balls : laneBall 3 5 .txP = (2, 84) ∧ laneBall 3 5 .rxN = (4, 85) ∧ laneBall 8 0 .txP = (95, 74) := by decide

/-! The queue of commands. -/

/-- On an empty queue the block idles. -/
theorem test_idle : step State.reset = .next State.reset := rfl

/-- The command at the front runs and leaves the queue. -/
theorem test_front : step { State.reset with pending := [.devHeartbeat, .portWake 0] } =
    exec .devHeartbeat { State.reset with pending := [.portWake 0] } := rfl

/-- No row of the table gives bits. -/
theorem test_no_words (n w : Nat) : decodeTableWord n w = none := rfl

/-! Single steps. -/

/-- R408: NOP answers OK, STATUS 0, with SEQ in its response and DONE set. -/
theorem test_nop : (match exec (.nop (req [])) ready with
    | .next t => (getMbx 0 t).lastStatus == 0 && (getMbx 0 t).lastSeq == 1 && (getMbx 0 t).done
    | _ => false) = true := by decide +kernel

/-- R408: an undefined opcode answers UNKNOWN_OP, 0x0009. -/
theorem test_unknown : (match exec (.unknownOp 0x7777 (req [])) ready with
    | .next t => (getMbx 0 t).lastStatus == 9
    | _ => false) = true := by decide +kernel

/-- R528: above 100 °C TALERT_N falls. -/
theorem test_talert : (match exec (.junctionTemperatureCross 1001) State.reset with
    | .next t => !t.pins.talertN
    | _ => false) = true := by decide +kernel

/-- R523: the straps are sampled at AON power good. -/
theorem test_straps : (match exec (.aonPowerGood 3 false true) State.reset with
    | .next t => t.host.devid == 3 && !t.pins.spiQuad
    | _ => false) = true := by decide +kernel

/-- R422: with no image in either slot the ROM comes to RECOVERY. -/
theorem test_recovery : (match exec .bootImageChecked { State.reset with pwr := { State.reset.pwr with domain := [(domMGMT, .on)] } } with
    | .next t => t.host.stage == stageRECOVERY
    | _ => false) = true := by decide +kernel

/-- R442: POWER_STANDBY is refused while ASSURED is in force. -/
theorem test_standby_denied : (match exec (.powerStandbyEnter (req (leBytes 4 1 ++ zeros 4))) (moded mASSURED ready) with
    | .next t => (getMbx 0 t).lastStatus == stDENIED
    | _ => false) = true := by decide +kernel

/-! Witnesses: for every statement, operands and a state that meet the hypotheses of each clause together. -/

theorem witness_ResetState :
  (∃ i, i < 128) :=
  ⟨0, (by decide +kernel)⟩

theorem witness_StepsKeepTheStateSound :
  (∃ s s' : State, s.Sound ∧ step s = .next s') :=
  ⟨State.reset, State.reset, ⟨(by decide +kernel), (by decide +kernel), (by decide +kernel), (by decide +kernel)⟩, rfl⟩

theorem witness_WhatNoStepUndoes :
  (∃ s s' : State, step s = .next s') :=
  ⟨State.reset, State.reset, rfl⟩

theorem witness_StatusCommandsAnswer :
  (∃ (r : YcpReq) (s : State), Accepted 0x0104 r s ∧ reqBody r = [] ∧ (devInfoBody s).length ≤ room r) ∧
  (∃ (r : YcpReq) (s : State), Accepted 0x0112 r s ∧ reqBody r = [] ∧ (epochStatus s).length ≤ room r) ∧
  (∃ (r : YcpReq) (s : State), Accepted 0x020B r s ∧ reqBody r = [] ∧ (tableStatusBody s).length ≤ room r) ∧
  (∃ (r : YcpReq) (s : State), Accepted 0x0316 r s ∧ reqBody r = [] ∧ (bufStatusBody s).length ≤ room r) ∧
  (∃ (r : YcpReq) (s : State), Accepted 0x0402 r s ∧ reqBody r = [] ∧ (propList (flowProps s)).length ≤ room r) ∧
  (∃ (r : YcpReq) (s : State), Accepted 0x040A r s ∧ reqBody r = [] ∧ (propList (admitProps s)).length ≤ room r) ∧
  (∃ (r : YcpReq) (s : State), Accepted 0x0414 r s ∧ reqBody r = [] ∧ (propList (taskProps s)).length ≤ room r) ∧
  (∃ (r : YcpReq) (s : State), Accepted 0x0607 r s ∧ reqBody r = [] ∧ (gateStatusBody s).length ≤ room r) ∧
  (∃ (r : YcpReq) (s : State), Accepted 0x060C r s ∧ reqBody r = [] ∧ (schedStatusBody s).length ≤ room r) ∧
  (∃ (r : YcpReq) (s : State), Accepted 0x0706 r s ∧ reqBody r = [] ∧ (timeStatusBody s).length ≤ room r) ∧
  (∃ (r : YcpReq) (s : State), Accepted 0x0801 r s ∧ reqBody r = [] ∧ (memStatusBody s).length ≤ room r) ∧
  (∃ (r : YcpReq) (s : State), Accepted 0x090A r s ∧ reqBody r = [] ∧ (propList (safetyProps s)).length ≤ room r) ∧
  (∃ (r : YcpReq) (s : State), Accepted 0x0B01 r s ∧ reqBody r = [] ∧ (propList (powerProps s)).length ≤ room r) ∧
  (∃ (r : YcpReq) (s : State), Accepted 0x0C03 r s ∧ reqBody r = [] ∧ (fwStatusBody s).length ≤ room r) ∧
  (∃ (r : YcpReq) (s : State), Accepted 0x0107 r s ∧ reqBody r = [] ∧ (propList (spareProps s)).length ≤ room r) ∧
  (∃ (r : YcpReq) (s : State), Accepted 0x0E02 r s ∧ reqBody r = [] ∧ (propList (joinProps s)).length ≤ room r) ∧
  (∃ (r : YcpReq) (s : State), Accepted 0x0D32 r s ∧ reqBody r = [] ∧ (impairProps s).length ≤ room r) ∧
  (∃ (r : YcpReq) (s : State), Accepted 0x0D25 r s ∧ reqBody r = [] ∧ (traceStatus s).length ≤ room r) ∧
  (∃ (r : YcpReq) (s : State), Accepted 0x0A08 r s ∧ reqBody r = [] ∧ 80 ≤ room r) :=
  ⟨⟨req [], ready, takes (by decide +kernel), (by decide +kernel), (by decide +kernel)⟩,
   ⟨req [], ready, takes (by decide +kernel), (by decide +kernel), (by decide +kernel)⟩,
   ⟨req [], ready, takes (by decide +kernel), (by decide +kernel), (by decide +kernel)⟩,
   ⟨req [], ready, takes (by decide +kernel), (by decide +kernel), (by decide +kernel)⟩,
   ⟨req [], ready, takes (by decide +kernel), (by decide +kernel), (by decide +kernel)⟩,
   ⟨req [], ready, takes (by decide +kernel), (by decide +kernel), (by decide +kernel)⟩,
   ⟨req [], ready, takes (by decide +kernel), (by decide +kernel), (by decide +kernel)⟩,
   ⟨req [], ready, takes (by decide +kernel), (by decide +kernel), (by decide +kernel)⟩,
   ⟨req [], ready, takes (by decide +kernel), (by decide +kernel), (by decide +kernel)⟩,
   ⟨req [], ready, takes (by decide +kernel), (by decide +kernel), (by decide +kernel)⟩,
   ⟨req [], ready, takes (by decide +kernel), (by decide +kernel), (by decide +kernel)⟩,
   ⟨req [], ready, takes (by decide +kernel), (by decide +kernel), (by decide +kernel)⟩,
   ⟨req [], ready, takes (by decide +kernel), (by decide +kernel), (by decide +kernel)⟩,
   ⟨req [], ready, takes (by decide +kernel), (by decide +kernel), (by decide +kernel)⟩,
   ⟨req [], ready, takes (by decide +kernel), (by decide +kernel), (by decide +kernel)⟩,
   ⟨req [], ready, takes (by decide +kernel), (by decide +kernel), (by decide +kernel)⟩,
   ⟨reqDma [] 8192, ready, takesDma (by decide +kernel) (by decide +kernel), (by decide +kernel), (by decide +kernel)⟩,
   ⟨req [], ready, takes (by decide +kernel), (by decide +kernel), (by decide +kernel)⟩,
   ⟨req [], ready, takes (by decide +kernel), (by decide +kernel), (by decide +kernel)⟩⟩

theorem witness_SelectionsAnswerRecords :
  (∃ (r : YcpReq) (s : State) (first count : Nat), Accepted 0x0202 r s ∧ reqBody r = selBody first count 0 ∧ first < 262144 ∧ count < 2 ^ 32 ∧ 32 ≤ room r) ∧
  (∃ (r : YcpReq) (s : State) (first count sel : Nat), Accepted 0x0502 r s ∧ reqBody r = selBody first count sel ∧ first < 65536 ∧ count < 2 ^ 32 ∧ sel < 2 ∧ 184 ≤ room r) ∧
  (∃ (r : YcpReq) (s : State) (first count sel : Nat), Accepted 0x0503 r s ∧ reqBody r = selBody first count sel ∧ first < 65536 ∧ count < 2 ^ 32 ∧ sel < 2 ∧ 24 ≤ room r) ∧
  (∃ (r : YcpReq) (s : State) (first count sel : Nat), Accepted 0x0411 r s ∧ reqBody r = selBody first count sel ∧ first < 1024 ∧ count < 2 ^ 32 ∧ sel < 2 ∧ 552 ≤ room r) ∧
  (∃ (r : YcpReq) (s : State) (first count : Nat), Accepted 0x0317 r s ∧ reqBody r = selBody first count 0 ∧ first < 132096 ∧ count < 2 ^ 32 ∧ 32 ≤ room r) ∧
  (∃ (r : YcpReq) (s : State) (first count : Nat), Accepted 0x0602 r s ∧ reqBody r = selBody first count 0 ∧ first < 528384 ∧ count < 2 ^ 32 ∧ 40 ≤ room r) ∧
  (∃ (r : YcpReq) (s : State) (first count : Nat), Accepted 0x0701 r s ∧ reqBody r = selBody first count 0 ∧ first < 96 ∧ count < 2 ^ 32 ∧ 12 ≤ room r) ∧
  (∃ (r : YcpReq) (s : State) (first count : Nat), Accepted 0x0907 r s ∧ reqBody r = selBody first count 0 ∧ first < 512 ∧ count < 2 ^ 32 ∧ 12 ≤ room r) ∧
  (∃ (r : YcpReq) (s : State) (first count : Nat), Accepted 0x0A03 r s ∧ reqBody r = selBody first count 0 ∧ first < 160 ∧ count < 2 ^ 32 ∧ 40 ≤ room r) ∧
  (∃ (r : YcpReq) (s : State) (first count : Nat), Accepted 0x0809 r s ∧ reqBody r = selBody first count 0 ∧ first < 128 ∧ count < 2 ^ 32 ∧ 88 ≤ room r) ∧
  (∃ (r : YcpReq) (s : State) (first count : Nat), Accepted 0x0D10 r s ∧ reqBody r = selBody first count 0 ∧ first < 1048576 ∧ count < 2 ^ 32 ∧ 24 ≤ room r) ∧
  (∃ (r : YcpReq) (s : State) (first count : Nat), Accepted 0x0106 r s ∧ reqBody r = selBody first count 0 ∧ first < 1073741824 ∧ count < 2 ^ 32 ∧ 16 ≤ room r) ∧
  (∃ (r : YcpReq) (s : State) (first count : Nat), Accepted 0x0D24 r s ∧ reqBody r = selBody first count 0 ∧ first < (ctrTable.length + 1) ∧ count < 2 ^ 32 ∧ 40 ≤ room r) ∧
  (∃ (r : YcpReq) (s : State) (first count : Nat), Accepted 0x0D22 r s ∧ reqBody r = selBody first count 0 ∧ first < 262144 ∧ count < 2 ^ 32 ∧ 40 ≤ room r) ∧
  (∃ (r : YcpReq) (s : State) (first count : Nat), Accepted 0x0901 r s ∧ reqBody r = selBody first count 0 ∧ first < 256 ∧ count < 2 ^ 32 ∧ 72 ≤ room r) ∧
  (∃ (r : YcpReq) (s : State) (first count n : Nat), Accepted 0x0302 r s ∧ reqBody r = selBody first count 0 ∧ first < 64 ∧ count < 2 ^ 32 ∧ n ≤ min count (64 - first) ∧ (∀ m, 1 ≤ m → m ≤ n → 8 + m * 16 + (portStatusProps s first m).length ≤ room r) ∧ 8 + 16 + (portStatusProps s first 1).length ≤ room r ∧ (∀ m, n < m → m ≤ min count (64 - first) → room r < 8 + m * 16 + (portStatusProps s first m).length) ∧ (n = 0 → 8 + (portStatusProps s first 0).length ≤ room r)) ∧
  (∃ (r : YcpReq) (s : State) (first count : Nat), Accepted 0x0502 r s ∧ reqBody r = selBody first count 0 ∧ first < 65536 ∧ count < 2 ^ 32 ∧ room r < 184) ∧
  (∃ (latch : Tbl Nat) (val : Nat → Nat) (first k : Nat), (k ≠ first ∨ tget? latch k = none)) ∧
  (∃ (latch : Tbl Nat) (val : Nat → Nat) (first k : Nat), ∃ v, tget? latch first = some v) ∧
  (∃ (isLo : Nat → Bool) (val : Nat → Nat) (first n j : Nat) (latch : Tbl Nat), isLo (j + 1) = false ∧ first ≤ j ∧ j + 1 = first + n ∧ isLo j = true) ∧
  (∃ (isLo : Nat → Bool) (val : Nat → Nat) (first n j : Nat) (latch : Tbl Nat), isLo (j + 1) = false ∧ first ≤ j + 1 ∧ j + 1 < first + n) ∧
  (∃ (isLo : Nat → Bool) (val : Nat → Nat) (first n j : Nat) (latch : Tbl Nat), isLo (j + 1) = false ∧ (j + 1 < first ∨ first + n < j + 1)) ∧
  (∃ (k : Nat) (s : State), spanUe (ctrPairAddr k) 16 s = false) :=
  ⟨⟨req (selBody 262143 1 0), ready, 262143, 1, takes (by decide +kernel), (by decide +kernel), (by decide +kernel), (by decide +kernel), (by decide +kernel)⟩,
   ⟨req (selBody 65535 1 1), ready, 65535, 1, 1, takes (by decide +kernel), (by decide +kernel), (by decide +kernel), (by decide +kernel), (by decide +kernel), (by decide +kernel)⟩,
   ⟨req (selBody 65535 1 1), ready, 65535, 1, 1, takes (by decide +kernel), (by decide +kernel), (by decide +kernel), (by decide +kernel), (by decide +kernel), (by decide +kernel)⟩,
   ⟨req (selBody 1023 1 1), ready, 1023, 1, 1, takes (by decide +kernel), (by decide +kernel), (by decide +kernel), (by decide +kernel), (by decide +kernel), (by decide +kernel)⟩,
   ⟨req (selBody 132095 1 0), ready, 132095, 1, takes (by decide +kernel), (by decide +kernel), (by decide +kernel), (by decide +kernel), (by decide +kernel)⟩,
   ⟨req (selBody 528383 1 0), ready, 528383, 1, takes (by decide +kernel), (by decide +kernel), (by decide +kernel), (by decide +kernel), (by decide +kernel)⟩,
   ⟨req (selBody 95 1 0), ready, 95, 1, takes (by decide +kernel), (by decide +kernel), (by decide +kernel), (by decide +kernel), (by decide +kernel)⟩,
   ⟨req (selBody 511 1 0), ready, 511, 1, takes (by decide +kernel), (by decide +kernel), (by decide +kernel), (by decide +kernel), (by decide +kernel)⟩,
   ⟨req (selBody 159 1 0), ready, 159, 1, takes (by decide +kernel), (by decide +kernel), (by decide +kernel), (by decide +kernel), (by decide +kernel)⟩,
   ⟨req (selBody 127 1 0), ready, 127, 1, takes (by decide +kernel), (by decide +kernel), (by decide +kernel), (by decide +kernel), (by decide +kernel)⟩,
   ⟨req (selBody 1048575 1 0), ready, 1048575, 1, takes (by decide +kernel), (by decide +kernel), (by decide +kernel), (by decide +kernel), (by decide +kernel)⟩,
   ⟨req (selBody 1073741823 1 0), ready, 1073741823, 1, takes (by decide +kernel), (by decide +kernel), (by decide +kernel), (by decide +kernel), (by decide +kernel)⟩,
   ⟨req (selBody 0 1 0), ready, 0, 1, takes (by decide +kernel), (by decide +kernel), (by decide +kernel), (by decide +kernel), (by decide +kernel)⟩,
   ⟨req (selBody 262143 1 0), ready, 262143, 1, takes (by decide +kernel), (by decide +kernel), (by decide +kernel), (by decide +kernel), (by decide +kernel)⟩,
   ⟨req (selBody 255 1 0), ready, 255, 1, takes (by decide +kernel), (by decide +kernel), (by decide +kernel), (by decide +kernel), (by decide +kernel)⟩,
   ⟨req (selBody 63 1 0), ready, 63, 1, 1, takes (by decide +kernel), (by decide +kernel), (by decide +kernel), (by decide +kernel), (by decide +kernel), (by intro m a b; obtain rfl : m = 1 := (by omega); decide +kernel), (by decide +kernel), (by intro m a b; exact absurd (Nat.le_trans b (Nat.min_le_left 1 _)) (by omega)), (by decide +kernel)⟩,
   ⟨reqDma (selBody 65535 1 0) 183, ready, 65535, 1, takesDma (by decide +kernel) (by decide +kernel), (by decide +kernel), (by decide +kernel), (by decide +kernel), (by decide +kernel)⟩,
   ⟨[], fun k => k, 3, 3, (Or.inr rfl)⟩,
   ⟨[(3, 7)], fun k => k, 3, 3, 7, rfl⟩,
   ⟨fun k => k == 4, fun k => k, 4, 1, 4, [], rfl, (by decide +kernel), rfl, rfl⟩,
   ⟨fun k => k == 4, fun k => k, 4, 2, 4, [], rfl, (by decide +kernel), (by decide +kernel)⟩,
   ⟨fun k => k == 4, fun k => k, 4, 1, 5, [], rfl, (Or.inr (by decide +kernel))⟩,
   ⟨0, ready, (by decide +kernel)⟩⟩

theorem witness_RecordListsAreStored :
  (∃ (r : YcpReq) (s : State) (items : List (Nat × Bytes)), Accepted 0x0201 r s ∧ Records r items (fun _ => 24) svcCheck s) ∧
  (∃ (r : YcpReq) (s : State) (items : List (Nat × Bytes)), Accepted 0x0207 r s ∧ Records r items (fun _ => 32) camProfCheck s) ∧
  (∃ (r : YcpReq) (s : State) (items : List (Nat × Bytes)), Accepted 0x0314 r s ∧ Records r items (fun _ => 16) groupCheck s) ∧
  (∃ (r : YcpReq) (s : State) (items : List (Nat × Bytes)), Accepted 0x0315 r s ∧ Records r items (fun _ => 8) sessionCheck s) ∧
  (∃ (r : YcpReq) (s : State) (items : List (Nat × Bytes)), Accepted 0x0409 r s ∧ Records r items (fun _ => 4) classCheck s) ∧
  (∃ (r : YcpReq) (s : State) (items : List (Nat × Bytes)), Accepted 0x0420 r s ∧ Records r items (fun _ => 8) svcProfCheck s) ∧
  (∃ (r : YcpReq) (s : State) (items : List (Nat × Bytes)), Accepted 0x0511 r s ∧ Records r items (fun _ => 16) flowMeterCheck s) ∧
  (∃ (r : YcpReq) (s : State) (items : List (Nat × Bytes)), Accepted 0x0608 r s ∧ Records r items (fun _ => 16) launchCheck s) ∧
  (∃ (r : YcpReq) (s : State) (items : List (Nat × Bytes)), Accepted 0x0707 r s ∧ Records r items (fun _ => 16) ptpPortCheck s) ∧
  (∃ (r : YcpReq) (s : State) (items : List (Nat × Bytes)), Accepted 0x0A01 r s ∧ Records r items (fun _ => 16) laneConfigCheck s) ∧
  (∃ (r : YcpReq) (s : State) (items : List (Nat × Bytes)), Accepted 0x0B03 r s ∧ Records r items (fun _ => 8) sleepCheck s) ∧
  (∃ (r : YcpReq) (s : State) (items : List (Nat × Bytes)), Accepted 0x0604 r s ∧ Records r items (fun _ => 16) portSchedCheck s ∧ let u := items.foldl (fun a p => portSchedApply p.1 p.2 a) s; shapersOnce u = true) :=
  ⟨⟨req (listBody [(0, zeros 24)]), ready, [(0, zeros 24)], takes (by decide +kernel), ⟨(by decide +kernel), (by decide +kernel), (by decide +kernel)⟩⟩,
   ⟨req (listBody [(0, zeros 32)]), ready, [(0, zeros 32)], takes (by decide +kernel), ⟨(by decide +kernel), (by decide +kernel), (by decide +kernel)⟩⟩,
   ⟨req (listBody [(0, zeros 16)]), ready, [(0, zeros 16)], takes (by decide +kernel), ⟨(by decide +kernel), (by decide +kernel), (by decide +kernel)⟩⟩,
   ⟨req (listBody [(0, zeros 8)]), ready, [(0, zeros 8)], takes (by decide +kernel), ⟨(by decide +kernel), (by decide +kernel), (by decide +kernel)⟩⟩,
   ⟨req (listBody [(0, zeros 4)]), ready, [(0, zeros 4)], takes (by decide +kernel), ⟨(by decide +kernel), (by decide +kernel), (by decide +kernel)⟩⟩,
   ⟨req (listBody [(0, zeros 8)]), ready, [(0, zeros 8)], takes (by decide +kernel), ⟨(by decide +kernel), (by decide +kernel), (by decide +kernel)⟩⟩,
   ⟨req (listBody [(15, leBytes 4 1 ++ leBytes 4 1 ++ leBytes 3 64 ++ leBytes 3 64 ++ zeros 2)]), ready, [(15, leBytes 4 1 ++ leBytes 4 1 ++ leBytes 3 64 ++ leBytes 3 64 ++ zeros 2)], takes (by decide +kernel), ⟨(by decide +kernel), (by decide +kernel), (by decide +kernel)⟩⟩,
   ⟨req (listBody [(0, zeros 16)]), ready, [(0, zeros 16)], takes (by decide +kernel), ⟨(by decide +kernel), (by decide +kernel), (by decide +kernel)⟩⟩,
   ⟨req (listBody [(0, zeros 16)]), ready, [(0, zeros 16)], takes (by decide +kernel), ⟨(by decide +kernel), (by decide +kernel), (by decide +kernel)⟩⟩,
   ⟨req (listBody [(0, zeros 5 ++ [16, 0, 0, 20] ++ zeros 7)]), ready, [(0, zeros 5 ++ [16, 0, 0, 20] ++ zeros 7)], takes (by decide +kernel), ⟨(by decide +kernel), (by decide +kernel), (by decide +kernel)⟩⟩,
   ⟨req (listBody [(63, zeros 2 ++ leBytes 2 1000 ++ leBytes 4 10)]), ready, [(63, zeros 2 ++ leBytes 2 1000 ++ leBytes 4 10)], takes (by decide +kernel), ⟨(by decide +kernel), (by decide +kernel), (by decide +kernel)⟩⟩,
   ⟨req (listBody [(0, zeros 4 ++ leBytes 4 1000 ++ zeros 8)]), ready, [(0, zeros 4 ++ leBytes 4 1000 ++ zeros 8)], takes (by decide +kernel), ⟨(by decide +kernel), (by decide +kernel), (by decide +kernel)⟩, (by decide +kernel)⟩⟩

theorem witness_RecordListsAreApplied :
  (∃ (r : YcpReq) (s : State) (items : List (Nat × Bytes)), Accepted 0x0310 r s ∧ Records r items (fun _ => 32) bufPoolCheck s ∧ let u := items.foldl (fun a p => bufPoolApply p.1 p.2 a) s; poolsFit u = true) ∧
  (∃ (r : YcpReq) (s : State) (items : List (Nat × Bytes)), Accepted 0x0311 r s ∧ Records r items (fun _ => 16) bufClassCheck s) ∧
  (∃ (r : YcpReq) (s : State) (items : List (Nat × Bytes)), Accepted 0x0312 r s ∧ Records r items (fun _ => 24) portBufCheck s ∧ let u := items.foldl (fun a p => portBufApply p.1 p.2 a) s; poolsFit u = true) ∧
  (∃ (r : YcpReq) (s : State) (items : List (Nat × Bytes)), Accepted 0x0301 r s ∧ Records r items (fun _ => 16) portConfigCheck s ∧ let u := items.foldl (fun a p => portConfigApply p.1 p.2 a) s; portsClash u = false ∧ poolsFit u = true) ∧
  (∃ (r : YcpReq) (s : State) (items : List (Nat × Bytes)), Accepted 0x0415 r s ∧ Records r items (fun _ => 4) taskConfigCheck s) ∧
  (∃ (r : YcpReq) (s : State) (items : List (Nat × Bytes)), Accepted 0x0421 r s ∧ Records r items (fun i => if 0x1000 ≤ i then 16 else 64) xlatPoolCheck s ∧ let u := items.foldl (fun a p => xlatPoolApply p.1 p.2 a) s; xlatPoolPost s u = stOK) ∧
  (∃ (r : YcpReq) (s : State) (items : List (Nat × Bytes)), Accepted 0x0422 r s ∧ Records r items (fun _ => 32) xlatSubCheck s) ∧
  (∃ (r : YcpReq) (s : State) (items : List (Nat × Bytes)), Accepted 0x0424 r s ∧ Records r items (fun _ => 16) backendCheck s) ∧
  (∃ (r : YcpReq) (s : State) (items : List (Nat × Bytes)), Accepted 0x0426 r s ∧ Records r items (fun _ => 4) lbSlotCheck s) ∧
  (∃ (r : YcpReq) (s : State) (items : List (Nat × Bytes)), Accepted 0x0510 r s ∧ Records r items (fun _ => 16) meterSetCheck s) ∧
  (∃ (r : YcpReq) (s : State) (items : List (Nat × Bytes)), Accepted 0x0601 r s ∧ Records r items (fun _ => 16) elemCheck s ∧ let u := items.foldl (fun a p => elemApply p.1 p.2 a) s; leavesFit u = true ∧ shapersOnce u = true) ∧
  (∃ (r : YcpReq) (s : State) (items : List (Nat × Bytes)), Accepted 0x0603 r s ∧ Records r items (fun _ => 16) shaperCheck s) ∧
  (∃ (r : YcpReq) (s : State) (items : List (Nat × Bytes)), Accepted 0x0609 r s ∧ Records r items (fun _ => 16) sampleCheck s ∧ let u := items.foldl (fun a p => sampleApply p.1 p.2 a) s; sampleRateOk u = true) ∧
  (∃ (r : YcpReq) (s : State) (items : List (Nat × Bytes)), Accepted 0x0803 r s ∧ Records r items (fun _ => 4) pageCheck s) ∧
  (∃ (r : YcpReq) (s : State) (items : List (Nat × Bytes)), Accepted 0x0804 r s ∧ Records r items (fun _ => 8) qosCheck s) ∧
  (∃ (r : YcpReq) (s : State) (items : List (Nat × Bytes)), Accepted 0x0902 r s ∧ Records r items (fun _ => 16) maceSetCheck s) ∧
  (∃ (r : YcpReq) (s : State) (items : List (Nat × Bytes)), Accepted 0x0D30 r s ∧ Records r items (fun _ => 32) impCheck s) :=
  ⟨⟨req (listBody [(2, leBytes 1 2 ++ zeros 31)]), ready, [(2, leBytes 1 2 ++ zeros 31)], takes (by decide +kernel), ⟨(by decide +kernel), (by decide +kernel), (by decide +kernel)⟩, (by decide +kernel)⟩,
   ⟨req (listBody [(15, zeros 4 ++ leBytes 4 1000000 ++ leBytes 4 10 ++ zeros 4)]), ready, [(15, zeros 4 ++ leBytes 4 1000000 ++ leBytes 4 10 ++ zeros 4)], takes (by decide +kernel), ⟨(by decide +kernel), (by decide +kernel), (by decide +kernel)⟩⟩,
   ⟨req (listBody [(0, zeros 14 ++ leBytes 2 10240 ++ zeros 8)]), ready, [(0, zeros 14 ++ leBytes 2 10240 ++ zeros 8)], takes (by decide +kernel), ⟨(by decide +kernel), (by decide +kernel), (by decide +kernel)⟩, (by decide +kernel)⟩,
   ⟨req (listBody [(0, zeros 9 ++ [1, 0, 20] ++ zeros 4)]), ready, [(0, zeros 9 ++ [1, 0, 20] ++ zeros 4)], takes (by decide +kernel), ⟨(by decide +kernel), (by decide +kernel), (by decide +kernel)⟩, (by decide +kernel), (by decide +kernel)⟩,
   ⟨req (listBody [(8, leBytes 4 32768)]), ready, [(8, leBytes 4 32768)], takes (by decide +kernel), ⟨(by decide +kernel), (by decide +kernel), (by decide +kernel)⟩⟩,
   ⟨req (listBody [(0x17FF, zeros 16), (63, leBytes 2 0 ++ leBytes 2 512 ++ [5, 9, 1, 0] ++ leBytes 4 86400 ++ zeros 52)]), ready, [(0x17FF, zeros 16), (63, leBytes 2 0 ++ leBytes 2 512 ++ [5, 9, 1, 0] ++ leBytes 4 86400 ++ zeros 52)], takes (by decide +kernel), ⟨(by decide +kernel), (by decide +kernel), (by decide +kernel)⟩, (by decide +kernel)⟩,
   ⟨req (listBody [(0, zeros 32)]), ready, [(0, zeros 32)], takes (by decide +kernel), ⟨(by decide +kernel), (by decide +kernel), (by decide +kernel)⟩⟩,
   ⟨req (listBody [(65535, [0, 1] ++ zeros 14)]), ready, [(65535, [0, 1] ++ zeros 14)], takes (by decide +kernel), ⟨(by decide +kernel), (by decide +kernel), (by decide +kernel)⟩⟩,
   ⟨req (listBody [(0, zeros 4)]), ready, [(0, zeros 4)], takes (by decide +kernel), ⟨(by decide +kernel), (by decide +kernel), (by decide +kernel)⟩⟩,
   ⟨req (listBody [(0, leBytes 4 1 ++ leBytes 4 1 ++ leBytes 3 64 ++ leBytes 3 64 ++ zeros 2)]), ready, [(0, leBytes 4 1 ++ leBytes 4 1 ++ leBytes 3 64 ++ leBytes 3 64 ++ zeros 2)], takes (by decide +kernel), ⟨(by decide +kernel), (by decide +kernel), (by decide +kernel)⟩⟩,
   ⟨req (listBody [(1023, [0, 1] ++ zeros 14)]), ready, [(1023, [0, 1] ++ zeros 14)], takes (by decide +kernel), ⟨(by decide +kernel), (by decide +kernel), (by decide +kernel)⟩, (by decide +kernel), (by decide +kernel)⟩,
   ⟨req (listBody [(65534, leBytes 4 64 ++ leBytes 3 64 ++ zeros 9)]), ready, [(65534, leBytes 4 64 ++ leBytes 3 64 ++ zeros 9)], takes (by decide +kernel), ⟨(by decide +kernel), (by decide +kernel), (by decide +kernel)⟩⟩,
   ⟨req (listBody [(8191, zeros 4 ++ leBytes 2 1000 ++ zeros 10)]), ready, [(8191, zeros 4 ++ leBytes 2 1000 ++ zeros 10)], takes (by decide +kernel), ⟨(by decide +kernel), (by decide +kernel), (by decide +kernel)⟩, (by decide +kernel)⟩,
   ⟨req (listBody [(0, zeros 4)]), ready, [(0, zeros 4)], takes (by decide +kernel), ⟨(by decide +kernel), (by decide +kernel), (by decide +kernel)⟩⟩,
   ⟨req (listBody [(11, [11, 0, 64, 63] ++ leBytes 2 50 ++ zeros 2)]), ready, [(11, [11, 0, 64, 63] ++ leBytes 2 50 ++ zeros 2)], takes (by decide +kernel), ⟨(by decide +kernel), (by decide +kernel), (by decide +kernel)⟩⟩,
   ⟨req (listBody [(25, [25, 0, 1, 0] ++ leBytes 4 60000000 ++ zeros 8)]), ready, [(25, [25, 0, 1, 0] ++ leBytes 4 60000000 ++ zeros 8)], takes (by decide +kernel), ⟨(by decide +kernel), (by decide +kernel), (by decide +kernel)⟩⟩,
   ⟨req (listBody [(63, [0, 0, 64, 64, 0, 0] ++ leBytes 2 1000 ++ zeros 8 ++ leBytes 4 1 ++ zeros 8 ++ leBytes 4 86400)]), ready, [(63, [0, 0, 64, 64, 0, 0] ++ leBytes 2 1000 ++ zeros 8 ++ leBytes 4 1 ++ zeros 8 ++ leBytes 4 86400)], takes (by decide +kernel), ⟨(by decide +kernel), (by decide +kernel), (by decide +kernel)⟩⟩⟩

theorem witness_EpochListsWriteTheShadow :
  (∃ (r : YcpReq) (s : State) (items : List (Nat × Bytes)), Accepted 0x0501 r s ∧ Records r items (fun _ => 176) ruleCheck s ∧ r.epoch = shadowEpoch s ∧ shadowBusy s = false) ∧
  (∃ (r : YcpReq) (s : State) (items : List (Nat × Bytes)), Accepted 0x0504 r s ∧ Records r items (fun i => if i < 4096 then 32 else 8) graphCheck s ∧ r.epoch = shadowEpoch s ∧ shadowBusy s = false) ∧
  (∃ (r : YcpReq) (s : State) (items : List (Nat × Bytes)), Accepted 0x0505 r s ∧ Records r items (fun i => if i < 4096 then 16 else 8) profileCheck s ∧ r.epoch = shadowEpoch s ∧ shadowBusy s = false) ∧
  (∃ (r : YcpReq) (s : State) (items : List (Nat × Bytes)), Accepted 0x0506 r s ∧ Records r items (fun _ => 16) clsCheck s ∧ r.epoch = shadowEpoch s ∧ shadowBusy s = false) ∧
  (∃ (r : YcpReq) (s : State) (items : List (Nat × Bytes)), Accepted 0x0403 r s ∧ Records r items (fun _ => 32) flowProfCheck s ∧ r.epoch = shadowEpoch s ∧ shadowBusy s = false) ∧
  (∃ (r : YcpReq) (s : State) (items : List (Nat × Bytes)), Accepted 0x0410 r s ∧ Records r items (fun _ => 544) templateCheck s ∧ r.epoch = shadowEpoch s ∧ shadowBusy s = false) ∧
  (∃ (r : YcpReq) (s : State) (items : List (Nat × Bytes)), Accepted 0x0501 r s ∧ Records r items (fun _ => 176) ruleCheck s ∧ r.epoch ≠ shadowEpoch s) ∧
  (∃ (i : Nat) (b : Bytes) (s : State), (inMode mASSURED s && shadowAssured s) = false ∧ ∃ k, k ≠ i) :=
  ⟨⟨req (listBody [(0, zeros 176)]) 1, ready, [(0, zeros 176)], takes (by decide +kernel), ⟨(by decide +kernel), (by decide +kernel), (by decide +kernel)⟩, (by decide +kernel), (by decide +kernel)⟩,
   ⟨req (listBody [(126, zeros 32), (4096 + 1023, zeros 8)]) 1, ready, [(126, zeros 32), (4096 + 1023, zeros 8)], takes (by decide +kernel), ⟨(by decide +kernel), (by decide +kernel), (by decide +kernel)⟩, (by decide +kernel), (by decide +kernel)⟩,
   ⟨req (listBody [(0, zeros 16)]) 1, ready, [(0, zeros 16)], takes (by decide +kernel), ⟨(by decide +kernel), (by decide +kernel), (by decide +kernel)⟩, (by decide +kernel), (by decide +kernel)⟩,
   ⟨req (listBody [(0, zeros 16)]) 1, ready, [(0, zeros 16)], takes (by decide +kernel), ⟨(by decide +kernel), (by decide +kernel), (by decide +kernel)⟩, (by decide +kernel), (by decide +kernel)⟩,
   ⟨req (listBody [(0, zeros 32)]) 1, ready, [(0, zeros 32)], takes (by decide +kernel), ⟨(by decide +kernel), (by decide +kernel), (by decide +kernel)⟩, (by decide +kernel), (by decide +kernel)⟩,
   ⟨req (listBody [(64, tplMake 0 0 0 "HOST" [{ op := 0x01 }])]) 1, ready, [(64, tplMake 0 0 0 "HOST" [{ op := 0x01 }])], takes (by decide +kernel), ⟨(by decide +kernel), (by decide +kernel), (by decide +kernel)⟩, (by decide +kernel), (by decide +kernel)⟩,
   ⟨req (listBody [(0, zeros 176)]), ready, [(0, zeros 176)], takes (by decide +kernel), ⟨(by decide +kernel), (by decide +kernel), (by decide +kernel)⟩, (by decide +kernel)⟩,
   ⟨0, [], State.reset, (by decide +kernel), 1, (by decide +kernel)⟩⟩

theorem witness_FlowCommandsComplete :
  (∃ (r : YcpReq) (s : State), Accepted 0x0401 r s ∧ let b := reqBody r; b.length = 24 ∧ fld b 1 7 = 0 ∧ 20 ≤ fld b 0 1 ∧ fld b 0 1 ≤ 28 ∧ statefulBank s.ep.activeBank = false ∧ s.flow.mig = none) ∧
  (∃ (r : YcpReq) (s : State), Accepted 0x0401 r s ∧ let b := reqBody r; b.length = 24 ∧ fld b 1 7 = 0 ∧ 20 ≤ fld b 0 1 ∧ fld b 0 1 ≤ 28 ∧ (statefulBank s.ep.activeBank = true ∨ s.flow.mig ≠ none)) ∧
  (∃ (r : YcpReq) (s : State), Accepted 0x0404 r s ∧ (reqBody r).length = 56 ∧ fld (reqBody r) 49 7 = 0 ∧ lookupHeld (slice (reqBody r) 0 48) s = false ∧ (findFlow (slice (reqBody r) 0 48) s).1 = none) ∧
  (∃ (k : Nat) (e : HotEntry) (s : State), imgNoslot e.img = true ∧ fpAgeTpl (fpRec s.ep.activeNo (imgProfile e.img) s) = 0) ∧
  (∃ (r : YcpReq) (s : State), Accepted 0x0406 r s ∧ let n := fld (reqBody r) 0 4; (reqBody r).length = 4 ∧ 1 ≤ n ∧ n ≤ 3600) ∧
  (∃ (r : YcpReq) (s : State), Accepted 0x0406 r s ∧ let n := fld (reqBody r) 0 4; (reqBody r).length = 4 ∧ (n = 0 ∨ 3600 < n)) ∧
  (∃ (r : YcpReq) (s : State), Accepted 0x0407 r s ∧ let b := reqBody r; b.length = 20 ∧ fld b 5 3 = 0 ∧ fld b 0 4 = 1 ∧ seedDenied (fld b 8 8) s = false ∧ 20 ≤ fld b 4 1 ∧ fld b 4 1 ≤ 28 ∧ 4 ≤ fld b 16 4 ∧ fld b 16 4 ≤ 256 ∧ s.flow.mig = none ∧ recordCount s ≤ 4 * 2 ^ fld b 4 1) ∧
  (∃ (r : YcpReq) (s : State), Accepted 0x0407 r s ∧ let b := reqBody r; b.length = 20 ∧ fld b 5 3 = 0 ∧ fld b 0 4 = 1 ∧ seedDenied (fld b 8 8) s = false ∧ 20 ≤ fld b 4 1 ∧ fld b 4 1 ≤ 28 ∧ 4 ≤ fld b 16 4 ∧ fld b 16 4 ≤ 256 ∧ s.flow.mig = none ∧ 4 * 2 ^ fld b 4 1 < recordCount s) ∧
  (∃ (r : YcpReq) (s : State) (m : Migration), Accepted 0x0407 r s ∧ (reqBody r).length = 20 ∧ fld (reqBody r) 5 3 = 0 ∧ fld (reqBody r) 0 4 = 2 ∧ s.flow.mig = some m ∧ m.held = true) ∧
  (∃ (r : YcpReq) (s : State), Accepted 0x0407 r s ∧ (reqBody r).length = 20 ∧ fld (reqBody r) 5 3 = 0 ∧ fld (reqBody r) 0 4 = 2 ∧ s.flow.mig = none) ∧
  (∃ (r : YcpReq) (s : State), Accepted 0x0407 r s ∧ (reqBody r).length = 20 ∧ fld (reqBody r) 5 3 = 0 ∧ fld (reqBody r) 0 4 = 3 ∧ 4 ≤ fld (reqBody r) 16 4 ∧ fld (reqBody r) 16 4 ≤ 256) ∧
  (∃ (r : YcpReq) (s : State), Accepted 0x0408 r s ∧ let n := fld (reqBody r) 0 4; (reqBody r).length = 4 ∧ n < 993 ∧ s.flow.moving = none ∧ ∃ t rest, s.flow.reserve = t :: rest) ∧
  (∃ (r : YcpReq) (s : State), Accepted 0x0408 r s ∧ let n := fld (reqBody r) 0 4; (reqBody r).length = 4 ∧ n < 993 ∧ s.flow.moving = none ∧ s.flow.reserve = []) ∧
  (∃ (r : YcpReq) (s : State), Accepted 0x8001 r s ∧ (reqBody r).length = 48 ∧ inMode mCOMPAT s = true ∧ lookupHeld (reqBody r) s = false ∧ ∃ img hot s', findFlow (reqBody r) s = (some (img, hot), s') ∧ isV4 img = true ∧ (ksRecord img s').length ≤ room r) ∧
  (∃ (r : YcpReq) (s : State), Accepted 0x8001 r s ∧ (reqBody r).length = 48 ∧ inMode mCOMPAT s = true ∧ lookupHeld (reqBody r) s = false ∧ (findFlow (reqBody r) s).1 = none) ∧
  (∃ (r : YcpReq) (s : State), Accepted 0x8002 r s ∧ (reqBody r).length = 48 ∧ inMode mCOMPAT s = true ∧ isV4 (reqBody r) = true ∧ ∃ u, deleteFlow (reqBody r) s = yOk [] u) ∧
  (∃ (r : YcpReq) (s s' : State) (body : Bytes) (more : Bool), Accepted 0x8003 r s ∧ let b := reqBody r; b.length = 8 ∧ inMode mCOMPAT s = true ∧ fld b 0 4 < 2 ^ 30 ∧ dumpFrom (min (fld b 4 4) (room r / 64)) ((indexedSlots s).filter fun x => decide (fld b 0 4 ≤ x.1)) s =
      (body, more, s')) ∧
  (∃ (r : YcpReq) (s : State), inMode mCOMPAT s = false ∧ Accepted 0x8001 r s ∧ (reqBody r).length = 48) ∧
  (∃ (r : YcpReq) (s : State), inMode mCOMPAT s = false ∧ Accepted 0x8002 r s ∧ (reqBody r).length = 48) ∧
  (∃ (r : YcpReq) (s : State), inMode mCOMPAT s = false ∧ Accepted 0x8003 r s ∧ (reqBody r).length = 8) ∧
  (∃ (r : YcpReq) (s : State) (k : Nat) (e : HotEntry), Accepted 0x0404 r s ∧ let key := slice (reqBody r) 0 48; (reqBody r).length = 56 ∧ fld (reqBody r) 49 7 = 0 ∧ hotOfKey key s = some k ∧ hotGet k s = some e ∧ (∀ set ∈ hotSets (compactKey s.flow.fpSeed key) s, ∀ j ∈ setPlaces set, ∀ x, hotGet j s = some x → x.bad = 0) ∧ 132 ≤ room r) ∧
  (∃ (r : YcpReq) (s : State) (k : Nat) (e : HotEntry), Accepted 0x0405 r s ∧ let key := slice (reqBody r) 0 48; (reqBody r).length = 56 ∧ fld (reqBody r) 49 7 = 0 ∧ hotOfKey key s = some k ∧ hotGet k s = some e ∧ (∀ set ∈ hotSets (compactKey s.flow.fpSeed key) s, ∀ j ∈ setPlaces set, ∀ x, hotGet j s = some x → x.bad = 0) ∧ imgProv e.img = false ∧ s.flow.mig = none ∧ canAge (imgProfile e.img) s = true ∧ (imgNoslot e.img = true ∨ keyHeld key s = false)) ∧
  (∃ (r : YcpReq) (s : State) (k : Nat) (e : HotEntry), Accepted 0x0405 r s ∧ let key := slice (reqBody r) 0 48; (reqBody r).length = 56 ∧ fld (reqBody r) 49 7 = 0 ∧ hotOfKey key s = some k ∧ hotGet k s = some e ∧ (∀ set ∈ hotSets (compactKey s.flow.fpSeed key) s, ∀ j ∈ setPlaces set, ∀ x, hotGet j s = some x → x.bad = 0) ∧ (imgProv e.img = true ∨ s.flow.mig ≠ none ∨ (imgNoslot e.img = false ∧ keyHeld key s = true))) ∧
  (∃ (r : YcpReq) (s : State), Accepted 0x0404 r s ∧ (reqBody r).length = 56 ∧ fld (reqBody r) 49 7 = 0 ∧ lookupHeld (slice (reqBody r) 0 48) s = true) :=
  ⟨⟨req (leBytes 1 20 ++ zeros 23), ready, takes (by decide +kernel), (by decide +kernel), (by decide +kernel), (by decide +kernel), (by decide +kernel), (by decide +kernel), (by decide +kernel)⟩,
   ⟨req (leBytes 1 20 ++ zeros 23), { ready with flow := { ready.flow with mig := some m0 } }, takes (by decide +kernel), (by decide +kernel), (by decide +kernel), (by decide +kernel), (by decide +kernel), (Or.inr (by decide +kernel))⟩,
   ⟨req (zeros 56), ready, takes (by decide +kernel), (by decide +kernel), (by decide +kernel), (by decide +kernel), (by decide +kernel)⟩,
   ⟨0, ent 1 (2 ^ 31) 0, State.reset, (by decide +kernel), (by decide +kernel)⟩,
   ⟨req (leBytes 4 1), ready, takes (by decide +kernel), (by decide +kernel), (by decide +kernel), (by decide +kernel)⟩,
   ⟨req (zeros 4), ready, takes (by decide +kernel), (by decide +kernel), (by decide +kernel)⟩,
   ⟨req (leBytes 4 1 ++ leBytes 1 20 ++ zeros 11 ++ leBytes 4 4), ready, takes (by decide +kernel), (by decide +kernel), (by decide +kernel), (by decide +kernel), (by decide +kernel), (by decide +kernel), (by decide +kernel), (by decide +kernel), (by decide +kernel), (by decide +kernel), (by decide +kernel)⟩,
   ⟨req ((leBytes 4 1 ++ leBytes 1 20 ++ zeros 11 ++ leBytes 4 100)), many 279621, takes (by decide +kernel), (by decide +kernel), (by decide +kernel), (by decide +kernel), (by decide +kernel), (by decide +kernel), (by decide +kernel), (by decide +kernel), (by decide +kernel), (by decide +kernel), manyRecords⟩,
   ⟨req (leBytes 4 2 ++ zeros 16), { ready with flow := { ready.flow with mig := some { m0 with held := true } } }, { m0 with held := true }, takes (by decide +kernel), (by decide +kernel), (by decide +kernel), (by decide +kernel), (by decide +kernel), (by decide +kernel)⟩,
   ⟨req (leBytes 4 2 ++ zeros 16), ready, takes (by decide +kernel), (by decide +kernel), (by decide +kernel), (by decide +kernel), (by decide +kernel)⟩,
   ⟨req (leBytes 4 3 ++ zeros 12 ++ leBytes 4 4), ready, takes (by decide +kernel), (by decide +kernel), (by decide +kernel), (by decide +kernel), (by decide +kernel), (by decide +kernel)⟩,
   ⟨req (leBytes 4 992), ready, takes (by decide +kernel), (by decide +kernel), (by decide +kernel), (by decide +kernel), _, _, rfl⟩,
   ⟨req (leBytes 4 992), { ready with flow := { ready.flow with reserve := [] } }, takes (by decide +kernel), (by decide +kernel), (by decide +kernel), (by decide +kernel), (by decide +kernel)⟩,
   ⟨req (zeros 48), moded mCOMPAT (oneHot keyPlace (ent 1 0 0) ready), takes (by decide +kernel), (by decide +kernel), (by decide +kernel), (by decide +kernel), img 1 0 0, true, _, (fstEq (by decide +kernel)), (by decide +kernel), (by decide +kernel)⟩,
   ⟨req (zeros 48), moded mCOMPAT ready, takes (by decide +kernel), (by decide +kernel), (by decide +kernel), (by decide +kernel), (by decide +kernel)⟩,
   ⟨req (zeros 48), moded mCOMPAT (oneHot keyPlace (ent 1 0 0) ready), takes (by decide +kernel), (by decide +kernel), (by decide +kernel), (by decide +kernel), _, (deleteFlow_hot (k := keyPlace) (e := ent 1 0 0) rfl (by decide +kernel) (by decide +kernel) (by decide +kernel))⟩,
   ⟨req (leBytes 4 1073741823 ++ zeros 4), moded mCOMPAT ready, _, [], false, takes (by decide +kernel), (by decide +kernel), (by decide +kernel), (by decide +kernel), rfl⟩,
   ⟨req (zeros 48), ready, (by decide +kernel), takes (by decide +kernel), (by decide +kernel)⟩,
   ⟨req (zeros 48), ready, (by decide +kernel), takes (by decide +kernel), (by decide +kernel)⟩,
   ⟨req (zeros 8), ready, (by decide +kernel), takes (by decide +kernel), (by decide +kernel)⟩,
   ⟨req (zeros 56), oneHot keyPlace (ent 1 0 0) ready, keyPlace, ent 1 0 0, takes (by decide +kernel), (by decide +kernel), (by decide +kernel), (by decide +kernel), (by decide +kernel), (by decide +kernel), (by decide +kernel)⟩,
   ⟨req (zeros 56), oneHot keyPlace (ent 1 0 0) ready, keyPlace, ent 1 0 0, takes (by decide +kernel), (by decide +kernel), (by decide +kernel), (by decide +kernel), (by decide +kernel), (by decide +kernel), (by decide +kernel), (by decide +kernel), (by decide +kernel), (Or.inr (by decide +kernel))⟩,
   ⟨req (zeros 56), oneHot keyPlace (ent 5 0 0) ready, keyPlace, ent 5 0 0, takes (by decide +kernel), (by decide +kernel), (by decide +kernel), (by decide +kernel), (by decide +kernel), (by decide +kernel), (Or.inl (by decide +kernel))⟩,
   ⟨req (zeros 56), onFlow (fun f => { f with work := some { key := bucketKey p0.r1 p0.bucket, copy := false, left := [] } }) ready, takes (by decide +kernel), (by decide +kernel), (by decide +kernel), (by decide +kernel)⟩⟩

theorem witness_FlowTierSweeps :
  (∃ (s : State), s.flow.sweepAt + 1 = 2 ^ s.flow.bucketBits ∧ 1000 * s.flow.period < idleMs (msNow s) s.flow.sweepBegan) ∧
  (∃ (s : State), s.flow.sweepAt + 1 = 2 ^ s.flow.bucketBits ∧ idleMs (msNow s) s.flow.sweepBegan ≤ 1000 * s.flow.period) ∧
  (∃ (s : State), (∀ k ∈ setPlaces s.flow.hotAt, ∀ e, hotGet k s = some e → e.bad = 0 ∧ expiredImg e.img s = none)) ∧
  (∃ (k : Nat) (e : HotEntry) (s : State), hotGet k s = some e ∧ imgAlias e.img = false ∧ imgProv e.img = false ∧ (expiredImg e.img s).isSome = true ∧ imgNoslot e.img = true ∧ canEvict s.ep.activeNo [k] s = true) ∧
  (∃ (k : Nat) (e : HotEntry) (s : State), hotGet k s = some e ∧ imgAlias e.img = false ∧ imgProv e.img = false ∧ (expiredImg e.img s).isSome = true ∧ imgNoslot e.img = true ∧ canEvict s.ep.activeNo [k] s = false) ∧
  (∃ (k : Nat) (e : HotEntry) (s : State), hotGet k s = some e ∧ imgAlias e.img = false ∧ imgProv e.img = false ∧ (expiredImg e.img s).isSome = true ∧ imgNoslot e.img = false ∧ imgBody e.img = true) ∧
  (∃ (k : Nat) (e : HotEntry) (s : State), hotGet k s = some e ∧ imgAlias e.img = false ∧ imgProv e.img = false ∧ (expiredImg e.img s).isSome = true ∧ imgNoslot e.img = false ∧ imgBody e.img = false) ∧
  (∃ (k : Nat) (e : HotEntry) (s : State), hotGet k s = some e ∧ e.bad = 0) ∧
  (∃ (k : Nat) (e : HotEntry) (s : State), hotGet k s = some e ∧ e.bad = 1) ∧
  (∃ (k : Nat) (e : HotEntry) (s : State), hotGet k s = some e ∧ 2 ≤ e.bad ∧ imgProv e.img = false) ∧
  (∃ (s : State), s.flow.moving = none) ∧
  (∃ (m : BlockMove) (s : State), s.flow.moving = some m ∧ (∀ k ∈ setPlaces (512 * m.logical + m.next), ∀ e, hotGet k s = some e → e.bad = 0) ∧ m.next ≠ 511) ∧
  (∃ (m : BlockMove) (s : State), s.flow.moving = some m ∧ (∀ k ∈ setPlaces (512 * m.logical + m.next), ∀ e, hotGet k s = some e → e.bad = 0) ∧ m.next = 511) ∧
  (∃ (m : Migration) (s : State), s.flow.mig = some m ∧ m.copy = false ∧ m.held = false ∧ ∃ k e, s.flow.hot.find? (fun x => unflushed x.2) = some (k, e) ∧ hotGet k s = some e) ∧
  (∃ (m : Migration) (s : State), s.flow.mig = some m ∧ m.copy = false ∧ m.held = false ∧ s.flow.hot.find? (fun x => unflushed x.2) = none) ∧
  (∃ (s : State), (∀ m, s.flow.mig = some m → m.held = true)) ∧
  (∃ (m : Migration) (s : State), s.flow.mig = some m ∧ m.copy = true ∧ m.held = false) ∧
  (∃ (m : Migration) (s : State), s.flow.mig = some m ∧ m.cursor + 1 ≠ 2 ^ m.oldB ∧ (m.cursor + 1) % 4096 ≠ 0) ∧
  (∃ (m : Migration) (s : State), s.flow.mig = some m ∧ m.cursor + 1 = 2 ^ m.oldB) ∧
  (∃ (s : State), s.flow.work = none ∧ ((s.flow.mig.map (·.copy)).getD false = true ∨ bucketHeld s.flow.idx1 s.flow.sweepAt s = true)) ∧
  (∃ (l : Bytes) (s s1 s2 : State), s.flow.work = none ∧ (s.flow.mig.map (·.copy)).getD false = false ∧ bucketHeld s.flow.idx1 s.flow.sweepAt s = false ∧ readLine 2 s.flow.idx1 s.flow.sweepAt s = (l, s1) ∧ let s' := setWork (some { key := bucketKey s.flow.idx1 s.flow.sweepAt, copy := false, left := lineRecords l }) s1; let f := sweepRecord (bucketKey s.flow.idx1 s.flow.sweepAt % 2 ^ 28); visit f (lineRecords l) false s' = (true, s2)) ∧
  (∃ (l : Bytes) (s s1 s2 : State), s.flow.work = none ∧ (s.flow.mig.map (·.copy)).getD false = false ∧ bucketHeld s.flow.idx1 s.flow.sweepAt s = false ∧ readLine 2 s.flow.idx1 s.flow.sweepAt s = (l, s1) ∧ let s' := setWork (some { key := bucketKey s.flow.idx1 s.flow.sweepAt, copy := false, left := lineRecords l }) s1; let f := sweepRecord (bucketKey s.flow.idx1 s.flow.sweepAt % 2 ^ 28); visit f (lineRecords l) false s' = (false, s2)) ∧
  (∃ (w : BucketWork) (s s2 : State), s.flow.work = some w ∧ w.copy = true) ∧
  (∃ (w : BucketWork) (s s2 : State), s.flow.work = some w ∧ w.copy = false ∧ visit (sweepRecord (w.key % 2 ^ 28)) w.left w.read s = (true, s2)) ∧
  (∃ (w : BucketWork) (s s2 : State), s.flow.work = some w ∧ w.copy = false ∧ visit (sweepRecord (w.key % 2 ^ 28)) w.left w.read s = (false, s2)) ∧
  (∃ (f : Bool → Nat → Bool → State → Bool × State) (n : Nat) (pair again : Bool) (rest : List (Nat × Bool)) (s s1 : State), f again n pair s = (true, s1)) ∧
  (∃ (f : Bool → Nat → Bool → State → Bool × State) (n : Nat) (pair again : Bool) (rest : List (Nat × Bool)) (s s1 : State), ∃ w, f again n pair s = (false, s1) ∧ s1.flow.work = some w) ∧
  (∃ (s : State), s.flow.sweepAt + 1 < 2 ^ s.flow.bucketBits) ∧
  (∃ (req bucket : Nat) (r1 : Bool) (d : Bytes) (s : State), tget? s.flow.bucket (bucketKey r1 bucket) = some (some d)) ∧
  (∃ (req bucket : Nat) (r1 : Bool) (l : Bytes) (s : State), bucketFull (bucketKey r1 bucket) s = false ∧ ∃ w, s.flow.work = some w ∧ w.key = bucketKey r1 bucket) ∧
  (∃ (bucket : Nat) (l : Bytes) (s : State), bucket < 2 ^ 28 ∧ l.length = 64 ∧ memWf s.hbm.mem = true ∧ s.flow.log = [] ∧ s.flow.work = some { key := bucketKey s.flow.idx1 bucket, copy := false, left := [], dirty := true } ∧ tget? s.flow.bucket (bucketKey s.flow.idx1 bucket) = some (some l)) ∧
  (∃ (single : Bool) (n : Nat) (s : State), (getSlots single s).back.length < 1008) ∧
  (∃ (single : Bool) (n : Nat) (s : State), let r := getSlots single s; memWf s.hbm.mem = true ∧ r.back.length = 1008 ∧ r.rd ≤ r.wr) ∧
  (∃ (single : Bool) (n : Nat) (ns : List Nat) (s : State), (getSlots single s).front = n :: ns) ∧
  (∃ (lruBad : Bool) (s : State), (∀ k ∈ setPlaces s.flow.scrubAt, ∀ e, hotGet k s = some e → e.bad = 0)) ∧
  (∃ (m : Migration) (s : State), s.flow.work = none ∧ bucketHeld s.flow.idx1 m.cursor s = true) ∧
  (∃ (m : Migration) (w : BucketWork) (s s2 : State), s.flow.work = some w ∧ visit (copyRecord m (w.key % 2 ^ 28)) w.left w.read s = (true, s2)) :=
  ⟨⟨{ State.reset with flow := { State.reset.flow with sweepAt := 2 ^ 28 - 1, sweepBegan := 2 ^ 32 - 100000 } }, (by decide +kernel), (by decide +kernel)⟩,
   ⟨{ State.reset with flow := { State.reset.flow with sweepAt := 2 ^ 28 - 1 } }, (by decide +kernel), (by decide +kernel)⟩,
   ⟨State.reset, (by decide +kernel)⟩,
   ⟨0, ent 1 (2 ^ 31) (2 ^ 32 - 4000000), profile0 (zeros 6 ++ leBytes 2 1 ++ zeros 10 ++ leBytes 2 1 ++ zeros 12) (oneHot 0 (ent 1 (2 ^ 31) (2 ^ 32 - 4000000)) State.reset), (by decide +kernel), (by decide +kernel), (by decide +kernel), (by decide +kernel), (by decide +kernel), (by decide +kernel)⟩,
   ⟨0, ent 1 (2 ^ 31) (2 ^ 32 - 4000000), pressed (profile0 (zeros 6 ++ leBytes 2 1 ++ zeros 10 ++ leBytes 2 1 ++ zeros 12) (oneHot 0 (ent 1 (2 ^ 31) (2 ^ 32 - 4000000)) State.reset)), (by decide +kernel), (by decide +kernel), (by decide +kernel), (by decide +kernel), (by decide +kernel), (by decide +kernel)⟩,
   ⟨0, ent 17 (0) (2 ^ 32 - 4000000), profile0 (zeros 6 ++ leBytes 2 1 ++ zeros 10 ++ leBytes 2 1 ++ zeros 12) (oneHot 0 (ent 17 (0) (2 ^ 32 - 4000000)) State.reset), (by decide +kernel), (by decide +kernel), (by decide +kernel), (by decide +kernel), (by decide +kernel), (by decide +kernel)⟩,
   ⟨0, ent 1 (0) (2 ^ 32 - 4000000), profile0 (zeros 6 ++ leBytes 2 1 ++ zeros 10 ++ leBytes 2 1 ++ zeros 12) (oneHot 0 (ent 1 (0) (2 ^ 32 - 4000000)) State.reset), (by decide +kernel), (by decide +kernel), (by decide +kernel), (by decide +kernel), (by decide +kernel), (by decide +kernel)⟩,
   ⟨0, { ent 1 0 0 with bad := 0 }, oneHot 0 { ent 1 0 0 with bad := 0 } State.reset, (by decide +kernel), (by decide +kernel)⟩,
   ⟨0, { ent 1 0 0 with bad := 1 }, oneHot 0 { ent 1 0 0 with bad := 1 } State.reset, (by decide +kernel), (by decide +kernel)⟩,
   ⟨0, { ent 1 0 0 with bad := 2 }, oneHot 0 { ent 1 0 0 with bad := 2 } State.reset, (by decide +kernel), (by decide +kernel), (by decide +kernel)⟩,
   ⟨State.reset, (by decide +kernel)⟩,
   ⟨{ logical := 0, target := 993 }, { State.reset with flow := { State.reset.flow with moving := some { logical := 0, target := 993 } } }, (by decide +kernel), (by decide +kernel), (by decide +kernel)⟩,
   ⟨{ logical := 0, target := 993, next := 511 }, { State.reset with flow := { State.reset.flow with moving := some { logical := 0, target := 993, next := 511 } } }, (by decide +kernel), (by decide +kernel), (by decide +kernel)⟩,
   ⟨m0, oneHot 0 (ent 1 0 0) ({ State.reset with flow := { State.reset.flow with mig := some m0 } }), (by decide +kernel), (by decide +kernel), (by decide +kernel), 0, ent 1 0 0, (by decide +kernel), (by decide +kernel)⟩,
   ⟨m0, { State.reset with flow := { State.reset.flow with mig := some m0 } }, (by decide +kernel), (by decide +kernel), (by decide +kernel), (by decide +kernel)⟩,
   ⟨State.reset, (by decide +kernel)⟩,
   ⟨{ m0 with copy := true }, { State.reset with flow := { State.reset.flow with mig := some { m0 with copy := true } } }, (by decide +kernel), (by decide +kernel), (by decide +kernel)⟩,
   ⟨m0, { State.reset with flow := { State.reset.flow with mig := some m0 } }, (by decide +kernel), (by decide +kernel), (by decide +kernel)⟩,
   ⟨{ m0 with cursor := 2 ^ 20 - 1 }, { State.reset with flow := { State.reset.flow with mig := some { m0 with cursor := 2 ^ 20 - 1 } } }, (by decide +kernel), (by decide +kernel)⟩,
   ⟨onFlow (fun f => { f with mig := some { m0 with copy := true } }) (State.reset), rfl, (Or.inl (by decide +kernel))⟩,
   ⟨_, State.reset, _, _, (by decide +kernel), (by decide +kernel), (by decide +kernel), (Prod.eta _).symm, (fstEq (by decide +kernel))⟩,
   ⟨_, sweptLine State.reset, _, _, (by decide +kernel), (by decide +kernel), (by decide +kernel), (Prod.eta _).symm, (fstEq (by decide +kernel))⟩,
   ⟨{ key := bucketKey false 5, copy := true, left := [] }, onFlow (fun f => { f with work := some { key := bucketKey false 5, copy := true, left := [] } }) (State.reset), State.reset, rfl, rfl⟩,
   ⟨{ key := bucketKey false 5, copy := false, left := [] }, onFlow (fun f => { f with work := some { key := bucketKey false 5, copy := false, left := [] } }) (State.reset), _, rfl, rfl, (fstEq (by decide +kernel))⟩,
   ⟨sweptWork, sweptLine (onFlow (fun f => { f with work := some sweptWork }) (State.reset)), _, rfl, rfl, (fstEq (by decide +kernel))⟩,
   ⟨fun _ _ _ s => (true, s), 0, true, false, [], State.reset, State.reset, rfl⟩,
   ⟨fun _ _ _ s => (false, s), 0, true, false, [], onFlow (fun f => { f with work := some { key := bucketKey false 5, copy := false, left := [] } }) (State.reset), _, { key := bucketKey false 5, copy := false, left := [] }, rfl, rfl⟩,
   ⟨State.reset, (by decide +kernel)⟩,
   ⟨0, 0, false, zeros 64, onFlow (fun f => { f with bucket := [(bucketKey false 0, some (zeros 64))] }) (State.reset), rfl⟩,
   ⟨0, 5, false, zeros 64, onFlow (fun f => { f with work := some { key := bucketKey false 5, copy := false, left := [] } }) (State.reset), (by decide +kernel), { key := bucketKey false 5, copy := false, left := [] }, rfl, rfl⟩,
   ⟨5, zeros 64, onFlow (fun f => { f with work := some { key := bucketKey false 5, copy := false, left := [], dirty := true }, bucket := [(bucketKey false 5, some (zeros 64))] }) (State.reset), (by decide +kernel), (by decide +kernel), (by decide +kernel), (by decide +kernel), (by decide +kernel), (by decide +kernel)⟩,
   ⟨true, 7, onFlow (fun f => { f with singles := { back := List.replicate 14 7 } }) (State.reset), (by decide +kernel)⟩,
   ⟨true, 7, onFlow (fun f => { f with singles := { back := List.replicate 1008 7 } }) (State.reset), rfl, List.length_replicate, (by decide +kernel)⟩,
   ⟨true, 7, [8], onFlow (fun f => { f with singles := { front := [7, 8] } }) (State.reset), rfl⟩,
   ⟨true, State.reset, (by decide +kernel)⟩,
   ⟨{ m0 with cursor := p0.bucket }, oneLog { u0 with lines := [bucketKey false p0.bucket] } State.reset, rfl, (by decide +kernel)⟩,
   ⟨{ m0 with copy := true }, { key := bucketKey false 5, copy := true, left := [] }, onFlow (fun f => { f with work := some { key := bucketKey false 5, copy := true, left := [] } }) (State.reset), _, rfl, (fstEq (by decide +kernel))⟩⟩

theorem witness_AdmissionStarts :
  (∃ (pl : Nat) (s : State), admQueue pl s = []) ∧
  (∃ (d l : Nat) (s : State), l < 65536 ∧ (getPkt d s).profile < 256 ∧ (getPkt d s).std = true) ∧
  (∃ (d : Nat) (s : State), let k := getPkt d s; (findPlace k.std (pktSet d s) s).isSome = true ∧ (admQueue k.pipe s).length < 4096) ∧
  (∃ (d : Nat) (s : State), let k := getPkt d s; (findPlace k.std (pktSet d s) s).isSome = true ∧ 4096 ≤ (admQueue k.pipe s).length ∧ (∃ x ∈ admQueue k.pipe s, (getPkt x s).hlo = k.hlo)) ∧
  (∃ (d : Nat) (s : State), let k := getPkt d s; (findPlace k.std (pktSet d s) s).isSome = true ∧ 4096 ≤ (admQueue k.pipe s).length ∧ (∀ x ∈ admQueue k.pipe s, (getPkt x s).hlo ≠ k.hlo)) ∧
  (∃ (pl i d : Nat) (s : State), (admQueue pl s)[i]? = some d ∧ waitedHold d s = true) ∧
  (∃ (pl i d : Nat) (s : State), (admQueue pl s)[i]? = some d ∧ waitedHold d s = false) ∧
  (∃ (pl i d m : Nat) (s : State), (inboundList pl s)[i]? = some (d, m) ∧ waitedHold d s = true) ∧
  (∃ (pl i d m : Nat) (s : State), (inboundList pl s)[i]? = some (d, m) ∧ waitedHold d s = false) ∧
  (∃ (d : Nat) (s : State), let c := fpClass (pktProfile d s); bits (fld (admClass c s) 1 1) 0 2 = 2) ∧
  (∃ (d : Nat) (s : State), let c := fpClass (pktProfile d s); bits (fld (admClass c s) 1 1) 0 2 = 1) ∧
  (∃ (d : Nat) (s : State), let c := fpClass (pktProfile d s); bits (fld (admClass c s) 1 1) 0 2 = 0) ∧
  (∃ (pl : Nat) (s : State), tget [] s.flow.rerunq pl = []) ∧
  (∃ (pl d : Nat) (rest : List Nat) (s : State), admQueue pl s = d :: rest ∧ (∀ set ∈ hotSets (pktCk d s) s, ∀ k ∈ setPlaces set, ∀ e, hotGet k s = some e → e.bad = 0) ∧ ∃ k, pktPlace d s = some k) ∧
  (∃ (pl d : Nat) (rest : List Nat) (s : State), admQueue pl s = d :: rest ∧ (∀ set ∈ hotSets (pktCk d s) s, ∀ k ∈ setPlaces set, ∀ e, hotGet k s = some e → e.bad = 0) ∧ ∃ x, pktPlace d s = none ∧ missPlace d s = some x) ∧
  (∃ (pl d : Nat) (rest : List Nat) (s : State), admQueue pl s = d :: rest ∧ (∀ set ∈ hotSets (pktCk d s) s, ∀ k ∈ setPlaces set, ∀ e, hotGet k s = some e → e.bad = 0) ∧ pktPlace d s = none ∧ missPlace d s = none) ∧
  (∃ (pl i d m : Nat) (s : State), (inboundList pl s)[i]? = some (d, m) ∧ readOut 4 (mapAddr m / 64) s = false ∧ mustWait .map m s = false) ∧
  (∃ (pl i d m : Nat) (s : State), (inboundList pl s)[i]? = some (d, m) ∧ (readOut 4 (mapAddr m / 64) s = true ∨ mustWait .map m s = true)) ∧
  (∃ (pl : Nat) (s : State), sentinelDue pl 0 s = true ∧ tget [] s.flow.rerunq pl ≠ []) ∧
  (∃ (pl : Nat) (s : State), sentinelDue pl 0 s = true ∧ tget [] s.flow.recircq pl ≠ []) ∧
  (∃ (pl : Nat) (s : State), sentinelDue pl 0 s = false ∧ internalGrant pl s = none) ∧
  (∃ (pl : Nat) (s : State), portWaits pl s = false) ∧
  (∃ (pl : Nat) (s : State), portWaits pl s = true ∧ tget 0 s.buf.granted pl < 8) ∧
  (∃ (pl : Nat) (s : State), internalWaits pl s = false) ∧
  (∃ (pl : Nat) (s : State), internalWaits pl s = true ∧ 8 ≤ tget 0 s.buf.granted pl) ∧
  (∃ (pl : Nat) (s : State), internalWaits pl s = true ∧ tget 0 s.buf.granted pl < 8) ∧
  (∃ (pl d : Nat) (rest : List Nat) (s0 s : State), tget [] s0.flow.rerunq pl = d :: rest ∧ sentinelDue pl 0 s0 = false ∧ internalGrant pl s0 = some s ∧ let s1 := endHold d (wakeHalf pl 0 { s with flow := { s.flow with rerunq := tset [] s.flow.rerunq pl rest } }); (getPkt d s1).rerun = none) ∧
  (∃ (pl d : Nat) (rest : List Nat) (s0 s : State), tget [] s0.flow.rerunq pl = d :: rest ∧ sentinelDue pl 0 s0 = false ∧ internalGrant pl s0 = some s ∧ let s1 := endHold d (wakeHalf pl 0 { s with flow := { s.flow with rerunq := tset [] s.flow.rerunq pl rest } }); ∃ l, (getPkt d s1).rerun = some l) ∧
  (∃ (pl : Nat) (s : State), (tget [] s.flow.recircq pl = [] ∨ (sentinelDue pl 0 s = false ∧ (tget [] s.flow.rerunq pl ≠ [] ∨ srcHeld 65 s = true)))) ∧
  (∃ (pl d : Nat) (rest : List Nat) (s0 s : State), tget [] s0.flow.rerunq pl = [] ∧ tget [] s0.flow.recircq pl = d :: rest ∧ srcHeld 65 s0 = false ∧ sentinelDue pl 0 s0 = false ∧ internalGrant pl s0 = some s) ∧
  (∃ (l : Nat) (u : UndoLog) (b : Bytes) (s t : State), getLog l s = some u ∧ awaits u = true ∧ u.phase = .index true ∧ let p := logPlace u s; u.lines.contains (bucketKey p.r1 p.partner) = true ∧ lineWaits p.r1 p.partner s = false ∧ claimWaits p s = false ∧ readLine 0 p.r1 p.partner s = (b, t) ∧ lineMatches (fp16Of p.hlo) b = []) ∧
  (∃ (l n x : Nat) (pair partner : Bool) (rest : List (Nat × Bool × Nat)) (u : UndoLog) (img : Bytes) (s t : State), getLog l s = some u ∧ awaits u = true ∧ u.phase = .record partner ((n, pair, x) :: rest) ∧ spanOut 0 (recAddr n) (recSize pair) s = false ∧ claimWaits (logPlace u s) s = false ∧ recordResult n pair s = (some img, t) ∧ recJudge n u.key (compactKey s.flow.fpSeed u.key) (some img) = .found) ∧
  (∃ (l sub : Nat) (u : UndoLog) (s : State), getLog l s = some u ∧ awaits u = true ∧ u.phase = .subctx ∧ u.sub = some sub ∧ spanOut 0 (subCtxAddr sub) 64 s = false ∧ claimWaits (logPlace u s) s = false ∧ mustWait .ctx sub s = false) ∧
  (∃ (l : Nat) (u : UndoLog) (s : State), getLog l s = some u ∧ awaits u = true ∧ u.phase = .claimed ∧ u.specDone = true ∧ gatesDone u s = true ∧ indexAccepted u s = true) ∧
  (∃ (l : Nat) (u : UndoLog) (s : State), getLog l s = some u ∧ u.st = .undoing ∧ u.waitPlace = false ∧ (∀ e ∈ u.ents, e.filled = true) ∧ undoWaits u s = false) ∧
  (∃ (l : Nat) (u : UndoLog) (s : State), getLog l s = some u ∧ u.st = .undoing ∧ u.waitPlace = true) ∧
  (∃ (l : Nat) (u : UndoLog) (s : State), getLog l s = some u ∧ u.st = .pending ∧ u.answered = false ∧ deadlineReached u (fastClock s) = true ∧ u.specDone = false) :=
  ⟨⟨0, State.reset, (by decide +kernel)⟩,
   ⟨0, 0, State.reset, (by decide +kernel), (by decide +kernel), (by decide +kernel)⟩,
   ⟨0, State.reset, (by decide +kernel), (by decide +kernel)⟩,
   ⟨0, { State.reset with flow := { State.reset.flow with admq := [(0, List.replicate 4096 0)] } }, (by decide +kernel), (by decide +kernel), (by decide +kernel)⟩,
   ⟨1, withPkt 1 { hlo := 1 } ({ State.reset with flow := { State.reset.flow with admq := [(0, List.replicate 4096 0)] } }), (by decide +kernel), (by decide +kernel), (fun x h => by obtain rfl : x = 0 := List.eq_of_mem_replicate (n := 4096) h; decide +kernel)⟩,
   ⟨0, 0, _, { queued State.reset with time := { State.reset.time with free := 10 ^ 9 } }, (Option.some_get (by decide +kernel)).symm, (by decide +kernel)⟩,
   ⟨0, 0, _, queued State.reset, (Option.some_get (by decide +kernel)).symm, (by decide +kernel)⟩,
   ⟨0, 0, _, _, { State.reset with flow := { State.reset.flow with inbound := [(0, [(0, 0)])] }, time := { State.reset.time with free := 10 ^ 9 } }, (someEta (by decide +kernel)), (by decide +kernel)⟩,
   ⟨0, 0, _, _, { State.reset with flow := { State.reset.flow with inbound := [(0, [(0, 0)])] } }, (someEta (by decide +kernel)), (by decide +kernel)⟩,
   ⟨0, { State.reset with flow := { State.reset.flow with cls := [(0, [0, 2, 0, 0])] } }, (by decide +kernel)⟩,
   ⟨0, { State.reset with flow := { State.reset.flow with cls := [(0, [0, 1, 0, 0])] } }, (by decide +kernel)⟩,
   ⟨0, State.reset, (by decide +kernel)⟩,
   ⟨0, State.reset, (by decide +kernel)⟩,
   ⟨0, 0, [], queued (withPkt 0 { key := zeros 48 } (oneHot keyPlace (ent 1 0 0) State.reset)), (by decide +kernel), (by decide +kernel), keyPlace, (by decide +kernel)⟩,
   ⟨0, 0, [], queued State.reset, (by decide +kernel), (by decide +kernel), (0, []), (by decide +kernel), (by decide +kernel)⟩,
   ⟨0, 0, [], queued (onFlow (fun f => { f with hot := (List.range 4).map fun w => (2 * w, { img := List.replicate 48 (255 : Byte) ++ leBytes 4 5 ++ zeros 76 }) }) State.reset), (by decide +kernel), (by decide +kernel), (by decide +kernel), (by decide +kernel)⟩,
   ⟨0, 0, 0, 0, onFlow (fun f => { f with inbound := [(0, [(0, 0)])] }) (State.reset), (by decide +kernel), (by decide +kernel), (by decide +kernel)⟩,
   ⟨0, 0, 0, 0, onFlow (fun f => { f with inbound := [(0, [(0, 0)])] }) (reading 4 (mapAddr 0 / 64) State.reset), (by decide +kernel), (Or.inl (by decide +kernel))⟩,
   ⟨0, sentinel0 (rerun0 State.reset), (by decide +kernel), (by decide +kernel)⟩,
   ⟨0, sentinel0 (onFlow (fun f => { f with recircq := [(0, [0])] }) (State.reset)), (by decide +kernel), (by decide +kernel)⟩,
   ⟨0, portFrame0 State.reset, (by decide +kernel), (by decide +kernel)⟩,
   ⟨0, State.reset, (by decide +kernel)⟩,
   ⟨0, granted0 7 (portFrame0 State.reset), (by decide +kernel), (by decide +kernel)⟩,
   ⟨0, State.reset, (by decide +kernel)⟩,
   ⟨0, granted0 8 (rerun0 State.reset), (by decide +kernel), (by decide +kernel)⟩,
   ⟨0, granted0 7 (rerun0 State.reset), (by decide +kernel), (by decide +kernel)⟩,
   ⟨0, 0, [], granted0 8 (portFrame0 (rerun0 State.reset)), _, (by decide +kernel), (by decide +kernel), rfl, (by decide +kernel)⟩,
   ⟨0, 0, [], granted0 8 (onBuf (fun b => { b with frame := [(0, { pkt := some { rerun := some 0 } })] }) (portFrame0 (rerun0 State.reset))), _, (by decide +kernel), (by decide +kernel), rfl, 0, (by decide +kernel)⟩,
   ⟨0, rerun0 State.reset, (Or.inr ⟨(by decide +kernel), (Or.inl (by decide +kernel))⟩)⟩,
   ⟨0, 0, [], granted0 8 (portFrame0 (onFlow (fun f => { f with recircq := [(0, [0])] }) State.reset)), _, (by decide +kernel), (by decide +kernel), (by decide +kernel), (by decide +kernel), rfl⟩,
   ⟨0, { u0 with phase := .index true, lines := [bucketKey false p0.partner] }, _, oneLog { u0 with phase := .index true, lines := [bucketKey false p0.partner] } State.reset, _, (by decide +kernel), (by decide +kernel), (by decide +kernel), (by decide +kernel), (by decide +kernel), (by decide +kernel), (Prod.eta _).symm, (by decide +kernel)⟩,
   ⟨0, 5, 0, true, false, [], { u0 with phase := .record false [(5, true, 0)] }, img 1 5 0, oneLog { u0 with phase := .record false [(5, true, 0)] } (withMem (cells (64 * 5) (img 1 5 0)) State.reset), _, (by decide +kernel), (by decide +kernel), (by decide +kernel), (by decide +kernel), (by decide +kernel), (fstEq (by decide +kernel)), (by decide +kernel)⟩,
   ⟨0, 0, { u0 with phase := .subctx, sub := some 0 }, oneLog { u0 with phase := .subctx, sub := some 0 } State.reset, (by decide +kernel), (by decide +kernel), (by decide +kernel), (by decide +kernel), (by decide +kernel), (by decide +kernel), (by decide +kernel)⟩,
   ⟨0, { u0 with phase := .claimed, specDone := true }, oneLog { u0 with phase := .claimed, specDone := true } State.reset, (by decide +kernel), (by decide +kernel), (by decide +kernel), (by decide +kernel), (by decide +kernel), (by decide +kernel)⟩,
   ⟨0, { u0 with st := .undoing }, oneLog { u0 with st := .undoing } State.reset, (by decide +kernel), (by decide +kernel), (by decide +kernel), (by decide +kernel), (by decide +kernel)⟩,
   ⟨0, { u0 with st := .undoing, waitPlace := true }, oneLog { u0 with st := .undoing, waitPlace := true } State.reset, (by decide +kernel), (by decide +kernel), (by decide +kernel)⟩,
   ⟨0, u0, late (oneLog u0 State.reset), (by decide +kernel), (by decide +kernel), (by decide +kernel), (by rw [fastClock_late]; decide +kernel; decide +kernel), (by decide +kernel)⟩⟩

theorem witness_AdmissionEnds :
  (∃ (l k d : Nat) (u : UndoLog) (e : HotEntry) (s : State), getLog l s = some u ∧ hotGet k s = some e ∧ u.st = .expDrop) ∧
  (∃ (l k d : Nat) (u : UndoLog) (e : HotEntry) (s : State), getLog l s = some u ∧ hotGet k s = some e ∧ u.st = .undoing ∧ (u.rerunsLeft = 0 ∨ (getPkt d s).rerun = some l) ∧ deferredOf u < 65535) ∧
  (∃ (l k d : Nat) (u : UndoLog) (e : HotEntry) (s : State), getLog l s = some u ∧ hotGet k s = some e ∧ u.st = .undoing ∧ 65535 ≤ deferredOf u) ∧
  (∃ (l : Nat) (s : State), (∀ u, getLog l s = some u → awaits u = false)) ∧
  (∃ (b : Bytes) (now : Nat), bit (fld b 16 4) 0 = false ∧ fld b 8 2 = 0) ∧
  (∃ (l k n : Nat) (e : HotEntry) (u : UndoLog) (s : State), logEntry l s = some (k, e) ∧ isStd e.img = true ∧ e.img.length = 128 ∧ s.flow.mig = none ∧ u.slot = some n ∧ n < 2 ^ 30) ∧
  (∃ (l : Nat) (u : UndoLog) (s : State), getLog l s = some u ∧ u.hold = [] ∧ u.rerunsLeft = 0) ∧
  (∃ (l : Nat) (u : UndoLog) (s : State), getLog l s = some u ∧ u.st = .undoing ∧ u.waitPlace = false ∧ u.ents.all (·.filled) = true ∧ undoWaits u s = false) ∧
  (∃ (l : Nat) (u : UndoLog) (s : State), getLog l s = some u ∧ u.st = .undoing ∧ u.waitPlace = true) ∧
  (∃ (l : Nat) (u : UndoLog) (s : State), getLog l s = some u ∧ u.st = .undoing ∧ (u.ents.all (·.filled) = false ∨ undoWaits u s = true)) ∧
  (∃ (l : Nat) (u : UndoLog) (s : State), getLog l s = some u ∧ (u.st ≠ .pending ∨ u.answered = true ∨ deadlineReached u (fastClock s) = false)) ∧
  (∃ (l : Nat) (u : UndoLog) (s : State), getLog l s = some u ∧ u.st = .pending ∧ u.answered = false ∧ deadlineReached u (fastClock s) = true ∧ let s1 := addCtr .HOLD_EXP_PKTS u.cls u.hold.length (bump .HOLD_EXP_FLOWS u.cls (fastClock s)); let drop := bit (fld (admClass u.cls s1) 0 1) 0 = true ∨ u.specDone = false ∨ (u.assured = true ∧ (s1.ep.bank u.bank).mode.getLsbD mASSURED = true); drop) ∧
  (∃ (l : Nat) (u : UndoLog) (s : State), getLog l s = some u ∧ u.st = .pending ∧ u.answered = false ∧ deadlineReached u (fastClock s) = true ∧ let s1 := addCtr .HOLD_EXP_PKTS u.cls u.hold.length (bump .HOLD_EXP_FLOWS u.cls (fastClock s)); let drop := bit (fld (admClass u.cls s1) 0 1) 0 = true ∨ u.specDone = false ∨ (u.assured = true ∧ (s1.ep.bank u.bank).mode.getLsbD mASSURED = true); ¬drop ∧ let s2 := admTrace 4 l (setLog l { u with st := .expFwd } s1); logEntry l s2 = none) ∧
  (∃ (l : Nat) (u : UndoLog) (s : State), getLog l s = some u ∧ u.st = .pending ∧ u.answered = false ∧ deadlineReached u (fastClock s) = true ∧ let s1 := addCtr .HOLD_EXP_PKTS u.cls u.hold.length (bump .HOLD_EXP_FLOWS u.cls (fastClock s)); let drop := bit (fld (admClass u.cls s1) 0 1) 0 = true ∨ u.specDone = false ∨ (u.assured = true ∧ (s1.ep.bank u.bank).mode.getLsbD mASSURED = true); ¬drop ∧ let s2 := admTrace 4 l (setLog l { u with st := .expFwd } s1); ∃ k e, logEntry l s2 = some (k, e)) ∧
  (∃ (l : Nat) (u : UndoLog) (partner : Bool) (b : Bytes) (s s1 : State), getLog l s = some u ∧ awaits u = true ∧ u.phase = .index partner ∧ let p := logPlace u s; let bucket := if partner then p.partner else p.bucket; u.lines.contains (bucketKey p.r1 bucket) = true ∧ lineWaits p.r1 bucket s = false ∧ claimWaits p s = false ∧ readLine 0 p.r1 bucket s = (b, s1) ∧ lineMatches (fp16Of p.hlo) b ≠ []) ∧
  (∃ (l : Nat) (u : UndoLog) (partner : Bool) (b : Bytes) (s s1 : State), getLog l s = some u ∧ awaits u = true ∧ u.phase = .index partner ∧ let p := logPlace u s; let bucket := if partner then p.partner else p.bucket; u.lines.contains (bucketKey p.r1 bucket) = true ∧ lineWaits p.r1 bucket s = false ∧ claimWaits p s = false ∧ readLine 0 p.r1 bucket s = (b, s1) ∧ lineMatches (fp16Of p.hlo) b = []) ∧
  (∃ (l : Nat) (u : UndoLog) (partner : Bool) (s : State), getLog l s = some u ∧ awaits u = true ∧ u.phase = .index partner ∧ let p := logPlace u s; let bucket := if partner then p.partner else p.bucket; u.lines.contains (bucketKey p.r1 bucket) = false) ∧
  (∃ (l : Nat) (u : UndoLog) (partner : Bool) (s : State), getLog l s = some u ∧ awaits u = true ∧ u.phase = .index partner ∧ let p := logPlace u s; let bucket := if partner then p.partner else p.bucket; u.lines.contains (bucketKey p.r1 bucket) = true ∧ (lineWaits p.r1 bucket s = true ∨ claimWaits p s = true)) ∧
  (∃ (l bucket : Nat) (r1 : Bool) (u : UndoLog) (s : State), getLog l s = some u ∧ u.lines.contains (bucketKey r1 bucket) = false ∧ (tget? s.flow.bucket (bucketKey r1 bucket)).isSome = true) ∧
  (∃ (l bucket : Nat) (r1 : Bool) (u : UndoLog) (s : State), getLog l s = some u ∧ u.lines.contains (bucketKey r1 bucket) = false ∧ tget? s.flow.bucket (bucketKey r1 bucket) = none ∧ 65536 ≤ s.flow.bucket.length) ∧
  (∃ (l bucket : Nat) (r1 : Bool) (u : UndoLog) (s : State), getLog l s = some u ∧ u.lines.contains (bucketKey r1 bucket) = false ∧ tget? s.flow.bucket (bucketKey r1 bucket) = none ∧ s.flow.bucket.length < 65536) ∧
  (∃ (l : Nat) (u : UndoLog) (p : IdxPlace) (s : State), getLog l s = some u ∧ lineOvf (lineNow p.r1 p.bucket s) = 0) ∧
  (∃ (l : Nat) (u : UndoLog) (p : IdxPlace) (s : State), getLog l s = some u ∧ lineOvf (lineNow p.r1 p.bucket s) ≠ 0) ∧
  (∃ (l n : Nat) (u : UndoLog) (partner pair : Bool) (x : Nat) (rest : List (Nat × Bool × Nat)) (s : State), getLog l s = some u ∧ awaits u = true ∧ u.phase = .record partner ((n, pair, x) :: rest) ∧ let waits := spanOut 0 (recAddr n) (recSize pair) s || claimWaits (logPlace u s) s; waits = true) ∧
  (∃ (l n : Nat) (u : UndoLog) (partner pair : Bool) (x : Nat) (rest : List (Nat × Bool × Nat)) (s : State), getLog l s = some u ∧ awaits u = true ∧ u.phase = .record partner ((n, pair, x) :: rest) ∧ let ck := compactKey s.flow.fpSeed u.key; let waits := spanOut 0 (recAddr n) (recSize pair) s || claimWaits (logPlace u s) s; ∃ b img s1, waits = false ∧ recordResult n pair s = (b, s1) ∧ recJudge n u.key ck b = .found ∧ b = some img) ∧
  (∃ (l n : Nat) (u : UndoLog) (partner pair : Bool) (x : Nat) (rest : List (Nat × Bool × Nat)) (s : State), getLog l s = some u ∧ awaits u = true ∧ u.phase = .record partner ((n, pair, x) :: rest) ∧ let ck := compactKey s.flow.fpSeed u.key; let waits := spanOut 0 (recAddr n) (recSize pair) s || claimWaits (logPlace u s) s; ∃ b s1, waits = false ∧ recordResult n pair s = (b, s1) ∧ recJudge n u.key ck b ≠ .found) ∧
  (∃ (l n : Nat) (img : Bytes) (u : UndoLog) (s : State), getLog l s = some u ∧ u.ctx = none) ∧
  (∃ (l sub : Nat) (u : UndoLog) (s s1 : State), getLog l s = some u ∧ awaits u = true ∧ u.phase = .subctx ∧ u.sub = some sub ∧ takeCtx sub (subCtxMend sub s) = s1 ∧ let c := nfCheck (cachePeek (subCtxAddr sub) 64 s1) (msNow s1); let waits := spanOut 0 (subCtxAddr sub) 64 s || claimWaits (logPlace u s) s || mustWait .ctx sub s; waits = false ∧ c.1 = true) ∧
  (∃ (l sub : Nat) (u : UndoLog) (s s1 : State), getLog l s = some u ∧ awaits u = true ∧ u.phase = .subctx ∧ u.sub = some sub ∧ takeCtx sub (subCtxMend sub s) = s1 ∧ let c := nfCheck (cachePeek (subCtxAddr sub) 64 s1) (msNow s1); let waits := spanOut 0 (subCtxAddr sub) 64 s || claimWaits (logPlace u s) s || mustWait .ctx sub s; waits = false ∧ c.1 = false) ∧
  (∃ (l : Nat) (u : UndoLog) (s : State), getLog l s = some u ∧ awaits u = true ∧ u.phase = .claimed ∧ u.specDone = true ∧ gatesDone u s = true ∧ indexAccepted u s = true) ∧
  (∃ (l : Nat) (u : UndoLog) (s : State), getLog l s = some u ∧ awaits u = true ∧ u.phase = .claimed ∧ u.specDone = true ∧ (gatesDone u s = false ∨ indexAccepted u s = false)) ∧
  (∃ (l : Nat) (u : UndoLog) (s : State), getLog l s = some u) ∧
  (∃ (l sub : Nat) (u : UndoLog) (s s1 : State), getLog l s = some u ∧ awaits u = true ∧ u.phase = .subctx ∧ u.sub = some sub ∧ takeCtx sub (subCtxMend sub s) = s1 ∧ let waits := spanOut 0 (subCtxAddr sub) 64 s || claimWaits (logPlace u s) s || mustWait .ctx sub s; waits = true) ∧
  (∃ (l k d : Nat) (u : UndoLog) (e : HotEntry) (s : State), getLog l s = some u ∧ hotGet k s = some e ∧ u.st = .undoing ∧ u.rerunsLeft ≠ 0 ∧ (getPkt d s).rerun ≠ some l) ∧
  (∃ (b : Bytes) (now : Nat), bit (fld b 16 4) 0 = true) ∧
  (∃ (b : Bytes) (now : Nat), let tokens := min (fld b 10 2 * 1000) (fld b 0 4 + idleMs now (fld b 4 4) * fld b 8 2); bit (fld b 16 4) 0 = false ∧ fld b 8 2 ≠ 0 ∧ 1000 ≤ tokens) ∧
  (∃ (b : Bytes) (now : Nat), let tokens := min (fld b 10 2 * 1000) (fld b 0 4 + idleMs now (fld b 4 4) * fld b 8 2); bit (fld b 16 4) 0 = false ∧ fld b 8 2 ≠ 0 ∧ tokens < 1000) :=
  ⟨⟨0, 0, 0, { u0 with st := .expDrop }, ent 1 0 0, oneLog ({ u0 with st := .expDrop }) (oneHot 0 (ent 1 0 0) State.reset), (by decide +kernel), (by decide +kernel), (by decide +kernel)⟩,
   ⟨0, 0, 0, { u0 with st := .undoing }, ent 1 0 0, oneLog ({ u0 with st := .undoing }) (oneHot 0 (ent 1 0 0) State.reset), (by decide +kernel), (by decide +kernel), (by decide +kernel), (Or.inl (by decide +kernel)), (by decide +kernel)⟩,
   ⟨0, 0, 0, { u0 with st := .undoing, rerunsLeft := 65535 }, ent 1 0 0, oneLog ({ u0 with st := .undoing, rerunsLeft := 65535 }) (oneHot 0 (ent 1 0 0) State.reset), (by decide +kernel), (by decide +kernel), (by decide +kernel), (by decide +kernel)⟩,
   ⟨0, State.reset, (by decide +kernel)⟩,
   ⟨[], 0, (by decide +kernel), (by decide +kernel)⟩,
   ⟨0, 0, _, ent 1 0 0, { u0 with slot := some 0 }, oneLog ({ u0 with slot := some 0 }) (oneHot 0 (ent 1 0 0) State.reset), (by decide +kernel), (by decide +kernel), (by decide +kernel), (by decide +kernel), (Option.some_get (by decide +kernel)).symm, (by decide +kernel)⟩,
   ⟨0, u0, oneLog (u0) (State.reset), (by decide +kernel), (by decide +kernel), (by decide +kernel)⟩,
   ⟨0, { u0 with st := .undoing }, oneLog ({ u0 with st := .undoing }) (State.reset), (by decide +kernel), (by decide +kernel), (by decide +kernel), (by decide +kernel), (by decide +kernel)⟩,
   ⟨0, { u0 with st := .undoing, waitPlace := true }, oneLog ({ u0 with st := .undoing, waitPlace := true }) (State.reset), (by decide +kernel), (by decide +kernel), (by decide +kernel)⟩,
   ⟨0, { u0 with st := .undoing, ents := [{ kind := 1, obj := 0, amt := 0, filled := false }] }, oneLog ({ u0 with st := .undoing, ents := [{ kind := 1, obj := 0, amt := 0, filled := false }] }) (State.reset), (by decide +kernel), (by decide +kernel), (Or.inl (by decide +kernel))⟩,
   ⟨0, { u0 with st := .expFwd }, oneLog ({ u0 with st := .expFwd }) (State.reset), (by decide +kernel), (Or.inl (by decide +kernel))⟩,
   ⟨0, u0, late (oneLog (u0) (State.reset)), (by decide +kernel), (by decide +kernel), (by decide +kernel), (by rw [fastClock_late]; decide +kernel; decide +kernel), (by rw [fastClock_late]; decide +kernel; decide +kernel)⟩,
   ⟨0, { u0 with specDone := true }, late (oneLog ({ u0 with specDone := true }) (State.reset)), (by decide +kernel), (by decide +kernel), (by decide +kernel), (by rw [fastClock_late]; decide +kernel; decide +kernel), (by rw [fastClock_late]; decide +kernel; decide +kernel), (by rw [fastClock_late]; decide +kernel; decide +kernel)⟩,
   ⟨0, { u0 with specDone := true }, late (oneLog ({ u0 with specDone := true }) (oneHot 0 (ent 1 0 0) State.reset)), (by decide +kernel), (by decide +kernel), (by decide +kernel), (by rw [fastClock_late]; decide +kernel; decide +kernel), (by rw [fastClock_late]; decide +kernel; decide +kernel), 0, ent 1 0 0, (by rw [fastClock_late]; decide +kernel; decide +kernel)⟩,
   ⟨0, { u0 with lines := [bucketKey false p0.bucket] }, false, _, oneLog { u0 with lines := [bucketKey false p0.bucket] } (withMem (cells (lineAddr false p0.bucket) line0) State.reset), _, (by decide +kernel), (by decide +kernel), (by decide +kernel), (by decide +kernel), (by decide +kernel), (by decide +kernel), (Prod.eta _).symm, (by decide +kernel)⟩,
   ⟨0, { u0 with lines := [bucketKey false p0.bucket] }, false, _, oneLog { u0 with lines := [bucketKey false p0.bucket] } State.reset, _, (by decide +kernel), (by decide +kernel), (by decide +kernel), (by decide +kernel), (by decide +kernel), (by decide +kernel), (Prod.eta _).symm, (by decide +kernel)⟩,
   ⟨0, u0, false, oneLog u0 State.reset, (by decide +kernel), (by decide +kernel), (by decide +kernel), (by decide +kernel)⟩,
   ⟨0, { u0 with lines := [bucketKey false p0.bucket] }, false, onFlow (fun f => { f with work := some { key := bucketKey false p0.bucket, copy := false, left := [] } }) (oneLog { u0 with lines := [bucketKey false p0.bucket] } State.reset), (by decide +kernel), (by decide +kernel), (by decide +kernel), (by decide +kernel), (Or.inl (by decide +kernel))⟩,
   ⟨0, 5, false, u0, onFlow (fun f => { f with bucket := [(bucketKey false 5, none)] }) (oneLog u0 State.reset), (by decide +kernel), (by decide +kernel), (by decide +kernel)⟩,
   ⟨0, 0, false, u0, fullBuckets (oneLog u0 State.reset), (by decide +kernel), (by decide +kernel), (fullBuckets_none _), (fullBuckets_length _)⟩,
   ⟨0, 5, false, u0, oneLog u0 State.reset, (by decide +kernel), (by decide +kernel), (by decide +kernel), (by decide +kernel)⟩,
   ⟨0, u0, p0, oneLog u0 State.reset, (by decide +kernel), (by decide +kernel)⟩,
   ⟨0, u0, p0, oneLog u0 (withMem (cells (lineAddr false p0.bucket) [16]) State.reset), (by decide +kernel), (by decide +kernel)⟩,
   ⟨0, 5, { u0 with phase := .record false [(5, true, 0)] }, false, true, 0, [], oneLog ({ u0 with phase := .record false [(5, true, 0)] }) (reading 0 5 State.reset), (by decide +kernel), (by decide +kernel), (by decide +kernel), (by decide +kernel)⟩,
   ⟨0, 5, { u0 with phase := .record false [(5, true, 0)] }, false, true, 0, [], oneLog ({ u0 with phase := .record false [(5, true, 0)] }) (withMem (cells (64 * 5) (img 1 5 0)) State.reset), (by decide +kernel), (by decide +kernel), (by decide +kernel), some (img 1 5 0), img 1 5 0, _, (by decide +kernel), (fstEq (by decide +kernel)), (by decide +kernel), (by decide +kernel)⟩,
   ⟨0, 5, { u0 with phase := .record false [(5, true, 0)] }, false, true, 0, [], oneLog ({ u0 with phase := .record false [(5, true, 0)] }) State.reset, (by decide +kernel), (by decide +kernel), (by decide +kernel), _, _, (by decide +kernel), (Prod.eta _).symm, (by decide +kernel)⟩,
   ⟨0, 0, [], u0, oneLog u0 State.reset, (by decide +kernel), (by decide +kernel)⟩,
   ⟨0, 0, { u0 with phase := .subctx, sub := some 0 }, oneLog { u0 with phase := .subctx, sub := some 0 } State.reset, _, (by decide +kernel), (by decide +kernel), (by decide +kernel), (by decide +kernel), rfl, (by decide +kernel), (by decide +kernel)⟩,
   ⟨0, 0, { u0 with phase := .subctx, sub := some 0 }, oneLog { u0 with phase := .subctx, sub := some 0 } (withMem (cells (subCtxAddr 0 + 8) [1]) State.reset), _, (by decide +kernel), (by decide +kernel), (by decide +kernel), (by decide +kernel), rfl, (by decide +kernel), (by decide +kernel)⟩,
   ⟨0, { u0 with phase := .claimed, specDone := true, slot := some 0 }, oneLog ({ u0 with phase := .claimed, specDone := true, slot := some 0 }) State.reset, (by decide +kernel), (by decide +kernel), (by decide +kernel), (by decide +kernel), (by decide +kernel), (by decide +kernel)⟩,
   ⟨0, { u0 with phase := .claimed, specDone := true, slot := some 0 }, oneLog ({ u0 with phase := .claimed, specDone := true, slot := some 0 }) (writing 0 (lineAddr false p0.bucket / 64) State.reset), (by decide +kernel), (by decide +kernel), (by decide +kernel), (by decide +kernel), (Or.inr (by decide +kernel))⟩,
   ⟨0, u0, oneLog u0 State.reset, (by decide +kernel)⟩,
   ⟨0, 0, { u0 with phase := .subctx, sub := some 0 }, oneLog { u0 with phase := .subctx, sub := some 0 } (reading 0 (subCtxAddr 0 / 64) State.reset), _, (by decide +kernel), (by decide +kernel), (by decide +kernel), (by decide +kernel), rfl, (by decide +kernel)⟩,
   ⟨0, 0, 0, { u0 with st := .undoing, rerunsLeft := 1 }, ent 1 0 0, oneLog { u0 with st := .undoing, rerunsLeft := 1 } (oneHot 0 (ent 1 0 0) State.reset), (by decide +kernel), (by decide +kernel), (by decide +kernel), (by decide +kernel), (by decide +kernel)⟩,
   ⟨zeros 16 ++ [1, 0, 0, 0], 0, (by decide +kernel)⟩,
   ⟨leBytes 4 1000 ++ zeros 4 ++ [1, 0, 1, 0] ++ zeros 8, 0, (by decide +kernel), (by decide +kernel), (by decide +kernel)⟩,
   ⟨zeros 8 ++ [1, 0, 1, 0] ++ zeros 8, 0, (by decide +kernel), (by decide +kernel), (by decide +kernel)⟩⟩

theorem witness_GraphsRun :
  (∃ (r : YcpReq) (s : State), Accepted 0x0412 r s ∧ let b := reqBody r; let t := fld b 0 4; let tr := tplRec s.ep.activeNo t s; b.length = 72 ∧ fld b 4 4 < 2 ∧ t < 1024 ∧ 8 ≤ room r ∧ inBp (tplPrio tr) s = true) ∧
  (∃ (r : YcpReq) (s : State), Accepted 0x0412 r s ∧ let b := reqBody r; let t := fld b 0 4; let tr := tplRec s.ep.activeNo t s; b.length = 72 ∧ fld b 4 4 < 2 ∧ t < 1024 ∧ 8 ≤ room r ∧ inBp (tplPrio tr) s = false ∧ startRefused (tplPrio tr) s = true) ∧
  (∃ (r : YcpReq) (s : State), Accepted 0x0412 r s ∧ let b := reqBody r; let t := fld b 0 4; let tr := tplRec s.ep.activeNo t s; b.length = 72 ∧ fld b 4 4 < 2 ∧ t < 1024 ∧ 8 ≤ room r ∧ inBp (tplPrio tr) s = false ∧ startRefused (tplPrio tr) s = false ∧ tplCount tr ≠ 0 ∧ tplKind tr ≠ 0) ∧
  (∃ (r : YcpReq) (s : State), Accepted 0x0412 r s ∧ let b := reqBody r; let t := fld b 0 4; let tr := tplRec s.ep.activeNo t s; b.length = 72 ∧ fld b 4 4 < 2 ∧ t < 1024 ∧ 8 ≤ room r ∧ inBp (tplPrio tr) s = false ∧ startRefused (tplPrio tr) s = false ∧ tplCount tr ≠ 0 ∧ tplKind tr = 0 ∧ fld b 4 4 = 0) ∧
  (∃ (r : YcpReq) (s : State), Accepted 0x0412 r s ∧ let b := reqBody r; let t := fld b 0 4; let tr := tplRec s.ep.activeNo t s; b.length = 72 ∧ fld b 4 4 < 2 ∧ t < 1024 ∧ 8 ≤ room r ∧ inBp (tplPrio tr) s = false ∧ startRefused (tplPrio tr) s = false ∧ tplCount tr ≠ 0 ∧ tplKind tr = 0 ∧ fld b 4 4 = 1) ∧
  (∃ (t : Nat) (v : List Nat) (m : Option (Fin 8)) (s : State), let l := tplPrio (tplRec s.ep.activeNo t s); (getLevel l s).ring = [] ∧ (getLevel l s).slots.length < 16384) ∧
  (∃ (r : YcpReq) (s : State), Accepted 0x0413 r s ∧ let id := fld (reqBody r) 0 4; (reqBody r).length = 4 ∧ tget? s.task.run id = none) ∧
  (∃ (r : YcpReq) (s : State), Accepted 0x0413 r s ∧ let id := fld (reqBody r) 0 4; (reqBody r).length = 4 ∧ ∃ h, tget? s.task.run id = some h ∧ h.ctx = none) ∧
  (∃ (r : YcpReq) (s : State), Accepted 0x0413 r s ∧ let id := fld (reqBody r) 0 4; (reqBody r).length = 4 ∧ ∃ h c x, tget? s.task.run id = some h ∧ h.ctx = some c ∧ getCtx c s = some x ∧ (x.kind = 0 ∨ 4 ≤ x.kind)) ∧
  (∃ (r : YcpReq) (s : State), Accepted 0x0413 r s ∧ let id := fld (reqBody r) 0 4; (reqBody r).length = 4 ∧ ∃ h c x, tget? s.task.run id = some h ∧ h.ctx = some c ∧ getCtx c s = some x ∧ 1 ≤ x.kind ∧ x.kind ≤ 3) ∧
  (∃ (e : Nat) (t : Task) (x : Ctx) (s : State), t.ty = .node ∧ symCount t.bad < 2 ∧ getCtx t.ctx s = some x ∧ x.bad < 2 ∧ engineState e s = .working ∧ let n := tplNode (tplRec x.bank x.tpl s) t.node; skipped x n = true) ∧
  (∃ (e : Nat) (t : Task) (x : Ctx) (s : State), t.ty = .node ∧ symCount t.bad < 2 ∧ getCtx t.ctx s = some x ∧ x.bad < 2 ∧ engineState e s = .working ∧ let n := tplNode (tplRec x.bank x.tpl s) t.node; skipped x n = false) ∧
  (∃ (x : Ctx) (n : Bytes) (s : State), nodeSub n = 0) ∧
  (∃ (x : Ctx) (n : Bytes) (s : State), let a := x.slot (nodeSrcA n); let b := x.opB n; nodeSub n = 1 ∧ b ≤ a ∧ a < 2 ^ 64) ∧
  (∃ (x : Ctx) (n : Bytes) (s : State), nodeSub n = 2) ∧
  (∃ (x : Ctx) (n : Bytes) (s : State), nodeSub n = 3) ∧
  (∃ (x : Ctx) (n : Bytes) (s : State), nodeSub n = 4) ∧
  (∃ (x : Ctx) (n : Bytes) (s : State), let b := x.opB n; nodeSub n = 5 ∧ b < 64) ∧
  (∃ (x : Ctx) (n : Bytes) (s : State), let b := x.opB n; nodeSub n = 6 ∧ b < 64) ∧
  (∃ (x : Ctx) (n : Bytes) (s : State), nodeSub n = 7) ∧
  (∃ (x : Ctx) (n : Bytes) (s : State), nodeSub n = 8) ∧
  (∃ (x : Ctx) (n : Bytes) (s : State), nodeSub n = 9) ∧
  (∃ (x : Ctx) (n : Bytes) (s : State), nodeSub n = 10) ∧
  (∃ (x : Ctx) (n : Bytes) (s : State), nodeSub n = 11) ∧
  (∃ (c j : Nat) (x : Ctx) (r n : Bytes) (s : State), nodeOp n = 0) ∧
  (∃ (c j : Nat) (x : Ctx) (r n : Bytes) (s : State), nodeOp n = 1) ∧
  (∃ (c j : Nat) (x : Ctx) (r n : Bytes) (s : State), (nodeOp n = 9 ∨ nodeOp n = 10 ∨ nodeOp n = 11) ∧ nodeAddrOk r n x = false) ∧
  (∃ (c j : Nat) (x : Ctx) (r n : Bytes) (s : State), nodeOp n = 15 ∧ nodeSub n = 1) ∧
  (∃ (x : Ctx) (n : Bytes) (s : State), heldEntry x (locPlace (x.slot (nodeSrcA n))) s = none ∧ (∀ e, hotGet (locPlace (x.slot (nodeSrcA n))) s = some e → e.bad = 0)) ∧
  (∃ (c node : Nat) (s : State), (∀ x, getCtx c s = some x → node ∉ x.outst)) ∧
  (∃ (c node t : Nat) (x : Ctx) (s : State), getCtx c s = some x ∧ tget? x.timers node = some t ∧ t ≤ s.time.free ∧ x.st = .running) ∧
  (∃ (c node t : Nat) (x : Ctx) (s : State), getCtx c s = some x ∧ tget? x.timers node = some t ∧ s.time.free < t) ∧
  (∃ (c : Nat) (x : Ctx) (s : State), getCtx c s = some x ∧ x.st ≠ .closing ∧ x.outst = []) ∧
  (∃ (c : Nat) (x : Ctx) (s : State), getCtx c s = some x ∧ x.st ≠ .closing ∧ x.outst ≠ []) ∧
  (∃ (c : Nat) (x : Ctx) (s : State), getCtx c s = some x ∧ x.st ≠ .closing ∧ ∃ t ∈ (getLevel x.level (cancelInst c s)).slots, t.ty ≠ .start) ∧
  (∃ (l : Nat) (s : State), (getLevel l s).ring = [] ∧ l < 8) ∧
  (∃ (l : Nat) (t : Task) (s : State), l < 8 ∧ (getLevel l s).ring = [t] ∧ (getLevel l s).slots.length ≤ 16368 ∧ taskAlive s t = true) ∧
  (∃ (e : Nat) (s : State), engineState e s ≠ .failed) ∧
  (∃ (s : State), s.task.joining = 0) ∧
  (∃ (s : State) (k e : Nat) (ks : List Nat), 0 < s.task.joining ∧ joinOrder s = k :: ks ∧ s.spare.engineOut = [e] ∧ e ≠ k ∧ isProactive 3 e s = false) ∧
  (∃ (e : Nat) (s : State), engineState e s = .working ∧ let n := ((List.range 68).filter fun k => engineState k s == .working).length; inMode mFRUGAL s = true ∧ 4 < n) ∧
  (∃ (e : Nat) (s : State), engineState e s = .working ∧ let n := ((List.range 68).filter fun k => engineState k s == .working).length; (inMode mFRUGAL s = false ∨ n ≤ 4)) ∧
  (∃ (s : State), s.mace.injection = none) ∧
  (∃ (s : State), let s1 := { s with task := { s.task with clk := (s.task.clk + 1) % 2 ^ 48 } }; let s2 := (flit linkACT s1).2; s.pwr.standby ≠ .inStandby ∧ nextTask s2 = none) ∧
  (∃ (s : State), let s1 := { s with task := { s.task with clk := (s.task.clk + 1) % 2 ^ 48 } }; let s2 := (flit linkACT s1).2; ∃ t e es, s.pwr.standby ≠ .inStandby ∧ nextTask s2 = some t ∧ workingEngines s1 = e :: es ∧ tget 0 s.task.suspect e = 0 ∧ nextTask (runTask e t s2) = none) ∧
  (∃ (s : State), let s1 := { s with task := { s.task with clk := (s.task.clk + 1) % 2 ^ 48 } }; let s2 := (flit linkACT s1).2; ∃ t e es, s.pwr.standby ≠ .inStandby ∧ nextTask s2 = some t ∧ workingEngines s1 = e :: es ∧ tget 0 s.task.suspect e ≠ 0 ∧ let s3 := raise 35 e 0 (bump .NODE_FAULT 0 (setSuspect e 2 (bump .TASK_DISPATCH t.level (takeTask t s2)))); nextTask s3 = none) ∧
  (∃ (t : Task) (s : State), (∀ l, l ≤ 7 → (getLevel l s).slots.Pairwise fun a b => a.stamp ≤ b.stamp) ∧ nextTask s = some t) ∧
  (∃ (c node : Nat) (x : Ctx) (s : State), getCtx c s = some x ∧ node ∈ x.outst ∧ node < 32 ∧ x.log = none ∧ owed x (tget {} x.ret node) s = true) ∧
  (∃ (c node : Nat) (x : Ctx) (s : State), getCtx c s = some x ∧ node ∈ x.outst ∧ node < 32 ∧ x.log = none ∧ let n := tplNode (tplRec x.bank x.tpl s) node; owed x (tget {} x.ret node) s = false ∧ nodeOp n ≠ 0x13 ∧ nodeOp n ≠ 0x18 ∧ ¬(nodeOp n = 0x0A ∧ x.kind = 2) ∧ x.st = .closing) ∧
  (∃ (c node : Nat) (x : Ctx) (s : State), getCtx c s = some x ∧ node ∈ x.outst ∧ node < 32 ∧ x.log = none ∧ let n := tplNode (tplRec x.bank x.tpl s) node; owed x (tget {} x.ret node) s = false ∧ nodeOp n ≠ 0x13 ∧ nodeOp n ≠ 0x18 ∧ ¬(nodeOp n = 0x0A ∧ x.kind = 2) ∧ x.st = .frozen) ∧
  (∃ (c node : Nat) (x : Ctx) (s : State), getCtx c s = some x ∧ node ∈ x.outst ∧ node < 32 ∧ x.log = none ∧ let n := tplNode (tplRec x.bank x.tpl s) node; owed x (tget {} x.ret node) s = false ∧ nodeOp n ≠ 0x13 ∧ nodeOp n ≠ 0x18 ∧ ¬(nodeOp n = 0x0A ∧ x.kind = 2) ∧ x.st = .running) ∧
  (∃ (c : Nat) (x : Ctx) (s : State), getCtx c s = some x ∧ x.st = .running ∧ timedOut x s = false) ∧
  (∃ (c : Nat) (x : Ctx) (s : State), getCtx c s = some x ∧ x.st = .running ∧ x.pausedNs = 0 ∧ x.pausedAt = none) ∧
  (∃ (c : Nat) (x : Ctx) (s : State), getCtx c s = some x ∧ x.st = .running ∧ timedOut x s = true) ∧
  (∃ (c : Nat) (x : Ctx) (s : State), getCtx c s = some x ∧ x.st = .running ∧ let r := tplRec x.bank x.tpl s; 2 * timeoutUs r ≤ (s.time.free - x.since) / 1000) ∧
  (∃ (c : Nat) (x : Ctx) (s : State), getCtx c s = some x ∧ x.st = .running ∧ timedOut x s = true ∧ (x.kind = 0 ∨ 4 ≤ x.kind)) ∧
  (∃ (c : Nat) (x : Ctx) (s : State), getCtx c s = some x ∧ x.st = .running ∧ timedOut x s = true ∧ (x.kind = 2 ∨ x.kind = 3)) ∧
  (∃ (c : Nat) (x : Ctx) (s : State), getCtx c s = some x ∧ x.st = .running ∧ ∃ l, timedOut x s = true ∧ x.kind = 1 ∧ x.log = some l) ∧
  (∃ (s : State), s.pwr.standby = .inStandby) ∧
  (∃ (e : Nat) (t : Task) (s : State), 2 ≤ symCount t.bad) :=
  ⟨⟨req (zeros 72), pressed ready, takes (by decide +kernel), (by decide +kernel), (by decide +kernel), (by decide +kernel), (by decide +kernel), (by decide +kernel)⟩,
   ⟨req (zeros 72), manyStarts ready, takes (by decide +kernel), (by decide +kernel), (by decide +kernel), (by decide +kernel), (by decide +kernel), (by decide +kernel), (startsRefused ready (by decide +kernel))⟩,
   ⟨req (leBytes 4 1 ++ zeros 68), template1 (tpl0 1) ready, takes (by decide +kernel), (by decide +kernel), (by decide +kernel), (by decide +kernel), (by decide +kernel), (by decide +kernel), (by decide +kernel), (by decide +kernel), (by decide +kernel)⟩,
   ⟨req (leBytes 4 1 ++ zeros 68), template1 (tpl0 0) ready, takes (by decide +kernel), (by decide +kernel), (by decide +kernel), (by decide +kernel), (by decide +kernel), (by decide +kernel), (by decide +kernel), (by decide +kernel), (by decide +kernel), (by decide +kernel)⟩,
   ⟨req (leBytes 4 1 ++ leBytes 4 1 ++ zeros 64), template1 (tpl0 0) ready, takes (by decide +kernel), (by decide +kernel), (by decide +kernel), (by decide +kernel), (by decide +kernel), (by decide +kernel), (by decide +kernel), (by decide +kernel), (by decide +kernel), (by decide +kernel)⟩,
   ⟨0, [], none, State.reset, (by decide +kernel), (by decide +kernel)⟩,
   ⟨req (zeros 4), ready, takes (by decide +kernel), (by decide +kernel), (by decide +kernel)⟩,
   ⟨req (zeros 4), { ready with task := { ready.task with run := [(0, run0)] } }, takes (by decide +kernel), (by decide +kernel), run0, (by decide +kernel), (by decide +kernel)⟩,
   ⟨req (zeros 4), { ready with task := { ready.task with run := [(0, { run0 with ctx := some 0 })], ctx := [(0, { kind := 0 })] } }, takes (by decide +kernel), (by decide +kernel), { run0 with ctx := some 0 }, 0, { kind := 0 }, (by decide +kernel), (by decide +kernel), (by decide +kernel), (Or.inl (by decide +kernel))⟩,
   ⟨req (zeros 4), { ready with task := { ready.task with run := [(0, { run0 with ctx := some 0 })], ctx := [(0, { kind := 1 })] } }, takes (by decide +kernel), (by decide +kernel), { run0 with ctx := some 0 }, 0, { kind := 1 }, (by decide +kernel), (by decide +kernel), (by decide +kernel), (by decide +kernel), (by decide +kernel)⟩,
   ⟨0, { ty := .node, level := 0, tpl := 1 }, { tpl := 1 }, template1 (tplMake 0 0 0 "" [{ op := 0, flags := fPRED }]) (oneCtx { tpl := 1 } State.reset), (by decide +kernel), (by decide +kernel), (by decide +kernel), (by decide +kernel), (by decide +kernel), (by decide +kernel)⟩,
   ⟨0, { ty := .node, level := 0, tpl := 1 }, { tpl := 1 }, template1 (tpl0 0) (oneCtx { tpl := 1 } State.reset), (by decide +kernel), (by decide +kernel), (by decide +kernel), (by decide +kernel), (by decide +kernel), (by decide +kernel)⟩,
   ⟨{}, zeros 8 ++ [0], State.reset, (by decide +kernel)⟩,
   ⟨{}, zeros 8 ++ [1], State.reset, (by decide +kernel), (by decide +kernel), (by decide +kernel)⟩,
   ⟨{}, zeros 8 ++ [2], State.reset, (by decide +kernel)⟩,
   ⟨{}, zeros 8 ++ [3], State.reset, (by decide +kernel)⟩,
   ⟨{}, zeros 8 ++ [4], State.reset, (by decide +kernel)⟩,
   ⟨{}, zeros 8 ++ [5], State.reset, (by decide +kernel), (by decide +kernel)⟩,
   ⟨{}, zeros 8 ++ [6], State.reset, (by decide +kernel), (by decide +kernel)⟩,
   ⟨{}, zeros 8 ++ [7], State.reset, (by decide +kernel)⟩,
   ⟨{}, zeros 8 ++ [8], State.reset, (by decide +kernel)⟩,
   ⟨{}, zeros 8 ++ [9], State.reset, (by decide +kernel)⟩,
   ⟨{}, zeros 8 ++ [10], State.reset, (by decide +kernel)⟩,
   ⟨{}, zeros 8 ++ [11], State.reset, (by decide +kernel)⟩,
   ⟨0, 0, {}, [], [0], State.reset, (by decide +kernel)⟩,
   ⟨0, 0, {}, [], [1], State.reset, (by decide +kernel)⟩,
   ⟨0, 0, {}, [], [9], State.reset, (Or.inl (by decide +kernel)), (by decide +kernel)⟩,
   ⟨0, 0, {}, [], [15] ++ zeros 7 ++ [1], State.reset, (by decide +kernel), (by decide +kernel)⟩,
   ⟨{}, [], State.reset, (by decide +kernel), (by decide +kernel)⟩,
   ⟨0, 0, State.reset, (by decide +kernel)⟩,
   ⟨0, 0, 0, { st := .running, timers := [(0, 0)] }, oneCtx { st := .running, timers := [(0, 0)] } State.reset, (by decide +kernel), (by decide +kernel), (by decide +kernel), (by decide +kernel)⟩,
   ⟨0, 0, 1, { st := .running, timers := [(0, 1)] }, oneCtx { st := .running, timers := [(0, 1)] } State.reset, (by decide +kernel), (by decide +kernel), (by decide +kernel)⟩,
   ⟨0, {}, oneCtx {} State.reset, (by decide +kernel), (by decide +kernel), (by decide +kernel)⟩,
   ⟨0, { outst := [0] }, oneCtx { outst := [0] } State.reset, (by decide +kernel), (by decide +kernel), (by decide +kernel)⟩,
   ⟨0, {}, oneTask { ty := .node, level := 0, ctx := 1 } (oneCtx {} State.reset), (by decide +kernel), (by decide +kernel), { ty := .node, level := 0, ctx := 1 }, (by decide +kernel), (by decide +kernel)⟩,
   ⟨0, State.reset, (by decide +kernel), (by decide +kernel)⟩,
   ⟨0, { ty := .start, level := 0 }, { State.reset with task := { State.reset.task with level := [(0, { ring := [{ ty := .start, level := 0 }] })] } }, (by decide +kernel), (by decide +kernel), (by decide +kernel), (by decide +kernel)⟩,
   ⟨0, State.reset, (by decide +kernel)⟩,
   ⟨State.reset, (by decide +kernel)⟩,
   ⟨{ { State.reset with task := { State.reset.task with joining := 1 } } with spare := { State.reset.spare with engineOut := [0] } }, 64, 0, [65, 66, 67], (by decide +kernel), (by decide +kernel), (by decide +kernel), (by decide +kernel), (by decide +kernel)⟩,
   ⟨0, moded mFRUGAL State.reset, (by decide +kernel), (by decide +kernel), (by decide +kernel)⟩,
   ⟨0, State.reset, (by decide +kernel), (by decide +kernel)⟩,
   ⟨State.reset, rfl⟩,
   ⟨State.reset, (by decide +kernel), (by decide +kernel)⟩,
   ⟨oneTask { ty := .retire, level := 0 } State.reset, { ty := .retire, level := 0 }, 0, (List.range 64).tail, (by decide +kernel), (by decide +kernel), (by decide +kernel), (by decide +kernel), (by decide +kernel)⟩,
   ⟨onTask (fun z => { z with suspect := [(0, 1)] }) (oneTask { ty := .retire, level := 0 } State.reset), { ty := .retire, level := 0 }, 0, (List.range 64).tail, (by decide +kernel), (by decide +kernel), (by decide +kernel), (by decide +kernel), (by decide +kernel)⟩,
   ⟨{ ty := .retire, level := 0 }, oneTask { ty := .retire, level := 0 } State.reset, (by decide +kernel), (by decide +kernel)⟩,
   ⟨0, 0, { outst := [0], ret := [(0, { reads := [5] })] }, oneCtx { outst := [0], ret := [(0, { reads := [5] })] } (reading 2 5 State.reset), (by decide +kernel), (by decide +kernel), (by decide +kernel), (by decide +kernel), (by decide +kernel)⟩,
   ⟨0, 0, { st := .closing, outst := [0] }, oneCtx { st := .closing, outst := [0] } State.reset, (by decide +kernel), (by decide +kernel), (by decide +kernel), (by decide +kernel), (by decide +kernel), (by decide +kernel), (by decide +kernel), (by decide +kernel), (by decide +kernel)⟩,
   ⟨0, 0, { st := .frozen, outst := [0] }, oneCtx { st := .frozen, outst := [0] } State.reset, (by decide +kernel), (by decide +kernel), (by decide +kernel), (by decide +kernel), (by decide +kernel), (by decide +kernel), (by decide +kernel), (by decide +kernel), (by decide +kernel)⟩,
   ⟨0, 31, { st := .running, outst := [31] }, oneCtx { st := .running, outst := [31] } State.reset, (by decide +kernel), (by decide +kernel), (by decide +kernel), (by decide +kernel), (by decide +kernel), (by decide +kernel), (by decide +kernel), (by decide +kernel), (by decide +kernel)⟩,
   ⟨0, { st := .running }, oneCtx { st := .running } State.reset, (by decide +kernel), (by decide +kernel), (by decide +kernel)⟩,
   ⟨0, { st := .running }, oneCtx { st := .running } State.reset, (by decide +kernel), (by decide +kernel), (by decide +kernel), (by decide +kernel)⟩,
   ⟨0, { st := .running }, onTime (fun z => { z with free := 10 ^ 9 }) (oneCtx { st := .running } State.reset), (by decide +kernel), (by decide +kernel), (by decide +kernel)⟩,
   ⟨0, { st := .running, pausedNs := 10 ^ 9 }, onTime (fun z => { z with free := 10 ^ 9 }) (oneCtx { st := .running, pausedNs := 10 ^ 9 } State.reset), (by decide +kernel), (by decide +kernel), (by decide +kernel)⟩,
   ⟨0, { st := .running }, onTime (fun z => { z with free := 10 ^ 9 }) (oneCtx { st := .running } State.reset), (by decide +kernel), (by decide +kernel), (by decide +kernel), (Or.inl (by decide +kernel))⟩,
   ⟨0, { st := .running, kind := 2 }, onTime (fun z => { z with free := 10 ^ 9 }) (oneCtx { st := .running, kind := 2 } State.reset), (by decide +kernel), (by decide +kernel), (by decide +kernel), (Or.inl (by decide +kernel))⟩,
   ⟨0, { st := .running, kind := 1, log := some 0 }, onTime (fun z => { z with free := 10 ^ 9 }) (oneCtx { st := .running, kind := 1, log := some 0 } State.reset), (by decide +kernel), (by decide +kernel), 0, (by decide +kernel), (by decide +kernel), (by decide +kernel)⟩,
   ⟨onPwr (fun p => { p with standby := .inStandby }) State.reset, rfl⟩,
   ⟨0, { ty := .start, level := 0, bad := 3 }, State.reset, (by decide +kernel)⟩⟩

theorem witness_FlowServices :
  (∃ (r : YcpReq) (s : State), Accepted 0x0423 r s ∧ let n := fld (reqBody r) 0 4; (reqBody r).length = 4 ∧ 10 ≤ n ∧ n ≤ 3600) ∧
  (∃ (r : YcpReq) (s : State), Accepted 0x0423 r s ∧ let n := fld (reqBody r) 0 4; (reqBody r).length = 4 ∧ (n < 10 ∨ 3600 < n)) ∧
  (∃ (r : YcpReq) (s : State), Accepted 0x0425 r s ∧ let svc := fld (reqBody r) 0 4; (reqBody r).length = 4 ∧ svc < 4096) ∧
  (∃ (r : YcpReq) (s : State), Accepted 0x0425 r s ∧ let svc := fld (reqBody r) 0 4; (reqBody r).length = 4 ∧ 4096 ≤ svc) ∧
  (∃ (bs : List Nat) (s : State), let w (b : Nat) : Nat := fld (backendRec b s) 1 1; 0 < (bs.map w).sum) ∧
  (∃ (r : YcpReq) (s : State), Accepted 0x0427 r s ∧ let b := reqBody r; b.length = 8 ∧ fld b 0 4 = 1 ∧ s.svc.audit = none ∧ let x : SvcState := { s.svc with audit := some {} }; let u := { s with svc := x, pwr := { s.pwr with auditDue := false } }; (auditProps u).length ≤ room r) ∧
  (∃ (r : YcpReq) (s : State), Accepted 0x0427 r s ∧ let b := reqBody r; b.length = 8 ∧ fld b 0 4 = 1 ∧ s.svc.audit ≠ none) ∧
  (∃ (r : YcpReq) (s : State), Accepted 0x0427 r s ∧ let b := reqBody r; b.length = 8 ∧ fld b 0 4 = 2 ∧ 4 ≤ fld b 4 4 ∧ fld b 4 4 ≤ 256 ∧ let u := { s with svc := { s.svc with auditRate := fld b 4 4 } }; (auditProps u).length ≤ room r) ∧
  (∃ (r : YcpReq) (s : State), Accepted 0x0427 r s ∧ let b := reqBody r; b.length = 8 ∧ fld b 0 4 = 2 ∧ (fld b 4 4 < 4 ∨ 256 < fld b 4 4)) ∧
  (∃ (r : YcpReq) (s : State), Accepted 0x0427 r s ∧ let b := reqBody r; b.length = 8 ∧ fld b 0 4 = 3 ∧ (auditProps s).length ≤ room r) ∧
  (∃ (r : YcpReq) (s : State), Accepted 0x0428 r s ∧ let b := reqBody r; let k := fld b 4 4; b.length = 8 ∧ 64 ≤ room r ∧ fld b 0 4 = 0 ∧ k < 134217728 ∧ tget? s.svc.pend k = none ∧ (cachePeek (regionBase 6 + 64 * k) 64 s).length ≤ room r) ∧
  (∃ (r : YcpReq) (s : State), Accepted 0x0428 r s ∧ let b := reqBody r; let k := fld b 4 4; b.length = 8 ∧ 64 ≤ room r ∧ fld b 0 4 = 1 ∧ k < 8388608 ∧ (dirEnt k s).length ≤ room r) ∧
  (∃ (r : YcpReq) (s : State), Accepted 0x0428 r s ∧ let b := reqBody r; let k := fld b 4 4; b.length = 8 ∧ 64 ≤ room r ∧ fld b 0 4 = 0 ∧ 134217728 ≤ k) ∧
  (∃ (r : YcpReq) (s : State), Accepted 0x0428 r s ∧ let b := reqBody r; b.length = 8 ∧ 64 ≤ room r ∧ 2 ≤ fld b 0 4) ∧
  (∃ (a : Nat) (l : CacheLine) (s : State), tget? s.svc.cache a = some l ∧ l.dirty = true) ∧
  (∃ (a : Nat) (l : CacheLine) (s : State), tget? s.svc.cache a = some l ∧ l.dirty = false) ∧
  (∃ (a : Nat) (l : CacheLine) (s : State), tget? s.svc.cache a = some l) ∧
  (∃ (k : SvcCache) (o v : Nat) (rest : List Nat) (s : State), lru k s = v :: rest ∧ o ∉ lru k s ∧ (lru k s).length = cacheSize k ∧ objPinned k v s = false ∧ v ∉ rest) ∧
  (∃ (k : SvcCache) (o : Nat) (s : State), o ∈ lru k s) ∧
  (∃ (s : State), allocatedBlocks s = []) ∧
  (∃ (g : Nat) (s : State), ((allocatedBlocks s).find? fun k => decide (s.svc.sweepAt ≤ k)) = some g) ∧
  (∃ (g sub : Nat) (s : State), blockOwner g s = some sub) ∧
  (∃ (s : State), s.svc.acc = []) ∧
  (∃ (id : Nat) (p b : Int) (s : State), memWf s.hbm.mem = true ∧ s.svc.acc = [(id, (p, b))] ∧ spanUe (ctrPairAddr id) 16 s = false) ∧
  (∃ (s : State), s.svc.audit = none ∧ s.pwr.auditDue = false) ∧
  (∃ (n : Nat) (s : State), s.svc.audit = none ∧ s.pwr.auditDue = true) ∧
  (∃ (n : Nat) (a : Audit) (s : State), s.svc.audit = some a ∧ 4067328 ≤ a.hotAt ∧ 2 ^ s.flow.bucketBits ≤ a.slotAt) ∧
  (∃ (s : State), ∃ a, s.svc.audit = some a ∧ (a.hotAt < 4067328 ∨ a.slotAt < 2 ^ s.flow.bucketBits)) ∧
  (∃ (s : State), ∃ a, s.svc.audit = some a ∧ 4067328 ≤ a.hotAt ∧ 2 ^ s.flow.bucketBits ≤ a.slotAt) ∧
  (∃ (b n : Nat) (ck : Bytes) (s : State), (backendRec b s).length = 16) ∧
  (∃ (r : YcpReq) (s : State), Accepted 0x0428 r s ∧ let b := reqBody r; let k := fld b 4 4; b.length = 8 ∧ 64 ≤ room r ∧ ∃ x, fld b 0 4 = 0 ∧ k < 134217728 ∧ tget? s.svc.pend k = some x) ∧
  (∃ (g sub : Nat) (s : State), blockOwner g s = some sub ∧ let p := blockPool g s; xpDet (xpoolDesc p s) = true) ∧
  (∃ (g sub : Nat) (s : State), blockOwner g s = some sub ∧ let p := blockPool g s; xpDet (xpoolDesc p s) = false ∧ (getBlocks p s).back.length < 15) ∧
  (∃ (g sub : Nat) (s : State), blockOwner g s = some sub ∧ let p := blockPool g s; xpDet (xpoolDesc p s) = false ∧ 15 ≤ (getBlocks p s).back.length) ∧
  (∃ (g sub : Nat) (s : State), blockOwner g s = some sub ∧ let p := blockPool g s; xpDet (xpoolDesc p s) = false) ∧
  (∃ (p g : Nat) (gs : List Nat) (s : State), (getBlocks p s).front = g :: gs ∧ blockOwned g s = true) ∧
  (∃ (p g : Nat) (s : State), let r := getBlocks p s; memWf s.hbm.mem = true ∧ r.back.length = 15 ∧ p < 64) ∧
  (∃ (n : Nat) (a : Audit) (s : State), s.svc.audit = some a ∧ a.hotAt < 4067328 ∧ (∀ k, a.hotAt ≤ k → k < a.hotAt + n → hotGet k s = none)) ∧
  (∃ (s : State), s.svc.audit = none) ∧
  (∃ (s : State), (∀ x ∈ s.svc.blocks, x.2.aside = []) ∧ s.svc.blocks.Pairwise (fun a b => a.1 < b.1) ∧ (∀ x ∈ s.svc.blocks, x.2 ≠ {})) ∧
  (∃ (echo : Bool) (fp ck : Bytes) (sub : Nat) (s : State), binding sub s = none ∧ translatable echo fp ck = true) ∧
  (∃ (echo : Bool) (fp ck : Bytes) (sub : Nat) (s : State), binding sub s = none ∧ translatable echo fp ck = false) ∧
  (∃ (fp ck : Bytes), fld ck 4 1 = 1) ∧
  (∃ (n : Nat) (a : Audit) (s : State), s.svc.audit = some a ∧ a.hotAt < 4067328) :=
  ⟨⟨req (leBytes 4 10), ready, takes (by decide +kernel), (by decide +kernel), (by decide +kernel), (by decide +kernel)⟩,
   ⟨req (leBytes 4 9), ready, takes (by decide +kernel), (by decide +kernel), (by decide +kernel)⟩,
   ⟨req (leBytes 4 4095), ready, takes (by decide +kernel), (by decide +kernel), (by decide +kernel)⟩,
   ⟨req (leBytes 4 4096), ready, takes (by decide +kernel), (by decide +kernel), (by decide +kernel)⟩,
   ⟨[0], { State.reset with svc := { State.reset.svc with backend := [(0, [1, 1] ++ zeros 14)] } }, (by decide +kernel)⟩,
   ⟨req (leBytes 4 1 ++ zeros 4), ready, takes (by decide +kernel), (by decide +kernel), (by decide +kernel), (by decide +kernel), (by decide +kernel)⟩,
   ⟨req (leBytes 4 1 ++ zeros 4), { ready with svc := { ready.svc with audit := some {} } }, takes (by decide +kernel), (by decide +kernel), (by decide +kernel), (by decide +kernel)⟩,
   ⟨req (leBytes 4 2 ++ leBytes 4 4), ready, takes (by decide +kernel), (by decide +kernel), (by decide +kernel), (by decide +kernel), (by decide +kernel), (by decide +kernel)⟩,
   ⟨req (leBytes 4 2 ++ leBytes 4 3), ready, takes (by decide +kernel), (by decide +kernel), (by decide +kernel), (by decide +kernel)⟩,
   ⟨req (leBytes 4 3 ++ zeros 4), ready, takes (by decide +kernel), (by decide +kernel), (by decide +kernel), (by decide +kernel)⟩,
   ⟨req (zeros 4 ++ leBytes 4 134217727), ready, takes (by decide +kernel), (by decide +kernel), (by decide +kernel), (by decide +kernel), (by decide +kernel), (by decide +kernel), (by decide +kernel)⟩,
   ⟨req (leBytes 4 1 ++ leBytes 4 8388607), ready, takes (by decide +kernel), (by decide +kernel), (by decide +kernel), (by decide +kernel), (by decide +kernel), (by decide +kernel)⟩,
   ⟨req (zeros 4 ++ leBytes 4 134217728), ready, takes (by decide +kernel), (by decide +kernel), (by decide +kernel), (by decide +kernel), (by decide +kernel)⟩,
   ⟨req (leBytes 4 2 ++ zeros 4), ready, takes (by decide +kernel), (by decide +kernel), (by decide +kernel), (by decide +kernel)⟩,
   ⟨0, { cache := .ctx, obj := 0, data := zeros 64, dirty := true }, { State.reset with svc := { State.reset.svc with cache := [(0, { cache := .ctx, obj := 0, data := zeros 64, dirty := true })] } }, (by decide +kernel), (by decide +kernel)⟩,
   ⟨0, { cache := .ctx, obj := 0, data := zeros 64, dirty := false }, { State.reset with svc := { State.reset.svc with cache := [(0, { cache := .ctx, obj := 0, data := zeros 64, dirty := false })] } }, (by decide +kernel), (by decide +kernel)⟩,
   ⟨0, { cache := .ctx, obj := 0, data := zeros 64, dirty := false }, { State.reset with svc := { State.reset.svc with cache := [(0, { cache := .ctx, obj := 0, data := zeros 64, dirty := false })] } }, (by decide +kernel)⟩,
   ⟨.ctx, 2, 0, List.replicate 16383 1, fullCache State.reset, rfl, (notFull (n := 16383) (by decide) (by decide)), (fullLength 16383), (by decide +kernel), (notRep (by decide))⟩,
   ⟨.ctx, 0, { State.reset with svc := { State.reset.svc with ctxLru := [0] } }, (by decide +kernel)⟩,
   ⟨State.reset, (by decide +kernel)⟩,
   ⟨0, withMem [(blockEntAddr 0 + 2, 128)] State.reset, (by decide +kernel)⟩,
   ⟨0, 0, withMem [(blockEntAddr 0 + 2, 128)] State.reset, (by decide +kernel)⟩,
   ⟨State.reset, (by decide +kernel)⟩,
   ⟨0, 1, 1, { State.reset with svc := { State.reset.svc with acc := [(0, (1, 1))] } }, (by decide +kernel), (by decide +kernel), (by decide +kernel)⟩,
   ⟨State.reset, (by decide +kernel), (by decide +kernel)⟩,
   ⟨0, { State.reset with pwr := { State.reset.pwr with auditDue := true } }, (by decide +kernel), (by decide +kernel)⟩,
   ⟨0, { hotAt := 4067328, slotAt := 2 ^ 28 }, { State.reset with svc := { State.reset.svc with audit := some { hotAt := 4067328, slotAt := 2 ^ 28 } } }, (by decide +kernel), (by decide +kernel), (by decide +kernel)⟩,
   ⟨{ State.reset with svc := { State.reset.svc with audit := some {} } }, {}, (by decide +kernel), (Or.inl (by decide +kernel))⟩,
   ⟨{ State.reset with svc := { State.reset.svc with audit := some { hotAt := 4067328, slotAt := 2 ^ 28 } } }, { hotAt := 4067328, slotAt := 2 ^ 28 }, (by decide +kernel), (by decide +kernel), (by decide +kernel)⟩,
   ⟨0, 0, zeros 24, State.reset, (by decide +kernel)⟩,
   ⟨req (zeros 4 ++ leBytes 4 134217727), onSvc (fun z => { z with pend := [(134217727, { sub := 0, proto := 6, addr := zeros 4, port := zeros 2, noidx := false })] }) (ready), takes (by decide +kernel), (by decide +kernel), (by decide +kernel), { sub := 0, proto := 6, addr := zeros 4, port := zeros 2, noidx := false }, (by decide +kernel), (by decide +kernel), (by decide +kernel)⟩,
   ⟨0, 0, withMem [(blockEntAddr 0 + 2, 128), (poolDescAddr 0 + 4, 4)] State.reset, (by decide +kernel), (by decide +kernel)⟩,
   ⟨0, 0, withMem [(blockEntAddr 0 + 2, 128)] State.reset, (by decide +kernel), (by decide +kernel), (by decide +kernel)⟩,
   ⟨0, 0, onSvc (fun z => { z with blocks := [(0, { back := List.replicate 15 1 })] }) (withMem [(blockEntAddr 0 + 2, 128)] State.reset), (by decide +kernel), (by decide +kernel), (by decide +kernel)⟩,
   ⟨0, 0, withMem [(blockEntAddr 0 + 2, 128)] State.reset, (by decide +kernel), (by decide +kernel)⟩,
   ⟨0, 0, [], onSvc (fun z => { z with blocks := [(0, { front := [0] })] }) (State.reset), (by decide +kernel), (by decide +kernel)⟩,
   ⟨63, 0, onSvc (fun z => { z with blocks := [(63, { back := List.replicate 15 1 })] }) (State.reset), (by decide +kernel), (by decide +kernel), (by decide +kernel)⟩,
   ⟨1, {}, onSvc (fun z => { z with audit := some {} }) (State.reset), (by decide +kernel), (by decide +kernel), (fun k _ b => by obtain rfl : k = 0 := Nat.lt_one_iff.mp b; rfl)⟩,
   ⟨State.reset, (by decide +kernel)⟩,
   ⟨onSvc (fun z => { z with blocks := [(0, { front := [0] })] }) (State.reset), (by decide +kernel), (by decide +kernel), (by decide +kernel)⟩,
   ⟨true, zeros 32, [0, 0, 0, 128, 17], 0, State.reset, (by decide +kernel), (by decide +kernel)⟩,
   ⟨false, zeros 32, [0, 0, 0, 128, 1], 0, State.reset, (by decide +kernel), (by decide +kernel)⟩,
   ⟨zeros 32, [0, 0, 0, 128, 1], (by decide +kernel)⟩,
   ⟨5, {}, onSvc (fun z => { z with audit := some {} }) State.reset, rfl, (by decide +kernel)⟩⟩

theorem witness_SubscriberMeter :
  (∃ (port vlan vec flags : Nat) (s : State) (x : SvcResult) (t : State), serviceLookup port vlan vec flags s = (some x, t) ∧ ∃ o sub, svcMeterEn x.entry = true ∧ subDerive x.entry vec flags vlan = .ok (o, sub)) ∧
  (∃ (port vlan vec flags : Nat) (s : State) (x : SvcResult) (t : State), serviceLookup port vlan vec flags s = (some x, t) ∧ svcMeterEn x.entry = false) ∧
  (∃ (port vlan vec flags : Nat) (s : State) (x : SvcResult) (t : State), serviceLookup port vlan vec flags s = (some x, t) ∧ ∃ past, subDerive x.entry vec flags vlan = .error past) :=
  ⟨⟨0, 0, 0, 0, serviced ([17, 1] ++ zeros 22) State.reset, ⟨([17, 1] ++ zeros 22), 0, 0, some 0, some 0⟩, _, (fstEq (by decide +kernel)), 0, 0, (by decide +kernel), rfl⟩,
   ⟨0, 0, 0, 0, serviced ([1, 1] ++ zeros 22) State.reset, ⟨([1, 1] ++ zeros 22), 0, 0, some 0, none⟩, _, (fstEq (by decide +kernel)), (by decide +kernel)⟩,
   ⟨0, 0, 0, 0, serviced ([1, 0] ++ zeros 22) State.reset, ⟨([1, 0] ++ zeros 22), 0, 0, none, none⟩, _, (fstEq (by decide +kernel)), false, rfl⟩⟩

theorem witness_LookupCommandsComplete :
  (∃ (r : YcpReq) (s : State) (i : Nat), Accepted 0x0203 r s ∧ let e := slice (reqBody r) 4 16; (reqBody r).length = 20 ∧ fld (reqBody r) 0 4 = 1 ∧ l2Encodes e = true ∧ portUnused (l2Port e) s = false ∧ 20 ≤ room r ∧ (l2Find (l2Fid e) (l2Mac e) s = some i ∨ (l2Find (l2Fid e) (l2Mac e) s = none ∧ l2Empty (l2Fid e) (l2Mac e) s = some i))) ∧
  (∃ (r : YcpReq) (s : State), Accepted 0x0203 r s ∧ let e := slice (reqBody r) 4 16; (reqBody r).length = 20 ∧ fld (reqBody r) 0 4 = 1 ∧ l2Encodes e = true ∧ portUnused (l2Port e) s = false ∧ l2Find (l2Fid e) (l2Mac e) s = none ∧ l2Empty (l2Fid e) (l2Mac e) s = none) ∧
  (∃ (r : YcpReq) (s : State) (i : Nat), Accepted 0x0203 r s ∧ let e := slice (reqBody r) 4 16; (reqBody r).length = 20 ∧ fld (reqBody r) 0 4 = 2 ∧ l2Encodes e = true ∧ 20 ≤ room r ∧ l2Find (l2Fid e) (l2Mac e) s = some i) ∧
  (∃ (r : YcpReq) (s : State), Accepted 0x0203 r s ∧ let e := slice (reqBody r) 4 16; (reqBody r).length = 20 ∧ 2 ≤ fld (reqBody r) 0 4 ∧ fld (reqBody r) 0 4 ≤ 3 ∧ l2Encodes e = true ∧ l2Find (l2Fid e) (l2Mac e) s = none) ∧
  (∃ (r : YcpReq) (s : State) (i : Nat), Accepted 0x0203 r s ∧ let e := slice (reqBody r) 4 16; (reqBody r).length = 20 ∧ fld (reqBody r) 0 4 = 3 ∧ l2Encodes e = true ∧ l2Lookup (l2Fid e) (l2Mac e) s = some i ∧ 4 + (l2Entry i s).length ≤ room r) ∧
  (∃ (r : YcpReq) (s : State), Accepted 0x0204 r s ∧ let f := fld (reqBody r) 0 4; let p := fld (reqBody r) 4 4; let goes (e : Bytes) : Bool := l2Valid e && !l2Static e && (bit f 31 || bit p 31) &&
      (!bit f 31 || l2Fid e == bits f 0 12) && (!bit p 31 || l2Port e == bits p 0 6); (reqBody r).length = 8 ∧ bits f 12 19 = 0 ∧ bits p 6 25 = 0 ∧ (bit p 31 = true → portUnused (bits p 0 6) s = false) ∧ 4 ≤ room r ∧ ∃ i, goes (tget (zeros 16) s.look.l2 i) = true) ∧
  (∃ (r : YcpReq) (s : State), Accepted 0x0204 r s ∧ let f := fld (reqBody r) 0 4; let p := fld (reqBody r) 4 4; let goes (e : Bytes) : Bool := l2Valid e && !l2Static e && (bit f 31 || bit p 31) &&
      (!bit f 31 || l2Fid e == bits f 0 12) && (!bit p 31 || l2Port e == bits p 0 6); (reqBody r).length = 8 ∧ bits f 12 19 = 0 ∧ bits p 6 25 = 0 ∧ (bit p 31 = true → portUnused (bits p 0 6) s = false) ∧ 4 ≤ room r ∧ ∃ i, (∀ x ∈ s.look.l2, x.1 = i → goes x.2 = false)) ∧
  (∃ (r : YcpReq) (s : State), Accepted 0x0205 r s ∧ let b := reqBody r; b.length = 16 ∧ fld b 12 4 = 0 ∧ fld b 0 4 ≤ 100 ∧ 10 ≤ fld b 4 4 ∧ fld b 4 4 ≤ 3600 ∧ (fld b 8 4 = s.look.l2Seed ∨ s.look.l2 = [])) ∧
  (∃ (r : YcpReq) (s : State), Accepted 0x0205 r s ∧ let b := reqBody r; b.length = 16 ∧ fld b 12 4 = 0 ∧ fld b 0 4 ≤ 100 ∧ 10 ≤ fld b 4 4 ∧ fld b 4 4 ≤ 3600 ∧ fld b 8 4 ≠ s.look.l2Seed ∧ s.look.l2 ≠ []) ∧
  (∃ (r : YcpReq) (s : State), Accepted 0x0206 r s ∧ let e := slice (reqBody r) 8 32; let i := fld (reqBody r) 4 4; (reqBody r).length = 40 ∧ fld (reqBody r) 0 4 = 1 ∧ bits (fld e 22 1) 4 3 = 0 ∧ fld e 23 9 = 0 ∧ i < 32768 ∧ camLen e ≤ 160 ∧ 32 ≤ room r) ∧
  (∃ (r : YcpReq) (s : State), Accepted 0x0206 r s ∧ let i := fld (reqBody r) 4 4; let x := putF (camEntry i s) 22 1 (fld (camEntry i s) 22 1 % 128); (reqBody r).length = 40 ∧ fld (reqBody r) 0 4 = 2 ∧ camEncodes (slice (reqBody r) 8 32) = true ∧ i < 32768 ∧ x.length ≤ room r) ∧
  (∃ (r : YcpReq) (s : State), Accepted 0x0206 r s ∧ let i := fld (reqBody r) 4 4; (reqBody r).length = 40 ∧ fld (reqBody r) 0 4 = 3 ∧ camEncodes (slice (reqBody r) 8 32) = true ∧ i < 32768 ∧ tget 0 s.look.camBad i = 0 ∧ (camEntry i s).length ≤ room r) ∧
  (∃ (r : YcpReq) (s : State), Accepted 0x0206 r s ∧ let i := fld (reqBody r) 4 4; (reqBody r).length = 40 ∧ fld (reqBody r) 0 4 = 3 ∧ camEncodes (slice (reqBody r) 8 32) = true ∧ i < 32768 ∧ tget 0 s.look.camBad i ≠ 0) ∧
  (∃ (r : YcpReq) (s : State) (i : Nat) (tie : Bool), Accepted 0x0208 r s ∧ let p := fld (reqBody r) 0 4; (reqBody r).length = 24 ∧ p < 16 ∧ camBest p (fld (reqBody r) 4 20) s = some (i, tie) ∧ 8 ≤ room r) ∧
  (∃ (r : YcpReq) (s : State), Accepted 0x0208 r s ∧ let p := fld (reqBody r) 0 4; (reqBody r).length = 24 ∧ p < 16 ∧ camBest p (fld (reqBody r) 4 20) s = none ∧ 8 ≤ room r) ∧
  (∃ (r : YcpReq) (s : State), Accepted 0x0209 r s ∧ let b := reqBody r; let sub := fld b 0 4; let mask := fld b 4 4; b.length = 136 ∧ mask < 256 ∧ fld b 24 4 < 2 ∧ sub < 8388608 ∧ (bit mask 0 = true → fld b 16 2 = 0 ∨ fld b 18 2 ≠ 0) ∧ (mask % 16 = 0 ∨ mustWait .ctx sub s = false)) ∧
  (∃ (sub : Nat) (gs : List Nat) (b : Bytes) (l : CacheLine) (s : State), tget? s.svc.cache (subCtxAddr sub) = some l ∧ l.cache = .ctx ∧ sub ∈ s.svc.ctxLru) ∧
  (∃ (r : YcpReq) (s : State), Accepted 0x020A r s ∧ let sub := fld (reqBody r) 0 4; let a := subCtxAddr sub; (reqBody r).length = 4 ∧ sub < 8388608 ∧ 128 ≤ room r ∧ ∃ l, tget? s.svc.cache a = some l ∧ l.data.length = 64 ∧ spanUe (a + 64) 64 s = false) ∧
  (∃ (r : YcpReq) (s : State), Accepted 0x020A r s ∧ let sub := fld (reqBody r) 0 4; let a := subCtxAddr sub; (reqBody r).length = 4 ∧ sub < 8388608 ∧ 128 ≤ room r ∧ tget? s.svc.cache a = none ∧ spanUe a 64 s = false ∧ spanUe (a + 64) 64 s = false) ∧
  (∃ (r : YcpReq) (s : State), Accepted 0x020A r s ∧ let sub := fld (reqBody r) 0 4; let a := subCtxAddr sub; (reqBody r).length = 4 ∧ sub < 8388608 ∧ 128 ≤ room r ∧ spanUe a 64 s = false ∧ spanUe (a + 64) 64 s = true) ∧
  (∃ (p : Nat) (s : State), (∀ x ∈ s.look.camBad, x.2 = 1 → bit (fld (camProfile p s) 20 1) (x.1 / 4096) = false)) ∧
  (∃ (p i : Nat) (s : State), s.look.camBad = [(i, 1)] ∧ bit (fld (camProfile p s) 20 1) (i / 4096) = true) ∧
  (∃ (r : YcpReq) (s : State), Accepted 0x0203 r s ∧ let e := slice (reqBody r) 4 16; (reqBody r).length = 20 ∧ fld (reqBody r) 0 4 = 1 ∧ l2Encodes e = true ∧ portUnused (l2Port e) s = true) ∧
  (∃ (r : YcpReq) (s : State), Accepted 0x0204 r s ∧ let p := fld (reqBody r) 4 4; (reqBody r).length = 8 ∧ bit p 31 = true ∧ portUnused (bits p 0 6) s = true) ∧
  (∃ (r : YcpReq) (s : State), Accepted 0x0206 r s ∧ (reqBody r).length = 40 ∧ camEncodes (slice (reqBody r) 8 32) = false) ∧
  (∃ (r : YcpReq) (s : State), Accepted 0x0209 r s ∧ let b := reqBody r; let sub := fld b 0 4; let mask := fld b 4 4; b.length = 136 ∧ mask < 256 ∧ fld b 24 4 < 2 ∧ sub < 8388608 ∧ mask % 16 ≠ 0 ∧ mustWait .ctx sub s = true) :=
  ⟨⟨req (leBytes 4 1 ++ zeros 16), ready, l2Slot, takes (by decide +kernel), (by decide +kernel), (by decide +kernel), (by decide +kernel), (by decide +kernel), (by decide +kernel), (Or.inr ⟨(by decide +kernel), (by decide +kernel)⟩)⟩,
   ⟨req (leBytes 4 1 ++ zeros 16), fullSet ready, takes (by decide +kernel), (by decide +kernel), (by decide +kernel), (by decide +kernel), (by decide +kernel), (by decide +kernel), (by decide +kernel)⟩,
   ⟨req (leBytes 4 2 ++ zeros 16), learned 1 ready, l2Slot, takes (by decide +kernel), (by decide +kernel), (by decide +kernel), (by decide +kernel), (by decide +kernel), (by decide +kernel)⟩,
   ⟨req (leBytes 4 2 ++ zeros 16), ready, takes (by decide +kernel), (by decide +kernel), (by decide +kernel), (by decide +kernel), (by decide +kernel)⟩,
   ⟨req (leBytes 4 3 ++ zeros 16), learned 1 ready, l2Slot, takes (by decide +kernel), (by decide +kernel), (by decide +kernel), (by decide +kernel), (by decide +kernel), (by decide +kernel)⟩,
   ⟨req (leBytes 4 2147483648 ++ zeros 4), learned 1 ready, takes (by decide +kernel), (by decide +kernel), (by decide +kernel), (by decide +kernel), (by decide +kernel), (by decide +kernel), l2Slot, (by decide +kernel)⟩,
   ⟨req (zeros 8), ready, takes (by decide +kernel), (by decide +kernel), (by decide +kernel), (by decide +kernel), (by decide +kernel), (by decide +kernel), 0, (by decide +kernel)⟩,
   ⟨req (leBytes 4 100 ++ leBytes 4 10 ++ zeros 8), ready, takes (by decide +kernel), (by decide +kernel), (by decide +kernel), (by decide +kernel), (by decide +kernel), (by decide +kernel), (by decide +kernel)⟩,
   ⟨req (leBytes 4 1 ++ leBytes 4 300 ++ leBytes 4 1 ++ zeros 4), learned 1 ready, takes (by decide +kernel), (by decide +kernel), (by decide +kernel), (by decide +kernel), (by decide +kernel), (by decide +kernel), (by decide +kernel), (by decide +kernel)⟩,
   ⟨req (leBytes 4 1 ++ leBytes 4 32767 ++ zeros 32), ready, takes (by decide +kernel), (by decide +kernel), (by decide +kernel), (by decide +kernel), (by decide +kernel), (by decide +kernel), (by decide +kernel), (by decide +kernel)⟩,
   ⟨req (leBytes 4 2 ++ leBytes 4 32767 ++ zeros 32), ready, takes (by decide +kernel), (by decide +kernel), (by decide +kernel), (by decide +kernel), (by decide +kernel), (by decide +kernel)⟩,
   ⟨req (leBytes 4 3 ++ leBytes 4 32767 ++ zeros 32), ready, takes (by decide +kernel), (by decide +kernel), (by decide +kernel), (by decide +kernel), (by decide +kernel), (by decide +kernel), (by decide +kernel)⟩,
   ⟨req (leBytes 4 3 ++ zeros 36), { ready with look := { ready.look with camBad := [(0, 1)] } }, takes (by decide +kernel), (by decide +kernel), (by decide +kernel), (by decide +kernel), (by decide +kernel), (by decide +kernel)⟩,
   ⟨req (zeros 24), camOne ready, 0, false, takes (by decide +kernel), (by decide +kernel), (by decide +kernel), (by decide +kernel), (by decide +kernel)⟩,
   ⟨req (leBytes 4 15 ++ zeros 20), ready, takes (by decide +kernel), (by decide +kernel), (by decide +kernel), (by decide +kernel), (by decide +kernel)⟩,
   ⟨req (leBytes 4 8388607 ++ leBytes 4 255 ++ zeros 128), ready, takes (by decide +kernel), (by decide +kernel), (by decide +kernel), (by decide +kernel), (by decide +kernel), (by decide +kernel), (Or.inr (by decide +kernel))⟩,
   ⟨0, [], [], { cache := .ctx, obj := 0, data := zeros 64 }, { State.reset with svc := { State.reset.svc with cache := [(subCtxAddr 0, { cache := .ctx, obj := 0, data := zeros 64 })], ctxLru := [0] } }, (by decide +kernel), (by decide +kernel), (by decide +kernel)⟩,
   ⟨req (zeros 4), { ready with svc := { ready.svc with cache := [(subCtxAddr 0, { cache := .ctx, obj := 0, data := zeros 64 })], ctxLru := [0] } }, takes (by decide +kernel), (by decide +kernel), (by decide +kernel), (by decide +kernel), { cache := .ctx, obj := 0, data := zeros 64 }, (by decide +kernel), (by decide +kernel), (by decide +kernel)⟩,
   ⟨req (leBytes 4 8388607), ready, takes (by decide +kernel), (by decide +kernel), (by decide +kernel), (by decide +kernel), (by decide +kernel), (by decide +kernel), (by decide +kernel)⟩,
   ⟨req (zeros 4), { ready with hbm := { ready.hbm with bad := [((subCtxAddr 0 + 64) / 32, 3)] } }, takes (by decide +kernel), (by decide +kernel), (by decide +kernel), (by decide +kernel), (by decide +kernel), (by decide +kernel)⟩,
   ⟨0, onLook (fun z => { z with camBad := [(4096, 1)] }) (camOne State.reset), (by decide +kernel)⟩,
   ⟨0, 4095, onLook (fun z => { z with camBad := [(4095, 1)] }) (camOne State.reset), (by decide +kernel), (by decide +kernel)⟩,
   ⟨req (leBytes 4 1 ++ l2Make (zeros 6) 0 1 1 0 0), wide0 ready, takes (by decide +kernel), (by decide +kernel), (by decide +kernel), (by decide +kernel), (by decide +kernel)⟩,
   ⟨req (zeros 4 ++ leBytes 4 (2 ^ 31 + 1)), wide0 ready, takes (by decide +kernel), (by decide +kernel), (by decide +kernel), (by decide +kernel)⟩,
   ⟨req (leBytes 4 2 ++ zeros 35 ++ [1]), ready, takes (by decide +kernel), (by decide +kernel), (by decide +kernel)⟩,
   ⟨req (leBytes 4 1 ++ leBytes 4 1 ++ zeros 128), pinned0 ready, takes (by decide +kernel), (by decide +kernel), (by decide +kernel), (by decide +kernel), (by decide +kernel), (by decide +kernel), pinned0_waits (by decide +kernel) ready⟩⟩

theorem witness_CamSearchFindsTheBest :
  (∃ (p key : Nat) (s : State), twf (zeros 32) s.look.cam = true ∧ let hit (j : Nat) : Prop := camMatches p key j (camEntry j s) s = true; ∃ i tie, camBest p key s = some (i, tie) ∧ ∃ j, hit j ∧ camPrio (camEntry j s) = camPrio (camEntry i s)) :=
  ⟨0, 0, camOne State.reset, (by decide +kernel), 0, false, (by decide +kernel), 0, (by decide +kernel), (by decide +kernel)⟩

theorem witness_TableWindow :
  (∃ (v : BitVec 32) (s : State), tcwBusy s = false ∧ (bits v.toNat 0 4 = 0 ∨ 4 < bits v.toNat 0 4 ∨ 4 ≤ tcwTable v)) ∧
  (∃ (v : BitVec 32) (s : State), tcwBusy s = true ∧ (bits v.toNat 0 4 = 0 ∨ 4 < bits v.toNat 0 4 ∨ 4 ≤ tcwTable v)) ∧
  (∃ (v : BitVec 32) (s : State), let i := tcwIndex s; tcwBusy s = false ∧ tcwTable v = 0 ∧ tget 0 s.look.svcBad i = 0) ∧
  (∃ (v : BitVec 32) (s : State), let i := tcwIndex s; tcwBusy s = false ∧ tcwTable v = 1 ∧ tget 0 s.look.l2Bad i = 0) ∧
  (∃ (v : BitVec 32) (s : State), let i := tcwIndex s; tcwBusy s = false ∧ tcwTable v = 1 ∧ tget 0 s.look.l2Bad i ≠ 0) ∧
  (∃ (v : BitVec 32) (s : State), let i := tcwIndex s; tcwBusy s = false ∧ tcwTable v = 2 ∧ i < 32768 ∧ tget 0 s.look.camBad i = 0) ∧
  (∃ (v : BitVec 32) (s : State), let i := tcwIndex s; tcwBusy s = false ∧ tcwTable v = 3 ∧ i < 16) ∧
  (∃ (v : BitVec 32) (s : State), let i := tcwIndex s; tcwBusy s = false ∧ tcwTable v = 3 ∧ 16 ≤ i) ∧
  (∃ (v : BitVec 32) (s : State), let i := tcwIndex s; let d := tcwData s; tcwBusy s = false ∧ tcwTable v = 0 ∧ svcCheck s i (d.take 24) = stOK) ∧
  (∃ (v : BitVec 32) (s : State), let i := tcwIndex s; let d := tcwData s; tcwBusy s = false ∧ tcwTable v = 0 ∧ svcCheck s i (d.take 24) = stINVALID) ∧
  (∃ (v : BitVec 32) (s : State), let i := tcwIndex s; let d := tcwData s; tcwBusy s = false ∧ tcwTable v = 3 ∧ fld d 21 11 = 0 ∧ i < 16) ∧
  (∃ (v : BitVec 32) (s : State), tcwBusy s = false ∧ tcwTable v = 0) ∧
  (∃ (v : BitVec 32) (s : State), let k := (tcwData s).take 16; tcwBusy s = false ∧ tcwTable v = 1 ∧ l2Find (l2Fid k) (l2Mac k) s = none) ∧
  (∃ (v : BitVec 32) (s : State), let k := (tcwData s).take 16; tcwBusy s = false ∧ ∃ j, tcwTable v = 1 ∧ l2Find (l2Fid k) (l2Mac k) s = some j) ∧
  (∃ (v : BitVec 32) (s : State) (i : Nat), let k := (tcwData s).take 16; tcwBusy s = false ∧ tcwTable v = 1 ∧ l2Lookup (l2Fid k) (l2Mac k) s = some i) ∧
  (∃ (v : BitVec 32) (s : State) (i : Nat), let d := tcwData s; tcwBusy s = false ∧ tcwTable v = 2 ∧ camBest (bits (fld d 22 1) 0 4) (fld d 0 20) s = some (i, false)) ∧
  (∃ (v : BitVec 32) (s : State), tcwBusy s = false ∧ (tcwTable v = 0 ∨ tcwTable v = 3)) :=
  ⟨⟨0x0, State.reset, (by decide +kernel), (Or.inl (by decide +kernel))⟩,
   ⟨0x0, onHost (fun z => { z with tcwLeft := 2 }) State.reset, (by decide +kernel), (Or.inl (by decide +kernel))⟩,
   ⟨0x0, State.reset, (by decide +kernel), (by decide +kernel), (by decide +kernel)⟩,
   ⟨0x10, State.reset, (by decide +kernel), (by decide +kernel), (by decide +kernel)⟩,
   ⟨0x10, { State.reset with look := { State.reset.look with l2Bad := [(0, 1)] } }, (by decide +kernel), (by decide +kernel), (by decide +kernel)⟩,
   ⟨0x20, State.reset, (by decide +kernel), (by decide +kernel), (by decide +kernel), (by decide +kernel)⟩,
   ⟨0x30, State.reset, (by decide +kernel), (by decide +kernel), (by decide +kernel)⟩,
   ⟨0x30, window [(2, 16)] State.reset, (by decide +kernel), (by decide +kernel), (by decide +kernel)⟩,
   ⟨0x0, State.reset, (by decide +kernel), (by decide +kernel), (by decide +kernel)⟩,
   ⟨0x0, window [(8, 255)] State.reset, (by decide +kernel), (by decide +kernel), (by decide +kernel)⟩,
   ⟨0x30, State.reset, (by decide +kernel), (by decide +kernel), (by decide +kernel), (by decide +kernel)⟩,
   ⟨0x0, State.reset, (by decide +kernel), (by decide +kernel)⟩,
   ⟨0x10, State.reset, (by decide +kernel), (by decide +kernel), (by decide +kernel)⟩,
   ⟨0x10, learned 1 State.reset, (by decide +kernel), l2Slot, (by decide +kernel), (by decide +kernel)⟩,
   ⟨0x10, learned 1 State.reset, l2Slot, (by decide +kernel), (by decide +kernel), (by decide +kernel)⟩,
   ⟨0x20, camOne State.reset, 0, (by decide +kernel), (by decide +kernel), (by decide +kernel)⟩,
   ⟨0x0, State.reset, (by decide +kernel), (Or.inl (by decide +kernel))⟩⟩

theorem witness_LearnEngine :
  (∃ (x : LearnReq) (rest : List LearnReq) (s : State), s.look.learnq = x :: rest ∧ l2Find x.fid x.mac s = none ∧ ∃ i, l2Empty x.fid x.mac s = some i) ∧
  (∃ (x : LearnReq) (rest : List LearnReq) (s : State), s.look.learnq = x :: rest ∧ l2Find x.fid x.mac s = none ∧ l2Empty x.fid x.mac s = none) ∧
  (∃ (x : LearnReq) (rest : List LearnReq) (s : State), s.look.learnq = x :: rest ∧ ∃ i, l2Find x.fid x.mac s = some i ∧ l2IsBad i s = false ∧ let e := l2Entry i s; l2Static e = true ∧ l2Port e ≠ x.port) ∧
  (∃ (x : LearnReq) (rest : List LearnReq) (s : State), s.look.learnq = x :: rest ∧ ∃ i, l2Find x.fid x.mac s = some i ∧ l2IsBad i s = false ∧ let e := l2Entry i s; l2Port e = x.port) ∧
  (∃ (x : LearnReq) (rest : List LearnReq) (s : State), s.look.learnq = x :: rest ∧ ∃ i, l2Find x.fid x.mac s = some i ∧ l2IsBad i s = false ∧ let e := l2Entry i s; l2Static e = false ∧ l2Port e ≠ x.port ∧ idleMs x.time (l2SetTime e) < s.look.hold) ∧
  (∃ (x : LearnReq) (rest : List LearnReq) (s : State), s.look.learnq = x :: rest ∧ ∃ i, l2Find x.fid x.mac s = some i ∧ l2IsBad i s = false ∧ let e := l2Entry i s; l2Static e = false ∧ l2Port e ≠ x.port ∧ s.look.hold ≤ idleMs x.time (l2SetTime e)) ∧
  (∃ (x : LearnReq) (rest : List LearnReq) (s : State), s.look.learnq = x :: rest ∧ ∃ i, l2Find x.fid x.mac s = some i ∧ l2IsBad i s = true ∧ l2Static (l2Entry i s) = false) ∧
  (∃ (x : LearnReq) (rest : List LearnReq) (s : State), s.look.learnq = x :: rest ∧ ∃ i, l2Find x.fid x.mac s = some i ∧ l2IsBad i s = true ∧ l2Static (l2Entry i s) = true) ∧
  (∃ (s : State), s.look.learnq = []) ∧
  (∃ (x : LearnReq) (s : State), s.look.learnq.length < 4096) ∧
  (∃ (x : LearnReq) (s : State), 4096 ≤ s.look.learnq.length) ∧
  (∃ (i : Nat) (s : State), let e := l2Entry i s; l2Valid e = true ∧ l2Static e = false ∧ l2IsBad i s = false ∧ l2Hit e = true) ∧
  (∃ (i : Nat) (s : State), let e := l2Entry i s; l2Valid e = true ∧ l2Static e = false ∧ l2IsBad i s = false ∧ l2Hit e = false) ∧
  (∃ (i : Nat) (s : State), let e := l2Entry i s; (l2Valid e = false ∨ l2Static e = true)) ∧
  (∃ (i : Nat) (s : State), l2Static (l2Entry i s) = false) ∧
  (∃ (i : Nat) (s : State), l2Static (l2Entry i s) = true) ∧
  (∃ (i : Nat) (s : State), let e := l2Entry i s; l2Valid e = true ∧ l2Static e = false ∧ l2IsBad i s = true) ∧
  (∃ (s : State), l2IsBad s.look.scrubL2 s = false ∧ tget 0 s.look.camBad s.look.scrubCam ≠ 1) ∧
  (∃ (s : State), l2IsBad s.look.scrubL2 s = true ∧ tget 0 s.look.camBad s.look.scrubCam ≠ 1) ∧
  (∃ (s : State), l2IsBad s.look.scrubL2 s = false ∧ tget 0 s.look.camBad s.look.scrubCam = 1) :=
  ⟨⟨{ fid := 0, mac := zeros 6, port := 1, time := 0 }, [], learning 1 0 (State.reset), (by decide +kernel), (by decide +kernel), l2Slot, (by decide +kernel)⟩,
   ⟨{ fid := 0, mac := zeros 6, port := 1, time := 0 }, [], learning 1 0 (fullSet State.reset), (by decide +kernel), (by decide +kernel), (by decide +kernel)⟩,
   ⟨{ fid := 0, mac := zeros 6, port := 1, time := 0 }, [], learning 1 0 (learned 3 State.reset), (by decide +kernel), l2Slot, (by decide +kernel), (by decide +kernel), (by decide +kernel), (by decide +kernel)⟩,
   ⟨{ fid := 0, mac := zeros 6, port := 0, time := 0 }, [], learning 0 0 (learned 1 State.reset), (by decide +kernel), l2Slot, (by decide +kernel), (by decide +kernel), (by decide +kernel)⟩,
   ⟨{ fid := 0, mac := zeros 6, port := 1, time := 0 }, [], learning 1 0 (learned 1 State.reset), (by decide +kernel), l2Slot, (by decide +kernel), (by decide +kernel), (by decide +kernel), (by decide +kernel), (by decide +kernel)⟩,
   ⟨{ fid := 0, mac := zeros 6, port := 1, time := 5 }, [], learning 1 5 (learned 1 State.reset), (by decide +kernel), l2Slot, (by decide +kernel), (by decide +kernel), (by decide +kernel), (by decide +kernel), (by decide +kernel)⟩,
   ⟨{ fid := 0, mac := zeros 6, port := 1, time := 0 }, [], learning 1 0 ({ learned 1 State.reset with look := { (learned 1 State.reset).look with l2Bad := [(l2Slot, 1)] } }), (by decide +kernel), l2Slot, (by decide +kernel), (by decide +kernel), (by decide +kernel)⟩,
   ⟨{ fid := 0, mac := zeros 6, port := 1, time := 0 }, [], learning 1 0 ({ learned 3 State.reset with look := { (learned 3 State.reset).look with l2Bad := [(l2Slot, 1)] } }), (by decide +kernel), l2Slot, (by decide +kernel), (by decide +kernel), (by decide +kernel)⟩,
   ⟨State.reset, (by decide +kernel)⟩,
   ⟨{ fid := 0, mac := [], port := 0, time := 0 }, State.reset, (by decide +kernel)⟩,
   ⟨{ fid := 0, mac := [], port := 0, time := 0 }, { State.reset with look := { State.reset.look with learnq := List.replicate 4096 { fid := 0, mac := [], port := 0, time := 0 } } }, (by decide +kernel)⟩,
   ⟨l2Slot, learned 5 State.reset, (by decide +kernel), (by decide +kernel), (by decide +kernel), (by decide +kernel)⟩,
   ⟨l2Slot, learned 1 State.reset, (by decide +kernel), (by decide +kernel), (by decide +kernel), (by decide +kernel)⟩,
   ⟨0, State.reset, (by decide +kernel)⟩,
   ⟨0, State.reset, (by decide +kernel)⟩,
   ⟨l2Slot, learned 2 State.reset, (by decide +kernel)⟩,
   ⟨l2Slot, onLook (fun k => { k with l2Bad := [(l2Slot, 1)] }) (learned 1 State.reset), (by decide +kernel), (by decide +kernel), (by decide +kernel)⟩,
   ⟨State.reset, (by decide +kernel), (by decide +kernel)⟩,
   ⟨onLook (fun k => { k with l2Bad := [(0, 1)] }) State.reset, (by decide +kernel), (by decide +kernel)⟩,
   ⟨onLook (fun k => { k with camBad := [(0, 1)] }) State.reset, (by decide +kernel), (by decide +kernel)⟩⟩

theorem witness_FramesComeAndGo :
  (∃ (p total : Nat) (b : Bytes) (s : State), (receives p s = false ∨ arrivingAt p s = true)) ∧
  (∃ (p total : Nat) (b : Bytes) (s : State), receives p s = true ∧ arrivingAt p s = false ∧ 10240 < max total b.length) ∧
  (∃ (p : Nat) (b : Bytes) (s : State), impIngress p b s = (some b, s) ∧ cvuFrame 0 p b s = s ∧ fcsOk b = false) ∧
  (∃ (p : Nat) (b : Bytes) (s : State), impIngress p b s = (some b, s) ∧ cvuFrame 0 p b s = s ∧ fcsOk b = true) ∧
  (∃ (p : Nat) (b : Bytes) (s : State), (bfld b 12 2 = 0x8100 ∨ bfld b 12 2 = 0x88A8)) ∧
  (∃ (p : Nat) (b : Bytes) (s : State), bfld b 12 2 ≠ 0x8100 ∧ bfld b 12 2 ≠ 0x88A8) ∧
  (∃ (p prio owner : Nat) (s : State), let charge := 8 * p + prio; (inXoff p prio s = true ∨ atLevel (rxPool p prio s) 3 s = true) ∧ hrUsed charge s < headroom p prio s ∧ ∃ i t, popCell poolHEADROOM owner charge s = (some i, t)) ∧
  (∃ (p prio owner : Nat) (s : State), inXoff p prio s = false ∧ atLevel (rxPool p prio s) 3 s = false) ∧
  (∃ (p prio : Nat) (s : State), (inXoff p prio s = false ∨ inSafe p s = true)) ∧
  (∃ (p prio : Nat) (s : State), inXoff p prio s = true ∧ inSafe p s = false) ∧
  (∃ (p : Nat) (s : State), p < 64 ∧ (tget? s.buf.inTx p).isSome = true) ∧
  (∃ (g : Nat) (s : State), g < 2 ∧ (chainUp g s = false ∨ inMode mJOINED s = false)) ∧
  (∃ (p d : Nat) (s : State), expired (getFrame d s) s = true) ∧
  (∃ (p : Nat) (s : State), (impUnit p s).held = none) ∧
  (∃ (p d : Nat) (s : State), (impUnit p s).held = some d ∧ let now := fastClock s; expired (getFrame d s) now = true) ∧
  (∃ (p d : Nat) (s : State), (impUnit p s).held = some d ∧ let now := fastClock s; expired (getFrame d s) now = false ∧ heldCanGo p d now = true) ∧
  (∃ (p total : Nat) (b : Bytes) (s : State), receives p s = true ∧ arrivingAt p s = false ∧ b.length < total ∧ total ≤ 10240 ∧ 64 ≤ b.length) ∧
  (∃ (p total : Nat) (b : Bytes) (s : State), receives p s = true ∧ arrivingAt p s = false ∧ b.length < total ∧ total ≤ 10240 ∧ b.length < 64) ∧
  (∃ (p total : Nat) (b : Bytes) (s : State), receives p s = true ∧ arrivingAt p s = false ∧ let s0 := fastClock s; ∃ s1, total ≤ b.length ∧ b.length ≤ 10240 ∧ rxChecks p b s0 = (none, s1)) ∧
  (∃ (p total : Nat) (b : Bytes) (s : State), receives p s = true ∧ arrivingAt p s = false ∧ let s0 := fastClock s; ∃ c s1, total ≤ b.length ∧ b.length ≤ 10240 ∧ rxChecks p b s0 = (some c, s1)) ∧
  (∃ (s : State), s.time.phase ≤ 79) ∧
  (∃ (p total : Nat) (a : Option Nat) (b : Bytes) (st : Nat × Bytes) (s s1 : State), let prio := rxPrio p b s; takeCells (rxCell p prio (rxPipe p b s)) (cellsOf b.length) [] s = (none, s1)) ∧
  (∃ (p prio owner : Nat) (s : State), let charge := 8 * p + prio; (inXoff p prio s = true ∨ atLevel (rxPool p prio s) 3 s = true) ∧ headroom p prio s ≤ hrUsed charge s ∧ ∃ i t, allocCell (rxPool p prio s) owner charge s = (some i, t)) ∧
  (∃ (k owner x : Nat) (xs : List Nat) (s : State), owner ≤ 16 ∧ tget [] (getPool k s).pre owner = x :: xs) ∧
  (∃ (p : Nat) (s : State), tget [] s.buf.rxq p = []) ∧
  (∃ (p d : Nat) (rest : List Nat) (s : State), tget [] s.buf.rxq p = d :: rest ∧ let pl := (getFrame d s).owner; sentinelDue pl 0 s = true) ∧
  (∃ (p d : Nat) (rest : List Nat) (s : State), tget [] s.buf.rxq p = d :: rest ∧ let pl := (getFrame d s).owner; sentinelDue pl 0 s = false ∧ (portReady p d s = false ∨ portGrant pl s = none)) ∧
  (∃ (p d : Nat) (rest : List Nat) (s : State), tget [] s.buf.rxq p = d :: rest ∧ let pl := (getFrame d s).owner; ∃ g, sentinelDue pl 0 s = false ∧ portReady p d s = true ∧ portGrant pl s = some g ∧ (getFrame d s).arrived = none) ∧
  (∃ (p d : Nat) (rest : List Nat) (s : State), tget [] s.buf.rxq p = d :: rest ∧ let pl := (getFrame d s).owner; ∃ g, sentinelDue pl 0 s = false ∧ portReady p d s = true ∧ portGrant pl s = some g ∧ let s0 := { g with buf := { g.buf with rxq := tset [] g.buf.rxq p rest } }; (getFrame d s).arrived.isSome = true ∧ (enterFrame d pl false s0).buf.inTx.any (fun x => x.2 == d) = true) ∧
  (∃ (p d : Nat) (rest : List Nat) (s : State), tget [] s.buf.rxq p = d :: rest ∧ let pl := (getFrame d s).owner; ∃ g, sentinelDue pl 0 s = false ∧ portReady p d s = true ∧ portGrant pl s = some g ∧ let s0 := { g with buf := { g.buf with rxq := tset [] g.buf.rxq p rest } }; (getFrame d s).arrived.isSome = true ∧ (enterFrame d pl false s0).buf.inTx.any (fun x => x.2 == d) = false) ∧
  (∃ (p d : Nat) (known : Bool) (s s1 : State), let pl := (getFrame d s).owner; flit pl s = (true, s1)) ∧
  (∃ (p d : Nat) (known : Bool) (s s1 : State), let pl := (getFrame d s).owner; flit pl s = (false, s1)) ∧
  (∃ (l : Nat) (s : State) (j : Injection), s.mace.injection = some j ∧ j.struct = injFABRIC ∧ j.whereAt = l ∧ symCount j.symbols = 1) ∧
  (∃ (l : Nat) (s : State) (j : Injection), s.mace.injection = some j ∧ j.struct = injFABRIC ∧ j.whereAt = l ∧ 2 ≤ symCount j.symbols) ∧
  (∃ (p : Nat) (rest : Bytes) (h : RxHead) (s : State), tget? s.buf.rxHead p = some h ∧ (h.data ++ rest).length ≠ h.total) ∧
  (∃ (p : Nat) (rest : Bytes) (h : RxHead) (s : State), tget? s.buf.rxHead p = some h ∧ (h.data ++ rest).length = h.total) ∧
  (∃ (p : Nat) (rest : Bytes) (s : State), tget? s.buf.rxHead p = none ∧ (∀ d ∈ tget [] s.buf.rxq p, (getFrame d s).arrived = none) ∧ (∀ x ∈ s.buf.inTx, (getFrame x.2 s).arrived = none) ∧ (∀ x ∈ s.buf.frame, x.2.src = p → x.2.arrived = none)) ∧
  (∃ (p : Nat) (rest : Bytes) (s : State), tget? s.buf.rxHead p = none ∧ (∀ d ∈ tget [] s.buf.rxq p, (getFrame d s).arrived = none) ∧ ∃ e d l, s.buf.inTx = (e, d) :: l ∧ (getFrame d s).src = p ∧ (getFrame d s).arrived.isSome = true) ∧
  (∃ (p d : Nat) (l : List Nat) (rest : Bytes) (s : State), tget? s.buf.rxHead p = none ∧ tget [] s.buf.rxq p = d :: l ∧ (getFrame d s).arrived.isSome = true ∧ let full := (getFrame d s).data ++ rest; ∃ b s0 s1, full.length = (getFrame d s).len ∧ growFrame p d full.length s = (true, s0) ∧ rxChecks p full s0 = (some b, s1) ∧ pauseOf b = none) ∧
  (∃ (p d : Nat) (l : List Nat) (rest : Bytes) (s : State), tget? s.buf.rxHead p = none ∧ tget [] s.buf.rxq p = d :: l ∧ (getFrame d s).arrived.isSome = true ∧ let full := (getFrame d s).data ++ rest; ∃ b s0 s1 mask quanta, full.length = (getFrame d s).len ∧ growFrame p d full.length s = (true, s0) ∧ rxChecks p full s0 = (some b, s1) ∧ pauseOf b = some (mask, quanta)) ∧
  (∃ (p d : Nat) (l : List Nat) (rest : Bytes) (s : State), tget? s.buf.rxHead p = none ∧ tget [] s.buf.rxq p = d :: l ∧ (getFrame d s).arrived.isSome = true ∧ let full := (getFrame d s).data ++ rest; ∃ s0, full.length = (getFrame d s).len ∧ growFrame p d full.length s = (false, s0)) ∧
  (∃ (p d : Nat) (l : List Nat) (rest : Bytes) (s : State), tget? s.buf.rxHead p = none ∧ tget [] s.buf.rxq p = d :: l ∧ (getFrame d s).arrived.isSome = true ∧ let full := (getFrame d s).data ++ rest; full.length ≠ (getFrame d s).len) ∧
  (∃ (p mask : Nat) (quanta : List Nat) (s : State), hears p s = false) ∧
  (∃ (p mask : Nat) (quanta : List Nat) (s : State), hears p s = true) ∧
  (∃ (p : Nat) (s : State), p < 64 ∧ tget? s.buf.inTx p = none ∧ (portPipes p s).any (fun pl => sentinelDue pl 1 s) = true ∧ portFrames p s = 0) ∧
  (∃ (p : Nat) (s : State), p < 64 ∧ tget? s.buf.inTx p = none ∧ let s0 := if portFrames p s = 0 then s else forEach (portPipes p s) (fun pl u => wakeHalf pl 1 u) s; (portPipes p s0).any (fun pl => sentinelDue pl 1 s0) = false ∧ let s1 := dropOversize p (fastClock s0); let paths := eligiblePaths p s1; let s2 := wakeTags p paths s1; selectQueue paths s2 = none) ∧
  (∃ (p : Nat) (s : State), p < 64 ∧ tget? s.buf.inTx p = none ∧ let s0 := if portFrames p s = 0 then s else forEach (portPipes p s) (fun pl u => wakeHalf pl 1 u) s; (portPipes p s0).any (fun pl => sentinelDue pl 1 s0) = false ∧ let s1 := dropOversize p (fastClock s0); let paths := eligiblePaths p s1; let s2 := wakeTags p paths s1; ∃ q d rest path, selectQueue paths s2 = some q ∧ (getQueue q s2).list = d :: rest ∧ paths.find? (fun x => x.head? == some q) = some path ∧ selectDrop p d s2 = none) ∧
  (∃ (p : Nat) (rest : Bytes) (s : State), tget? s.buf.rxHead p = none ∧ (∀ d ∈ tget [] s.buf.rxq p, (getFrame d s).arrived = none) ∧ ∃ d f, (∀ x ∈ s.buf.inTx, (getFrame x.2 s).arrived = none) ∧ s.buf.frame.find? (fun x => x.2.src == p && x.2.arrived.isSome) = some (d, f)) :=
  ⟨⟨0, 0, [], State.reset, (Or.inl (by decide +kernel))⟩,
   ⟨0, 20000, [], port0 State.reset, (by decide +kernel), (by decide +kernel), (by decide +kernel)⟩,
   ⟨0, zeros 64, State.reset, (by decide +kernel), (by decide +kernel), (by decide +kernel)⟩,
   ⟨0, good, State.reset, (by decide +kernel), (by decide +kernel), (by decide +kernel)⟩,
   ⟨0, zeros 12 ++ [0x81, 0], State.reset, (Or.inl (by decide +kernel))⟩,
   ⟨0, [], State.reset, (by decide +kernel), (by decide +kernel)⟩,
   ⟨0, 0, 0, { State.reset with buf := { State.reset.buf with xoff := [(0, 255)] } }, (Or.inl (by decide +kernel)), (by decide +kernel), _, _, (fstSome (by decide +kernel))⟩,
   ⟨0, 0, 0, State.reset, (by decide +kernel), (by decide +kernel)⟩,
   ⟨0, 0, State.reset, (Or.inl (by decide +kernel))⟩,
   ⟨0, 0, { State.reset with buf := { State.reset.buf with xoff := [(0, 255)] } }, (by decide +kernel), (by decide +kernel)⟩,
   ⟨0, { State.reset with buf := { State.reset.buf with inTx := [(0, 0)] } }, (by decide +kernel), (by decide +kernel)⟩,
   ⟨0, State.reset, (by decide +kernel), (Or.inl (by decide +kernel))⟩,
   ⟨0, 0, withFrame { stamp := longAgo } State.reset, (by decide +kernel)⟩,
   ⟨0, State.reset, (by decide +kernel)⟩,
   ⟨0, _, late { withFrame { stamp := longAgo } (State.reset) with obs := { State.reset.obs with imp := [(0, { record := zeros 32, held := some 0 })] } }, (Option.some_get (by decide +kernel)).symm, (by rw [fastClock_late]; decide +kernel; decide +kernel)⟩,
   ⟨0, _, late { withFrame {} (port0 State.reset) with obs := { State.reset.obs with imp := [(0, { record := zeros 32, held := some 0 })] } }, (Option.some_get (by decide +kernel)).symm, (by rw [fastClock_late]; decide +kernel; decide +kernel), (by rw [fastClock_late]; decide +kernel; decide +kernel)⟩,
   ⟨0, 100, zeros 64, port0 State.reset, (by decide +kernel), (by decide +kernel), (by decide +kernel), (by decide +kernel), (by decide +kernel)⟩,
   ⟨0, 100, zeros 63, port0 State.reset, (by decide +kernel), (by decide +kernel), (by decide +kernel), (by decide +kernel), (by decide +kernel)⟩,
   ⟨0, 64, zeros 64, port0 State.reset, (by decide +kernel), (by decide +kernel), _, (by decide +kernel), (by decide +kernel), (fstEq (by decide +kernel))⟩,
   ⟨0, good.length, good, port0 State.reset, (by decide +kernel), (by decide +kernel), good, _, (by decide +kernel), (by decide +kernel), (fstEq (by decide +kernel))⟩,
   ⟨onTime (fun z => { z with phase := 79 }) State.reset, (by decide +kernel)⟩,
   ⟨0, 1, none, [0], (0, []), noCells State.reset, _, (fstEq (by decide +kernel))⟩,
   ⟨0, 0, 0, { State.reset with buf := { State.reset.buf with xoff := [(0, 255)], hrUse := [(0, 100000)] } }, (Or.inl (by decide +kernel)), (by decide +kernel), _, _, (fstSome (by decide +kernel))⟩,
   ⟨0, 16, 5, [6], onBuf (fun z => { z with pool := [(0, { pre := [(16, [5, 6])] })] }) (State.reset), (by decide +kernel), (by decide +kernel)⟩,
   ⟨0, State.reset, (by decide +kernel)⟩,
   ⟨0, 0, [], sentinel0 (portFrame0 State.reset), (by decide +kernel), (by decide +kernel)⟩,
   ⟨0, 0, [], granted0 8 (portFrame0 (rerun0 State.reset)), (by decide +kernel), (by decide +kernel), (Or.inr (by decide +kernel))⟩,
   ⟨0, 0, [], portFrame0 State.reset, (by decide +kernel), _, (by decide +kernel), (by decide +kernel), rfl, (by decide +kernel)⟩,
   ⟨0, 0, [], cutting 1 State.reset, (by decide +kernel), _, (by decide +kernel), (by decide +kernel), rfl, (by decide +kernel), (by decide +kernel)⟩,
   ⟨0, 0, [], cutting 0 State.reset, (by decide +kernel), _, (by decide +kernel), (by decide +kernel), rfl, (by decide +kernel), (by decide +kernel)⟩,
   ⟨0, 0, true, State.reset, State.reset, (by decide +kernel)⟩,
   ⟨0, 0, true, onMace (fun z => { z with injection := some (upset 3) }) State.reset, _, (fstEq (by decide +kernel))⟩,
   ⟨0, onMace (fun z => { z with injection := some (upset 1) }) State.reset, upset 1, (by decide +kernel), (by decide +kernel), (by decide +kernel), (by decide +kernel)⟩,
   ⟨0, onMace (fun z => { z with injection := some (upset 3) }) State.reset, upset 3, (by decide +kernel), (by decide +kernel), (by decide +kernel), (by decide +kernel)⟩,
   ⟨0, zeros 10, ⟨zeros 50, 64, 0, []⟩, onBuf (fun z => { z with rxHead := [(0, ⟨zeros 50, 64, 0, []⟩)] }) (State.reset), (by decide +kernel), (by decide +kernel)⟩,
   ⟨0, zeros 14, ⟨zeros 50, 64, 0, []⟩, onBuf (fun z => { z with rxHead := [(0, ⟨zeros 50, 64, 0, []⟩)] }) (State.reset), (by decide +kernel), (by decide +kernel)⟩,
   ⟨0, [], State.reset, (by decide +kernel), (by decide +kernel), (by decide +kernel), (by decide +kernel)⟩,
   ⟨0, [], onBuf (fun z => { z with inTx := [(1, 0)], frame := [(0, { arrived := some 0 })] }) (State.reset), (by decide +kernel), (by decide +kernel), 1, 0, [], (by decide +kernel), (by decide +kernel), (by decide +kernel)⟩,
   ⟨0, 0, [], good, heading good.length State.reset, (by decide +kernel), (by decide +kernel), (by decide +kernel), good, _, _, (by decide +kernel), (fstEq (by decide +kernel)), (fstEq (by decide +kernel)), (by decide +kernel)⟩,
   ⟨0, 0, [], pauseFrame, heading pauseFrame.length State.reset, (by decide +kernel), (by decide +kernel), (by decide +kernel), pauseFrame, _, _, 1, List.replicate 8 0, (by decide +kernel), (fstEq (by decide +kernel)), (fstEq (by decide +kernel)), (by decide +kernel)⟩,
   ⟨0, 0, [], good, noCells (heading good.length State.reset), (by decide +kernel), (by decide +kernel), (by decide +kernel), _, (by decide +kernel), (fstEq (by decide +kernel))⟩,
   ⟨0, 0, [], [1], heading 64 State.reset, (by decide +kernel), (by decide +kernel), (by decide +kernel), (by decide +kernel)⟩,
   ⟨0, 0, [], State.reset, (by decide +kernel)⟩,
   ⟨0, 1, [], port0 State.reset, (by decide +kernel)⟩,
   ⟨0, onMace (fun m => { m with sentinelOwed := [(1, 1)] }) (port0 State.reset), (by decide +kernel), (by decide +kernel), (by decide +kernel), (by decide +kernel)⟩,
   ⟨0, State.reset, (by decide +kernel), (by decide +kernel), (by decide +kernel), (by decide +kernel)⟩,
   ⟨0, onBuf (fun z => { z with queue := [(0, { list := [0], depth := 1 })], frame := [(0, { len := 64, data := good })] }) (late (port0 State.reset)), (by decide +kernel), (by decide +kernel), (by decide +kernel), 0, 0, [], [0], (by rw [fastClock_late]; decide +kernel; decide +kernel), (by rw [fastClock_late]; decide +kernel; decide +kernel), (by rw [fastClock_late]; decide +kernel; decide +kernel), (by rw [fastClock_late]; decide +kernel; decide +kernel)⟩,
   ⟨0, [], withFrame { arrived := some 0 } State.reset, (by decide +kernel), (by decide +kernel), 0, { arrived := some 0 }, (by decide +kernel), (by decide +kernel)⟩⟩

theorem witness_BufferKeepsAccount :
  (∃ (ptr pool owner : Nat) (s : State), let i := ptr / 256; (ptr % 256 ≠ 0 ∨ 393216 ≤ i)) ∧
  (∃ (d q p : Nat) (s : State), queuePort q s = some p ∧ inMask s.buf.flushed p = true) ∧
  (∃ (d q p : Nat) (s : State), queuePort q s = some p ∧ inMask s.buf.flushed p = false ∧ inSafe p s = false) ∧
  (∃ (d q p : Nat) (s : State), twf {} s.buf.queue = true) ∧
  (∃ (q : Nat) (s : State), let t := ageQueue (getQueue q s).list.length q (fastClock s); ∃ d rest, (getQueue q t).list = d :: rest) ∧
  (∃ (p : Nat) (s : State), (inMask s.buf.parked p = false ∨ isUp p s = true ∨ parkExpired p s = false)) ∧
  (∃ (s : State), s.buf.residue = []) ∧
  (∃ (r : Residue) (s : State), s.buf.residue = [r] ∧ expired (getFrame r.desc s) s = true) ∧
  (∃ (s : State), (∀ x ∈ s.buf.cell, leaked x.1 s = false)) ∧
  (∃ (i : Nat) (c : CellHdr) (s : State), s.buf.cell = [(i, c)] ∧ leaked i s = true) ∧
  (∃ (s : State), (∀ k ∈ [0, 1, 2, 3], (getPool k s).owes ≤ 0)) ∧
  (∃ (s : State), s.buf.rebuild = []) ∧
  (∃ (k : Nat) (f : FreeList) (l : Tbl FreeList) (s : State), s.buf.rebuild = (k, f) :: l) ∧
  (∃ (ptr pool owner : Nat) (s : State), let i := ptr / 256; let c := getCell i s; ptr % 256 = 0 ∧ i < 393216 ∧ 2 ≤ c.hdrBad) ∧
  (∃ (ptr pool owner : Nat) (s : State), let i := ptr / 256; let c := getCell i s; ptr % 256 = 0 ∧ i < 393216 ∧ c.hdrBad < 2 ∧ c.free = true) ∧
  (∃ (ptr pool owner : Nat) (s : State), let i := ptr / 256; let c := getCell i s; ptr % 256 = 0 ∧ i < 393216 ∧ c.hdrBad < 2 ∧ c.free = false ∧ (c.pool ≠ pool ∨ (c.refcnt = 0 ∧ c.owner ≠ owner) ∨ (0 < c.refcnt ∧ c.owner = 18 ∧ owner ≠ 17 ∧ owner ≠ 18 ∧ owner ≠ 20))) ∧
  (∃ (ptr pool owner : Nat) (s : State), let i := ptr / 256; let c := getCell i s; ptr % 256 = 0 ∧ i < 393216 ∧ c.hdrBad < 2 ∧ c.free = false ∧ c.pool = pool ∧ 1 < c.refcnt ∧ c.owner = 18 ∧ (owner = 17 ∨ owner = 18 ∨ owner = 20)) ∧
  (∃ (ptr pool owner : Nat) (s : State), let i := ptr / 256; let c := getCell i s; ptr % 256 = 0 ∧ i < 393216 ∧ c.free = false ∧ c.pool = pool ∧ c.refcnt = 0 ∧ c.owner = owner ∧ c.last = true ∧ owner ≠ 23 ∧ c.hdrBad = 0) ∧
  (∃ (ptr pool owner : Nat) (s : State), let i := ptr / 256; let c := getCell i s; ptr % 256 = 0 ∧ i < 393216 ∧ c.free = false ∧ c.pool = pool ∧ c.refcnt = 0 ∧ c.owner = owner ∧ c.last = true ∧ owner ≠ 23 ∧ c.hdrBad = 1) ∧
  (∃ (ptr pool owner : Nat) (s : State), let d := ptr / 32; (ptr % 32 ≠ 0 ∨ 458752 ≤ d)) ∧
  (∃ (ptr pool owner : Nat) (s : State), let d := ptr / 32; ptr % 32 = 0 ∧ d < 458752 ∧ tget? s.buf.frame d = none) ∧
  (∃ (p : Nat) (s : State), p < 64 ∧ inMask s.buf.parked p = true ∧ isUp p s = false ∧ parkExpired p s = true) ∧
  (∃ (a b i : Nat) (f : FreeList) (s : State), [0, 1, 2, 3].find? (fun k => decide (0 < (getPool k s).owes) && listHead (getPool k s).free != chainEnd) = some a ∧ [0, 1, 2, 3].find? (fun k => decide ((getPool k s).owes < 0)) = some b ∧ popFree (getPool a s).free = some (i, f) ∧ 2 ≤ (getCell i s).hdrBad) ∧
  (∃ (a b i : Nat) (f : FreeList) (s : State), [0, 1, 2, 3].find? (fun k => decide (0 < (getPool k s).owes) && listHead (getPool k s).free != chainEnd) = some a ∧ [0, 1, 2, 3].find? (fun k => decide ((getPool k s).owes < 0)) = some b ∧ popFree (getPool a s).free = some (i, f) ∧ (getCell i s).hdrBad < 2) :=
  ⟨⟨1, 0, 0, State.reset, (Or.inl (by decide +kernel))⟩,
   ⟨0, 0, _, { State.reset with buf := { State.reset.buf with flushed := 1 } }, (Option.some_get (by decide +kernel)).symm, (by decide +kernel)⟩,
   ⟨0, 0, _, State.reset, (Option.some_get (by decide +kernel)).symm, (by decide +kernel), (by decide +kernel)⟩,
   ⟨0, 0, 0, State.reset, (by decide +kernel)⟩,
   ⟨0, late { State.reset with buf := { State.reset.buf with queue := [(0, { list := [0], depth := 1 })] } }, 0, [], (by rw [fastClock_late]; decide +kernel; decide +kernel)⟩,
   ⟨0, State.reset, (Or.inl (by decide +kernel))⟩,
   ⟨State.reset, (by decide +kernel)⟩,
   ⟨{ desc := 0, mask := 1 }, { State.reset with buf := { State.reset.buf with residue := [{ desc := 0, mask := 1 }], frame := [(0, { stamp := longAgo })] } }, (by decide +kernel), (by decide +kernel)⟩,
   ⟨State.reset, (by decide +kernel)⟩,
   ⟨0, { free := false, allocT := 100 }, { State.reset with buf := { State.reset.buf with cell := [(0, { free := false, allocT := 100 })] } }, (by decide +kernel), (by decide +kernel)⟩,
   ⟨State.reset, (by decide +kernel)⟩,
   ⟨State.reset, (by decide +kernel)⟩,
   ⟨0, {}, [], { State.reset with buf := { State.reset.buf with rebuild := [(0, {})] } }, (by decide +kernel)⟩,
   ⟨0, 0, 0, onBuf (fun z => { z with cell := [(0, { hdrBad := 2 })] }) (State.reset), (by decide +kernel), (by decide +kernel), (by decide +kernel)⟩,
   ⟨0, 0, 0, State.reset, (by decide +kernel), (by decide +kernel), (by decide +kernel), (by decide +kernel)⟩,
   ⟨0, 0, 0, onBuf (fun z => { z with cell := [(0, { free := false, pool := 1 })] }) (State.reset), (by decide +kernel), (by decide +kernel), (by decide +kernel), (by decide +kernel), (Or.inl (by decide +kernel))⟩,
   ⟨0, 0, 17, onBuf (fun z => { z with cell := [(0, { free := false, refcnt := 2, owner := 18 })] }) (State.reset), (by decide +kernel), (by decide +kernel), (by decide +kernel), (by decide +kernel), (by decide +kernel), (by decide +kernel), (by decide +kernel), (Or.inl (by decide +kernel))⟩,
   ⟨0, 0, 0, onBuf (fun z => { z with cell := [(0, { free := false, last := true })] }) (State.reset), (by decide +kernel), (by decide +kernel), (by decide +kernel), (by decide +kernel), (by decide +kernel), (by decide +kernel), (by decide +kernel), (by decide +kernel), (by decide +kernel)⟩,
   ⟨0, 0, 0, onBuf (fun z => { z with cell := [(0, { free := false, last := true, hdrBad := 1 })] }) (State.reset), (by decide +kernel), (by decide +kernel), (by decide +kernel), (by decide +kernel), (by decide +kernel), (by decide +kernel), (by decide +kernel), (by decide +kernel), (by decide +kernel)⟩,
   ⟨32 * 458752, 0, 0, State.reset, (Or.inr (by decide +kernel))⟩,
   ⟨32 * 458751, 0, 0, State.reset, (by decide +kernel), (by decide +kernel), (by decide +kernel)⟩,
   ⟨0, onBuf (fun z => { z with parked := 1, parkTicks := [(0, (10 ^ 9, 0))] }) (State.reset), (by decide +kernel), (by decide +kernel), (by decide +kernel), (by decide +kernel)⟩,
   ⟨0, 1, _, _, onBuf (fun z => { z with cell := [(0, { hdrBad := 2 })], pool := [(0, { owes := 1, free := { hi := 1 } }), (1, { owes := -1 })] }) (State.reset), (by decide +kernel), (by decide +kernel), (someEta (by decide +kernel)), (by decide +kernel)⟩,
   ⟨0, 1, _, _, onBuf (fun z => { z with pool := [(0, { owes := 1, free := { hi := 1 } }), (1, { owes := -1 })] }) (State.reset), (by decide +kernel), (by decide +kernel), (someEta (by decide +kernel)), (by decide +kernel)⟩⟩

theorem witness_GatesAndSamples :
  (∃ (r : YcpReq) (s : State), Accepted 0x0605 r s ∧ let b := reqBody r; let p := fld b 0 1; let first := fld b 4 2; let es := gwEntries b; fld b 1 3 = 0 ∧ fld b 26 6 = 0 ∧ (∀ e ∈ es, fld e 6 1 = 0 ∧ fld e 7 1 = 0 ∧ 8 ≤ fld e 0 4 ∧ fld e 0 4 ≤ 1000000000) ∧ p < 64 ∧ portUnused p s = false ∧ b.length = 32 + 8 * fld b 6 2 ∧ first + fld b 6 2 ≤ 1024 ∧ fld b 8 8 < 2 ^ 48 ∧ fld b 16 4 < 1000000000 ∧ 1000 ≤ fld b 20 4 ∧ fld b 20 4 ≤ 1000000000 ∧ 1 ≤ fld b 24 2 ∧ fld b 24 2 ≤ 1024 ∧ commitPending p s = true) ∧
  (∃ (r : YcpReq) (s : State), Accepted 0x0605 r s ∧ let b := reqBody r; let p := fld b 0 1; let first := fld b 4 2; let es := gwEntries b; fld b 1 3 = 0 ∧ fld b 26 6 = 0 ∧ (∀ e ∈ es, fld e 6 1 = 0 ∧ fld e 7 1 = 0 ∧ 8 ≤ fld e 0 4 ∧ fld e 0 4 ≤ 1000000000) ∧ p < 64 ∧ portUnused p s = false ∧ b.length = 32 + 8 * fld b 6 2 ∧ first + fld b 6 2 ≤ 1024 ∧ fld b 8 8 < 2 ^ 48 ∧ fld b 16 4 < 1000000000 ∧ 1000 ≤ fld b 20 4 ∧ fld b 20 4 ≤ 1000000000 ∧ 1 ≤ fld b 24 2 ∧ fld b 24 2 ≤ 1024 ∧ commitPending p s = false ∧ ∃ k, k < es.length) ∧
  (∃ (r : YcpReq) (s : State), Accepted 0x0605 r s ∧ let b := reqBody r; let p := fld b 0 1; let first := fld b 4 2; let es := gwEntries b; fld b 1 3 = 0 ∧ fld b 26 6 = 0 ∧ (∀ e ∈ es, fld e 6 1 = 0 ∧ fld e 7 1 = 0 ∧ 8 ≤ fld e 0 4 ∧ fld e 0 4 ≤ 1000000000) ∧ p < 64 ∧ portUnused p s = false ∧ b.length = 32 + 8 * fld b 6 2 ∧ first + fld b 6 2 ≤ 1024 ∧ fld b 8 8 < 2 ^ 48 ∧ fld b 16 4 < 1000000000 ∧ 1000 ≤ fld b 20 4 ∧ fld b 20 4 ≤ 1000000000 ∧ 1 ≤ fld b 24 2 ∧ fld b 24 2 ≤ 1024 ∧ commitPending p s = false ∧ ∃ k, (k < first ∨ first + es.length ≤ k)) ∧
  (∃ (r : YcpReq) (s : State), Accepted 0x0605 r s ∧ let b := reqBody r; let p := fld b 0 1; let first := fld b 4 2; let es := gwEntries b; fld b 1 3 = 0 ∧ fld b 26 6 = 0 ∧ (∀ e ∈ es, fld e 6 1 = 0 ∧ fld e 7 1 = 0 ∧ 8 ≤ fld e 0 4 ∧ fld e 0 4 ≤ 1000000000) ∧ p < 64 ∧ portUnused p s = false ∧ b.length = 32 + 8 * fld b 6 2 ∧ first + fld b 6 2 ≤ 1024 ∧ fld b 8 8 < 2 ^ 48 ∧ fld b 16 4 < 1000000000 ∧ 1000 ≤ fld b 20 4 ∧ fld b 20 4 ≤ 1000000000 ∧ 1 ≤ fld b 24 2 ∧ fld b 24 2 ≤ 1024 ∧ commitPending p s = false ∧ ∃ q, q ≠ p) ∧
  (∃ (r : YcpReq) (s : State), Accepted 0x0606 r s ∧ let b := reqBody r; let p := fld b 0 1; b.length = 8 ∧ fld b 2 6 = 0 ∧ fld b 1 1 = 1 ∧ p < 64 ∧ portUnused p s = false ∧ commitPending p s = true) ∧
  (∃ (r : YcpReq) (s : State), Accepted 0x0606 r s ∧ let b := reqBody r; let p := fld b 0 1; let l := getPend p s; b.length = 8 ∧ fld b 2 6 = 0 ∧ fld b 1 1 = 1 ∧ p < 64 ∧ portUnused p s = false ∧ commitPending p s = false ∧ l.bad = [] ∧ gateListOk l = false) ∧
  (∃ (l : GateList) (now lead : Nat), 0 < l.cycle) ∧
  (∃ (r : YcpReq) (s : State), Accepted 0x0606 r s ∧ let b := reqBody r; let p := fld b 0 1; b.length = 8 ∧ fld b 2 6 = 0 ∧ fld b 1 1 = 2 ∧ p < 64 ∧ portUnused p s = false ∧ 16 ≤ room r ∧ commitPending p s = true) ∧
  (∃ (r : YcpReq) (s : State), Accepted 0x0606 r s ∧ let b := reqBody r; let p := fld b 0 1; b.length = 8 ∧ fld b 2 6 = 0 ∧ fld b 1 1 = 2 ∧ p < 64 ∧ portUnused p s = false ∧ 16 ≤ room r ∧ commitPending p s = false) ∧
  (∃ (p : Nat) (s : State), opList p s = none) ∧
  (∃ (p : Nat) (s : State), ∃ l, opList p s = some l ∧ inMask s.obs.gatePorts p = false) ∧
  (∃ (l : GateList) (t : Nat), 0 < l.cycle ∧ l.start * uNs ≤ t) ∧
  (∃ (r : YcpReq) (s : State), let b := reqBody r; let n := fld b 0 4; let g := fld b 4 1; let x : Ring := { valid := true, base := fld b 8 8, log2 := g, flags := fld b 5 1 }; b.length = 16 ∧ fld b 6 2 = 0 ∧ 16 ≤ g ∧ g ≤ 30 ∧ fld b 8 8 % 2 ^ g = 0 ∧ regionBase 10 + 16777216 ≤ fld b 8 8 ∧ fld b 8 8 + 2 ^ g ≤ regionBase 10 + 8589934592 ∧ Accepted 0x060A r s ∧ n < 8 ∧ fld b 5 1 < 2 ∧ ringOverlaps n x s = false) ∧
  (∃ (r : YcpReq) (s : State), let b := reqBody r; let n := fld b 0 4; let g := fld b 4 1; let x : Ring := { valid := true, base := fld b 8 8, log2 := g, flags := fld b 5 1 }; b.length = 16 ∧ fld b 6 2 = 0 ∧ 16 ≤ g ∧ g ≤ 30 ∧ fld b 8 8 % 2 ^ g = 0 ∧ regionBase 10 + 16777216 ≤ fld b 8 8 ∧ fld b 8 8 + 2 ^ g ≤ regionBase 10 + 8589934592 ∧ Accepted 0x060A r s ∧ n < 8 ∧ fld b 5 1 < 2 ∧ ringOverlaps n x s = true) ∧
  (∃ (r : YcpReq) (s : State), let b := reqBody r; let n := fld b 0 4; let g := fld b 4 1; let x : Ring := { valid := true, base := fld b 8 8, log2 := g, flags := fld b 5 1 }; b.length = 16 ∧ fld b 6 2 = 0 ∧ 16 ≤ g ∧ g ≤ 30 ∧ fld b 8 8 % 2 ^ g = 0 ∧ regionBase 10 + 16777216 ≤ fld b 8 8 ∧ fld b 8 8 + 2 ^ g ≤ regionBase 10 + 8589934592 ∧ Accepted 0x0D01 r s ∧ n < 16 ∧ fld b 5 1 < 32 ∧ ringOverlaps (8 + n) x s = false) ∧
  (∃ (r : YcpReq) (s : State), let b := reqBody r; let n := fld b 0 4; let g := fld b 4 1; let x : Ring := { valid := true, base := fld b 8 8, log2 := g, flags := fld b 5 1 }; b.length = 16 ∧ fld b 6 2 = 0 ∧ 16 ≤ g ∧ g ≤ 30 ∧ fld b 8 8 % 2 ^ g = 0 ∧ regionBase 10 + 16777216 ≤ fld b 8 8 ∧ fld b 8 8 + 2 ^ g ≤ regionBase 10 + 8589934592 ∧ Accepted 0x0D01 r s ∧ n < 16 ∧ fld b 5 1 < 32 ∧ ringOverlaps (8 + n) x s = true) ∧
  (∃ (r : YcpReq) (s : State), let b := reqBody r; let n := fld b 0 4; b.length = 8 ∧ Accepted 0x060B r s ∧ n < 8 ∧ let x := getRing n s; (fld b 4 4 + 2 ^ 32 - x.cons) % 2 ^ 32 ≤ (x.prod + 2 ^ 32 - x.cons) % 2 ^ 32 ∧ x.valid = true) ∧
  (∃ (r : YcpReq) (s : State), let b := reqBody r; let n := fld b 0 4; b.length = 8 ∧ Accepted 0x0D02 r s ∧ n < 16 ∧ let x := getRing (8 + n) s; (fld b 4 4 + 2 ^ 32 - x.cons) % 2 ^ 32 ≤ (x.prod + 2 ^ 32 - x.cons) % 2 ^ 32 ∧ x.valid = true) ∧
  (∃ (k : Nat) (b : Bytes) (s : State), b.length = 32) ∧
  (∃ (n : Nat) (s : State), ∃ p l, p < 64 ∧ tget? s.sched.gateOp p = some l) ∧
  (∃ (r : YcpReq) (s : State), Accepted 0x0606 r s ∧ let b := reqBody r; let p := fld b 0 1; let l := getPend p s; b.length = 8 ∧ fld b 2 6 = 0 ∧ fld b 1 1 = 1 ∧ p < 64 ∧ portUnused p s = false ∧ commitPending p s = false ∧ l.bad ≠ []) ∧
  (∃ (r : YcpReq) (s : State), Accepted 0x0606 r s ∧ let b := reqBody r; let p := fld b 0 1; let l := getPend p s; b.length = 8 ∧ fld b 2 6 = 0 ∧ fld b 1 1 = 1 ∧ p < 64 ∧ portUnused p s = false ∧ commitPending p s = false ∧ gateListOk l = true ∧ l.bad = [] ∧ 16 ≤ room r) ∧
  (∃ (p : Nat) (s : State), (commitPending p s = false ∨ activeTime (fastClock s) < (getPend p s).start * uNs)) ∧
  (∃ (p : Nat) (s : State), p < 64 ∧ commitPending p s = true ∧ (getPend p s).start * uNs ≤ activeTime (fastClock s)) ∧
  (∃ (i : Nat) (s0 : State), let s := fastClock s0; let e := tget {} s.sched.sampler i; let k := samplerRing e.record; let x := getRing k s; (sampleDue e s = false ∨ x.valid = false)) ∧
  (∃ (i : Nat) (s0 : State), let s := fastClock s0; let e := tget {} s.sched.sampler i; let k := samplerRing e.record; let x := getRing k s; sampleDue e s = true ∧ x.valid = true ∧ (bit x.flags 0 = true ∨ 0 < ringFree x)) ∧
  (∃ (i : Nat) (s0 : State), let s := fastClock s0; let e := tget {} s.sched.sampler i; let k := samplerRing e.record; let x := getRing k s; sampleDue e s = true ∧ x.valid = true ∧ bit x.flags 0 = false ∧ ringFree x = 0) ∧
  (∃ (req k : Nat) (b : Bytes) (s : State), memWf s.hbm.mem = true) ∧
  (∃ (n : Nat) (s : State), ∃ p, p < 64) :=
  ⟨⟨req (gateBody), { ready with sched := { ready.sched with gateCommit := 1 } }, takes (by decide +kernel), (by decide +kernel), (by decide +kernel), (by decide +kernel), (by decide +kernel), (by decide +kernel), (by decide +kernel), (by decide +kernel), (by decide +kernel), (by decide +kernel), (by decide +kernel), (by decide +kernel), (by decide +kernel), (by decide +kernel), (by decide +kernel)⟩,
   ⟨req (gateBody), ready, takes (by decide +kernel), (by decide +kernel), (by decide +kernel), (by decide +kernel), (by decide +kernel), (by decide +kernel), (by decide +kernel), (by decide +kernel), (by decide +kernel), (by decide +kernel), (by decide +kernel), (by decide +kernel), (by decide +kernel), (by decide +kernel), (by decide +kernel), 0, (by decide +kernel)⟩,
   ⟨req (leBytes 1 63 ++ zeros 7 ++ leBytes 8 281474976710655 ++ leBytes 4 999999999 ++ leBytes 4 1000 ++ leBytes 2 1 ++ zeros 6), ready, takes (by decide +kernel), (by decide +kernel), (by decide +kernel), (by decide +kernel), (by decide +kernel), (by decide +kernel), (by decide +kernel), (by decide +kernel), (by decide +kernel), (by decide +kernel), (by decide +kernel), (by decide +kernel), (by decide +kernel), (by decide +kernel), (by decide +kernel), 0, (by decide +kernel)⟩,
   ⟨req (leBytes 1 63 ++ zeros 7 ++ leBytes 8 281474976710655 ++ leBytes 4 999999999 ++ leBytes 4 1000 ++ leBytes 2 1 ++ zeros 6), ready, takes (by decide +kernel), (by decide +kernel), (by decide +kernel), (by decide +kernel), (by decide +kernel), (by decide +kernel), (by decide +kernel), (by decide +kernel), (by decide +kernel), (by decide +kernel), (by decide +kernel), (by decide +kernel), (by decide +kernel), (by decide +kernel), (by decide +kernel), 0, (by decide +kernel)⟩,
   ⟨req ([0, 1] ++ zeros 6), { ready with sched := { ready.sched with gateCommit := 1 } }, takes (by decide +kernel), (by decide +kernel), (by decide +kernel), (by decide +kernel), (by decide +kernel), (by decide +kernel), (by decide +kernel)⟩,
   ⟨req (leBytes 1 63 ++ leBytes 1 1 ++ zeros 6), ready, takes (by decide +kernel), (by decide +kernel), (by decide +kernel), (by decide +kernel), (by decide +kernel), (by decide +kernel), (by decide +kernel), (by decide +kernel), (by decide +kernel)⟩,
   ⟨gates, 0, 0, (by decide +kernel)⟩,
   ⟨req ([0, 2] ++ zeros 6), { ready with sched := { ready.sched with gateCommit := 1 } }, takes (by decide +kernel), (by decide +kernel), (by decide +kernel), (by decide +kernel), (by decide +kernel), (by decide +kernel), (by decide +kernel), (by decide +kernel)⟩,
   ⟨req (leBytes 1 63 ++ leBytes 1 2 ++ zeros 6), ready, takes (by decide +kernel), (by decide +kernel), (by decide +kernel), (by decide +kernel), (by decide +kernel), (by decide +kernel), (by decide +kernel), (by decide +kernel)⟩,
   ⟨0, State.reset, (by decide +kernel)⟩,
   ⟨0, { State.reset with sched := { State.reset.sched with gateOp := [(0, gates)] } }, gates, (by decide +kernel), (by decide +kernel)⟩,
   ⟨gates, 0, (by decide +kernel), (by decide +kernel)⟩,
   ⟨req (ringBody), ready, (by decide +kernel), (by decide +kernel), (by decide +kernel), (by decide +kernel), (by decide +kernel), (by decide +kernel), (by decide +kernel), takes (by decide +kernel), (by decide +kernel), (by decide +kernel), (by decide +kernel)⟩,
   ⟨req (ringBody), { ready with sched := { ready.sched with ring := [(9, { valid := true, base := regionBase 10 + 16777216, log2 := 16 })] } }, (by decide +kernel), (by decide +kernel), (by decide +kernel), (by decide +kernel), (by decide +kernel), (by decide +kernel), (by decide +kernel), takes (by decide +kernel), (by decide +kernel), (by decide +kernel), (by decide +kernel)⟩,
   ⟨req (ringBody), ready, (by decide +kernel), (by decide +kernel), (by decide +kernel), (by decide +kernel), (by decide +kernel), (by decide +kernel), (by decide +kernel), takes (by decide +kernel), (by decide +kernel), (by decide +kernel), (by decide +kernel)⟩,
   ⟨req (ringBody), { ready with sched := { ready.sched with ring := [(9, { valid := true, base := regionBase 10 + 16777216, log2 := 16 })] } }, (by decide +kernel), (by decide +kernel), (by decide +kernel), (by decide +kernel), (by decide +kernel), (by decide +kernel), (by decide +kernel), takes (by decide +kernel), (by decide +kernel), (by decide +kernel), (by decide +kernel)⟩,
   ⟨req (zeros 8), { ready with sched := { ready.sched with ring := [(0, { valid := true })] } }, (by decide +kernel), takes (by decide +kernel), (by decide +kernel), (by decide +kernel), (by decide +kernel)⟩,
   ⟨req (zeros 8), { ready with sched := { ready.sched with ring := [(8, { valid := true })] } }, (by decide +kernel), takes (by decide +kernel), (by decide +kernel), (by decide +kernel), (by decide +kernel)⟩,
   ⟨0, zeros 32, State.reset, (by decide +kernel)⟩,
   ⟨0, { State.reset with sched := { State.reset.sched with gateOp := [(0, gates)] } }, 0, gates, (by decide +kernel), (by decide +kernel)⟩,
   ⟨req ([0, 1] ++ zeros 6), onSched (fun z => { z with gatePend := [(0, { gates with bad := [0] })] }) (ready), takes (by decide +kernel), (by decide +kernel), (by decide +kernel), (by decide +kernel), (by decide +kernel), (by decide +kernel), (by decide +kernel), (by decide +kernel)⟩,
   ⟨req ([0, 1] ++ zeros 6), onSched (fun z => { z with gatePend := [(0, { gates with bad := [] })] }) (ready), takes (by decide +kernel), (by decide +kernel), (by decide +kernel), (by decide +kernel), (by decide +kernel), (by decide +kernel), (by decide +kernel), (by decide +kernel), (by decide +kernel), (by decide +kernel)⟩,
   ⟨0, State.reset, (Or.inl (by decide +kernel))⟩,
   ⟨0, onSched (fun z => { z with gateCommit := 1 }) (late State.reset), (by decide +kernel), (by decide +kernel), (by rw [fastClock_late]; decide +kernel; decide +kernel)⟩,
   ⟨0, State.reset, (Or.inr (by decide +kernel))⟩,
   ⟨0, onSched (fun z => { z with sampler := [(0, { record := [0, 0, 0, 0, 0, 1, 0, 1] ++ zeros 8 })], ring := [(0, { valid := true, log2 := 16 })] }) (late State.reset), (by rw [fastClock_late]; decide +kernel; decide +kernel), (by rw [fastClock_late]; decide +kernel; decide +kernel), (Or.inr (by rw [fastClock_late]; decide +kernel; decide +kernel))⟩,
   ⟨0, onSched (fun z => { z with sampler := [(0, { record := [0, 0, 0, 0, 0, 1, 0, 1] ++ zeros 8 })], ring := [(0, { valid := true })] }) (late State.reset), (by rw [fastClock_late]; decide +kernel; decide +kernel), (by rw [fastClock_late]; decide +kernel; decide +kernel), (by rw [fastClock_late]; decide +kernel; decide +kernel), (by rw [fastClock_late]; decide +kernel; decide +kernel)⟩,
   ⟨1, 0, zeros 32, State.reset, rfl⟩,
   ⟨0, State.reset, 0, (by decide +kernel)⟩⟩

theorem witness_TimeCommandsComplete :
  (∃ (r : YcpReq) (s : State), Accepted 0x0702 r s ∧ let b := reqBody r; let off := fld b 0 4; let v := fld b 8 8; b.length = 16 ∧ fld b 4 4 = 0 ∧ timeRegResv off v = true) ∧
  (∃ (r : YcpReq) (s : State), Accepted 0x0702 r s ∧ let b := reqBody r; let off := fld b 0 4; let v := fld b 8 8; b.length = 16 ∧ fld b 4 4 = 0 ∧ timeRegResv off v = false ∧ v < 2 ^ 32 ∧ (timeReg s.time off).isSome = true ∧ off ≠ 0) ∧
  (∃ (r : YcpReq) (s : State), Accepted 0x0702 r s ∧ let b := reqBody r; let off := fld b 0 4; let v := fld b 8 8; b.length = 16 ∧ fld b 4 4 = 0 ∧ timeRegResv off v = false ∧ v < 2 ^ 32 ∧ off = 0 ∧ 1 ≤ bits v 8 8 ∧ bits v 8 8 ≤ 100) ∧
  (∃ (r : YcpReq) (s : State), Accepted 0x0702 r s ∧ let b := reqBody r; let off := fld b 0 4; let v := fld b 8 8; b.length = 16 ∧ fld b 4 4 = 0 ∧ timeRegResv off v = false ∧ timeReg s.time off = none) ∧
  (∃ (r : YcpReq) (s : State), Accepted 0x0702 r s ∧ let b := reqBody r; let off := fld b 0 4; let v := fld b 8 8; b.length = 16 ∧ fld b 4 4 = 0 ∧ off = 8 ∧ v = 1) ∧
  (∃ (r : YcpReq) (s : State), Accepted 0x0703 r s ∧ let b := reqBody r; let dom := fld b 0 1 == 1; b.length = 16 ∧ fld b 12 4 = 0 ∧ fld b 0 1 < 2 ∧ fld b 1 1 ≤ 2 ∧ fld b 3 1 ≤ 1 ∧ 10 ≤ fld b 4 4 ∧ fld b 4 4 ≤ 10000 ∧ 10 ≤ fld b 8 4 ∧ fld b 8 4 ≤ 10000 ∧ fld b 2 1 = (s.time.dom (!dom)).domNum) ∧
  (∃ (r : YcpReq) (s : State), Accepted 0x0703 r s ∧ let b := reqBody r; let dom := fld b 0 1 == 1; b.length = 16 ∧ fld b 12 4 = 0 ∧ fld b 0 1 < 2 ∧ fld b 1 1 ≤ 2 ∧ fld b 3 1 ≤ 1 ∧ 10 ≤ fld b 4 4 ∧ fld b 4 4 ≤ 10000 ∧ 10 ≤ fld b 8 4 ∧ fld b 8 4 ≤ 10000 ∧ fld b 2 1 ≠ (s.time.dom (!dom)).domNum ∧ fld b 1 1 = (s.time.dom dom).source ∧ fld b 2 1 = (s.time.dom dom).domNum) ∧
  (∃ (r : YcpReq) (s : State), Accepted 0x0703 r s ∧ let b := reqBody r; let dom := fld b 0 1 == 1; b.length = 16 ∧ fld b 12 4 = 0 ∧ fld b 0 1 < 2 ∧ fld b 1 1 ≤ 2 ∧ fld b 3 1 ≤ 1 ∧ 10 ≤ fld b 4 4 ∧ fld b 4 4 ≤ 10000 ∧ 10 ≤ fld b 8 4 ∧ fld b 8 4 ≤ 10000 ∧ fld b 2 1 ≠ (s.time.dom (!dom)).domNum ∧ (fld b 1 1 ≠ (s.time.dom dom).source ∨ fld b 2 1 ≠ (s.time.dom dom).domNum)) ∧
  (∃ (r : YcpReq) (s : State), Accepted 0x0704 r s ∧ let b := reqBody r; let d := fld b 0 1 == 1; b.length = 24 ∧ fld b 2 6 = 0 ∧ fld b 0 1 < 2 ∧ ∃ delta : Int, delta = (timeOf (fld b 8 8) (fld b 16 8) 0 : Int) - (s.time.dom d).val ∧ fld b 1 1 = 1 ∧ fld b 8 8 < 2 ^ 48 ∧ fld b 16 8 < 1000000000 ∧ bigMove d delta s = true) ∧
  (∃ (r : YcpReq) (s : State), Accepted 0x0704 r s ∧ let b := reqBody r; let d := fld b 0 1 == 1; b.length = 24 ∧ fld b 2 6 = 0 ∧ fld b 0 1 < 2 ∧ ∃ delta : Int, delta = (timeOf (fld b 8 8) (fld b 16 8) 0 : Int) - (s.time.dom d).val ∧ fld b 1 1 = 1 ∧ fld b 8 8 < 2 ^ 48 ∧ fld b 16 8 < 1000000000 ∧ bigMove d delta s = false) ∧
  (∃ (r : YcpReq) (s : State), Accepted 0x0704 r s ∧ let b := reqBody r; let d := fld b 0 1 == 1; b.length = 24 ∧ fld b 2 6 = 0 ∧ fld b 0 1 < 2 ∧ ∃ delta, delta = adjOffset b ∧ fld b 1 1 = 2 ∧ bigMove d delta s = true) ∧
  (∃ (r : YcpReq) (s : State), Accepted 0x0704 r s ∧ let b := reqBody r; let d := fld b 0 1 == 1; b.length = 24 ∧ fld b 2 6 = 0 ∧ fld b 0 1 < 2 ∧ ∃ delta, delta = adjOffset b ∧ fld b 1 1 = 2 ∧ bigMove d delta s = false) ∧
  (∃ (r : YcpReq) (s : State), Accepted 0x0704 r s ∧ let b := reqBody r; b.length = 24 ∧ fld b 2 6 = 0 ∧ fld b 0 1 < 2 ∧ ∃ delta, delta = adjOffset b ∧ fld b 1 1 = 3 ∧ delta.natAbs ≤ uSec) ∧
  (∃ (r : YcpReq) (s : State), Accepted 0x0704 r s ∧ let b := reqBody r; b.length = 24 ∧ fld b 2 6 = 0 ∧ fld b 0 1 < 2 ∧ ∃ delta, delta = adjOffset b ∧ fld b 1 1 = 3 ∧ uSec < delta.natAbs) ∧
  (∃ (sec nsec v : Nat), sec < 2 ^ 48 ∧ nsec < 10 ^ 9 ∧ v < uWrap) ∧
  (∃ (r : YcpReq) (s : State), Accepted 0x0705 r s ∧ let b := reqBody r; let rv := fld b 4 4; b.length = 8 ∧ fld b 1 3 = 0 ∧ fld b 0 1 < 2 ∧ rv ≤ 3600 ∧ (fld b 0 1 == 1) = s.time.active) ∧
  (∃ (r : YcpReq) (s : State), Accepted 0x0705 r s ∧ let b := reqBody r; let rv := fld b 4 4; b.length = 8 ∧ fld b 1 3 = 0 ∧ fld b 0 1 < 2 ∧ rv ≤ 3600 ∧ (fld b 0 1 == 1) ≠ s.time.active) ∧
  (∃ (auto : Bool) (s : State), let o := s.time.dom (!s.time.active); o.st ≠ .locked) ∧
  (∃ (r : YcpReq) (s : State), Accepted 0x0708 r s ∧ let b := reqBody r; let off := (BitVec.ofNat 32 (fld b 4 4)).toInt; b.length = 20 ∧ fld b 1 3 = 0 ∧ fld b 0 1 ≤ 2 ∧ off.natAbs ≤ 1000000 ∧ 1000 ≤ fld b 8 4 ∧ fld b 8 4 ≤ 500000000 ∧ portLaneOk (fld b 12 2) = true ∧ portLaneOk (fld b 14 2) = true ∧ 16 ≤ fld b 16 2 ∧ 16 ≤ fld b 18 2) ∧
  (∃ (r : YcpReq) (s : State), Accepted 0x0708 r s ∧ let b := reqBody r; let off := (BitVec.ofNat 32 (fld b 4 4)).toInt; b.length = 20 ∧ fld b 1 3 = 0 ∧ fld b 0 1 ≤ 2 ∧ off.natAbs ≤ 1000000 ∧ 1000 ≤ fld b 8 4 ∧ fld b 8 4 ≤ 500000000 ∧ portLaneOk (fld b 12 2) = true ∧ portLaneOk (fld b 14 2) = true ∧ (fld b 16 2 < 16 ∨ fld b 18 2 < 16)) ∧
  (∃ (auto : Bool) (s : State), let o := s.time.dom (!s.time.active); o.st = .locked ∧ uSec < (timeDiff o.val (activeTick s)).natAbs ∧ s.time.allowLarge = false) ∧
  (∃ (auto : Bool) (s : State), let o := s.time.dom (!s.time.active); o.st = .locked ∧ ((timeDiff o.val (activeTick s)).natAbs ≤ uSec ∨ s.time.allowLarge = true) ∧ (auto = false ∨ s.time.sinceSwitch = none)) :=
  ⟨⟨req (zeros 8 ++ leBytes 8 8), ready, takes (by decide +kernel), (by decide +kernel), (by decide +kernel), (by decide +kernel)⟩,
   ⟨req (leBytes 4 4 ++ zeros 12), ready, takes (by decide +kernel), (by decide +kernel), (by decide +kernel), (by decide +kernel), (by decide +kernel), (by decide +kernel), (by decide +kernel)⟩,
   ⟨req (zeros 8 ++ leBytes 8 256), ready, takes (by decide +kernel), (by decide +kernel), (by decide +kernel), (by decide +kernel), (by decide +kernel), (by decide +kernel), (by decide +kernel), (by decide +kernel)⟩,
   ⟨req (leBytes 4 12 ++ zeros 12), ready, takes (by decide +kernel), (by decide +kernel), (by decide +kernel), (by decide +kernel), (by decide +kernel)⟩,
   ⟨req (leBytes 4 8 ++ zeros 4 ++ leBytes 8 1), ready, takes (by decide +kernel), (by decide +kernel), (by decide +kernel), (by decide +kernel), (by decide +kernel)⟩,
   ⟨req (leBytes 1 1 ++ leBytes 1 2 ++ zeros 1 ++ leBytes 1 1 ++ leBytes 4 10 ++ leBytes 4 10 ++ zeros 4), ready, takes (by decide +kernel), (by decide +kernel), (by decide +kernel), (by decide +kernel), (by decide +kernel), (by decide +kernel), (by decide +kernel), (by decide +kernel), (by decide +kernel), (by decide +kernel), (by decide +kernel)⟩,
   ⟨req ([0, 0] ++ zeros 2 ++ leBytes 4 10 ++ leBytes 4 10 ++ zeros 4), ready, takes (by decide +kernel), (by decide +kernel), (by decide +kernel), (by decide +kernel), (by decide +kernel), (by decide +kernel), (by decide +kernel), (by decide +kernel), (by decide +kernel), (by decide +kernel), (by decide +kernel), (by decide +kernel), (by decide +kernel)⟩,
   ⟨req ([0, 1] ++ zeros 2 ++ leBytes 4 10 ++ leBytes 4 10 ++ zeros 4), ready, takes (by decide +kernel), (by decide +kernel), (by decide +kernel), (by decide +kernel), (by decide +kernel), (by decide +kernel), (by decide +kernel), (by decide +kernel), (by decide +kernel), (by decide +kernel), (by decide +kernel), (Or.inl (by decide +kernel))⟩,
   ⟨req ([0, 1] ++ zeros 6 ++ leBytes 8 2 ++ zeros 8), ready, takes (by decide +kernel), (by decide +kernel), (by decide +kernel), (by decide +kernel), _, rfl, (by decide +kernel), (by decide +kernel), (by decide +kernel), (by decide +kernel)⟩,
   ⟨req ([0, 1] ++ zeros 22), ready, takes (by decide +kernel), (by decide +kernel), (by decide +kernel), (by decide +kernel), _, rfl, (by decide +kernel), (by decide +kernel), (by decide +kernel), (by decide +kernel)⟩,
   ⟨req ([0, 2] ++ zeros 14 ++ leBytes 8 2000000000), ready, takes (by decide +kernel), (by decide +kernel), (by decide +kernel), (by decide +kernel), _, rfl, (by decide +kernel), (by decide +kernel)⟩,
   ⟨req (leBytes 1 1 ++ leBytes 1 2 ++ zeros 22), ready, takes (by decide +kernel), (by decide +kernel), (by decide +kernel), (by decide +kernel), 0, (by decide +kernel), (by decide +kernel), (by decide +kernel)⟩,
   ⟨req (leBytes 1 1 ++ leBytes 1 3 ++ zeros 22), ready, takes (by decide +kernel), (by decide +kernel), (by decide +kernel), (by decide +kernel), 0, (by decide +kernel), (by decide +kernel), (by decide +kernel)⟩,
   ⟨req ([0, 3] ++ zeros 14 ++ leBytes 8 2000000000), ready, takes (by decide +kernel), (by decide +kernel), (by decide +kernel), (by decide +kernel), _, rfl, (by decide +kernel), (by decide +kernel)⟩,
   ⟨0, 0, 0, (by decide +kernel), (by decide +kernel), (by decide +kernel)⟩,
   ⟨req (zeros 8), ready, takes (by decide +kernel), (by decide +kernel), (by decide +kernel), (by decide +kernel), (by decide +kernel), (by decide +kernel)⟩,
   ⟨req (leBytes 1 1 ++ zeros 3 ++ leBytes 4 3600), ready, takes (by decide +kernel), (by decide +kernel), (by decide +kernel), (by decide +kernel), (by decide +kernel), (by decide +kernel)⟩,
   ⟨false, State.reset, (by decide +kernel)⟩,
   ⟨req (leBytes 1 2 ++ zeros 7 ++ leBytes 4 1000 ++ zeros 4 ++ leBytes 2 16 ++ leBytes 2 16), ready, takes (by decide +kernel), (by decide +kernel), (by decide +kernel), (by decide +kernel), (by decide +kernel), (by decide +kernel), (by decide +kernel), (by decide +kernel), (by decide +kernel), (by decide +kernel), (by decide +kernel)⟩,
   ⟨req (leBytes 1 2 ++ zeros 7 ++ leBytes 4 1000 ++ zeros 4 ++ leBytes 2 15 ++ zeros 2), ready, takes (by decide +kernel), (by decide +kernel), (by decide +kernel), (by decide +kernel), (by decide +kernel), (by decide +kernel), (by decide +kernel), (by decide +kernel), (by decide +kernel), (by decide +kernel)⟩,
   ⟨false, domain1 { st := .locked, val := 2 * uSec } State.reset, (by decide +kernel), (by decide +kernel), (by decide +kernel)⟩,
   ⟨false, domain1 { st := .locked } State.reset, (by decide +kernel), (Or.inl (by decide +kernel)), (Or.inl rfl)⟩⟩

theorem witness_TimeEvents :
  (∃ (s : State), ∃ d, (s.time.dom d).slewLeft = 0 ∧ (s.time.dom d).freqAdj = 0 ∧ onRef10 d s.time = false) ∧
  (∃ (s : State), s.time.resid = 0) ∧
  (∃ (s : State), s.time.pendSwitch = false) ∧
  (∃ (s : State), s.time.pendSwitch = true ∧ let n := (s.time.dom (!s.time.active)).val; let d := timeDiff n (activeTick s); d.natAbs ≤ 10 * uNs * s.time.slewMax) ∧
  (∃ (s : State), s.time.pendSwitch = true ∧ let n := (s.time.dom (!s.time.active)).val; let d := timeDiff n (activeTick s); 10 * uNs * s.time.slewMax < d.natAbs) ∧
  (∃ (s : State), s.time.pendSwitch = true) ∧
  (∃ (s s' : State), s.time.pendSwitch = true ∧ (s.time.dom (!s.time.active)).val < uWrap ∧ (timeDiff (s.time.dom (!s.time.active)).val (activeTick s)).natAbs ≤ 10 * uNs * s.time.slewMax ∧ exec .switchover s = .next s') ∧
  (∃ (s : State), s.time.resid.natAbs ≤ slewStep s.time.slewRate) ∧
  (∃ (s : State), slewStep s.time.slewRate < s.time.resid.natAbs) ∧
  (∃ (s : State), (s.time.revert = false ∨ s.time.former = none)) ∧
  (∃ (s : State), ∃ f, s.time.revert = true ∧ s.time.former = some f ∧ f ≠ s.time.active ∧ s.time.revertS * 1000000000 ≤ s.time.formerTicks * 80) ∧
  (∃ (d : Nat) (s : State), let b := d == 1; let x := s.time.dom b; (x.source = 0 ∨ x.wdExpired = true ∨ wdTicks b s * 80 < x.syncTimeout * 1000000)) ∧
  (∃ (d : Nat) (s : State), let b := d == 1; let x := s.time.dom b; x.source ≠ 0 ∧ x.wdExpired = false ∧ x.syncTimeout * 1000000 ≤ wdTicks b s * 80 ∧ (b ≠ s.time.active ∨ s.time.autoSwitch = false)) ∧
  (∃ (d : Nat) (s : State), let b := d == 1; (s.time.dom b).source = 0) ∧
  (∃ (d : Nat) (s : State), let b := d == 1; (s.time.dom b).source ≠ 0 ∧ (b ≠ s.time.active ∨ s.time.autoSwitch = false)) ∧
  (∃ (d : Nat) (off : Int) (s : State), let b := d == 1; let x := s.time.dom b; x.source = 1 ∧ x.owner = 1) ∧
  (∃ (d : Nat) (off : Int) (s : State), let b := d == 1; let x := s.time.dom b; x.source = 1 ∧ x.owner ≠ 1 ∧ x.qualNs < off.natAbs) ∧
  (∃ (d : Nat) (off : Int) (s : State), let b := d == 1; let x := s.time.dom b; x.source = 1 ∧ x.owner ≠ 1 ∧ x.st = .acquiring ∧ off.natAbs ≤ x.qualNs ∧ 15 ≤ x.qual) ∧
  (∃ (d : Nat) (off : Int) (s : State), let b := d == 1; let x := s.time.dom b; x.source = 1 ∧ x.owner ≠ 1 ∧ x.st = .locked) ∧
  (∃ (sub k : Nat) (s : State), s.time.sincePps = some k ∧ k * 80 < 500000000) ∧
  (∃ (sub : Nat) (s : State), s.time.sincePps = none ∧ s.time.d0.source ≠ 2 ∧ s.time.d1.source ≠ 2) ∧
  (∃ (s : State), s.time.ref10Ok = false) ∧
  (∃ (s : State), s.time.ref10Ok = true) ∧
  (∃ (s : State), s.ep.copyMbx = none ∧ (∀ x ∈ s.lanes.lane, x.2.checker = false) ∧ booting s = false) ∧
  (∃ (d which : Nat) (s : State), s.ep.copyMbx = none) ∧
  (∃ (d : Nat) (off : Int) (s : State), let b := d == 1; let x := s.time.dom b; x.source ≠ 1) ∧
  (∃ (d : Nat) (off : Int) (s : State), let b := d == 1; let x := s.time.dom b; x.source = 1 ∧ x.owner ≠ 1) ∧
  (∃ (s : State), s.time.ppsCarry = false) ∧
  (∃ (s : State), s.time.ppsCarry = true) :=
  ⟨⟨State.reset, false, (by decide +kernel), (by decide +kernel), (by decide +kernel)⟩,
   ⟨State.reset, (by decide +kernel)⟩,
   ⟨State.reset, (by decide +kernel)⟩,
   ⟨{ State.reset with time := { State.reset.time with pendSwitch := true } }, (by decide +kernel), (by decide +kernel)⟩,
   ⟨{ State.reset with time := { State.reset.time with pendSwitch := true, d1 := { val := 2 ^ 60 } } }, (by decide +kernel), (by decide +kernel)⟩,
   ⟨{ State.reset with time := { State.reset.time with pendSwitch := true } }, (by decide +kernel)⟩,
   ⟨{ State.reset with time := { State.reset.time with pendSwitch := true } }, _, (by decide +kernel), (by decide +kernel), (by decide +kernel), rfl⟩,
   ⟨State.reset, (by decide +kernel)⟩,
   ⟨{ State.reset with time := { State.reset.time with resid := 10 ^ 30 } }, (by decide +kernel)⟩,
   ⟨State.reset, (by decide +kernel)⟩,
   ⟨{ State.reset with time := { State.reset.time with revert := true, former := some true, formerTicks := 10 ^ 9 } }, true, (by decide +kernel), (by decide +kernel), (by decide +kernel), (by decide +kernel)⟩,
   ⟨0, State.reset, (by decide +kernel)⟩,
   ⟨1, domain1 { source := 1, lastSync := 10 ^ 9 } State.reset, (by decide +kernel), (by decide +kernel), (by decide +kernel), (Or.inl (by decide +kernel))⟩,
   ⟨0, State.reset, (by decide +kernel)⟩,
   ⟨1, domain1 { source := 1 } State.reset, (by decide +kernel), (Or.inl (by decide +kernel))⟩,
   ⟨1, 0, domain1 { source := 1, owner := 1 } State.reset, (by decide +kernel), (by decide +kernel)⟩,
   ⟨1, 1000, domain1 { source := 1 } State.reset, (by decide +kernel), (by decide +kernel), (by decide +kernel)⟩,
   ⟨1, 0, domain1 { source := 1, st := .acquiring, qual := 15 } State.reset, (by decide +kernel), (by decide +kernel), (by decide +kernel), (by decide +kernel), (by decide +kernel)⟩,
   ⟨1, 0, domain1 { source := 1, st := .locked } State.reset, (by decide +kernel), (by decide +kernel), (by decide +kernel)⟩,
   ⟨0, 0, { State.reset with time := { State.reset.time with sincePps := some 0 } }, (by decide +kernel), (by decide +kernel)⟩,
   ⟨0, State.reset, (by decide +kernel), (by decide +kernel), (by decide +kernel)⟩,
   ⟨State.reset, (by decide +kernel)⟩,
   ⟨{ State.reset with time := { State.reset.time with ref10Ok := true } }, (by decide +kernel)⟩,
   ⟨State.reset, (by decide +kernel), (by decide +kernel), (by decide +kernel)⟩,
   ⟨0, 0, State.reset, (by decide +kernel)⟩,
   ⟨0, 0, State.reset, (by decide +kernel)⟩,
   ⟨1, 0, domain1 { source := 1 } State.reset, (by decide +kernel), (by decide +kernel)⟩,
   ⟨State.reset, (by decide +kernel)⟩,
   ⟨onTime (fun z => { z with ppsCarry := true }) State.reset, (by decide +kernel)⟩⟩

theorem witness_LaneCommandsComplete :
  (∃ (r : YcpReq) (s : State), Accepted 0x0A05 r s ∧ let b := reqBody r; b.length = 16 ∧ testLaneOk b = true ∧ testDenied (testLane b) s = false ∧ fld b 2 2 ≤ 3) ∧
  (∃ (r : YcpReq) (s : State), Accepted 0x0A04 r s ∧ let b := reqBody r; b.length = 16 ∧ testLaneOk b = true ∧ testDenied (testLane b) s = false ∧ fld b 2 2 = 0) ∧
  (∃ (r : YcpReq) (s : State), Accepted 0x0A04 r s ∧ let b := reqBody r; b.length = 16 ∧ testLaneOk b = true ∧ testDenied (testLane b) s = false ∧ fld b 2 2 = 1 ∧ (fld b 4 1 ≤ 4 ∨ fld b 4 1 = 7 ∨ (fld b 4 1 = 5 ∧ laneRate (testLane b) s ≤ 2) ∨
        (fld b 4 1 = 6 ∧ 1 ≤ fld b 5 1 ∧ fld b 5 1 ≤ 64))) ∧
  (∃ (r : YcpReq) (s : State), Accepted 0x0A06 r s ∧ let b := reqBody r; b.length = 16 ∧ testLaneOk b = true ∧ testDenied (testLane b) s = false ∧ fld b 2 2 = 0) ∧
  (∃ (r : YcpReq) (s : State), Accepted 0x0A06 r s ∧ let b := reqBody r; b.length = 16 ∧ testLaneOk b = true ∧ testDenied (testLane b) s = false ∧ (fld b 2 2 = 1 ∨ (fld b 2 2 = 2 ∧ 1 ≤ fld b 4 1 ∧ fld b 4 1 ≤ 64) ∨ (fld b 2 2 = 3 ∧ 10 ≤ fld b 5 1 ∧ fld b 5 1 ≤ 40) ∨
        (fld b 2 2 = 4 ∧ 1 ≤ fld b 6 1 ∧ fld b 6 1 ≤ 16 ∧ 1 ≤ fld b 8 4 ∧ fld b 8 4 ≤ 2 ^ 20 ∧
          (linkOfLane (testLane b) s).isSome = true))) ∧
  (∃ (r : YcpReq) (s : State), (reqBody r).length = 16 ∧ testLaneOk (reqBody r) = true ∧ testDenied (testLane (reqBody r)) s = true ∧ fld (reqBody r) 2 2 ≤ 1 ∧ Accepted 0x0A04 r s) ∧
  (∃ (r : YcpReq) (s : State), (reqBody r).length = 16 ∧ testLaneOk (reqBody r) = true ∧ testDenied (testLane (reqBody r)) s = true ∧ fld (reqBody r) 2 2 ≤ 1 ∧ Accepted 0x0A05 r s) ∧
  (∃ (r : YcpReq) (s : State), (reqBody r).length = 16 ∧ testLaneOk (reqBody r) = true ∧ testDenied (testLane (reqBody r)) s = true ∧ fld (reqBody r) 2 2 ≤ 1 ∧ Accepted 0x0A06 r s) ∧
  (∃ (ix l : Nat) (s : State), linkOfLane ix s = some l ∧ (getLink l s).phase = .test ∧ (∀ x ∈ linkLanes l s, (getLane x s).loop = 0 ∧ (getLane x s).pattern = none)) ∧
  (∃ (lane : Nat) (s : State), checkable (getLane lane s) = true) ∧
  (∃ (lane : Nat) (s : State), checkable (getLane lane s) = false) ∧
  (∃ (lane n e : Nat) (s : State), (getLane lane s).checker = false) ∧
  (∃ (r : YcpReq) (s : State) (o : Host.Outcome State Fault Refusal), Accepted 0x0A07 r s ∧ (o = exec (.laneSwap r) s ∨ o = exec (.laneSwapRestore r) s) ∧ let b := reqBody r; let g := fld b 0 2 / 16; let k := fld b 0 2 % 16; b.length = 16 ∧ fld b 4 12 = 0 ∧ g < 10 ∧ fld b 2 2 = 1 ∧ k < 8 ∧ (∀ l, linkOfLogical g k s = some l → (getLink l s).phase ≠ .retrain ∧ (getLink l s).phase ≠ .gap)) ∧
  (∃ (r : YcpReq) (s : State) (o : Host.Outcome State Fault Refusal), Accepted 0x0A07 r s ∧ (o = exec (.laneSwap r) s ∨ o = exec (.laneSwapRestore r) s) ∧ let b := reqBody r; let g := fld b 0 2 / 16; let k := fld b 0 2 % 16; b.length = 16 ∧ fld b 4 12 = 0 ∧ g < 10 ∧ fld b 2 2 = 1 ∧ k < 8 ∧ ∃ l, linkOfLogical g k s = some l ∧ (getLink l s).phase = .retrain) ∧
  (∃ (r : YcpReq) (s : State) (o : Host.Outcome State Fault Refusal), Accepted 0x0A07 r s ∧ (o = exec (.laneSwap r) s ∨ o = exec (.laneSwapRestore r) s) ∧ let b := reqBody r; let g := fld b 0 2 / 16; let k := fld b 0 2 % 16; b.length = 16 ∧ fld b 4 12 = 0 ∧ g < 10 ∧ fld b 2 2 = 2 ∧ k < 9 ∧ (getLane (9 * g + k) s).st = 13) ∧
  (∃ (r : YcpReq) (s : State) (o : Host.Outcome State Fault Refusal), Accepted 0x0A07 r s ∧ (o = exec (.laneSwap r) s ∨ o = exec (.laneSwapRestore r) s) ∧ let b := reqBody r; let g := fld b 0 2 / 16; let k := fld b 0 2 % 16; b.length = 16 ∧ fld b 4 12 = 0 ∧ g < 10 ∧ fld b 2 2 = 2 ∧ k < 9 ∧ (getLane (9 * g + k) s).st ≠ 13) ∧
  (∃ (ix : Nat) (s : State), linkOfLane ix s = none ∧ (getLane ix s).st = 12 ∧ (getLane ix s).loop = 0 ∧ (getLane ix s).pattern = none) ∧
  (∃ (lane n e : Nat) (s : State), (getLane lane s).checker = true ∧ (getLane lane s).judged = false) ∧
  (∃ (lane n e : Nat) (s : State), (getLane lane s).checker = true ∧ (getLane lane s).judged = true) ∧
  (∃ (ix : Nat) (p : Bytes) (s : State), (getLane ix s).inject = some p ∧ (getLane ix s).pattern.isSome = true ∧ (fld p 0 2 = 1 ∨ fld p 0 2 = 2)) ∧
  (∃ (ix : Nat) (p : Bytes) (s : State), (getLane ix s).inject = some p ∧ (getLane ix s).pattern.isSome = true ∧ (fld p 0 2 = 3 ∨ fld p 0 2 = 4)) ∧
  (∃ (ix : Nat) (s : State), linkOfLane ix s = none ∧ (getLane ix s).st ≠ 13) ∧
  (∃ (ix : Nat) (s : State), linkOfLane ix s = none ∧ (getLane ix s).st = 13) :=
  ⟨⟨req (zeros 2 ++ leBytes 2 3 ++ zeros 12), ready, takes (by decide +kernel), (by decide +kernel), (by decide +kernel), (by decide +kernel), (by decide +kernel)⟩,
   ⟨req (zeros 16), ready, takes (by decide +kernel), (by decide +kernel), (by decide +kernel), (by decide +kernel), (by decide +kernel)⟩,
   ⟨req (zeros 2 ++ leBytes 2 1 ++ leBytes 1 4 ++ zeros 11), ready, takes (by decide +kernel), (by decide +kernel), (by decide +kernel), (by decide +kernel), (by decide +kernel), (by decide +kernel)⟩,
   ⟨req (zeros 16), ready, takes (by decide +kernel), (by decide +kernel), (by decide +kernel), (by decide +kernel), (by decide +kernel)⟩,
   ⟨req (zeros 2 ++ leBytes 2 1 ++ zeros 12), ready, takes (by decide +kernel), (by decide +kernel), (by decide +kernel), (by decide +kernel), (by decide +kernel)⟩,
   ⟨req (leBytes 2 8 ++ zeros 14), ready, (by decide +kernel), (by decide +kernel), (by decide +kernel), (by decide +kernel), takes (by decide +kernel)⟩,
   ⟨req (leBytes 2 8 ++ zeros 14), ready, (by decide +kernel), (by decide +kernel), (by decide +kernel), (by decide +kernel), takes (by decide +kernel)⟩,
   ⟨req (leBytes 2 8 ++ zeros 14), ready, (by decide +kernel), (by decide +kernel), (by decide +kernel), (by decide +kernel), takes (by decide +kernel)⟩,
   ⟨0, 0, linked rec0 .test [] State.reset, (by decide +kernel), (by decide +kernel), (by decide +kernel)⟩,
   ⟨0, linked rec0 .test [(0, { st := 12, pattern := some [0] })] State.reset, (by decide +kernel)⟩,
   ⟨0, State.reset, (by decide +kernel)⟩,
   ⟨0, 0, 0, State.reset, (by decide +kernel)⟩,
   ⟨req (leBytes 2 0 ++ leBytes 2 1 ++ zeros 12), linked rec0 .up [] ready, _, takes (by decide +kernel), (Or.inl rfl), (by decide +kernel), (by decide +kernel), (by decide +kernel), (by decide +kernel), (by decide +kernel), (oneLink (a := 0) (by decide +kernel) (by decide +kernel))⟩,
   ⟨req (leBytes 2 0 ++ leBytes 2 1 ++ zeros 12), linked rec0 .retrain [] ready, _, takes (by decide +kernel), (Or.inl rfl), (by decide +kernel), (by decide +kernel), (by decide +kernel), (by decide +kernel), (by decide +kernel), 0, (by decide +kernel), (by decide +kernel)⟩,
   ⟨req (leBytes 2 0 ++ leBytes 2 2 ++ zeros 12), linked rec0 .up [(0, { st := 13 })] ready, _, takes (by decide +kernel), (Or.inl rfl), (by decide +kernel), (by decide +kernel), (by decide +kernel), (by decide +kernel), (by decide +kernel), (by decide +kernel)⟩,
   ⟨req (leBytes 2 0 ++ leBytes 2 2 ++ zeros 12), linked rec0 .up [] ready, _, takes (by decide +kernel), (Or.inl rfl), (by decide +kernel), (by decide +kernel), (by decide +kernel), (by decide +kernel), (by decide +kernel), (by decide +kernel)⟩,
   ⟨0, onLanes (fun z => { z with lane := [(0, { st := 12 })] }) State.reset, (by decide +kernel), (by decide +kernel), (by decide +kernel), (by decide +kernel)⟩,
   ⟨0, 0, 0, linked rec0 .test [(0, { st := 12, checker := true })] State.reset, (by decide +kernel), (by decide +kernel)⟩,
   ⟨0, 0, 0, linked rec0 .test [(0, { st := 12, ctrl := 0x40, checker := true })] State.reset, (by decide +kernel), (by decide +kernel)⟩,
   ⟨0, [2, 0], linked rec0 .test [(0, { st := 12, pattern := some [0], inject := some [2, 0] })] State.reset, (by decide +kernel), (by decide +kernel), (Or.inr (by decide +kernel))⟩,
   ⟨0, [3, 0], linked rec0 .test [(0, { st := 12, pattern := some [0], inject := some [3, 0] })] State.reset, (by decide +kernel), (by decide +kernel), (Or.inl (by decide +kernel))⟩,
   ⟨0, State.reset, (by decide +kernel), (by decide +kernel)⟩,
   ⟨0, onLanes (fun z => { z with lane := [(0, { st := 13 })] }) State.reset, (by decide +kernel), (by decide +kernel)⟩⟩

theorem witness_LanesComeUpAndRecover :
  (∃ (lane : Nat) (s : State), (getLane lane s).st = 1) ∧
  (∃ (lane : Nat) (s : State), (getLane lane s).st ≠ 1) ∧
  (∃ (lane : Nat) (s : State), (getLane lane s).st = 2) ∧
  (∃ (lane : Nat) (s : State), (getLane lane s).st ≠ 2) ∧
  (∃ (lane : Nat) (inv : Bool) (s : State), let x := getLane lane s; x.st = 3 ∧ bits x.ctrl 0 2 = 0) ∧
  (∃ (lane : Nat) (inv : Bool) (s : State), let x := getLane lane s; x.st = 3 ∧ bits x.ctrl 0 2 = 1) ∧
  (∃ (lane : Nat) (inv : Bool) (s : State), let x := getLane lane s; x.st = 3 ∧ bits x.ctrl 0 2 = 2) ∧
  (∃ (lane : Nat) (inv : Bool) (s : State), let x := getLane lane s; x.st ≠ 3) ∧
  (∃ (lane m c : Nat) (d : Byte) (f : Bytes) (s : State), let x := getLane lane s; x.st = 4 ∧ m < laneFloor lane s) ∧
  (∃ (lane m c : Nat) (d : Byte) (f : Bytes) (s : State), let x := getLane lane s; x.st ≠ 4) ∧
  (∃ (l : Nat) (p : Bytes) (s : State), linkAll l 5 s = false) ∧
  (∃ (lane l : Nat) (s : State), linkOfLane lane s = some l ∧ 2 ≤ (getLane lane s).st ∧ (getLane lane s).st ≤ 6 ∧ (getLink l s).phase = .bringUp) ∧
  (∃ (lane : Nat) (s : State), logicalOf (lane / 9) (lane % 9) s = none ∧ spareOf (lane / 9) s = some (lane % 9) ∧ (getLane lane s).st = 10 ∧ (getGroup (lane / 9) s).swap = none) ∧
  (∃ (l : Nat) (s : State), (getLink l s).phase = .up ∧ fld (linkRec l s) 5 1 ≠ 0) ∧
  (∃ (l : Nat) (s : State), (getLink l s).phase = .up ∧ fld (linkRec l s) 5 1 = 0) ∧
  (∃ (l : Nat) (s : State), (getLink l s).phase ≠ .up) ∧
  (∃ (l : Nat) (s : State), (getLink l s).phase = .gap ∧ ∃ i ∈ linkLanes l s, ∃ v c d f, (getLane i s).saved = some (v, c, d, f)) ∧
  (∃ (l : Nat) (s : State), (getLink l s).phase ≠ .gap) ∧
  (∃ (l : Nat) (s : State), inMask s.pwr.waking l = false ∧ (getLink l s).phase = .retrain) ∧
  (∃ (l : Nat) (s : State), inMask s.pwr.waking l = false ∧ (getLink l s).phase = .retrain ∧ (getLink l s).attempts + 1 < fld (linkRec l s) 5 1) ∧
  (∃ (l : Nat) (s : State), inMask s.pwr.waking l = false ∧ (getLink l s).phase = .retrain ∧ fld (linkRec l s) 5 1 ≤ (getLink l s).attempts + 1 ∧ (getLink l s).first = none) ∧
  (∃ (l : Nat) (s : State), l < 64 ∧ inMask s.pwr.waking l = true) ∧
  (∃ (lane m c y : Nat) (s : State), (getLane lane s).st ≠ 7 ∧ (getLane lane s).st ≠ 10) ∧
  (∃ (lane l m c y : Nat) (s : State), linkOfLane lane s = some l ∧ (getLane lane s).st = 7 ∧ let x := getLane lane s; m < laneFloor lane s ∧ x.below = 7 ∧ x.degraded = false ∧ straightSwap l s = false ∧ bit (fld (linkRec l s) 8 1) 0 = false) ∧
  (∃ (lane m c y : Nat) (s : State), ((getLane lane s).st = 7 ∨ (getLane lane s).st = 10) ∧ let x := getLane lane s; laneFloor lane s ≤ m ∧ x.degraded = false ∧ x.winOver = false ∧ x.winN < 9) ∧
  (∃ (r : Bytes) (c : Nat) (d : Byte) (f : Bytes) (x : Lane), bit (fld r 7 1) 5 = true) ∧
  (∃ (r : Bytes) (c : Nat) (d : Byte) (f : Bytes) (x : Lane), bit (fld r 7 1) 5 = false) ∧
  (∃ (r : Bytes) (c : Nat) (d : Byte) (f : Bytes) (x : Lane), bit (fld r 9 1) 0 = false) ∧
  (∃ (r : Bytes) (c : Nat) (d : Byte) (f : Bytes) (x : Lane), bit (fld r 9 1) 0 = true) ∧
  (∃ (r : Bytes) (c : Nat) (d : Byte) (f : Bytes) (x : Lane), bit (fld r 8 1) 5 = true) ∧
  (∃ (r : Bytes) (c : Nat) (d : Byte) (f : Bytes) (x : Lane) (i : Nat), bit (fld r 8 1) 5 = false ∧ i < 24 ∧ i ≠ bits (fld r 8 1) 0 5) ∧
  (∃ (lane m c : Nat) (d : Byte) (f : Bytes) (s : State), let x := getLane lane s; x.st = 4 ∧ laneFloor lane s ≤ m ∧ ((linkOfLane lane s).any fun l => recKr (linkRec l s)) = false) ∧
  (∃ (lane m c : Nat) (d : Byte) (f : Bytes) (s : State), let x := getLane lane s; x.st = 4 ∧ laneFloor lane s ≤ m ∧ ((linkOfLane lane s).any fun l => recKr (linkRec l s)) = true) ∧
  (∃ (l : Nat) (p : Bytes) (s : State), (getLink l s).phase = .bringUp ∧ linkAll l 5 s = true) ∧
  (∃ (l : Nat) (s : State), (getGroup (linkGroup l) s).swap = none ∧ (getLink l s).phase = .bringUp ∧ linkAll l 6 s = true) ∧
  (∃ (lane l : Nat) (s : State), linkOfLane lane s = some l ∧ (getLane lane s).st = 8 ∧ (getLink l s).phase = .retrain ∧ inMask s.pwr.waking l = false) ∧
  (∃ (lane : Nat) (s : State), linkOfLane lane s = none ∧ (getLane lane s).st = 9 ∧ laneDepthOf lane s = .active) ∧
  (∃ (lane : Nat) (s : State), (getLane lane s).judged = true) ∧
  (∃ (lane l : Nat) (s : State), (getLane lane s).judged = false ∧ linkOfLane lane s = some l ∧ remapped lane s = none ∧ (getLink l s).phase ≠ .up ∧ (((getLink l s).phase ≠ .gap ∧ (getLink l s).phase ≠ .retrain) ∨ (getLink l s).first.isSome = true)) ∧
  (∃ (lane l : Nat) (s : State), (getLane lane s).judged = false ∧ linkOfLane lane s = some l ∧ remapped lane s = none ∧ (getLink l s).phase = .up ∧ fld (linkRec l s) 5 1 ≠ 0 ∧ straightSwap l s = false) ∧
  (∃ (l : Nat) (s : State), (getLink l s).phase = .up) ∧
  (∃ (l : Nat) (s : State), (getLink l s).phase = .gap) ∧
  (∃ (lane : Nat) (s : State), linkOfLane lane s = none ∧ (getLane lane s).st = 11) ∧
  (∃ (lane l : Nat) (s : State), (getLane lane s).judged = false ∧ linkOfLane lane s = some l ∧ remapped lane s = none ∧ (getLink l s).phase ≠ .up ∧ ((getLink l s).phase = .gap ∨ (getLink l s).phase = .retrain) ∧ (getLink l s).first = none ∧ straightSwap l s = false) :=
  ⟨⟨0, linked rec0 .bringUp [(0, { st := 1 })] State.reset, (by decide +kernel)⟩,
   ⟨0, State.reset, (by decide +kernel)⟩,
   ⟨0, linked rec0 .bringUp [(0, { st := 2 })] State.reset, (by decide +kernel)⟩,
   ⟨0, State.reset, (by decide +kernel)⟩,
   ⟨0, false, linked rec0 .bringUp [(0, { st := 3, ctrl := 0 })] State.reset, (by decide +kernel), (by decide +kernel)⟩,
   ⟨0, false, linked rec0 .bringUp [(0, { st := 3, ctrl := 1 })] State.reset, (by decide +kernel), (by decide +kernel)⟩,
   ⟨0, false, linked rec0 .bringUp [(0, { st := 3, ctrl := 2 })] State.reset, (by decide +kernel), (by decide +kernel)⟩,
   ⟨0, false, State.reset, (by decide +kernel)⟩,
   ⟨0, 0, 0, 0, [], linked rec0 .bringUp [(0, { st := 4 })] State.reset, (by decide +kernel), (by decide +kernel)⟩,
   ⟨0, 0, 0, 0, [], linked rec0 .bringUp [] State.reset, (by decide +kernel)⟩,
   ⟨0, [], linked rec0 .bringUp [] State.reset, (by decide +kernel)⟩,
   ⟨0, 0, linked rec0 .bringUp [(0, { st := 3 })] State.reset, (by decide +kernel), (by decide +kernel), (by decide +kernel), (by decide +kernel)⟩,
   ⟨8, linked rec0 .up [(8, { st := 10 })] State.reset, (by decide +kernel), (by decide +kernel), (by decide +kernel), (by decide +kernel)⟩,
   ⟨0, linked rec0 .up [(0, { st := 7 })] State.reset, (by decide +kernel), (by decide +kernel)⟩,
   ⟨0, linked (put rec0 5 [0]) .up [(0, { st := 7 })] State.reset, (by decide +kernel), (by decide +kernel)⟩,
   ⟨0, State.reset, (by decide +kernel)⟩,
   ⟨0, linked rec0 .gap [(0, { saved := some (false, 0, 0, []) })] State.reset, (by decide +kernel), 0, (by decide +kernel), false, 0, 0, [], (by decide +kernel)⟩,
   ⟨0, State.reset, (by decide +kernel)⟩,
   ⟨0, linked rec0 .retrain [] State.reset, (by decide +kernel), (by decide +kernel)⟩,
   ⟨0, linked rec0 .retrain [] State.reset, (by decide +kernel), (by decide +kernel), (by decide +kernel)⟩,
   ⟨0, { { State.reset with lanes := { State.reset.lanes with port := [(0, rec0)], link := [(0, { phase := .retrain, attempts := 5 })] } } with pins := State.reset.pins }, (by decide +kernel), (by decide +kernel), (by decide +kernel), (by decide +kernel)⟩,
   ⟨0, { State.reset with pwr := { State.reset.pwr with waking := 1 } }, (by decide +kernel), (by decide +kernel)⟩,
   ⟨0, 0, 0, 0, State.reset, (by decide +kernel), (by decide +kernel)⟩,
   ⟨0, 0, 0, 0, 0, linked (put rec0 8 [0]) .up [(0, { st := 7, below := 7 })] State.reset, (by decide +kernel), (by decide +kernel), (by decide +kernel), (by decide +kernel), (by decide +kernel), (by decide +kernel), (by decide +kernel)⟩,
   ⟨0, 1000, 0, 0, linked rec0 .up [(0, { st := 7 })] State.reset, (Or.inl (by decide +kernel)), (by decide +kernel), (by decide +kernel), (by decide +kernel), (by decide +kernel)⟩,
   ⟨List.replicate 16 (0x20 : Byte), 0, 0, [], {}, (by decide +kernel)⟩,
   ⟨zeros 16, 0, 0, [], {}, (by decide +kernel)⟩,
   ⟨zeros 16, 0, 0, [], {}, (by decide +kernel)⟩,
   ⟨zeros 9 ++ [1], 0, 0, [], {}, (by decide +kernel)⟩,
   ⟨List.replicate 16 (0x20 : Byte), 0, 0, [], {}, (by decide +kernel)⟩,
   ⟨zeros 16, 0, 0, [], {}, 23, (by decide +kernel), (by decide +kernel), (by decide +kernel)⟩,
   ⟨0, 1000, 0, 0, [], linked rec0 .bringUp [(0, { st := 4 })] State.reset, (by decide +kernel), (by decide +kernel), (by decide +kernel)⟩,
   ⟨0, 1000, 0, 0, [], linked (put rec0 1 [9]) .bringUp [(0, { st := 4 })] State.reset, (by decide +kernel), (by decide +kernel), (by decide +kernel)⟩,
   ⟨0, [], linked rec0 .bringUp [(0, { st := 5 })] State.reset, (by decide +kernel), (by decide +kernel)⟩,
   ⟨0, linked rec0 .bringUp [(0, { st := 6 })] State.reset, (by decide +kernel), (by decide +kernel), (by decide +kernel)⟩,
   ⟨0, 0, linked rec0 .retrain [(0, { st := 8 })] State.reset, (by decide +kernel), (by decide +kernel), (by decide +kernel), (by decide +kernel)⟩,
   ⟨8, onLanes (fun z => { z with lane := [(8, { st := 9 })] }) State.reset, (by decide +kernel), (by decide +kernel), (by decide +kernel)⟩,
   ⟨0, linked rec0 .test [(0, { st := 12, ctrl := 0x40, checker := true })] State.reset, (by decide +kernel)⟩,
   ⟨0, 0, linked rec0 .off [] State.reset, (by decide +kernel), (by decide +kernel), (by decide +kernel), (by decide +kernel), (Or.inl (by decide +kernel))⟩,
   ⟨0, 0, linked rec0 .up [(0, { st := 7 })] State.reset, (by decide +kernel), (by decide +kernel), (by decide +kernel), (by decide +kernel), (by decide +kernel), (by decide +kernel)⟩,
   ⟨0, linked rec0 .up [] State.reset, (by decide +kernel)⟩,
   ⟨0, linked rec0 .gap [] State.reset, (by decide +kernel)⟩,
   ⟨0, onLanes (fun z => { z with lane := [(0, { st := 11 })] }) State.reset, (by decide +kernel), (by decide +kernel)⟩,
   ⟨0, 0, linked rec0 .gap [] State.reset, (by decide +kernel), (by decide +kernel), (by decide +kernel), (by decide +kernel), (Or.inl (by decide +kernel)), (by decide +kernel), (by decide +kernel)⟩⟩

theorem witness_LaneSwaps :
  (∃ (g : Nat) (blk : Bytes) (s : State), (fld blk 0 2 ≠ 0xF0A5 ∨ crc16 (blk.take 14) ≠ fld blk 14 2)) ∧
  (∃ (g : Nat) (blk : Bytes) (s : State), fld blk 0 2 = 0xF0A5 ∧ crc16 (blk.take 14) = fld blk 14 2 ∧ let x := getGroup g s; x.hist.length < 2) ∧
  (∃ (g : Nat) (blk : Bytes) (s : State), fld blk 0 2 = 0xF0A5 ∧ crc16 (blk.take 14) = fld blk 14 2 ∧ let h := (bits (fld blk 2 1) 0 4, bits (fld blk 2 1) 4 4, bit (fld blk 4 1) 0); let x := getGroup g s; ∃ rest, x.hist = h :: h :: rest ∧ h.1 = 15 ∧ x.swap = none) ∧
  (∃ (g : Nat) (blk : Bytes) (s : State), fld blk 0 2 = 0xF0A5 ∧ crc16 (blk.take 14) = fld blk 14 2 ∧ let h := (bits (fld blk 2 1) 0 4, bits (fld blk 2 1) 4 4, bit (fld blk 4 1) 0); let x := getGroup g s; ∃ rest w, x.hist = h :: h :: rest ∧ h.1 = 15 ∧ x.swap = some w ∧ w.step = 0 ∧ h.2.1 = w.lane) ∧
  (∃ (g : Nat) (blk : Bytes) (s : State), fld blk 0 2 = 0xF0A5 ∧ crc16 (blk.take 14) = fld blk 14 2 ∧ let h := (bits (fld blk 2 1) 0 4, bits (fld blk 2 1) 4 4, bit (fld blk 4 1) 0); let x := getGroup g s; ∃ rest ph, x.hist = h :: h :: rest ∧ h.1 < 8 ∧ h.2.2 = true ∧ x.swap = none ∧ spareOf g s = some ph ∧ (getLane (9 * g + ph) s).st = 10) ∧
  (∃ (g k : Nat) (s : State), swapPossible g k s = true ∧ (getGroup g s).swap = none) ∧
  (∃ (g k : Nat) (s : State), swapPossible g k s = false ∧ (getGroup g s).swap = none) ∧
  (∃ (g : Nat) (w : Swap) (s : State), (getGroup g s).swap = some w ∧ w.step = 0) ∧
  (∃ (g : Nat) (s : State), (getGroup g s).swap = none) ∧
  (∃ (g ph m c : Nat) (d : Byte) (f : Bytes) (s : State), spareOf g s = some ph ∧ let x := getLane (9 * g + ph) s; x.st = 9 ∧ laneFloor (9 * g + ph) s ≤ m ∧ laneDepthOf (9 * g + ph) s = .active) ∧
  (∃ (lane : Nat) (s : State), (getLane lane s).st = 9 ∧ laneDepthOf lane s = .active ∧ s.spare.otpLog.length < 512) ∧
  (∃ (lane : Nat) (s : State), (getLane lane s).st ≠ 9) ∧
  (∃ (g pll : Nat) (s : State) (ls : List Nat), ls = ((groupLinks g s).filter fun l => linkOn l s && (linkLanes l s).any fun ix => lanePll ix s == pll) ∧ ∃ l ∈ ls, (getLink l s).phase ≠ .test) ∧
  (∃ (g l ph : Nat) (w : Swap) (s : State), (getGroup g s).swap = some w ∧ w.step = 1 ∧ w.wait = 0 ∧ spareOf g s = some ph ∧ linkOfLogical g w.lane s = some l) ∧
  (∃ (l : Nat) (w : Swap) (s : State), let g := linkGroup l; (getGroup g s).swap = some w ∧ w.step = 2 ∧ linkOfLogical g w.lane s = some l) ∧
  (∃ (g ph m c : Nat) (d : Byte) (f : Bytes) (s : State), spareOf g s = some ph ∧ let x := getLane (9 * g + ph) s; x.st = 9 ∧ m < laneFloor (9 * g + ph) s ∧ laneDepthOf (9 * g + ph) s = .active) ∧
  (∃ (g ph m c : Nat) (d : Byte) (f : Bytes) (s : State), spareOf g s = some ph ∧ let x := getLane (9 * g + ph) s; (x.st ≠ 9 ∨ laneDepthOf (9 * g + ph) s ≠ .active)) ∧
  (∃ (l k : Nat) (s : State), inMask s.pwr.waking l = false ∧ (getLink l s).phase = .retrain ∧ fld (linkRec l s) 5 1 ≤ (getLink l s).attempts + 1 ∧ (getLink l s).first = some k ∧ linkOfLogical (linkGroup l) k s = some l ∧ straightSwap l s = false ∧ bit (fld (linkRec l s) 8 1) 0 = true ∧ spareIsReady (linkGroup l) s = true ∧ (getGroup (linkGroup l) s).swap = none ∧ (getGroup (linkGroup l) s).partnerReady = false) ∧
  (∃ (l k : Nat) (s : State), inMask s.pwr.waking l = false ∧ (getLink l s).phase = .retrain ∧ fld (linkRec l s) 5 1 ≤ (getLink l s).attempts + 1 ∧ (getLink l s).first = some k ∧ linkOfLogical (linkGroup l) k s = some l ∧ straightSwap l s = false ∧ bit (fld (linkRec l s) 8 1) 0 = true ∧ spareIsReady (linkGroup l) s = true ∧ (getGroup (linkGroup l) s).swap = none ∧ (getGroup (linkGroup l) s).partnerReady = true) ∧
  (∃ (g : Nat) (s : State), let x := getGroup g s; x.txReq < 16 ∧ x.txAck < 16) ∧
  (∃ (g : Nat) (w : Swap) (s : State), (getGroup g s).swap = some w ∧ 0 < w.wait) ∧
  (∃ (p : Nat) (ts : List Nat), p < 4 ∧ (∀ t ∈ ts, t < 4)) ∧
  (∃ (ix : Nat) (ts : List Nat) (s : State), lanePam ix s = true ∧ precodes true ix s = precodes false ix s ∧ bit (getLane ix s).ctrl 2 = (getLane ix s).rxInv ∧ (∀ t ∈ ts, t < 4)) :=
  ⟨⟨0, [], State.reset, (Or.inl (by decide +kernel))⟩,
   ⟨0, steer 0 0, withGroup {  } (linked rec0 .up [] State.reset), (by decide +kernel), (by decide +kernel), (by decide +kernel)⟩,
   ⟨0, steer 0xFF 0, withGroup { hist := [(15, 15, false), (15, 15, false)] } (linked rec0 .up [] State.reset), (by decide +kernel), (by decide +kernel), [], (by decide +kernel), (by decide +kernel), (by decide +kernel)⟩,
   ⟨0, steer 0x0F 0, withGroup { hist := [(15, 0, false), (15, 0, false)], swap := some ⟨0, 0, 0, 0⟩ } (linked rec0 .up [] State.reset), (by decide +kernel), (by decide +kernel), [], ⟨0, 0, 0, 0⟩, (by decide +kernel), (by decide +kernel), (by decide +kernel), (by decide +kernel), (by decide +kernel)⟩,
   ⟨0, steer 0xF0 1, withGroup { hist := [(0, 15, true), (0, 15, true)] } (linked rec0 .up [(8, { st := 10 })] State.reset), (by decide +kernel), (by decide +kernel), [], 8, (by decide +kernel), (by decide +kernel), (by decide +kernel), (by decide +kernel), (by decide +kernel), (by decide +kernel)⟩,
   ⟨0, 0, withGroup { partnerReady := true } (linked rec0 .up [(8, { st := 10 })] State.reset), (by decide +kernel), (by decide +kernel)⟩,
   ⟨0, 0, State.reset, (by decide +kernel), (by decide +kernel)⟩,
   ⟨0, ⟨0, 0, 0, 0⟩, withGroup { swap := some ⟨0, 0, 0, 0⟩ } (linked rec0 .up [] State.reset), (by decide +kernel), (by decide +kernel)⟩,
   ⟨0, State.reset, (by decide +kernel)⟩,
   ⟨0, 8, 1000, 0, 0, [], withGroup {  } (linked rec0 .up [(8, { st := 9 })] State.reset), (by decide +kernel), (by decide +kernel), (by decide +kernel), (by decide +kernel)⟩,
   ⟨0, withGroup {  } (linked rec0 .up [(0, { st := 9 })] State.reset), (by decide +kernel), (by decide +kernel), (by decide +kernel)⟩,
   ⟨0, State.reset, (by decide +kernel)⟩,
   ⟨0, 0, withGroup {  } (linked rec0 .up [] State.reset), _, rfl, 0, (by decide +kernel), (by decide +kernel)⟩,
   ⟨0, 0, 8, ⟨0, 0, 1, 0⟩, withGroup { swap := some ⟨0, 0, 1, 0⟩ } (linked rec0 .up [] State.reset), (by decide +kernel), (by decide +kernel), (by decide +kernel), (by decide +kernel), (by decide +kernel)⟩,
   ⟨0, ⟨0, 0, 2, 0⟩, withGroup { swap := some ⟨0, 0, 2, 0⟩ } (linked rec0 .up [] State.reset), (by decide +kernel), (by decide +kernel), (by decide +kernel)⟩,
   ⟨0, 8, 0, 0, 0, [], withGroup {  } (linked rec0 .up [(8, { st := 9 })] State.reset), (by decide +kernel), (by decide +kernel), (by decide +kernel), (by decide +kernel)⟩,
   ⟨0, 8, 1000, 0, 0, [], withGroup {  } (linked rec0 .up [(8, { st := 10 })] State.reset), (by decide +kernel), (Or.inl (by decide +kernel))⟩,
   ⟨0, 0, onLanes (fun z => { z with link := [(0, { phase := .retrain, attempts := 5, first := some 0 })] }) (withGroup { partnerReady := false } (linked (put rec0 8 [1]) .retrain [(8, { st := 10 })] State.reset)), (by decide +kernel), (by decide +kernel), (by decide +kernel), (by decide +kernel), (by decide +kernel), (by decide +kernel), (by decide +kernel), (by decide +kernel), (by decide +kernel), (by decide +kernel)⟩,
   ⟨0, 0, onLanes (fun z => { z with link := [(0, { phase := .retrain, attempts := 5, first := some 0 })] }) (withGroup { partnerReady := true } (linked (put rec0 8 [1]) .retrain [(8, { st := 10 })] State.reset)), (by decide +kernel), (by decide +kernel), (by decide +kernel), (by decide +kernel), (by decide +kernel), (by decide +kernel), (by decide +kernel), (by decide +kernel), (by decide +kernel), (by decide +kernel)⟩,
   ⟨0, withGroup { txReq := 0, txAck := 15 } State.reset, (by decide +kernel), (by decide +kernel)⟩,
   ⟨0, ⟨0, 0, 1, 5⟩, withGroup { swap := some ⟨0, 0, 1, 5⟩ } State.reset, (by decide +kernel), (by decide +kernel)⟩,
   ⟨0, [1, 3], (by decide +kernel), (by decide +kernel)⟩,
   ⟨0, [1, 3], linked rec0 .up [] State.reset, (by decide +kernel), (by decide +kernel), (by decide +kernel), (by decide +kernel)⟩⟩

theorem witness_MemoryWorks :
  (∃ (r : YcpReq) (s : State), Accepted 0x0802 r s ∧ let v := fld (reqBody r) 0 4; let body := fun h => propList [pArr "ORDER" 1 (regions.map fun g => orderOf h g.base)]; let h := { s.hbm with hostOrder := v }; (reqBody r).length = 4 ∧ v ≤ 3 ∧ s.hbm.hostWritten = false ∧ (body h).length ≤ room r) ∧
  (∃ (r : YcpReq) (s : State), Accepted 0x0802 r s ∧ let v := fld (reqBody r) 0 4; (reqBody r).length = 4 ∧ v ≤ 3 ∧ s.hbm.hostWritten = true) ∧
  (∃ (r : YcpReq) (s : State), Accepted 0x0802 r s ∧ let v := fld (reqBody r) 0 4; let body := fun h => propList [pArr "ORDER" 1 (regions.map fun g => orderOf h g.base)]; (reqBody r).length = 4 ∧ v = 0xFF ∧ (body s.hbm).length ≤ room r) ∧
  (∃ (r : YcpReq) (s : State), Accepted 0x0805 r s ∧ (reqBody r).length = 4 ∧ let v := fld (reqBody r) 0 4; 5 ≤ v ∧ v ≤ 40) ∧
  (∃ (r : YcpReq) (s : State), Accepted 0x0805 r s ∧ (reqBody r).length = 4 ∧ let v := fld (reqBody r) 0 4; 40 < v) ∧
  (∃ (r : YcpReq) (s : State), Accepted 0x080A r s ∧ (reqBody r).length = 4 ∧ let v := fld (reqBody r) 0 4; 1 ≤ v ∧ v ≤ 168) ∧
  (∃ (r : YcpReq) (s : State), Accepted 0x080A r s ∧ (reqBody r).length = 4 ∧ let v := fld (reqBody r) 0 4; (v = 0 ∨ 168 < v)) ∧
  (∃ (r : YcpReq) (s : State), Accepted 0x0806 r s ∧ (reqBody r).length = 4 ∧ let v := fld (reqBody r) 0 4; v ≤ 2 ∧ slowHbm s = true) ∧
  (∃ (r : YcpReq) (s : State), Accepted 0x0806 r s ∧ (reqBody r).length = 4 ∧ let v := fld (reqBody r) 0 4; v ≤ 2 ∧ slowHbm s = false ∧ v ≠ s.hbm.rate) ∧
  (∃ (t : Nat) (s : State), s.hbm.target = some t ∧ s.pwr.standby = .no ∧ s.ep.commit = .none ∧ s.hbm.waiting = [] ∧ s.hbm.floor ≤ 100) ∧
  (∃ (t : Nat) (s : State), s.hbm.target = some t ∧ s.pwr.standby = .no ∧ s.ep.commit = .none ∧ ∃ m q, s.hbm.waiting = [m] ∧ (getMbx m s).running = some (0x0806, q) ∧ q.mbx = m ∧ (getMbx m s).lost = false) ∧
  (∃ (f : List Nat) (l : List (Nat × Nat)) (s : State), s.hbm.target = none) ∧
  (∃ (r : YcpReq) (s : State), Accepted 0x0807 r s ∧ let b := reqBody r; let k := fld b 0 1; b.length = 4 ∧ fld b 2 2 = 0 ∧ k < 4 ∧ fld b 1 1 < 32 ∧ (getStack k s).retire.isSome = true) ∧
  (∃ (r : YcpReq) (s : State), Accepted 0x0807 r s ∧ let b := reqBody r; let k := fld b 0 1; b.length = 4 ∧ fld b 2 2 = 0 ∧ k < 4 ∧ fld b 1 1 < 32 ∧ (getStack k s).retire = none ∧ spareIn k s = none) ∧
  (∃ (r : YcpReq) (s : State), Accepted 0x0807 r s ∧ let b := reqBody r; let k := fld b 0 1; let i := 32 * k + fld b 1 1; b.length = 4 ∧ fld b 2 2 = 0 ∧ k < 4 ∧ fld b 1 1 < 32 ∧ ∃ j p, (getStack k s).retire = none ∧ spareIn k s = some j ∧ logicalPc i s = some p ∧ (getPc i s).st ≠ .retired) ∧
  (∃ (r : YcpReq) (s : State) (o : Host.Outcome State Fault Refusal), Accepted 0x0808 r s ∧ (o = exec (.memAccess r) s ∨ o = exec (.memAccessWrite r) s) ∧ let b := reqBody r; let n := fld b 4 4; let a := fld b 8 8; fld b 0 4 = 1 ∧ b.length = 16 ∧ n ≤ 4016 ∧ a + n ≤ 139500000000 ∧ n ≤ room r ∧ spanUe a n s = false) ∧
  (∃ (r : YcpReq) (s : State) (o : Host.Outcome State Fault Refusal), Accepted 0x0808 r s ∧ (o = exec (.memAccess r) s ∨ o = exec (.memAccessWrite r) s) ∧ let b := reqBody r; let n := fld b 4 4; let a := fld b 8 8; fld b 0 4 = 2 ∧ b.length = 16 + n ∧ n ≤ 4016 ∧ baseHOST ≤ a ∧ a + n ≤ 139500000000 ∧ a < 139500000000) ∧
  (∃ (r : YcpReq) (s : State) (o : Host.Outcome State Fault Refusal), Accepted 0x0808 r s ∧ (o = exec (.memAccess r) s ∨ o = exec (.memAccessWrite r) s) ∧ let b := reqBody r; let n := fld b 4 4; let a := fld b 8 8; fld b 0 4 = 2 ∧ b.length = 16 + n ∧ a < baseHOST) ∧
  (∃ (q a : Nat) (d : Bytes) (s : State) (i : Nat), (i < a ∨ a + d.length ≤ i)) ∧
  (∃ (q a : Nat) (d : Bytes) (s : State) (i : Nat), ∃ v, d[i]? = some v) ∧
  (∃ (pc : Nat) (s : State), s.hbm.stopped = true) ∧
  (∃ (x : Pc) (q : HbmReq) (rest : List HbmReq) (s : State), (∀ i, tget 0 s.hbm.panic i = 0) ∧ x.drain = true ∧ x.reads = [] ∧ x.wq = q :: rest ∧ q.write = true) ∧
  (∃ (pc : Nat) (s : State), s.hbm.stopped = false ∧ let x := getPc pc s; let behind := (x.reads ++ x.wq).any fun q => tget 0 s.hbm.panic q.req != 0 || rowHit x q s; behind = true ∧ x.owed < 8) ∧
  (∃ (pc : Nat) (s : State), s.hbm.stopped = false ∧ let x := getPc pc s; let behind := (x.reads ++ x.wq).any fun q => tget 0 s.hbm.panic q.req != 0 || rowHit x q s; behind = true ∧ 8 ≤ x.owed) ∧
  (∃ (pc : Nat) (s : State), s.hbm.stopped = false ∧ let x := getPc pc s; let behind := (x.reads ++ x.wq).any fun q => tget 0 s.hbm.panic q.req != 0 || rowHit x q s; behind = false) ∧
  (∃ (pc : Nat) (q : HbmReq) (rest : List HbmReq) (s : State), (getPc pc s).waitW = q :: rest ∧ (getPc pc s).wq.length < 64) ∧
  (∃ (pc : Nat) (s : State), ((getPc pc s).waitW = [] ∨ 64 ≤ (getPc pc s).wq.length)) ∧
  (∃ (pc : Nat) (q : HbmReq) (rest : List HbmReq) (s : State), (getPc pc s).issued = q :: rest ∧ spanUe (64 * q.line) 64 s = true) ∧
  (∃ (pc : Nat) (s : State), (getPc pc s).issued = []) ∧
  (∃ (pc : Nat) (q : HbmReq) (rest : List HbmReq) (s : State), s.hbm.stopped = false ∧ (getPc pc s).retry = q :: rest ∧ let now := fastClock s; let goes := hasSlot (getPc pc s) (shareOf q.req) now = true ∨ tget 0 s.hbm.panic q.req ≠ 0; goes ∧ spanUe (64 * q.line) 64 s = true ∧ q.tries < 2) ∧
  (∃ (pc : Nat) (q : HbmReq) (rest : List HbmReq) (s : State), s.hbm.stopped = false ∧ (getPc pc s).retry = q :: rest ∧ let now := fastClock s; let goes := hasSlot (getPc pc s) (shareOf q.req) now = true ∨ tget 0 s.hbm.panic q.req ≠ 0; goes ∧ spanUe (64 * q.line) 64 s = true ∧ 2 ≤ q.tries) ∧
  (∃ (pc : Nat) (s : State), s.hbm.stopped = false ∧ (getPc pc s).retry = []) ∧
  (∃ (pc : Nat) (m : Bytes) (s : State), s.hbm.stopped = false ∧ (∀ k, k < 38 → k < m.length → s.hbm.floor ≤ fld m k 1)) ∧
  (∃ (pc : Nat) (m : Bytes) (s : State), s.hbm.stopped = false ∧ ∃ k, k < 38 ∧ k < m.length ∧ fld m k 1 < s.hbm.floor ∧ tget 0 (getPc pc s).low k = 2) ∧
  (∃ (k : Nat) (s : State), (getStack k s).retire = none) ∧
  (∃ (k p j : Nat) (s : State), (getStack k s).retire = some (p, pcLines k p s) ∧ p < 31 ∧ migrationTarget k s = some j ∧ queueEmpty (physPc k p s) s = true ∧ queueEmpty (32 * k + j) s = true) ∧
  (∃ (k : Nat) (s : State), ∃ t, t < 800) ∧
  (∃ (k : Nat) (s : State), ∃ t, 800 ≤ t ∧ t ≤ 850) ∧
  (∃ (pc : Nat) (q : HbmReq) (s : State), s.hbm.stopped = false ∧ pickReq (getPc pc s) (fastClock s) = some q ∧ pc < 128) ∧
  (∃ (pc : Nat) (s : State), s.hbm.stopped = false ∧ pickReq (getPc pc s) (fastClock s) = none) ∧
  (∃ (i : Nat) (q : HbmReq) (s : State), let x := getPc i s; tagsUsed x < 64 ∧ x.waitR = [] ∧ behindWrite x q = false) ∧
  (∃ (i : Nat) (q : HbmReq) (s : State), let x := getPc i s; (64 ≤ tagsUsed x ∨ behindWrite x q = true ∨ (∃ r ∈ x.waitR, behindWrite x r = false))) ∧
  (∃ (pc : Nat) (q : HbmReq) (rest : List HbmReq) (s : State), (getPc pc s).issued = q :: rest ∧ s.hbm.bad = [] ∧ (getPc pc s).waitR = []) ∧
  (∃ (pc : Nat) (q : HbmReq) (rest : List HbmReq) (s : State), (getPc pc s).issued = q :: rest ∧ ∃ w ws, s.hbm.bad = [] ∧ (getPc pc s).waitR = w :: ws ∧ tagsUsed (getPc pc s) = 64 ∧ (getPc pc s).waitW = [] ∧ queuedWrite (getPc pc s) w.line = false) ∧
  (∃ (pc : Nat) (q : HbmReq) (rest : List HbmReq) (s : State), (getPc pc s).issued = q :: rest ∧ q.req = 11 ∧ spanUe (64 * q.line) 64 s = false ∧ correctable q.line s = true) ∧
  (∃ (pc : Nat) (q : HbmReq) (rest : List HbmReq) (s : State), s.hbm.stopped = false ∧ (getPc pc s).retry = q :: rest ∧ let now := fastClock s; let goes := hasSlot (getPc pc s) (shareOf q.req) now = true ∨ tget 0 s.hbm.panic q.req ≠ 0; goes ∧ s.hbm.bad = [] ∧ (getPc pc s).waitR = []) ∧
  (∃ (x : Ctx) (s : State), retrying x s = true ∧ x.pausedAt = none) ∧
  (∃ (x : Ctx) (s : State), ∃ t, retrying x s = false ∧ x.pausedAt = some t) ∧
  (∃ (k p c j : Nat) (s : State), (getStack k s).retire = some (p, c) ∧ c < pcLines k p s ∧ s.hbm.stopped = false ∧ migrationTarget k s = some j) ∧
  (∃ (k : Nat) (s : State), ∃ t, 850 < t ∧ t < 950) ∧
  (∃ (k : Nat) (s : State), ∃ t, 950 ≤ t) ∧
  (∃ (i : Nat) (q : HbmReq) (s : State), let x := getPc i s; queuedWrite x q.line = true) ∧
  (∃ (i : Nat) (q : HbmReq) (s : State), let x := getPc i s; queuedWrite x q.line = false) ∧
  (∃ (pc : Nat) (q : HbmReq) (rest : List HbmReq) (s : State), s.hbm.stopped = false ∧ (getPc pc s).retry = q :: rest ∧ let now := fastClock s; let goes := hasSlot (getPc pc s) (shareOf q.req) now = true ∨ tget 0 s.hbm.panic q.req ≠ 0; ¬goes) ∧
  (∃ (s : State), s.hbm.stopped = false) :=
  ⟨⟨req (leBytes 4 3), ready, takes (by decide +kernel), (by decide +kernel), (by decide +kernel), (by decide +kernel), (by decide +kernel)⟩,
   ⟨req (zeros 4), { ready with hbm := { ready.hbm with hostWritten := true } }, takes (by decide +kernel), (by decide +kernel), (by decide +kernel), (by decide +kernel)⟩,
   ⟨req (leBytes 4 255), ready, takes (by decide +kernel), (by decide +kernel), (by decide +kernel), (by decide +kernel)⟩,
   ⟨req (leBytes 4 5), ready, takes (by decide +kernel), (by decide +kernel), (by decide +kernel), (by decide +kernel)⟩,
   ⟨req (leBytes 4 41), ready, takes (by decide +kernel), (by decide +kernel), (by decide +kernel)⟩,
   ⟨req (leBytes 4 1), ready, takes (by decide +kernel), (by decide +kernel), (by decide +kernel), (by decide +kernel)⟩,
   ⟨req (zeros 4), ready, takes (by decide +kernel), (by decide +kernel), (by decide +kernel)⟩,
   ⟨req (zeros 4), moded mFRUGAL ready, takes (by decide +kernel), (by decide +kernel), (by decide +kernel), (by decide +kernel)⟩,
   ⟨req (leBytes 4 2), ready, takes (by decide +kernel), (by decide +kernel), (by decide +kernel), (by decide +kernel), (by decide +kernel)⟩,
   ⟨0, { State.reset with hbm := { State.reset.hbm with target := some 0 } }, (by decide +kernel), (by decide +kernel), (by decide +kernel), (by decide +kernel), (by decide +kernel)⟩,
   ⟨0, { { State.reset with hbm := { State.reset.hbm with target := some 0, waiting := [0] } } with host := { State.reset.host with mbx := [(0, { running := some (0x0806, req []) })] } }, (by decide +kernel), (by decide +kernel), (by decide +kernel), 0, req [], (by decide +kernel), (by decide +kernel), (by decide +kernel), (by decide +kernel)⟩,
   ⟨[], [], State.reset, (by decide +kernel)⟩,
   ⟨req (zeros 4), { ready with hbm := { ready.hbm with stack := [(0, { retire := some (0, 0) })] } }, takes (by decide +kernel), (by decide +kernel), (by decide +kernel), (by decide +kernel), (by decide +kernel), (by decide +kernel)⟩,
   ⟨req (zeros 4), { ready with hbm := { ready.hbm with pc := [(31, { st := .retired })] } }, takes (by decide +kernel), (by decide +kernel), (by decide +kernel), (by decide +kernel), (by decide +kernel), (by decide +kernel), (by decide +kernel)⟩,
   ⟨req (zeros 4), ready, takes (by decide +kernel), (by decide +kernel), (by decide +kernel), (by decide +kernel), (by decide +kernel), _, _, (by decide +kernel), (Option.some_get (by decide +kernel)).symm, (Option.some_get (by decide +kernel)).symm, (by decide +kernel)⟩,
   ⟨req (leBytes 4 1 ++ zeros 12), ready, _, takes (by decide +kernel), (Or.inl rfl), (by decide +kernel), (by decide +kernel), (by decide +kernel), (by decide +kernel), (by decide +kernel), (by decide +kernel)⟩,
   ⟨req (leBytes 4 2 ++ zeros 4 ++ leBytes 8 baseHOST), ready, _, takes (by decide +kernel), (Or.inl rfl), (by decide +kernel), (by decide +kernel), (by decide +kernel), (by decide +kernel), (by decide +kernel), (by decide +kernel)⟩,
   ⟨req (leBytes 4 2 ++ zeros 12), ready, _, takes (by decide +kernel), (Or.inl rfl), (by decide +kernel), (by decide +kernel), (by decide +kernel)⟩,
   ⟨0, 0, [], State.reset, 0, (by decide +kernel)⟩,
   ⟨0, 0, [0], State.reset, 0, 0, (by decide +kernel)⟩,
   ⟨0, State.reset, (by decide +kernel)⟩,
   ⟨{ drain := true, wq := [{ read0 with write := true }] }, { read0 with write := true }, [], State.reset, (fun _ => rfl), (by decide +kernel), (by decide +kernel), (by decide +kernel), (by decide +kernel)⟩,
   ⟨0, { pc0 { reads := [read0] } [] State.reset with hbm := { (pc0 { reads := [read0] } [] State.reset).hbm with panic := [(0, 1)] } }, (by decide +kernel), (by decide +kernel), (by decide +kernel)⟩,
   ⟨0, { pc0 { reads := [read0], owed := 8 } [] State.reset with hbm := { (pc0 { reads := [read0], owed := 8 } [] State.reset).hbm with panic := [(0, 1)] } }, (by decide +kernel), (by decide +kernel), (by decide +kernel)⟩,
   ⟨0, pc0 {  } [] State.reset, (by decide +kernel), (by decide +kernel)⟩,
   ⟨0, read0, [], pc0 { waitW := [read0] } [] State.reset, (by decide +kernel), (by decide +kernel)⟩,
   ⟨0, State.reset, (by decide +kernel)⟩,
   ⟨0, read0, [], pc0 { issued := [read0] } [(0, 3)] State.reset, (by decide +kernel), (by decide +kernel)⟩,
   ⟨0, State.reset, (by decide +kernel)⟩,
   ⟨0, read0, [], late (pc0 { retry := [read0] } [(0, 3)] State.reset), (by decide +kernel), (by decide +kernel), (Or.inl (by rw [fastClock_late]; decide +kernel; decide +kernel)), (by decide +kernel), (by decide +kernel)⟩,
   ⟨0, { read0 with tries := 2 }, [], late (pc0 { retry := [{ read0 with tries := 2 }] } [(0, 3)] State.reset), (by decide +kernel), (by decide +kernel), (Or.inl (by rw [fastClock_late]; decide +kernel; decide +kernel)), (by decide +kernel), (by decide +kernel)⟩,
   ⟨0, pc0 {} [] State.reset, (by decide +kernel), (by decide +kernel)⟩,
   ⟨0, List.replicate 38 50, pc0 {  } [] State.reset, (by decide +kernel), (by decide +kernel)⟩,
   ⟨0, [0], pc0 { low := [(0, 2)] } [] State.reset, (by decide +kernel), 0, (by decide +kernel), (by decide +kernel), (by decide +kernel), (by decide +kernel)⟩,
   ⟨0, State.reset, (by decide +kernel)⟩,
   ⟨0, 0, _, onHbm (fun z => { z with stack := [(0, { retire := some (0, 17578240) })], pc := [(31, { st := .migrating })] }) State.reset, (by decide +kernel), (by decide +kernel), (Option.some_get (by decide +kernel)).symm, (by decide +kernel), (by decide +kernel)⟩,
   ⟨0, State.reset, 0, (by decide +kernel)⟩,
   ⟨0, State.reset, 800, (by decide +kernel), (by decide +kernel)⟩,
   ⟨0, read0, pc0 { reads := [read0] } [] State.reset, (by decide +kernel), (by decide +kernel), (by decide +kernel)⟩,
   ⟨127, pc0 {} [] State.reset, (by decide +kernel), (by decide +kernel)⟩,
   ⟨0, read0, pc0 { reads := List.replicate 63 read0 } [] State.reset, (by decide +kernel), (by decide +kernel), (by decide +kernel)⟩,
   ⟨0, read0, pc0 { reads := List.replicate 64 read0 } [] State.reset, (Or.inl (by decide +kernel))⟩,
   ⟨0, read0, [], pc0 { issued := [read0] } [] State.reset, (by decide +kernel), (by decide +kernel), (by decide +kernel)⟩,
   ⟨0, read0, List.replicate 63 read0, pc0 { issued := List.replicate 64 read0, waitR := [read0] } [] State.reset, (by decide +kernel), read0, [], (by decide +kernel), (by decide +kernel), (by decide +kernel), (by decide +kernel), (by decide +kernel)⟩,
   ⟨0, { read0 with req := 11 }, [], pc0 { issued := [{ read0 with req := 11 }] } [(0, 1)] State.reset, (by decide +kernel), (by decide +kernel), (by decide +kernel), (by decide +kernel)⟩,
   ⟨0, read0, [], late (pc0 { retry := [read0] } [] State.reset), (by decide +kernel), (by decide +kernel), (Or.inl (by rw [fastClock_late]; decide +kernel; decide +kernel)), (by decide +kernel), (by decide +kernel)⟩,
   ⟨{ ret := [(0, { reads := [0] })] }, pc0 { retry := [{ read0 with req := 2 }] } [] State.reset, (by decide +kernel), (by decide +kernel)⟩,
   ⟨{ pausedAt := some 0 }, State.reset, 0, (by decide +kernel), (by decide +kernel)⟩,
   ⟨0, 0, 0, 31, onHbm (fun z => { z with stack := [(0, { retire := some (0, 0) })], pc := [(31, { st := .migrating })], stopped := false }) (State.reset), (by decide +kernel), Nat.lt_of_lt_of_le (by decide : 0 < 17577984) (Nat.le_add_right _ _), (by decide +kernel), (by decide +kernel)⟩,
   ⟨0, State.reset, 851, (by decide +kernel), (by decide +kernel)⟩,
   ⟨0, State.reset, 950, (by decide +kernel)⟩,
   ⟨0, read0, pc0 { wq := [{ read0 with write := true }] } [] State.reset, (by decide +kernel)⟩,
   ⟨0, read0, pc0 {} [] State.reset, (by decide +kernel)⟩,
   ⟨0, read0, [], late (pc0 { retry := [read0], used := [1000, 0, 0] } [] State.reset), (by decide +kernel), (by decide +kernel), (by rw [fastClock_late]; decide +kernel; decide +kernel)⟩,
   ⟨pc0 {} [] State.reset, (by decide +kernel)⟩⟩

theorem witness_AddressMapIsOneToOne :
  (∃ (h : HbmState) (a b : Nat), a < 2179687500 ∧ b < 2179687500 ∧ placeOf h a = placeOf h b) ∧
  (∃ (k p c : Nat) (s : State), k < 4 ∧ p < 31 ∧ c < 17577984) ∧
  (∃ (k p c : Nat) (s : State), k < 4 ∧ p < 31 ∧ 17577984 ≤ c ∧ c < pcLines k p s) :=
  ⟨⟨{}, 0, 0, (by decide +kernel), (by decide +kernel), (by decide +kernel)⟩,
   ⟨0, 0, 0, State.reset, (by decide +kernel), (by decide +kernel), (by decide +kernel)⟩,
   ⟨0, 0, 17577984, State.reset, (by decide +kernel), (by decide +kernel), (by decide +kernel), (by decide +kernel)⟩⟩

theorem witness_MaceCommandsComplete :
  (∃ (r : YcpReq) (s : State), Accepted 0x0903 r s ∧ (reqBody r).length = 32 ∧ ∃ f, f < 256) ∧
  (∃ (r : YcpReq) (s : State), Accepted 0x0904 r s ∧ (reqBody r).length = 8 ∧ let m := BitVec.ofNat 64 (fld (reqBody r) 0 8); masksUnused m s = false ∧ safeClearDenied m s = false) ∧
  (∃ (r : YcpReq) (s : State), Accepted 0x0904 r s ∧ (reqBody r).length = 8 ∧ let m := BitVec.ofNat 64 (fld (reqBody r) 0 8); masksUnused m s = false ∧ safeClearDenied m s = true) ∧
  (∃ (r : YcpReq) (s : State), Accepted 0x0905 r s ∧ let b := reqBody r; b.length = 16 ∧ fld b 4 4 = 0 ∧ 240 ≤ fld b 0 4 ∧ fld b 0 4 ≤ 255) ∧
  (∃ (r : YcpReq) (s : State), Accepted 0x0905 r s ∧ let b := reqBody r; b.length = 16 ∧ fld b 4 4 = 0 ∧ (fld b 0 4 < 240 ∨ 255 < fld b 0 4)) ∧
  (∃ (r : YcpReq) (s : State), Accepted 0x0906 r s ∧ let b := reqBody r; b.length = 24 ∧ fld b 4 4 = 0 ∧ inMode mASSURED s = false ∧ fld b 0 4 ≤ 4 ∧ fld b 16 8 < 2 ^ 36 ∧ 1 ≤ symCount (fld b 16 8) ∧ symCount (fld b 16 8) ≤ 3) ∧
  (∃ (r : YcpReq) (s : State), Accepted 0x0906 r s ∧ let b := reqBody r; b.length = 24 ∧ fld b 4 4 = 0 ∧ inMode mASSURED s = true) ∧
  (∃ (r : YcpReq) (s : State), Accepted 0x0904 r s ∧ (reqBody r).length = 8 ∧ let m := BitVec.ofNat 64 (fld (reqBody r) 0 8); masksUnused m s = true) :=
  ⟨⟨req (zeros 32), ready, takes (by decide +kernel), (by decide +kernel), 0, (by decide +kernel)⟩,
   ⟨req (zeros 8), ready, takes (by decide +kernel), (by decide +kernel), (by decide +kernel), (by decide +kernel)⟩,
   ⟨req (leBytes 8 1), { ready with mace := { ready.mace with src := [(0, { sourceDefault 0 with severe := true, reaction := rSAFE, scope := 1 })] } }, takes (by decide +kernel), (by decide +kernel), (by decide +kernel), (by decide +kernel)⟩,
   ⟨req (leBytes 4 240 ++ zeros 12), ready, takes (by decide +kernel), (by decide +kernel), (by decide +kernel), (by decide +kernel), (by decide +kernel)⟩,
   ⟨req (leBytes 4 239 ++ zeros 12), ready, takes (by decide +kernel), (by decide +kernel), (by decide +kernel), (by decide +kernel)⟩,
   ⟨req (zeros 16 ++ leBytes 8 1), ready, takes (by decide +kernel), (by decide +kernel), (by decide +kernel), (by decide +kernel), (by decide +kernel), (by decide +kernel), (by decide +kernel), (by decide +kernel)⟩,
   ⟨req (zeros 24), moded mASSURED ready, takes (by decide +kernel), (by decide +kernel), (by decide +kernel), (by decide +kernel)⟩,
   ⟨req (leBytes 8 2), wide0 ready, takes (by decide +kernel), (by decide +kernel), (by decide +kernel)⟩⟩

theorem witness_CheckUnits :
  (∃ (r : YcpReq) (s : State) (u : Nat), Accepted 0x0908 r s ∧ let b := reqBody r; b.length = 16 ∧ fld b 4 4 = 0 ∧ u < 32 ∧ fld b 0 4 = 64 * u + 0x28 ∧ fld b 8 8 < 2 ^ 32) ∧
  (∃ (r : YcpReq) (s : State) (u n : Nat) (p : CrcParams), Accepted 0x0908 r s ∧ let b := reqBody r; b.length = 16 ∧ fld b 4 4 = 0 ∧ u < 32 ∧ fld b 0 4 = 64 * u ∧ fld b 8 8 = 8192 * n ∧ crcPreset n = some p ∧ (getCvu u s).enable = false) ∧
  (∃ (r : YcpReq) (s : State) (u : Nat), Accepted 0x0908 r s ∧ let b := reqBody r; b.length = 16 ∧ fld b 4 4 = 0 ∧ u < 32 ∧ fld b 0 4 = 64 * u ∧ fld b 8 8 = 0x11A01 ∧ (getCvu u s).enable = true ∧ (getCvu u s).mode = 0 ∧ (getCvu u s).badPreset = false ∧ 8 ≤ (getCvu u s).width ∧ (getCvu u s).width ≤ 64 ∧ (getCvu u s).stream ≠ 7 ∧ ((getCvu u s).stream ≤ 3 → (getCvu u s).window ≠ 0)) ∧
  (∃ p, crcPreset 1 = some p) ∧
  (∃ p, crcPreset 2 = some p) ∧
  (∃ p, crcPreset 3 = some p) ∧
  (∃ p, crcPreset 4 = some p) ∧
  (∃ (r : YcpReq) (s : State) (u o : Nat), Accepted 0x0908 r s ∧ let b := reqBody r; b.length = 16 ∧ fld b 4 4 = 0 ∧ u < 32 ∧ o ∈ [0x0C, 0x10, 0x14, 0x18, 0x1C, 0x20, 0x24] ∧ fld b 0 4 = 64 * u + o ∧ fld b 8 8 < 2 ^ 32 ∧ (getCvu u s).enable = true) ∧
  (∃ (r : YcpReq) (s : State) (u n : Nat) (p : CrcParams), Accepted 0x0908 r s ∧ let b := reqBody r; b.length = 16 ∧ fld b 4 4 = 0 ∧ u < 32 ∧ fld b 0 4 = 64 * u ∧ fld b 8 8 = 8192 * n + 1 ∧ crcPreset n = some p ∧ (getCvu u s).enable = true) ∧
  (∃ (u : Nat) (data : Bytes) (s s1 : State), let x := getCvu u s; let res := crc (cvuParams x) (streamBytes x s); cvuRuns u s = true ∧ x.mode = 0 ∧ x.busy = true ∧ windowFull x = true ∧ res = x.expect % 2 ^ x.width ∧ s1 = (if x.stream = 4 then addCtr .REQ_OPS 11 (((streamBytes x s).length + 63) / 64) s else s)) ∧
  (∃ (u : Nat) (data : Bytes) (s : State), (cvuRuns u s = false ∨ (getCvu u s).busy = false ∨ ((getCvu u s).stream ∉ [4, 5] ∧ (getCvu u s).acc.length < (getCvu u s).window))) ∧
  (∃ (u : Nat) (data : Bytes) (s s1 : State), let x := getCvu u s; let res := crc (cvuParams x) (streamBytes x s); cvuRuns u s = true ∧ x.mode = 0 ∧ x.busy = true ∧ windowFull x = true ∧ res ≠ x.expect % 2 ^ x.width ∧ s1 = (if x.stream = 4 then addCtr .REQ_OPS 11 (((streamBytes x s).length + 63) / 64) s else s)) :=
  ⟨⟨req (leBytes 4 0x28 ++ zeros 12), ready, 0, takes (by decide +kernel), (by decide +kernel), (by decide +kernel), (by decide +kernel), (by decide +kernel), (by decide +kernel)⟩,
   ⟨req (zeros 8 ++ leBytes 8 8192), ready, 0, 1, _, takes (by decide +kernel), (by decide +kernel), (by decide +kernel), (by decide +kernel), (by decide +kernel), (by decide +kernel), (Option.some_get (by decide +kernel)).symm, (by decide +kernel)⟩,
   ⟨req (zeros 8 ++ leBytes 8 0x11A01), { ready with mace := { ready.mace with cvu := [(0, { enable := true, window := 1 })] } }, 0, takes (by decide +kernel), (by decide +kernel), (by decide +kernel), (by decide +kernel), (by decide +kernel), (by decide +kernel), (by decide +kernel), (by decide +kernel), (by decide +kernel), (by decide +kernel), (by decide +kernel), (by decide +kernel), (by decide +kernel)⟩,
   ⟨_, (Option.some_get (by decide +kernel)).symm⟩,
   ⟨_, (Option.some_get (by decide +kernel)).symm⟩,
   ⟨_, (Option.some_get (by decide +kernel)).symm⟩,
   ⟨_, (Option.some_get (by decide +kernel)).symm⟩,
   ⟨req (leBytes 4 (64 * 31 + 0x24) ++ zeros 12), onMace (fun z => { z with cvu := [(31, { enable := true })] }) (ready), 31, 0x24, takes (by decide +kernel), (by decide +kernel), (by decide +kernel), (by decide +kernel), (by decide +kernel), (by decide +kernel), (by decide +kernel), (by decide +kernel)⟩,
   ⟨req (zeros 8 ++ leBytes 8 8193), onMace (fun z => { z with cvu := [(0, { enable := true })] }) (ready), 0, 1, _, takes (by decide +kernel), (by decide +kernel), (by decide +kernel), (by decide +kernel), (by decide +kernel), (by decide +kernel), (Option.some_get (by decide +kernel)).symm, (by decide +kernel)⟩,
   ⟨0, [], onMace (fun z => { z with cvu := [(0, { enable := true, window := 1, busy := true, stream := 4, sel := 99 })] }) (State.reset), _, (by decide +kernel), (by decide +kernel), (by decide +kernel), (by decide +kernel), (by decide +kernel), rfl⟩,
   ⟨0, [], onMace (fun z => { z with cvu := [(0, { enable := true, window := 1, busy := true })] }) (State.reset), (Or.inr (Or.inr (by decide +kernel)))⟩,
   ⟨0, [], onMace (fun z => { z with cvu := [(0, { enable := true, window := 1, busy := true, acc := [1] })] }) (State.reset), _, (by decide +kernel), (by decide +kernel), (by decide +kernel), (by decide +kernel), (by decide +kernel), rfl⟩⟩

theorem witness_FaultsAreClassified :
  (∃ (e : FaultEv) (rest : List FaultEv) (s : State), s.mace.inflight = e :: rest ∧ sourceRow e.src = none) ∧
  (∃ (e : FaultEv) (rest : List FaultEv) (s : State), s.mace.inflight = e :: rest ∧ (sourceRow e.src).isSome = true) ∧
  (∃ (e : FaultEv) (s : State), let x := noteEvent e (eventScope e s) (getSource e.src s); x.severe = false ∧ winSum x.win < x.n ∧ x.eventRing = false ∧ e.src ≤ 255) ∧
  (∃ (e : FaultEv) (s : State), let x := noteEvent e (eventScope e s) (getSource e.src s); x.severe = false ∧ x.n ≤ winSum x.win ∧ effReaction (inMode mASSURED s) x = rLOG ∧ e.src ≤ 255) :=
  ⟨⟨{ src := 13, inst := 0, ports := 0 }, [], { State.reset with mace := { State.reset.mace with inflight := [{ src := 13, inst := 0, ports := 0 }] } }, (by decide +kernel), (by decide +kernel)⟩,
   ⟨{ src := 0, inst := 0, ports := 0 }, [], { State.reset with mace := { State.reset.mace with inflight := [{ src := 0, inst := 0, ports := 0 }] } }, (by decide +kernel), (by decide +kernel)⟩,
   ⟨{ src := 9, inst := 0, ports := 0 }, State.reset, (by decide +kernel), (by decide +kernel), (by decide +kernel), (by decide +kernel)⟩,
   ⟨{ src := 3, inst := 0, ports := 0 }, State.reset, (by decide +kernel), (by decide +kernel), (by decide +kernel), (by decide +kernel)⟩⟩

theorem witness_SafeStateEntry :
  (∃ (mask : BitVec 64) (s : State), s.buf.inTx = [] ∧ ∃ p, p < 64) ∧
  (∃ (e : FaultEv) (rest : List FaultEv) (s : State), s.mace.inflight = e :: rest ∧ (sourceRow e.src).isSome = true ∧ s.buf.inTx = [] ∧ let x := noteEvent e (eventScope e s) (getSource e.src s); x.severe = false ∧ x.n ≤ winSum x.win ∧ effReaction (inMode mASSURED s) x = rSAFE) :=
  ⟨⟨0, State.reset, (by decide +kernel), 0, (by decide +kernel)⟩,
   ⟨⟨0, 0, 0⟩, [], onMace (fun z => { z with inflight := [⟨0, 0, 0⟩], src := [(0, { sourceDefault 0 with reaction := rSAFE, n := 1 })] }) State.reset, (by decide +kernel), (by decide +kernel), (by decide +kernel), (by decide +kernel), (by decide +kernel), (by decide +kernel)⟩⟩

theorem witness_ReactionInEffect :
  (∃ (x : MaceSource) (assured : Bool), assured = false) ∧
  (∃ (x : MaceSource) (assured : Bool), assured = true ∧ x.arx ≤ x.reaction) ∧
  (∃ (x : MaceSource) (assured : Bool), assured = true ∧ x.reaction ≤ x.arx) ∧
  (∃ (r : YcpReq) (s : State) (f : Nat) (b : Bytes), Accepted 0x0902 r s ∧ reqBody r = listBody [(f, b)] ∧ b.length = 16 ∧ sourceLayout.clean b = true ∧ fld b 0 1 = f ∧ (sourceRow f).isSome = true ∧ inMode mASSURED s = true ∧ ((sourceDefault f).arx = rSAFE ∨ (sourceDefault f).arx = rWARM) ∧ let x := getSource f s; let y := sourceWritten x b; (effReaction true y < effReaction true x ∨ x.n < y.n ∨ y.w < x.w)) :=
  ⟨⟨sourceDefault 0, false, (by decide +kernel)⟩,
   ⟨sourceDefault 2, true, (by decide +kernel), (by decide +kernel)⟩,
   ⟨sourceDefault 2, true, (by decide +kernel), (by decide +kernel)⟩,
   ⟨req (listBody [(0, (zeros 2 ++ leBytes 2 2 ++ leBytes 4 1 ++ zeros 8))]), moded mASSURED ready, 0, (zeros 2 ++ leBytes 2 2 ++ leBytes 4 1 ++ zeros 8), takes (by decide +kernel), (by decide +kernel), (by decide +kernel), (by decide +kernel), (by decide +kernel), (by decide +kernel), (by decide +kernel), (by decide +kernel), (by decide +kernel)⟩⟩

theorem witness_StepRunsFrontCommand :
  (∃ (s : State), s.pending = [] ∧ nextRequest s = none) ∧
  (∃ (s : State), s.pending = [] ∧ ∃ c t, nextRequest s = some (c, t)) :=
  ⟨⟨State.reset, rfl, rfl⟩,
   ⟨onHost (fun h => { h with waiting := [(0x0100, req [])] }) ready, rfl, _, _, (someEta (by decide +kernel))⟩⟩

theorem witness_ReplayExecutesNothing :
  (∃ (op : Nat) (h : YHandler) (r : YcpReq) (s : State), Accepted op r s ∧ let x := fitted r s (h r (reqBody r) (room r) s); x.wait = false ∧ (∀ u, x.after u = u) ∧ (getMbx r.mbx x.st).lost = false) ∧
  (∃ (op : Nat) (h : YHandler) (r : YcpReq) (s : State), served r s = true ∧ (getMbx r.mbx s).busy = false ∧ (getMbx r.mbx s).lost = false ∧ r.doorbell ≠ r.seq) ∧
  (∃ (op : Nat) (h : YHandler) (r : YcpReq) (s : State), served r s = true ∧ (getMbx r.mbx s).busy = false ∧ (getMbx r.mbx s).lost = false ∧ r.doorbell = r.seq ∧ r.seq = (getMbx r.mbx s).lastSeq ∧ let m := getMbx r.mbx s; (m.lastStatus ≠ stOK ∨ (m.stored.length ≤ room r ∧ (isDma r = true → m.stored ≠ [] → r.dmaWriteOk = true)))) :=
  ⟨⟨0, handler, req [], ready, takes (by decide +kernel), (by decide +kernel), (fun _ => rfl), (by decide +kernel)⟩,
   ⟨0, handler, { req [] with doorbell := 2 }, ready, (by decide +kernel), (by decide +kernel), (by decide +kernel), (by decide +kernel)⟩,
   ⟨0, handler, { req [] with doorbell := 0, seq := 0 }, ready, (by decide +kernel), (by decide +kernel), (by decide +kernel), (by decide +kernel), (by decide +kernel), (Or.inr ⟨(by decide +kernel), fun h => absurd h (by decide +kernel)⟩)⟩⟩

theorem witness_WrongRequestsExecuteNothing :
  (∃ (op : Nat) (h : YHandler) (r : YcpReq) (s : State), served r s = true ∧ (getMbx r.mbx s).busy = false ∧ (getMbx r.mbx s).lost = false ∧ r.doorbell ≠ r.seq) ∧
  (∃ (op : Nat) (h : YHandler) (r : YcpReq) (s : State), served r s = true ∧ (getMbx r.mbx s).busy = true) ∧
  (∃ (n : Nat) (s : State), n < 8 ∧ (getMbx (Fin.ofNat 8 n) s).busy = true) ∧
  (∃ (op : Nat) (r : YcpReq) (s : State), opDefined op = false ∧ served r s = true ∧ (getMbx r.mbx s).busy = false ∧ (getMbx r.mbx s).lost = false ∧ r.doorbell = r.seq ∧ r.seq ≠ (getMbx r.mbx s).lastSeq) ∧
  (∃ (op : Nat) (h : YHandler) (r : YcpReq) (s : State), served r s = true ∧ (getMbx r.mbx s).busy = false ∧ (getMbx r.mbx s).lost = false ∧ r.doorbell = r.seq ∧ r.seq = (getMbx r.mbx s).lastSeq ∧ let m := getMbx r.mbx s; m.lastStatus = stOK ∧ room r < m.stored.length) ∧
  (∃ (op : Nat) (h : YHandler) (r : YcpReq) (s : State), served r s = true ∧ (s.host.stage = stageRECOVERY → op ∈ romOps) ∧ (getMbx r.mbx s).busy = false ∧ r.doorbell = r.seq ∧ r.seq ≠ (getMbx r.mbx s).lastSeq ∧ (4 ≤ executing s ∨ (s.host.waiting ≠ [] ∧ s.host.waiting.head? ≠ some (op, r)))) :=
  ⟨⟨0, handler, { req [] with doorbell := 2 }, ready, (by decide +kernel), (by decide +kernel), (by decide +kernel), (by decide +kernel)⟩,
   ⟨0, handler, req [], { ready with host := { ready.host with mbx := [(0, { busy := true })] } }, (by decide +kernel), (by decide +kernel)⟩,
   ⟨0, { ready with host := { ready.host with mbx := [(0, { busy := true })] } }, (by decide +kernel), (by decide +kernel)⟩,
   ⟨0x7777, req [], ready, (by decide +kernel), (by decide +kernel), (by decide +kernel), (by decide +kernel), (by decide +kernel), (by decide +kernel)⟩,
   ⟨0, handler, { req [] with doorbell := 0, seq := 0 }, onHost (fun h => { h with mbx := [(0, { stored := zeros 4096 })] }) ready, (by decide +kernel), (by decide +kernel), (by decide +kernel), (by decide +kernel), (by decide +kernel), (by decide +kernel), (by decide +kernel)⟩,
   ⟨0, handler, req [], onHost (fun h => { h with waiting := [(0x0100, req [])] }) ready, (by decide +kernel), (by decide +kernel), (by decide +kernel), (by decide +kernel), (by decide +kernel), (Or.inr ⟨(by decide +kernel), (by decide +kernel)⟩)⟩⟩

theorem witness_HostCommandsComplete :
  (∃ (r : YcpReq) (s : State), Accepted 0x0100 r s ∧ (reqBody r).length ≤ room r) ∧
  (∃ (r : YcpReq) (s : State), Accepted 0x0120 r s ∧ let b := reqBody r; b.length = 16 ∧ fld b 1 1 = 1 ∧ fld b 3 1 = 0 ∧ fld b 0 1 ≤ 15 ∧ 6 ≤ fld b 2 1 ∧ fld b 2 1 ≤ 16 ∧ fld b 8 8 % (if fld b 0 1 < 8 then 32 else 64) = 0 ∧ (8 ≤ fld b 0 1 → 2048 ≤ fld b 4 4 ∧ fld b 4 4 ≤ 16384)) ∧
  (∃ (r : YcpReq) (s : State), Accepted 0x0120 r s ∧ let b := reqBody r; b.length = 16 ∧ fld b 1 1 = 0 ∧ fld b 3 1 = 0 ∧ fld b 0 1 ≤ 15) ∧
  (∃ (r : YcpReq) (s : State), Accepted 0x0120 r s ∧ let b := reqBody r; b.length = 16 ∧ fld b 1 1 ≤ 1 ∧ fld b 3 1 = 0 ∧ 15 < fld b 0 1) ∧
  (∃ (r : YcpReq) (s : State), Accepted 0x0122 r s ∧ let b := reqBody r; b.length = 64 ∧ (∀ c, c < 64 → fld b c 1 ≤ 7) ∧ ∃ c, c < 64) ∧
  (∃ (r : YcpReq) (s : State), Accepted 0x8011 r s ∧ reqBody r = [] ∧ inMode mCOMPAT s = true ∧ 16 ≤ room r) ∧
  (∃ (r : YcpReq) (s : State), Accepted 0x8010 r s ∧ let b := reqBody r; b.length = 16 ∧ inMode mCOMPAT s = true ∧ (∀ p, p < 8 → 5 ≤ fld b (2 * p) 2 ∧ fld b (2 * p) 2 ≤ 6553) ∧ ∃ p, p < 8) ∧
  (∃ (r : YcpReq) (s : State), Accepted 0x8010 r s ∧ (reqBody r).length = 16 ∧ inMode mCOMPAT s = false) :=
  ⟨⟨req [], ready, takes (by decide +kernel), (by decide +kernel)⟩,
   ⟨req ([0, 1, 6] ++ zeros 13), ready, takes (by decide +kernel), (by decide +kernel), (by decide +kernel), (by decide +kernel), (by decide +kernel), (by decide +kernel), (by decide +kernel), (by decide +kernel)⟩,
   ⟨req (leBytes 1 15 ++ zeros 15), ready, takes (by decide +kernel), (by decide +kernel), (by decide +kernel), (by decide +kernel), (by decide +kernel)⟩,
   ⟨req (leBytes 1 16 ++ leBytes 1 1 ++ zeros 14), ready, takes (by decide +kernel), (by decide +kernel), (by decide +kernel), (by decide +kernel), (by decide +kernel)⟩,
   ⟨req (zeros 64), ready, takes (by decide +kernel), (by decide +kernel), (by decide +kernel), 0, (by decide +kernel)⟩,
   ⟨req [], moded mCOMPAT ready, (takes (by decide +kernel)), (by decide +kernel), (by decide +kernel), (by decide +kernel)⟩,
   ⟨req ((List.replicate 8 [5, 0]).flatten), moded mCOMPAT ready, takes (by decide +kernel), (by decide +kernel), (by decide +kernel), (by decide +kernel), 0, (by decide +kernel)⟩,
   ⟨req (zeros 16), ready, takes (by decide +kernel), (by decide +kernel), (by decide +kernel)⟩⟩

theorem witness_FirmwareCommandsComplete :
  (∃ (r : YcpReq) (s : State), Accepted 0x0C04 r s ∧ let b := reqBody r; let n := fld b 8 4; let a := slotBase (fld b 0 1 == 1) + fld b 4 4; let m := erased a n s.fw.flash; b.length = 16 + n ∧ fld b 1 3 = 0 ∧ fld b 12 4 = 0 ∧ fld b 0 1 ≤ 1 ∧ runningSlot (fld b 0 1 == 1) s = false ∧ n ≤ 65536 ∧ fld b 4 4 + n ≤ slotSize ∧ programmed a (slice b 16 n) m = slice b 16 n) ∧
  (∃ (r : YcpReq) (s : State), Accepted 0x0C04 r s ∧ let b := reqBody r; b.length = 16 + fld b 8 4 ∧ fld b 1 3 = 0 ∧ fld b 12 4 = 0 ∧ fld b 0 1 ≤ 1 ∧ runningSlot (fld b 0 1 == 1) s = true) ∧
  (∃ (r : YcpReq) (s : State), Accepted 0x0C05 r s ∧ let b := reqBody r; b.length = 8 ∧ fld b 1 7 = 0 ∧ fld b 0 1 ≤ 1 ∧ checkImage (fld b 0 1 == 1) s = .accepted) ∧
  (∃ (r : YcpReq) (s : State), Accepted 0x0C05 r s ∧ let b := reqBody r; b.length = 8 ∧ fld b 1 7 = 0 ∧ fld b 0 1 ≤ 1 ∧ checkImage (fld b 0 1 == 1) s = .rollback) ∧
  (∃ (r : YcpReq) (s : State), Accepted 0x0C05 r s ∧ let b := reqBody r; b.length = 8 ∧ fld b 1 7 = 0 ∧ fld b 0 1 ≤ 1 ∧ checkImage (fld b 0 1 == 1) s = .signature) ∧
  (∃ (r : YcpReq) (s : State), Accepted 0x0C08 r s ∧ let b := reqBody r; b.length = 8 ∧ fld b 1 7 = 0 ∧ s.fw.rollback ≤ fld b 0 1 ∧ fld b 0 1 ≤ 32 ∧ fld b 0 1 ≤ s.fw.imgRollback ∧ 4 ≤ room r) ∧
  (∃ (r : YcpReq) (s : State), Accepted 0x0C08 r s ∧ let b := reqBody r; b.length = 8 ∧ fld b 1 7 = 0 ∧ s.fw.rollback ≤ fld b 0 1 ∧ fld b 0 1 ≤ 32 ∧ s.fw.imgRollback < fld b 0 1) ∧
  (∃ (r : YcpReq) (s : State), Accepted 0x0C02 r s ∧ (reqBody r).length = 32 ∧ 240 ≤ room r) ∧
  (∃ (r : YcpReq) (s : State), Accepted 0x0C01 r s ∧ reqBody r = [] ∧ 4000 ≤ room r) :=
  ⟨⟨req (leBytes 1 1 ++ zeros 3 ++ leBytes 4 (slotSize - 1) ++ leBytes 4 1 ++ zeros 5), ready, takes (by decide +kernel), (by decide +kernel), (by decide +kernel), (by decide +kernel), (by decide +kernel), (by decide +kernel), (by decide +kernel), (by decide +kernel), (by decide +kernel)⟩,
   ⟨req (zeros 16), ready, takes (by decide +kernel), (by decide +kernel), (by decide +kernel), (by decide +kernel), (by decide +kernel), (by decide +kernel)⟩,
   ⟨req (zeros 8), flashed ready, takes (by decide +kernel), (by decide +kernel), (by decide +kernel), (by decide +kernel), (by decide +kernel)⟩,
   ⟨req (zeros 8), { flashed ready with fw := { (flashed ready).fw with rollback := 2 } }, takes (by decide +kernel), (by decide +kernel), (by decide +kernel), (by decide +kernel), (by decide +kernel)⟩,
   ⟨req (zeros 8), { flashed ready with fw := { (flashed ready).fw with flash := cells 0x100000 (put image 8 [1]) } }, takes (by decide +kernel), (by decide +kernel), (by decide +kernel), (by decide +kernel), (by decide +kernel)⟩,
   ⟨req (leBytes 1 32 ++ zeros 7), { ready with fw := { ready.fw with imgRollback := 32 } }, takes (by decide +kernel), (by decide +kernel), (by decide +kernel), (by decide +kernel), (by decide +kernel), (by decide +kernel), (by decide +kernel)⟩,
   ⟨req (leBytes 1 32 ++ zeros 7), ready, takes (by decide +kernel), (by decide +kernel), (by decide +kernel), (by decide +kernel), (by decide +kernel), (by decide +kernel)⟩,
   ⟨req (zeros 32), ready, takes (by decide +kernel), (by decide +kernel), (by decide +kernel)⟩,
   ⟨req [], ready, takes (by decide +kernel), (by decide +kernel), (by decide +kernel)⟩⟩

theorem witness_ActivateSelectsTheSlot :
  (∃ (r : YcpReq) (s : State), Accepted 0x0C06 r s ∧ let b := reqBody r; b.length = 8 ∧ fld b 2 6 = 0 ∧ fld b 0 1 ≤ 1 ∧ fld b 1 1 ≤ 1 ∧ checkImage (fld b 0 1 == 1) s = .accepted ∧ (∀ k, bootNow s = some k → bootSeq (bootCopy k s) < 2 ^ 32 - 1)) ∧
  (∃ (r : YcpReq) (s : State), Accepted 0x0C07 r s ∧ reqBody r = [] ∧ s.fw.trial = true ∧ bootTrial s = true ∧ (∀ k, bootNow s = some k → bootSeq (bootCopy k s) < 2 ^ 32 - 1)) :=
  ⟨⟨req (zeros 8), flashed ready, takes (by decide +kernel), (by decide +kernel), (by decide +kernel), (by decide +kernel), (by decide +kernel), (by decide +kernel), (by intro k e; exact absurd (e.symm.trans (show bootNow (flashed ready) = none by decide +kernel)) (by simp))⟩,
   ⟨req [], trialled ready, takes (by decide +kernel), (by decide +kernel), (by decide +kernel), (by decide +kernel), (by intro k e; have h : bootNow (trialled ready) = some 0 := (by decide +kernel); rw [h] at e; injection e with e; subst e; decide +kernel)⟩⟩

theorem witness_FlashWriteFrame :
  (∃ (f : Tbl Byte) (a : Nat) (data : Bytes) (x : Nat), ∃ i, x = a + i ∧ i < data.length) ∧
  (∃ (f : Tbl Byte) (a : Nat) (data : Bytes) (x : Nat), (x < a ∨ a + data.length ≤ x) ∧ a ≤ 65536 * (x / 65536) ∧ 65536 * (x / 65536) < a + data.length) ∧
  (∃ (f : Tbl Byte) (a : Nat) (data : Bytes) (x : Nat), (x < a ∨ a + data.length ≤ x) ∧ (65536 * (x / 65536) < a ∨ a + data.length ≤ 65536 * (x / 65536))) :=
  ⟨⟨[], 0, [1], 0, 0, rfl, Nat.zero_lt_one⟩,
   ⟨[], 0, [1], 1, (by decide +kernel), (by decide +kernel), (by decide +kernel)⟩,
   ⟨[], 1, [1], 0, (by decide +kernel), (by decide +kernel)⟩⟩

theorem witness_DirectRegisterWrites :
  (∃ (off : Nat) (v : BitVec 32) (s : State), off % 4 = 0 ∧ (off < 0x0010 ∨ off = 0x0014 ∨ off = 0x0090 ∨ off = 0x0098 ∨ off = 0x009C ∨ (0x0220 ≤ off ∧ off < 0x0240) ∨
      (0x0260 ≤ off ∧ off < 0x2000) ∨ (0x2200 ≤ off ∧ off < 0x10000) ∨ 0x18000 ≤ off)) ∧
  (∃ (v : BitVec 32) (s : State), s.host.evrEnable = false) ∧
  (∃ (off : Nat) (v : BitVec 32) (s : State), s.host.evrEnable = true ∧ (off = 0x0080 ∨ off = 0x0084 ∨ off = 0x0088)) ∧
  (∃ (m : Fin 8) (off : Nat) (v : BitVec 32) (s : State), off % 4 = 0 ∧ off < 4096 ∧ (getMbx m s).busy = true) ∧
  (∃ (v : BitVec 32) (s : State), v.getLsbD 0 = true ∧ s.host.sumBusy = false ∧ 262144 ≤ s.host.sumLen) ∧
  (∃ (v : BitVec 32) (s : State), v.getLsbD 0 = true ∧ s.host.sumBusy = false ∧ s.host.sumLen < 262144) ∧
  (∃ (q : Nat) (v : BitVec 32) (s : State), q < 8) :=
  ⟨⟨0, 1, State.reset, (by decide +kernel), (by decide +kernel)⟩,
   ⟨1, State.reset, (by decide +kernel)⟩,
   ⟨0x0080, 1, { ready with host := { ready.host with evrEnable := true } }, (by decide +kernel), (by decide +kernel)⟩,
   ⟨0, 0, 1, { ready with host := { ready.host with mbx := [(0, { busy := true })] } }, (by decide +kernel), (by decide +kernel), (by decide +kernel)⟩,
   ⟨1, { ready with host := { ready.host with sumLen := 262144 } }, (by decide +kernel), (by decide +kernel), (by decide +kernel)⟩,
   ⟨1, State.reset, (by decide +kernel), (by decide +kernel), (by decide +kernel)⟩,
   ⟨0, 1, State.reset, (by decide +kernel)⟩⟩

theorem witness_EventRingOrder :
  (∃ (e : EvEntry) (rest : List EvEntry) (s : State), evrRoom s.host = true ∧ s.host.resetEvent = none ∧ s.host.backlog = e :: rest ∧ s.host.ovfDropped = 0) ∧
  (∃ (s : State), evrRoom s.host = false) ∧
  (∃ (ty : Nat) (b : Bytes) (s : State), evrRoom s.host = false ∧ s.host.backlog.length < 4096) ∧
  (∃ (ty : Nat) (b : Bytes) (s : State), evrRoom s.host = false ∧ 4096 ≤ s.host.backlog.length) ∧
  (∃ (e : EvEntry) (rest : List EvEntry) (s : State), evrRoom s.host = true ∧ s.host.resetEvent = none ∧ s.host.backlog = e :: rest ∧ rest.length < 4096 ∧ 0 < s.host.ovfDropped) ∧
  (∃ (s : State), s.host.modPending = true) ∧
  (∃ (s : State), s.host.modPending = false) :=
  ⟨⟨⟨1, []⟩, [], ringed State.reset, (by decide +kernel), (by decide +kernel), (by decide +kernel), (by decide +kernel)⟩,
   ⟨State.reset, (by decide +kernel)⟩,
   ⟨0, [], State.reset, (by decide +kernel), (by decide +kernel)⟩,
   ⟨0, [], evFull, (by decide +kernel), evFull_len⟩,
   ⟨⟨1, []⟩, [], { (ringed State.reset) with host := { (ringed State.reset).host with ovfDropped := 1 } }, (by decide +kernel), (by decide +kernel), (by decide +kernel), (by decide +kernel), (by decide +kernel)⟩,
   ⟨ringed State.reset, (by decide +kernel)⟩,
   ⟨State.reset, (by decide +kernel)⟩⟩

theorem witness_HostLinkAndLiveness :
  (∃ (s : State), s.host.sumAuto = false ∧ ∃ q, q < 16) ∧
  (∃ (s : State), s.host.sumAuto = false) ∧
  (∃ (s : State), s.pins.perstN = true) ∧
  (∃ (s : State), s.host.linkUp = true) ∧
  (∃ (s : State), s.fw.halted = false) ∧
  (∃ (s : State), s.fw.halted = true) ∧
  (∃ (e : EvEntry) (s : State), evrRoom s.host = true ∧ s.host.resetEvent = some e) ∧
  (∃ (s : State), evrRoom s.host = true ∧ s.host.resetEvent = none ∧ s.host.backlog = []) :=
  ⟨⟨State.reset, (by decide +kernel), 0, (by decide +kernel)⟩,
   ⟨State.reset, (by decide +kernel)⟩,
   ⟨State.reset, (by decide +kernel)⟩,
   ⟨{ ready with host := { ready.host with linkUp := true } }, (by decide +kernel)⟩,
   ⟨State.reset, (by decide +kernel)⟩,
   ⟨{ State.reset with fw := { State.reset.fw with halted := true } }, (by decide +kernel)⟩,
   ⟨⟨18, []⟩, onHost (fun h => { h with evrEnable := true, resetEvent := some ⟨18, []⟩ }) ready, (by decide +kernel), rfl⟩,
   ⟨onHost (fun h => { h with evrEnable := true }) ready, (by decide +kernel), rfl, rfl⟩⟩

theorem witness_SummaryAndFrameDma :
  (∃ (r : YcpReq) (s : State), Accepted 0x0101 r s ∧ let b := reqBody r; b.length = 16 ∧ fld b 12 4 = 0 ∧ fld b 0 4 = 0) ∧
  (∃ (r : YcpReq) (s : State), Accepted 0x0101 r s ∧ let b := reqBody r; let off := fld b 0 4; b.length = 16 ∧ fld b 12 4 = 0 ∧ 0 < off ∧ off ≤ s.host.snap.length ∧ fld b 4 4 = s.host.keptId ∧ s.host.snap ≠ []) ∧
  (∃ (r : YcpReq) (s : State), Accepted 0x0101 r s ∧ let b := reqBody r; b.length = 16 ∧ fld b 12 4 = 0 ∧ 0 < fld b 0 4 ∧ (s.host.snap = [] ∨ fld b 4 4 ≠ s.host.keptId)) ∧
  (∃ (s : State), s.host.sumBusy = true) ∧
  (∃ (q st : Nat) (b : Bytes) (data : Option Bytes) (s : State), q < 8 ∧ queueReady (getQ q s) = true ∧ injBad b s = some st) ∧
  (∃ (q : Nat) (s : State) (data : Option Bytes), q < 8 ∧ queueReady (getQ q s) = true) ∧
  (∃ (q : Nat) (x : PuntItem) (rest : List PuntItem) (entry : Bytes) (s s1 : State), nextPunt s (tget [] s.buf.puntq q) = some (x, rest) ∧ let s0 := { s with buf := { s.buf with puntq := tset [] s.buf.puntq q rest } }; queueReady (getQ (8 + q) s) = true ∧ puntRead x s0 = (true, s1)) ∧
  (∃ (q : Nat) (x : PuntItem) (rest : List PuntItem) (entry : Option Bytes) (ok : Bool) (s : State), nextPunt s (tget [] s.buf.puntq q) = some (x, rest) ∧ queueReady (getQ (8 + q) s) = false) ∧
  (∃ (q pl d st : Nat) (b data : Bytes) (cells : List Nat) (s s0 s1 s2 s3 : State), q < 8 ∧ queueReady (getQ q s) = true ∧ injBad b s = none ∧ let u := fastClock (injWake b s); atLevel poolHOST 3 u = false ∧ u.pwr.ingressStopped = false ∧ pl = rxPipe (injPort b) data u ∧ (injIngress b = false → s0 = u) ∧ (injIngress b = true → injEnters q pl u = some s0) ∧ takeCells (allocCell poolHOST ownINJECT 0) (cellsOf (injLen b + 4)) [] s0 = (some cells, s1) ∧ takeDesc poolFDESC (injFrame b data cells s1) (linkCells (injLen b + 4) cells s1) = some (d, s2) ∧ injRun b d pl (cvuSnoop 0 2 q (fit (injLen b) data) s2) = (st, s3)) ∧
  (∃ (q pl : Nat) (b data : Bytes) (s : State), q < 8 ∧ queueReady (getQ q s) = true ∧ injBad b s = none ∧ injIngress b = true ∧ let u := fastClock (injWake b s); atLevel poolHOST 3 u = false ∧ u.pwr.ingressStopped = false ∧ pl = rxPipe (injPort b) data u ∧ injEnters q pl u = none) ∧
  (∃ (q pl : Nat) (s : State), injOpen pl s = true ∧ tget [] s.flow.rerunq pl = [] ∧ recircWaits pl s = false ∧ (∀ k n, k < 8 → injTurn pl k s = some n → injPlace q pl s ≤ n) ∧ portWaits pl s = false) ∧
  (∃ (q pl : Nat) (s : State), injOpen pl s = true ∧ tget [] s.flow.rerunq pl = [] ∧ recircWaits pl s = false ∧ (∀ k n, k < 8 → injTurn pl k s = some n → injPlace q pl s ≤ n) ∧ portWaits pl s = true ∧ tget 0 s.buf.granted pl < 8) ∧
  (∃ (q pl : Nat) (s : State), injOpen pl s = true ∧ tget [] s.flow.rerunq pl = [] ∧ recircWaits pl s = false ∧ (∀ k n, k < 8 → injTurn pl k s = some n → injPlace q pl s ≤ n) ∧ portWaits pl s = true ∧ 8 ≤ tget 0 s.buf.granted pl) ∧
  (∃ (r : YcpReq) (s : State), Accepted 0x0101 r s ∧ let b := reqBody r; b.length = 16 ∧ fld b 12 4 = 0 ∧ s.host.snap.length < fld b 0 4 ∧ s.host.snap ≠ [] ∧ fld b 4 4 = s.host.keptId) ∧
  (∃ (q k n pl : Nat) (s : State), k < 8 ∧ injTurn pl k s = some n ∧ n < injPlace q pl s) ∧
  (∃ (q n pl : Nat) (s : State), injTurn pl q s = some n) ∧
  (∃ (q k n pl : Nat) (s : State), k < 8 ∧ injTurn pl q s = none ∧ injTurn pl k s = some n) :=
  ⟨⟨req (zeros 16), ready, takes (by decide +kernel), (by decide +kernel), (by decide +kernel), (by decide +kernel)⟩,
   ⟨req (leBytes 4 1 ++ leBytes 4 5 ++ zeros 8), { ready with host := { ready.host with snap := [0], keptId := 5 } }, takes (by decide +kernel), (by decide +kernel), (by decide +kernel), (by decide +kernel), (by decide +kernel), (by decide +kernel), (by decide +kernel)⟩,
   ⟨req (leBytes 4 1 ++ leBytes 4 4 ++ zeros 8), { ready with host := { ready.host with snap := [0], keptId := 5 } }, takes (by decide +kernel), (by decide +kernel), (by decide +kernel), (by decide +kernel), (Or.inr (by decide +kernel))⟩,
   ⟨{ ready with host := { ready.host with sumBusy := true } }, (by decide +kernel)⟩,
   ⟨0, _, zeros 32, none, queues ready, (by decide +kernel), (by decide +kernel), (Option.some_get (by decide +kernel)).symm⟩,
   ⟨0, queues ready, none, (by decide +kernel), (by decide +kernel)⟩,
   ⟨0, copy0, [], [], punted (queues ready), _, (by decide +kernel), (by decide +kernel), rfl⟩,
   ⟨0, copy0, [], none, true, punted ready, (by decide +kernel), (by decide +kernel)⟩,
   ⟨0, 0, _, _, inj0, zeros 60, _, late injState, tookFree (injWake inj0 (late injState)), _, _, _, (by decide +kernel), (by decide +kernel), (by decide +kernel), (by rw [fastClock_late]; decide +kernel; decide +kernel), (by rw [fastClock_late]; decide +kernel; decide +kernel), (by decide +kernel), (fun h => absurd h (by decide +kernel)), (fun _ => (by rw [fastClock_late]; rfl; decide +kernel)), (fstSome (by decide +kernel)), (someEta (by decide +kernel)), rfl⟩,
   ⟨0, 0, inj0, zeros 60, late (portFrame0 injState), (by decide +kernel), (by decide +kernel), (by decide +kernel), (by decide +kernel), (by rw [fastClock_late]; decide +kernel; decide +kernel), (by rw [fastClock_late]; decide +kernel; decide +kernel), (by decide +kernel), (by rw [fastClock_late]; decide +kernel; decide +kernel)⟩,
   ⟨2, 0, ({ port0 ready with pwr := { ready.pwr with domain := [(domPIPE 0, .on)] } }), (by decide +kernel), (by decide +kernel), (by decide +kernel), noTurn (by decide +kernel), (by decide +kernel)⟩,
   ⟨2, 0, portFrame0 ({ port0 ready with pwr := { ready.pwr with domain := [(domPIPE 0, .on)] } }), (by decide +kernel), (by decide +kernel), (by decide +kernel), noTurn (by decide +kernel), (by decide +kernel), (by decide +kernel)⟩,
   ⟨2, 0, granted0 8 (portFrame0 ({ port0 ready with pwr := { ready.pwr with domain := [(domPIPE 0, .on)] } })), (by decide +kernel), (by decide +kernel), (by decide +kernel), noTurn (by decide +kernel), (by decide +kernel), (by decide +kernel)⟩,
   ⟨req (leBytes 4 2 ++ leBytes 4 5 ++ zeros 8), { ready with host := { ready.host with snap := [0], keptId := 5 } }, takes (by decide +kernel), (by decide +kernel), (by decide +kernel), (by decide +kernel), (by decide +kernel), (by decide +kernel)⟩,
   ⟨1, 0, 5, 0, inTurn ready, (by decide +kernel), (by decide +kernel), (by decide +kernel)⟩,
   ⟨0, 5, 0, inTurn ready, (by decide +kernel)⟩,
   ⟨1, 0, 5, 0, inTurn ready, (by decide +kernel), (by decide +kernel), (by decide +kernel)⟩⟩

theorem witness_ResetCommandsStart :
  (∃ (r : YcpReq) (s : State), Accepted 0x0105 r s ∧ let b := reqBody r; b.length = 12 ∧ fld b 8 4 = 0x52535421 ∧ fld b 0 4 = 1) ∧
  (∃ (r : YcpReq) (s : State), Accepted 0x0105 r s ∧ let b := reqBody r; b.length = 12 ∧ fld b 8 4 = 0x52535421 ∧ fld b 0 4 = 2) ∧
  (∃ (r : YcpReq) (s : State), Accepted 0x0105 r s ∧ let b := reqBody r; b.length = 12 ∧ fld b 8 4 = 0x52535421 ∧ fld b 0 4 = 3 ∧ fld b 4 4 = 1) ∧
  (∃ (r : YcpReq) (s : State), Accepted 0x0105 r s ∧ let b := reqBody r; b.length = 12 ∧ fld b 8 4 = 0x52535421 ∧ fld b 0 4 = 3 ∧ fld b 4 4 = 2) ∧
  (∃ (r : YcpReq) (s : State), Accepted 0x0105 r s ∧ let b := reqBody r; b.length = 12 ∧ fld b 8 4 = 0x52535421 ∧ fld b 0 4 = 3 ∧ fld b 4 4 = 3 ∧ inMode mASSURED s = false) ∧
  (∃ (r : YcpReq) (s : State), Accepted 0x0105 r s ∧ let b := reqBody r; b.length = 12 ∧ fld b 8 4 = 0x52535421 ∧ ∃ g, g < 10 ∧ fld b 0 4 = 3 ∧ fld b 4 4 = 0x10 + g ∧ (inMode mASSURED s = false ∨ 8 ≤ g ∨ ∀ k, k < 8 → assuredPort (8 * g + k) s = false)) ∧
  (∃ (r : YcpReq) (s : State), Accepted 0x0105 r s ∧ let b := reqBody r; b.length = 12 ∧ fld b 8 4 = 0x52535421 ∧ ∃ pl, pl < 17 ∧ fld b 0 4 = 3 ∧ fld b 4 4 = 0x20 + pl ∧ isSparePipe pl s = true) ∧
  (∃ (r : YcpReq) (s : State), Accepted 0x0105 r s ∧ let b := reqBody r; b.length = 12 ∧ 1 ≤ fld b 0 4 ∧ fld b 0 4 ≤ 2 ∧ fld b 8 4 ≠ 0x52535421) ∧
  (∃ (r : YcpReq) (s : State), Accepted 0x0105 r s ∧ let b := reqBody r; b.length = 12 ∧ fld b 0 4 = 3 ∧ fld b 4 4 = 3 ∧ inMode mASSURED s = true) ∧
  (∃ (r : YcpReq) (s : State) (pl : Nat), Accepted 0x0105 r s ∧ let b := reqBody r; b.length = 12 ∧ fld b 0 4 = 3 ∧ pl < 17 ∧ fld b 4 4 = 0x20 + pl ∧ isSparePipe pl s = false) ∧
  (∃ (r : YcpReq) (s : State), Accepted 0x0105 r s ∧ let b := reqBody r; b.length = 12 ∧ fld b 0 4 = 3 ∧ blockCode (fld b 4 4) = false) ∧
  (∃ n, n < 2 ^ 32) ∧
  (∃ (s : State), s.time.d0.st = .locked ∧ s.time.d0.owner = 0) ∧
  (∃ (s : State), (s.time.d0.st ≠ .locked ∨ s.time.d0.owner ≠ 0)) ∧
  (∃ (g k : Nat) (s : State), k < 9) ∧
  (∃ (pl half : Nat) (s : State), half < 2) ∧
  (∃ (pl half : Nat) (s : State), half < 2 ∧ s.pwr.standby ≠ .inStandby ∧ tget .off s.pwr.domain (pipeDomain pl) = .off) :=
  ⟨⟨req (leBytes 4 1 ++ zeros 4 ++ leBytes 4 1381192737), ready, takes (by decide +kernel), (by decide +kernel), (by decide +kernel), (by decide +kernel)⟩,
   ⟨req (leBytes 4 2 ++ zeros 4 ++ leBytes 4 1381192737), ready, takes (by decide +kernel), (by decide +kernel), (by decide +kernel), (by decide +kernel)⟩,
   ⟨req (leBytes 4 3 ++ leBytes 4 1 ++ leBytes 4 1381192737), ready, takes (by decide +kernel), (by decide +kernel), (by decide +kernel), (by decide +kernel), (by decide +kernel)⟩,
   ⟨req (leBytes 4 3 ++ leBytes 4 2 ++ leBytes 4 1381192737), ready, takes (by decide +kernel), (by decide +kernel), (by decide +kernel), (by decide +kernel), (by decide +kernel)⟩,
   ⟨req (leBytes 4 3 ++ leBytes 4 3 ++ leBytes 4 1381192737), ready, takes (by decide +kernel), (by decide +kernel), (by decide +kernel), (by decide +kernel), (by decide +kernel), (by decide +kernel)⟩,
   ⟨req (leBytes 4 3 ++ leBytes 4 0x10 ++ leBytes 4 0x52535421), ready, takes (by decide +kernel), (by decide +kernel), (by decide +kernel), 0, (by decide +kernel), (by decide +kernel), (by decide +kernel), (Or.inl (by decide +kernel))⟩,
   ⟨req (leBytes 4 3 ++ leBytes 4 0x30 ++ leBytes 4 0x52535421), ready, takes (by decide +kernel), (by decide +kernel), (by decide +kernel), 16, (by decide +kernel), (by decide +kernel), (by decide +kernel), (by decide +kernel)⟩,
   ⟨req (leBytes 4 1 ++ zeros 8), ready, takes (by decide +kernel), (by decide +kernel), (by decide +kernel), (by decide +kernel)⟩,
   ⟨req (leBytes 4 3 ++ leBytes 4 3 ++ zeros 4), moded mASSURED ready, takes (by decide +kernel), (by decide +kernel), (by decide +kernel), (by decide +kernel), (by decide +kernel)⟩,
   ⟨req (leBytes 4 3 ++ leBytes 4 0x20 ++ zeros 4), ready, 0, takes (by decide +kernel), (by decide +kernel), (by decide +kernel), (by decide +kernel), (by decide +kernel), (by decide +kernel)⟩,
   ⟨req (leBytes 4 3 ++ zeros 8), ready, takes (by decide +kernel), (by decide +kernel), (by decide +kernel), (by decide +kernel)⟩,
   ⟨0, (by decide +kernel)⟩,
   ⟨{ State.reset with time := { State.reset.time with d0 := { State.reset.time.d0 with st := .locked } } }, (by decide +kernel), (by decide +kernel)⟩,
   ⟨State.reset, (by decide +kernel)⟩,
   ⟨0, 0, State.reset, (by decide +kernel)⟩,
   ⟨0, 1, State.reset, (by decide +kernel)⟩,
   ⟨0, 1, State.reset, (by decide +kernel), (by decide +kernel), (by decide +kernel)⟩⟩

theorem witness_WarmResetKeepsTables :
  (∃ (s : State), s.pwr.trained = true) :=
  ⟨{ State.reset with pwr := { State.reset.pwr with trained := true } }, (by decide +kernel)⟩

theorem witness_PinsAndStartUp :
  (∃ (s : State), s.pins.mainPg = true ∧ s.host.stage = stageROM ∧ s.pwr.standby ≠ .inStandby ∧ tget .off s.pwr.domain domMGMT = .off) ∧
  (∃ (s : State), s.pins.mainPg = false ∧ s.pins.jtag < 3) ∧
  (∃ (s : State), s.pins.mainPg = true) ∧
  (∃ (s : State), s.pwr.warm ≠ .none) ∧
  (∃ (s : State), s.pwr.warm = .held) ∧
  (∃ (s : State), s.pwr.warm ≠ .held) ∧
  (∃ (s : State), s.pwr.warmReacted = true ∧ (s.pwr.clockFails = true ∨ s.pwr.supplyFails = true)) ∧
  (∃ (s : State), booting s = true ∧ checkImage (firstSlot s) s = .accepted) ∧
  (∃ (s : State), booting s = true ∧ checkImage (firstSlot s) s ≠ .accepted ∧ checkImage (!firstSlot s) s ≠ .accepted) ∧
  (∃ (s : State), s.pins.testN = false) ∧
  (∃ (s : State), s.host.stage = stageFW_INIT ∧ s.pwr.warm = .none ∧ s.pwr.mgmtOnly = false ∧ s.pwr.standby ≠ .inStandby ∧ domainsSettled step4Domains s = true) ∧
  (∃ (s : State), s.host.stage = stageMEMORY ∧ s.pwr.warm = .none ∧ s.pwr.mgmtOnly = false ∧ s.pwr.standby ≠ .inStandby ∧ domainsSettled hbmDomains s = true) ∧
  (∃ (s : State) (failed : List Nat) (lanes : List (Nat × Nat)), s.host.stage ≠ stageMEMORY) ∧
  (∃ (s : State), s.host.stage = stageLANES ∧ s.pwr.warm = .none ∧ s.pwr.mgmtOnly = false ∧ domainsSettled ((List.range 10).map domLG) s = true ∧ (s.pwr.lastReset ≠ .warm ∨ s.host.sumAuto = false)) ∧
  (∃ (s : State), s.host.stage = stageLANES ∧ s.pwr.warm = .none ∧ s.pwr.mgmtOnly = true) ∧
  (∃ (s : State), s.pwr.warm = .quiescing ∧ s.task.ctx = [] ∧ s.flow.log = [] ∧ s.pins.wrstN = true) ∧
  (∃ (s : State), s.pwr.warm = .quiescing ∧ s.task.ctx = [] ∧ s.flow.log = [] ∧ s.pins.wrstN = false) ∧
  (∃ (s : State), s.pwr.warm = .quiescing ∧ s.pins.wrstN = true) ∧
  (∃ (s : State), s.pwr.warm = .quiescing ∧ s.pins.wrstN = false) ∧
  (∃ (s : State), s.pwr.warm ≠ .quiescing) ∧
  (∃ (s : State), s.pins.mainPg = false ∧ s.pins.rstN = true ∧ s.host.stage = stageROM ∧ s.pwr.standby ≠ .inStandby ∧ tget .off s.pwr.domain domMGMT = .off) ∧
  (∃ (s : State), s.pwr.warm = .none ∧ s.pins.rstN = true ∧ s.pins.mainPg = true ∧ s.buf.inTx = [] ∧ s.flow.log = [] ∧ s.flow.rerunq = [] ∧ s.task.ctx = [] ∧ s.task.level = []) ∧
  (∃ (s : State), s.pins.mainPg = false) ∧
  (∃ (s : State), booting s = true) ∧
  (∃ (s : State), booting s = false) ∧
  (∃ (s : State), booting s = true ∧ checkImage (firstSlot s) s = .accepted ∧ s.pwr.mgmtOnly = false ∧ s.pwr.standby ≠ .inStandby) ∧
  (∃ (s : State), s.pwr.mgmtOnly = false ∧ domainsSettled step4Domains s = false) ∧
  (∃ (s : State), s.pwr.mgmtOnly = false ∧ domainsSettled hbmDomains s = false) ∧
  (∃ (s : State), s.pwr.mgmtOnly = false ∧ domainsSettled ((List.range 10).map domLG) s = false) :=
  ⟨⟨{ State.reset with pins := { State.reset.pins with mainPg := true } }, (by decide +kernel), (by decide +kernel), (by decide +kernel), (by decide +kernel)⟩,
   ⟨State.reset, (by decide +kernel), (by decide +kernel)⟩,
   ⟨{ State.reset with pins := { State.reset.pins with mainPg := true } }, (by decide +kernel)⟩,
   ⟨{ State.reset with pwr := { State.reset.pwr with warm := .held } }, (by decide +kernel)⟩,
   ⟨{ State.reset with pwr := { State.reset.pwr with warm := .held } }, (by decide +kernel)⟩,
   ⟨State.reset, (by decide +kernel)⟩,
   ⟨{ State.reset with pwr := { State.reset.pwr with warmReacted := true, clockFails := true } }, (by decide +kernel), (by decide +kernel)⟩,
   ⟨flashed ({ State.reset with pwr := { State.reset.pwr with domain := [(domMGMT, .on)] } }), (by decide +kernel), (by decide +kernel)⟩,
   ⟨{ State.reset with pwr := { State.reset.pwr with domain := [(domMGMT, .on)] } }, (by decide +kernel), (by decide +kernel), (by decide +kernel)⟩,
   ⟨{ State.reset with pins := { State.reset.pins with testN := false } }, (by decide +kernel)⟩,
   ⟨{ State.reset with host := { State.reset.host with stage := stageFW_INIT } }, (by decide +kernel), (by decide +kernel), (by decide +kernel), (by decide +kernel), (by decide +kernel)⟩,
   ⟨{ State.reset with host := { State.reset.host with stage := stageMEMORY } }, (by decide +kernel), (by decide +kernel), (by decide +kernel), (by decide +kernel), (by decide +kernel)⟩,
   ⟨State.reset, [], [], (by decide +kernel)⟩,
   ⟨{ State.reset with host := { State.reset.host with stage := stageLANES } }, (by decide +kernel), (by decide +kernel), (by decide +kernel), (by decide +kernel), (Or.inr (by decide +kernel))⟩,
   ⟨{ State.reset with host := { State.reset.host with stage := stageLANES }, pwr := { State.reset.pwr with mgmtOnly := true } }, (by decide +kernel), (by decide +kernel), (by decide +kernel)⟩,
   ⟨{ State.reset with pwr := { State.reset.pwr with warm := .quiescing } }, (by decide +kernel), (by decide +kernel), (by decide +kernel), (by decide +kernel)⟩,
   ⟨{ State.reset with pwr := { State.reset.pwr with warm := .quiescing }, pins := { State.reset.pins with wrstN := false } }, (by decide +kernel), (by decide +kernel), (by decide +kernel), (by decide +kernel)⟩,
   ⟨{ State.reset with pwr := { State.reset.pwr with warm := .quiescing } }, (by decide +kernel), (by decide +kernel)⟩,
   ⟨{ State.reset with pwr := { State.reset.pwr with warm := .quiescing }, pins := { State.reset.pins with wrstN := false } }, (by decide +kernel), (by decide +kernel)⟩,
   ⟨State.reset, (by decide +kernel)⟩,
   ⟨State.reset, (by decide +kernel), (by decide +kernel), (by decide +kernel), (by decide +kernel), (by decide +kernel)⟩,
   ⟨{ State.reset with pins := { State.reset.pins with mainPg := true } }, (by decide +kernel), (by decide +kernel), (by decide +kernel), (by decide +kernel), (by decide +kernel), (by decide +kernel), (by decide +kernel), (by decide +kernel)⟩,
   ⟨State.reset, (by decide +kernel)⟩,
   ⟨{ State.reset with pwr := { State.reset.pwr with domain := [(domMGMT, .on)] } }, (by decide +kernel)⟩,
   ⟨State.reset, (by decide +kernel)⟩,
   ⟨flashed ({ State.reset with pwr := { State.reset.pwr with domain := [(domMGMT, .on)] } }), (by decide +kernel), (by decide +kernel), (by decide +kernel), (by decide +kernel)⟩,
   ⟨onPwr (fun p => { p with domain := [(domCORE, .waking)] }) State.reset, (by decide +kernel), (by decide +kernel)⟩,
   ⟨onPwr (fun p => { p with domain := [(domHBM 0, .waking)] }) State.reset, (by decide +kernel), (by decide +kernel)⟩,
   ⟨onPwr (fun p => { p with domain := [(domLG 0, .waking)] }) State.reset, (by decide +kernel), (by decide +kernel)⟩⟩

theorem witness_SleepDepths :
  (∃ (r : YcpReq) (s : State), Accepted 0x0B02 r s ∧ let b := reqBody r; b.length = 8 ∧ fld b 4 4 = 0 ∧ 50 ≤ fld b 0 4 ∧ fld b 0 4 ≤ 100000) ∧
  (∃ (r : YcpReq) (s : State), Accepted 0x0B02 r s ∧ let b := reqBody r; b.length = 8 ∧ fld b 4 4 = 0 ∧ (fld b 0 4 < 50 ∨ 100000 < fld b 0 4)) ∧
  (∃ (p : Nat) (s : State), maySleep p 0 s = true ∧ portDepthOf p s = .active) ∧
  (∃ (p : Nat) (s : State), maySleep p 0 s = false) ∧
  (∃ (p : Nat) (s : State), maySleep p 1 s = true ∧ (portDepthOf p s = .active ∨ portDepthOf p s = .quiet)) ∧
  (∃ (p : Nat) (s : State), portDepthOf p s = .quiet) ∧
  (∃ (p : Nat) (s : State), p < 64 ∧ portDepthOf p s = .doze) ∧
  (∃ (p : Nat) (s : State), portDepthOf p s = .active) ∧
  (∃ (p : Nat) (s : State), inMask s.pwr.waking p = true) ∧
  (∃ (p : Nat) (s : State), inMask s.pwr.waking p = false) ∧
  (∃ (pl half : Nat) (s : State), inMode mFRUGAL s = true ∧ keepPipe pl s = false ∧ inPipeSwap pl s = false ∧ pipeDepthOf (2 * pl + half) s = .active) ∧
  (∃ (k : Nat) (s : State), k < 5 ∧ inMode mFRUGAL s = true ∧ domainOn (domPIPE k) s = true ∧ keepDomain k s = false ∧ (∀ pl ∈ domainPipes k, pipeQualifies pl s = true)) ∧
  (∃ (k : Nat) (s : State), inMode mFRUGAL s = false) :=
  ⟨⟨req (leBytes 4 50 ++ zeros 4), ready, takes (by decide +kernel), (by decide +kernel), (by decide +kernel), (by decide +kernel), (by decide +kernel)⟩,
   ⟨req (leBytes 4 49 ++ zeros 4), ready, takes (by decide +kernel), (by decide +kernel), (by decide +kernel), (by decide +kernel)⟩,
   ⟨0, frugal State.reset, (by decide +kernel), (by decide +kernel)⟩,
   ⟨0, State.reset, (by decide +kernel)⟩,
   ⟨0, frugal State.reset, (by decide +kernel), (by decide +kernel)⟩,
   ⟨0, { State.reset with pwr := { State.reset.pwr with portDepth := [(0, .quiet)] } }, (by decide +kernel)⟩,
   ⟨0, { State.reset with pwr := { State.reset.pwr with portDepth := [(0, .doze)] } }, (by decide +kernel), (by decide +kernel)⟩,
   ⟨0, State.reset, (by decide +kernel)⟩,
   ⟨0, { State.reset with pwr := { State.reset.pwr with waking := 1 } }, (by decide +kernel)⟩,
   ⟨0, State.reset, (by decide +kernel)⟩,
   ⟨0, 0, frugal State.reset, (by decide +kernel), (by decide +kernel), (by decide +kernel), (by decide +kernel)⟩,
   ⟨4, { (frugal State.reset) with pwr := { (frugal State.reset).pwr with domain := [(domPIPE 4, .on)] } }, (by decide +kernel), (by decide +kernel), (by decide +kernel), (by decide +kernel), (by decide +kernel)⟩,
   ⟨0, State.reset, (by decide +kernel)⟩⟩

theorem witness_DomainsAndMonitors :
  (∃ (d : Nat) (late : Bool) (s : State), d ≠ 0 ∧ tget .off s.pwr.domain d = .waking ∧ late = true) ∧
  (∃ (d : Nat) (late : Bool) (s : State), tget .off s.pwr.domain d ≠ .waking) ∧
  (∃ (d : Nat) (s : State), tget .off s.pwr.domain d = .waking ∧ domainPorts d s = []) ∧
  (∃ (d : Nat) (s : State), tget .off s.pwr.domain d = .off ∧ (d < domPIPE 0 ∨ domPIPE 4 < d)) ∧
  (∃ (r : YcpReq) (s : State), Accepted 0x0B04 r s ∧ let b := reqBody r; b.length = 8 ∧ fld b 0 4 = 1 ∧ inMode mASSURED s = false ∧ inMode mJOINED s = false ∧ fld b 4 4 ≤ 100 ∧ s.pwr.standby = .no ∧ standbyBusy s = false) ∧
  (∃ (r : YcpReq) (s : State), Accepted 0x0B04 r s ∧ let b := reqBody r; b.length = 8 ∧ fld b 0 4 = 1 ∧ (inMode mASSURED s = true ∨ inMode mJOINED s = true)) ∧
  (∃ (r : YcpReq) (s : State), Accepted 0x0B04 r s ∧ let b := reqBody r; b.length = 8 ∧ fld b 0 4 = 1 ∧ inMode mASSURED s = false ∧ inMode mJOINED s = false ∧ fld b 4 4 ≤ 100 ∧ standbyBusy s = true) ∧
  (∃ (r : YcpReq) (s : State), Accepted 0x0B04 r s ∧ (reqBody r).length = 8 ∧ fld (reqBody r) 0 4 = 2 ∧ s.pwr.standby = .inStandby) ∧
  (∃ (s : State), s.pwr.standby = .entering ∧ drained s = true) ∧
  (∃ (s : State), s.pwr.standby ≠ .entering) ∧
  (∃ (s : State), s.pwr.standby = .leaving ∧ domainsSettled (hbmDomains ++ standbyDomains) s = true) ∧
  (∃ (rail : Nat) (s : State), s.pins.mainPg = true) ∧
  (∃ (rail : Nat) (s : State), s.pins.mainPg = false) ∧
  (∃ (t : Int) (s : State), 950 ≤ t ∧ t ≤ 1000) ∧
  (∃ (t : Int) (s : State), t < 950) ∧
  (∃ (t : Int) (s : State), 1000 < t ∧ t ≤ 1050) ∧
  (∃ (t : Int) (s : State), 1050 < t ∧ t ≤ 1100 ∧ s.pins.tj ≤ 1050) ∧
  (∃ (t : Int) (s : State), 1100 < t ∧ 1050 < s.pins.tj ∧ s.pins.tj ≤ 1100) ∧
  (∃ (ir : Nat) (s : State), (ir < 3 ∨ (ir ≤ 5 ∧ s.pins.rstN = false))) ∧
  (∃ (ir : Nat) (s : State), (5 < ir ∨ (3 ≤ ir ∧ s.pins.rstN = true))) ∧
  (∃ (s : State) (d : Nat), s.pwr.standby ≠ .inStandby ∧ d ∈ hbmDomains ++ standbyDomains ∧ (tget .off s.pwr.domain d = .off ∨ tget .off s.pwr.domain d = .retention)) ∧
  (∃ (s : State) (d : Nat), s.pwr.standby ≠ .inStandby ∧ d ∈ hbmDomains ++ standbyDomains ∧ tget .off s.pwr.domain d = .failed) ∧
  (∃ (s : State), (s.pwr.standby ≠ .leaving ∨ domainsSettled (hbmDomains ++ standbyDomains) s = false)) :=
  ⟨⟨1, true, { State.reset with pwr := { State.reset.pwr with domain := [(1, .waking)] } }, (by decide +kernel), (by decide +kernel), (by decide +kernel)⟩,
   ⟨0, false, State.reset, (by decide +kernel)⟩,
   ⟨1, { State.reset with pwr := { State.reset.pwr with domain := [(1, .waking)] } }, (by decide +kernel), (by decide +kernel)⟩,
   ⟨0, State.reset, (by decide +kernel), (by decide +kernel)⟩,
   ⟨req (leBytes 4 1 ++ leBytes 4 100), ready, takes (by decide +kernel), (by decide +kernel), (by decide +kernel), (by decide +kernel), (by decide +kernel), (by decide +kernel), (by decide +kernel), (by decide +kernel)⟩,
   ⟨req (leBytes 4 1 ++ zeros 4), moded mASSURED ready, takes (by decide +kernel), (by decide +kernel), (by decide +kernel), (by decide +kernel)⟩,
   ⟨req (leBytes 4 1 ++ zeros 4), { ready with hbm := { ready.hbm with stack := [(0, { retire := some (0, 0) })] } }, takes (by decide +kernel), (by decide +kernel), (by decide +kernel), (by decide +kernel), (by decide +kernel), (by decide +kernel), (by decide +kernel)⟩,
   ⟨req (leBytes 4 2 ++ zeros 4), { ready with pwr := { ready.pwr with standby := .inStandby } }, takes (by decide +kernel), (by decide +kernel), (by decide +kernel), (by decide +kernel)⟩,
   ⟨{ State.reset with pwr := { State.reset.pwr with standby := .entering } }, (by decide +kernel), (by decide +kernel)⟩,
   ⟨State.reset, (by decide +kernel)⟩,
   ⟨{ State.reset with pwr := { State.reset.pwr with standby := .leaving } }, (by decide +kernel), (by decide +kernel)⟩,
   ⟨0, { State.reset with pins := { State.reset.pins with mainPg := true } }, (by decide +kernel)⟩,
   ⟨0, State.reset, (by decide +kernel)⟩,
   ⟨950, State.reset, (by decide +kernel), (by decide +kernel)⟩,
   ⟨0, State.reset, (by decide +kernel)⟩,
   ⟨1001, State.reset, (by decide +kernel), (by decide +kernel)⟩,
   ⟨1051, State.reset, (by decide +kernel), (by decide +kernel), (by decide +kernel)⟩,
   ⟨1101, { State.reset with pins := { State.reset.pins with tj := 1060 } }, (by decide +kernel), (by decide +kernel), (by decide +kernel)⟩,
   ⟨0, State.reset, (by decide +kernel)⟩,
   ⟨6, State.reset, (by decide +kernel)⟩,
   ⟨onPwr (fun p => { p with standby := .leaving }) State.reset, domHBM 0, (by decide +kernel), (by decide +kernel), (Or.inl (by decide +kernel))⟩,
   ⟨onPwr (fun p => { p with standby := .leaving, domain := [(domHBM 0, .failed)] }) State.reset, domHBM 0, (by decide +kernel), (by decide +kernel), (by decide +kernel)⟩,
   ⟨State.reset, (Or.inl (by decide +kernel))⟩⟩

theorem witness_JoinedRing :
  (∃ (r : YcpReq) (s : State) (o : Host.Outcome State Fault Refusal), Accepted 0x0E01 r s ∧ (o = exec (.joinConfigSet r) s ∨ o = exec (.joinConfigAdd r) s ∨ o = exec (.joinConfigTimeouts r) s) ∧ let b := reqBody r; b.length = 80 ∧ fld b 3 1 = 0 ∧ fld b 6 2 = 0 ∧ fld b 1 1 < 16 ∧ fld b 2 1 < 16 ∧ fld b 0 1 = 1 ∧ bit (fld b 1 1) s.host.devid = true ∧ inMode mASSURED s = false ∧ inMode mJOINED s = false ∧ timeoutsInRange b = true ∧ fallbackSound b s = true) ∧
  (∃ (r : YcpReq) (s : State) (o : Host.Outcome State Fault Refusal), Accepted 0x0E01 r s ∧ (o = exec (.joinConfigSet r) s ∨ o = exec (.joinConfigAdd r) s ∨ o = exec (.joinConfigTimeouts r) s) ∧ let b := reqBody r; b.length = 80 ∧ fld b 3 1 = 0 ∧ fld b 6 2 = 0 ∧ fld b 1 1 < 16 ∧ fld b 2 1 < 16 ∧ fld b 0 1 = 1 ∧ bit (fld b 1 1) s.host.devid = true ∧ inMode mASSURED s = false ∧ timeoutsInRange b = true ∧ inMode mJOINED s = true) ∧
  (∃ (r : YcpReq) (s : State) (o : Host.Outcome State Fault Refusal), Accepted 0x0E01 r s ∧ (o = exec (.joinConfigSet r) s ∨ o = exec (.joinConfigAdd r) s ∨ o = exec (.joinConfigTimeouts r) s) ∧ let b := reqBody r; b.length = 80 ∧ fld b 3 1 = 0 ∧ fld b 6 2 = 0 ∧ fld b 1 1 < 16 ∧ fld b 2 1 < 16 ∧ fld b 0 1 = 2 ∧ bit (fld b 1 1) s.host.devid = true) ∧
  (∃ (r : YcpReq) (s : State) (o : Host.Outcome State Fault Refusal), Accepted 0x0E01 r s ∧ (o = exec (.joinConfigSet r) s ∨ o = exec (.joinConfigAdd r) s ∨ o = exec (.joinConfigTimeouts r) s) ∧ let b := reqBody r; b.length = 80 ∧ fld b 3 1 = 0 ∧ fld b 6 2 = 0 ∧ fld b 1 1 < 16 ∧ fld b 2 1 < 16 ∧ fld b 0 1 = 3 ∧ inMode mASSURED s = false ∧ timeoutsInRange b = true) ∧
  (∃ (r : YcpReq) (s : State) (o : Host.Outcome State Fault Refusal), Accepted 0x0E01 r s ∧ (o = exec (.joinConfigSet r) s ∨ o = exec (.joinConfigAdd r) s ∨ o = exec (.joinConfigTimeouts r) s) ∧ let b := reqBody r; b.length = 80 ∧ fld b 3 1 = 0 ∧ fld b 6 2 = 0 ∧ fld b 1 1 < 16 ∧ fld b 2 1 < 16 ∧ fld b 0 1 = 3 ∧ inMode mASSURED s = true ∧ (100 < fld b 8 4 ∨ 360 < fld b 12 4)) ∧
  (∃ (b : Bytes) (s : State), ∃ l, (l = 64 ∨ l = 65) ∧ (getLink l s).phase = .off) ∧
  (∃ (g : Nat) (blk : Bytes) (bad : Bool) (s : State), isUp (64 + g) s = false) ∧
  (∃ (g : Nat) (blk : Bytes) (s : State), isUp (64 + g) s = true ∧ (getChain g s).rxSeq < 4096) ∧
  (∃ (g : Nat) (blk : Bytes) (s : State), isUp (64 + g) s = true ∧ let u := fld blk 0 32; let x := getChain g s; bits u 0 12 = (x.rxSeq + 1) % 4096) ∧
  (∃ (g : Nat) (blk : Bytes) (s : State), isUp (64 + g) s = true ∧ let u := fld blk 0 32; let x := getChain g s; bits u 0 12 ≠ (x.rxSeq + 1) % 4096 ∧ bit u 24 = false) ∧
  (∃ (g : Nat) (s : State), isUp (64 + g) s = true ∧ (getChain g s).unacked ≠ [] ∧ 3 ≤ (getChain g s).retries) ∧
  (∃ (g : Nat) (s : State), (getChain g s).unacked = []) ∧
  (∃ (s : State), isUp 64 s = true ∧ isUp 65 s = true) ∧
  (∃ (s : State), isUp 64 s = false ∧ isUp 65 s = false) ∧
  (∃ (g : Nat) (f : Bytes) (rest : List Bytes) (s : State), g < 2 ∧ (getChain g s).ctl = f :: rest ∧ cfSrc f ≠ s.host.devid ∧ cfHops f ≠ 0 ∧ (getChain g s).held = false) ∧
  (∃ (g : Nat) (f : Bytes) (rest : List Bytes) (s : State), g < 2 ∧ (getChain g s).ctl = f :: rest ∧ cfHops f = 0 ∧ (fld f 16 1 = s.host.devid ∨ fld f 16 1 ≠ neighbour s.host.devid g s)) ∧
  (∃ (g : Nat) (s : State), (getChain g s).ctl = []) ∧
  (∃ (g : Nat) (s : State), fifoHead g 0 s = none) ∧
  (∃ (g : Nat) (s : State), fifoHead g 1 s = none) ∧
  (∃ (g : Nat) (f : Bytes) (fast : Bool) (s : State), inMode mJOINED s = false ∧ fifoHead g 0 s = some (f, fast)) ∧
  (∃ (g : Nat) (f : Bytes) (fast : Bool) (s : State), inMode mJOINED s = false ∧ fifoHead g 1 s = some (f, fast)) ∧
  (∃ (g d : Nat) (f : Bytes) (s : State), g < 2 ∧ cfHops f < 3 ∧ bit s.join.present (cfDst f) = true ∧ usable s.host.devid (1 - g) s = true ∧ cfFast f = true) ∧
  (∃ (g d : Nat) (f : Bytes) (s : State), g < 2 ∧ cfHops f < 3 ∧ bit s.join.present (cfDst f) = true ∧ usable s.host.devid (1 - g) s = true ∧ cfFast f = false) ∧
  (∃ (g : Nat) (s : State), g < 2 ∧ let x := getChain g s; chainUp g s = false ∧ x.wrapped = false ∧ inMode mJOINED s = true ∧ timerDone (s.join.wrapTimeout * 1000) x.wrapTicks = true) ∧
  (∃ (g : Nat) (s : State), g < 2 ∧ let x := getChain g s; (chainUp g s = true ∨ x.wrapped = true ∨ inMode mJOINED s = false ∨ timerDone (s.join.wrapTimeout * 1000) x.wrapTicks = false)) ∧
  (∃ (g : Nat) (s : State), g < 2 ∧ let x := getChain g s; chainUp g s = true ∧ x.wrapped = true) ∧
  (∃ (g : Nat) (s : State), g < 2 ∧ let x := getChain g s; x.wrapped = false) ∧
  (∃ (m : Nat) (s : State), m < 4 ∧ bit s.join.present m = true ∧ m ≠ s.host.devid ∧ inMode mJOINED s = true ∧ ∃ k, k ≠ m) ∧
  (∃ (m : Nat) (s : State), m < 4 ∧ bit s.join.present m = true ∧ m ≠ s.host.devid ∧ inMode mJOINED s = true ∧ ∃ i, i < 16 ∧ homeOf i s ≠ m) ∧
  (∃ (m : Nat) (s : State), m < 4 ∧ bit s.join.present m = true ∧ m ≠ s.host.devid ∧ inMode mJOINED s = true ∧ ∃ i, i < 16 ∧ homeOf i s = m) ∧
  (∃ (m : Nat) (s : State), bit s.join.present m = false) ∧
  (∃ (s : State), movedSubs s = []) ∧
  (∃ (u q : Nat) (s : State), movedSubs s = [u] ∧ mustWait .port u s = false ∧ q = fld s.join.fallback (dirPool (dirEnt u s)) 1 ∧ q ≠ 0xFF) ∧
  (∃ (g : Nat) (blk : Bytes) (s : State), isUp (64 + g) s = true) ∧
  (∃ (f : Bytes) (s : State), cfDst f ≠ s.host.devid) ∧
  (∃ (f : Bytes) (s : State), cfDst f = s.host.devid ∧ (ingressHeld s = true ∨ sentinelDue (chainPipe f s) 0 s = true)) ∧
  (∃ (f : Bytes) (s : State), cfDst f = s.host.devid ∧ ingressHeld s = false ∧ sentinelDue (chainPipe f s) 0 s = false) ∧
  (∃ (g : Nat) (f : Bytes) (fast : Bool) (s : State), inMode mJOINED s = true ∧ chainHeld g s = false ∧ chainEnter f s = none ∧ fifoHead g 0 s = some (f, fast)) ∧
  (∃ (g : Nat) (f : Bytes) (fast : Bool) (s : State), inMode mJOINED s = true ∧ chainHeld g s = false ∧ chainEnter f s = none ∧ fifoHead g 1 s = some (f, fast)) ∧
  (∃ (g d : Nat) (f : Bytes) (fast : Bool) (s s1 u : State), inMode mJOINED s = true ∧ chainHeld g s = false ∧ chainEnter f s = some s1 ∧ chainStore g f s1 = (some d, u) ∧ fifoHead g 0 s = some (f, fast) ∧ cfDst f = s.host.devid) ∧
  (∃ (g d : Nat) (f : Bytes) (fast : Bool) (s s1 u : State), inMode mJOINED s = true ∧ chainHeld g s = false ∧ chainEnter f s = some s1 ∧ chainStore g f s1 = (some d, u) ∧ fifoHead g 0 s = some (f, fast) ∧ cfDst f ≠ s.host.devid) ∧
  (∃ (g d : Nat) (f : Bytes) (fast : Bool) (s s1 u : State), inMode mJOINED s = true ∧ chainHeld g s = false ∧ chainEnter f s = some s1 ∧ chainStore g f s1 = (some d, u) ∧ fifoHead g 1 s = some (f, fast) ∧ cfDst f = s.host.devid) ∧
  (∃ (g d : Nat) (f : Bytes) (fast : Bool) (s s1 u : State), inMode mJOINED s = true ∧ chainHeld g s = false ∧ chainEnter f s = some s1 ∧ chainStore g f s1 = (some d, u) ∧ fifoHead g 1 s = some (f, fast) ∧ cfDst f ≠ s.host.devid) :=
  ⟨⟨req (joinBody 1 1), ready, _, takes (by decide +kernel), (Or.inl rfl), (by decide +kernel), (by decide +kernel), (by decide +kernel), (by decide +kernel), (by decide +kernel), (by decide +kernel), (by decide +kernel), (by decide +kernel), (by decide +kernel), (by decide +kernel), (by decide +kernel)⟩,
   ⟨req (joinBody 1 1), moded mJOINED ready, _, takes (by decide +kernel), (Or.inl rfl), (by decide +kernel), (by decide +kernel), (by decide +kernel), (by decide +kernel), (by decide +kernel), (by decide +kernel), (by decide +kernel), (by decide +kernel), (by decide +kernel), (by decide +kernel)⟩,
   ⟨req (joinBody 2 1), ready, _, takes (by decide +kernel), (Or.inl rfl), (by decide +kernel), (by decide +kernel), (by decide +kernel), (by decide +kernel), (by decide +kernel), (by decide +kernel), (by decide +kernel)⟩,
   ⟨req (joinBody 3 1), ready, _, takes (by decide +kernel), (Or.inl rfl), (by decide +kernel), (by decide +kernel), (by decide +kernel), (by decide +kernel), (by decide +kernel), (by decide +kernel), (by decide +kernel), (by decide +kernel)⟩,
   ⟨req (leBytes 1 3 ++ leBytes 4 0 ++ zeros 3 ++ leBytes 4 1000 ++ zeros 68), moded mASSURED ready, _, takes (by decide +kernel), (Or.inl rfl), (by decide +kernel), (by decide +kernel), (by decide +kernel), (by decide +kernel), (by decide +kernel), (by decide +kernel), (by decide +kernel), (by decide +kernel)⟩,
   ⟨[], State.reset, 64, (by decide +kernel), (by decide +kernel)⟩,
   ⟨0, [0], false, State.reset, (by decide +kernel)⟩,
   ⟨0, [0], chained State.reset, (by decide +kernel), (by decide +kernel)⟩,
   ⟨0, [0], chained State.reset, (by decide +kernel), (by decide +kernel)⟩,
   ⟨0, [5], chained State.reset, (by decide +kernel), (by decide +kernel), (by decide +kernel)⟩,
   ⟨0, withChain { unacked := [(0, [])], retries := 3 } (chained State.reset), (by decide +kernel), (by decide +kernel), (by decide +kernel)⟩,
   ⟨0, State.reset, (by decide +kernel)⟩,
   ⟨chained State.reset, (by decide +kernel), (by decide +kernel)⟩,
   ⟨State.reset, (by decide +kernel), (by decide +kernel)⟩,
   ⟨0, [8, 64], [], withChain { ctl := [[8, 64]] } State.reset, (by decide +kernel), (by decide +kernel), (by decide +kernel), (by decide +kernel), (by decide +kernel)⟩,
   ⟨0, [0], [], withChain { ctl := [[0]] } State.reset, (by decide +kernel), (by decide +kernel), (by decide +kernel), (by decide +kernel)⟩,
   ⟨0, State.reset, (by decide +kernel)⟩,
   ⟨0, State.reset, (by decide +kernel)⟩,
   ⟨0, State.reset, (by decide +kernel)⟩,
   ⟨0, [0], false, withChain { fifoNorm := [[0]] } State.reset, (by decide +kernel), (by decide +kernel)⟩,
   ⟨0, [1], false, withChain { fifoNorm := [[1]] } State.reset, (by decide +kernel), (by decide +kernel)⟩,
   ⟨0, 0, [0, 1], joined State.reset, (by decide +kernel), (by decide +kernel), (by decide +kernel), (by decide +kernel), (by decide +kernel)⟩,
   ⟨0, 0, [0], joined State.reset, (by decide +kernel), (by decide +kernel), (by decide +kernel), (by decide +kernel), (by decide +kernel)⟩,
   ⟨0, onJoin (fun j => { j with group := [(0, { wrapTicks := (10 ^ 9, 0) })] }) (joined State.reset), (by decide +kernel), (by decide +kernel), (by decide +kernel), (by decide +kernel), (by decide +kernel)⟩,
   ⟨0, chained State.reset, (by decide +kernel), (Or.inl (by decide +kernel))⟩,
   ⟨0, withChain { wrapped := true } (chained State.reset), (by decide +kernel), (by decide +kernel), (by decide +kernel)⟩,
   ⟨0, State.reset, (by decide +kernel), (by decide +kernel)⟩,
   ⟨1, joined State.reset, (by decide +kernel), (by decide +kernel), (by decide +kernel), (by decide +kernel), 0, (by decide +kernel)⟩,
   ⟨1, { joined State.reset with join := { (joined State.reset).join with homeMap := [] } }, (by decide +kernel), (by decide +kernel), (by decide +kernel), (by decide +kernel), 0, (by decide +kernel), (by decide +kernel)⟩,
   ⟨1, joined State.reset, (by decide +kernel), (by decide +kernel), (by decide +kernel), (by decide +kernel), 0, (by decide +kernel), (by decide +kernel)⟩,
   ⟨0, State.reset, (by decide +kernel)⟩,
   ⟨State.reset, (by decide +kernel)⟩,
   ⟨5, 0, movedOne, (by decide +kernel), (by decide +kernel), (by decide +kernel), (by decide +kernel)⟩,
   ⟨0, [], chained State.reset, (by decide +kernel)⟩,
   ⟨[32], State.reset, (by decide +kernel)⟩,
   ⟨[0], onEp (fun z => { z with commit := .draining }) State.reset, (by decide +kernel), (Or.inl (by decide +kernel))⟩,
   ⟨[0], State.reset, (by decide +kernel), (by decide +kernel), (by decide +kernel)⟩,
   ⟨0, [0], false, crowded (arriving 0 State.reset), (by decide +kernel), (by decide +kernel), (Option.isNone_iff_eq_none.mp (by decide +kernel)), (by decide +kernel)⟩,
   ⟨0, [1], false, crowded (arriving 1 State.reset), (by decide +kernel), (by decide +kernel), (Option.isNone_iff_eq_none.mp (by decide +kernel)), (by decide +kernel)⟩,
   ⟨0, _, [0], false, arriving 0 State.reset, _, _, (by decide +kernel), (by decide +kernel), (Option.some_get (by decide +kernel)).symm, (fstSome (by decide +kernel)), (by decide +kernel), (by decide +kernel)⟩,
   ⟨0, _, [32], false, arriving 32 State.reset, _, _, (by decide +kernel), (by decide +kernel), (Option.some_get (by decide +kernel)).symm, (fstSome (by decide +kernel)), (by decide +kernel), (by decide +kernel)⟩,
   ⟨0, _, [1], false, arriving 1 State.reset, _, _, (by decide +kernel), (by decide +kernel), (Option.some_get (by decide +kernel)).symm, (fstSome (by decide +kernel)), (by decide +kernel), (by decide +kernel)⟩,
   ⟨0, _, [33], false, arriving 33 State.reset, _, _, (by decide +kernel), (by decide +kernel), (Option.some_get (by decide +kernel)).symm, (fstSome (by decide +kernel)), (by decide +kernel), (by decide +kernel)⟩⟩

theorem witness_ModeWord :
  (∃ (r : YcpReq) (s : State), Accepted 0x0103 r s ∧ let b := reqBody r; let m := BitVec.ofNat 16 (fld b 0 2); b.length = 8 ∧ fld b 2 6 = 0 ∧ fld b 0 2 < 64 ∧ r.epoch = shadowEpoch s ∧ shadowBusy s = false ∧ m.getLsbD mFRUGAL = inMode mFRUGAL s ∧ 8 ≤ room r) ∧
  (∃ (r : YcpReq) (s : State), Accepted 0x0103 r s ∧ let b := reqBody r; let m := BitVec.ofNat 16 (fld b 0 2); b.length = 8 ∧ fld b 2 6 = 0 ∧ fld b 0 2 < 64 ∧ modeRest m = modeRest s.ep.shadowBank.mode ∧ 8 ≤ room r) ∧
  (∃ (r : YcpReq) (s : State), Accepted 0x0103 r s ∧ let b := reqBody r; let m := BitVec.ofNat 16 (fld b 0 2); b.length = 8 ∧ fld b 2 6 = 0 ∧ fld b 0 2 < 64 ∧ modeRest m ≠ modeRest s.ep.shadowBank.mode ∧ r.epoch ≠ shadowEpoch s) ∧
  (∃ (r : YcpReq) (s : State), Accepted 0x0103 r s ∧ let b := reqBody r; let m := BitVec.ofNat 16 (fld b 0 2); b.length = 8 ∧ fld b 2 6 = 0 ∧ fld b 0 2 < 64 ∧ modeRest m ≠ modeRest s.ep.shadowBank.mode ∧ r.epoch = shadowEpoch s ∧ shadowBusy s = true) ∧
  (∃ (r : YcpReq) (s : State), Accepted 0x0103 r s ∧ (reqBody r).length = 8 ∧ fld (reqBody r) 2 6 = 0 ∧ 64 ≤ fld (reqBody r) 0 2) :=
  ⟨⟨req (zeros 8) 1, ready, takes (by decide +kernel), (by decide +kernel), (by decide +kernel), (by decide +kernel), (by decide +kernel), (by decide +kernel), (by decide +kernel), (by decide +kernel)⟩,
   ⟨req (zeros 8), ready, takes (by decide +kernel), (by decide +kernel), (by decide +kernel), (by decide +kernel), (by decide +kernel), (by decide +kernel)⟩,
   ⟨req (leBytes 2 63 ++ zeros 6), ready, takes (by decide +kernel), (by decide +kernel), (by decide +kernel), (by decide +kernel), (by decide +kernel), (by decide +kernel)⟩,
   ⟨req (leBytes 8 1) 1, { ready with ep := { ready.ep with commit := .waitRate } }, takes (by decide +kernel), (by decide +kernel), (by decide +kernel), (by decide +kernel), (by decide +kernel), (by decide +kernel), (by decide +kernel)⟩,
   ⟨req (leBytes 2 64 ++ zeros 6), ready, takes (by decide +kernel), (by decide +kernel), (by decide +kernel), (by decide +kernel)⟩⟩

theorem witness_EpochCommits :
  (∃ (r : YcpReq) (s : State), Accepted 0x0110 r s ∧ let b := reqBody r; b.length = 4 ∧ (fld b 0 4 = 0 ∨ (5 ≤ fld b 0 4 ∧ fld b 0 4 ≤ 1000)) ∧ 8 ≤ room r ∧ shadowBusy s = false ∧ validate s = (stOK, 0) ∧ modeRest (activeMode s) = modeRest s.ep.shadowBank.mode) ∧
  (∃ (r : YcpReq) (s : State), Accepted 0x0110 r s ∧ let b := reqBody r; b.length = 4 ∧ (fld b 0 4 = 0 ∨ (5 ≤ fld b 0 4 ∧ fld b 0 4 ≤ 1000)) ∧ 8 ≤ room r ∧ shadowBusy s = false ∧ s.pwr.standby = .no ∧ s.join.configured = true ∧ validate s = (stOK, 0) ∧ modeRest (activeMode s) ≠ modeRest s.ep.shadowBank.mode ∧ slowHbm s = false) ∧
  (∃ (r : YcpReq) (s : State) (st n : Nat), Accepted 0x0110 r s ∧ let b := reqBody r; b.length = 4 ∧ (fld b 0 4 = 0 ∨ (5 ≤ fld b 0 4 ∧ fld b 0 4 ≤ 1000)) ∧ 8 ≤ room r ∧ s.pwr.standby = .no ∧ s.join.configured = true ∧ shadowBusy s = false ∧ validate s = (st, n) ∧ st ≠ stOK) ∧
  (∃ (r : YcpReq) (s : State), Accepted 0x0110 r s ∧ let b := reqBody r; b.length = 4 ∧ (fld b 0 4 = 0 ∨ (5 ≤ fld b 0 4 ∧ fld b 0 4 ≤ 1000)) ∧ 8 ≤ room r ∧ s.pwr.standby = .no ∧ shadowBusy s = true) ∧
  (∃ (s : State) (m : Fin 8) (q : YcpReq), s.ep.commit = .draining ∧ packetsOf s.ep.activeNo s = 0 ∧ s.ep.commitMbx = some m ∧ (getMbx m s).running = some (0x0110, q) ∧ q.mbx = m ∧ isDma q = false) ∧
  (∃ (s : State), packetsOf s.ep.activeNo s ≠ 0) ∧
  (∃ (s : State) (m : Fin 8) (q : YcpReq), s.ep.commit = .draining ∧ s.ep.commitMbx = some m ∧ (getMbx m s).running = some (0x0110, q) ∧ q.mbx = m) ∧
  (∃ (s : State), s.ep.commit ≠ .draining) ∧
  (∃ (s : State), bankSt (!s.ep.activeNo) s = .draining ∧ inFlight (!s.ep.activeNo) s = 0) ∧
  (∃ (s : State), inFlight (!s.ep.activeNo) s ≠ 0) ∧
  (∃ (r : YcpReq) (s : State), Accepted 0x0111 r s ∧ reqBody r = [] ∧ r.epoch = shadowEpoch s ∧ shadowBusy s = false) ∧
  (∃ (r : YcpReq) (s : State), Accepted 0x0111 r s ∧ reqBody r = [] ∧ r.epoch = shadowEpoch s ∧ shadowBusy s = true) ∧
  (∃ (r : YcpReq) (s : State), Accepted 0x0111 r s ∧ reqBody r = [] ∧ r.epoch ≠ shadowEpoch s) ∧
  (∃ (s : State), s.ep.copyMbx.isSome = true) ∧
  (∃ (s : State) (m : Fin 8), s.ep.copyMbx = some m ∧ s.ep.copyLeft ≠ 0) ∧
  (∃ (s : State) (m : Fin 8) (q : YcpReq), s.ep.copyMbx = some m ∧ s.ep.copyLeft = 0 ∧ (getMbx m s).running = some (0x0111, q) ∧ q.mbx = m ∧ (getMbx m s).lost = false ∧ halvesTaken s = false) ∧
  (∃ (s : State) (m : Fin 8) (q : YcpReq), s.ep.copyMbx = some m ∧ s.ep.copyLeft = 0 ∧ (getMbx m s).running = some (0x0111, q) ∧ q.mbx = m ∧ (getMbx m s).lost = false ∧ halvesTaken s = true ∧ ∃ i, i < 32768) :=
  ⟨⟨req (zeros 4), ready, takes (by decide +kernel), (by decide +kernel), (by decide +kernel), (by decide +kernel), (by decide +kernel), (by decide +kernel), (by decide +kernel)⟩,
   ⟨req (zeros 4), shadowMode mASSURED ({ ready with join := { ready.join with configured := true } }), takes (by decide +kernel), (by decide +kernel), (by decide +kernel), (by decide +kernel), (by decide +kernel), (by decide +kernel), (by decide +kernel), (by decide +kernel), (by decide +kernel), (by decide +kernel)⟩,
   ⟨req (zeros 4), { ready with join := { ready.join with configured := true }, ep := { ready.ep with parserBad := [(32768, 1)] } }, _, _, takes (by decide +kernel), (by decide +kernel), (by decide +kernel), (by decide +kernel), (by decide +kernel), (by decide +kernel), (by decide +kernel), (Prod.eta _).symm, (by decide +kernel)⟩,
   ⟨req (zeros 4), { ready with ep := { ready.ep with commit := .draining } }, takes (by decide +kernel), (by decide +kernel), (by decide +kernel), (by decide +kernel), (by decide +kernel), (by decide +kernel)⟩,
   ⟨commitWaits State.reset, 0, req (zeros 4), (by decide +kernel), (by decide +kernel), (by decide +kernel), (by decide +kernel), (by decide +kernel), (by decide +kernel)⟩,
   ⟨flying State.reset, (by decide +kernel)⟩,
   ⟨commitWaits State.reset, 0, req (zeros 4), (by decide +kernel), (by decide +kernel), (by decide +kernel), (by decide +kernel)⟩,
   ⟨State.reset, (by decide +kernel)⟩,
   ⟨{ State.reset with ep := { State.reset.ep with st1 := .draining } }, (by decide +kernel), (by decide +kernel)⟩,
   ⟨{ State.reset with task := { State.reset.task with ctx := [(0, { bank := true })] } }, (by decide +kernel)⟩,
   ⟨req [] 1, ready, takes (by decide +kernel), (by decide +kernel), (by decide +kernel), (by decide +kernel)⟩,
   ⟨req [] 1, { ready with ep := { ready.ep with commit := .draining } }, takes (by decide +kernel), (by decide +kernel), (by decide +kernel), (by decide +kernel)⟩,
   ⟨req [], ready, takes (by decide +kernel), (by decide +kernel), (by decide +kernel)⟩,
   ⟨copying 0, (by decide +kernel)⟩,
   ⟨copying 1, 0, (by decide +kernel), (by decide +kernel)⟩,
   ⟨copying 0, 0, req [], (by decide +kernel), (by decide +kernel), (by decide +kernel), (by decide +kernel), (by decide +kernel), (by decide +kernel)⟩,
   ⟨onEp (fun e => { e with dup := .active }) (copying 0), 0, req [], (by decide +kernel), (by decide +kernel), (by decide +kernel), (by decide +kernel), (by decide +kernel), (by decide +kernel), 0, (by decide +kernel)⟩⟩

theorem witness_TcamTwins :
  (∃ (b : Bool) (n : Nat) (s : State), n < 65536 ∧ ∃ c k, k < 65536 ∧ (c, k) ≠ (b, n)) ∧
  (∃ (k n : Nat) (b : Bool) (s : State), 1 ≤ k ∧ k ≤ 5 ∧ n < 4096) ∧
  (∃ (b : Bool) (n : Nat) (s : State), n < 65536 ∧ tcamBad b n s = true ∧ twinned b n s = true ∧ tcamBad (twinOf b n).1 (twinOf b n).2 s = false ∧ ∃ c k, (c, k) ≠ (b, n)) ∧
  (∃ (b : Bool) (n : Nat) (s : State), tcamBad b n s = false) ∧
  (∃ (s : State), s.ep.dup = .pending ∧ ∃ i, i < 32768) ∧
  (∃ (s : State), s.ep.dup ≠ .pending) ∧
  (∃ (s : State), s.ep.dup = .clearing ∧ ∃ (b : Bool) (i : Nat), i < 32768) ∧
  (∃ (s : State), s.ep.dup ≠ .clearing) :=
  ⟨⟨false, 0, State.reset, (by decide +kernel), true, 0, (by decide +kernel), (by decide +kernel)⟩,
   ⟨1, 0, false, State.reset, (by decide +kernel), (by decide +kernel), (by decide +kernel)⟩,
   ⟨false, 0, { State.reset with ep := { State.reset.ep with tcamBad := [(0, 1)], dup := .active } }, (by decide +kernel), (by decide +kernel), (by decide +kernel), (by decide +kernel), true, 0, (by decide +kernel)⟩,
   ⟨false, 0, State.reset, (by decide +kernel)⟩,
   ⟨{ State.reset with ep := { State.reset.ep with dup := .pending } }, (by decide +kernel), 0, (by decide +kernel)⟩,
   ⟨State.reset, (by decide +kernel)⟩,
   ⟨{ State.reset with ep := { State.reset.ep with dup := .clearing } }, (by decide +kernel), false, 0, (by decide +kernel)⟩,
   ⟨State.reset, (by decide +kernel)⟩⟩

theorem witness_SpareSwaps :
  (∃ (r : YcpReq) (s : State), Accepted 0x0108 r s ∧ (reqBody r).length = 32 ∧ policyLayout.clean (reqBody r) = true ∧ policyLayout.inRange (reqBody r) = true) ∧
  (∃ (r : YcpReq) (s : State), Accepted 0x0108 r s ∧ (reqBody r).length = 32 ∧ policyLayout.clean (reqBody r) = true ∧ policyLayout.inRange (reqBody r) = false) ∧
  (∃ (r : YcpReq) (s : State) (b n : Nat), Accepted 0x0109 r s ∧ (reqBody r).length = 8 ∧ fld (reqBody r) 0 4 = 2 ∧ let pl := fld (reqBody r) 4 4; pl < 17 ∧ blockOfPipe pl s = some b ∧ s.spare.swap = none ∧ sparePipe false s = some n ∧ domainOn (pipeDomain pl) s = true ∧ domainOn (pipeDomain n) s = true ∧ (∀ k, pipeDepthOf k s ≠ .powerGated)) ∧
  (∃ (r : YcpReq) (s : State) (t : Nat) (rest : List Nat), Accepted 0x0109 r s ∧ (reqBody r).length = 8 ∧ fld (reqBody r) 0 4 = 5 ∧ let n := fld (reqBody r) 4 4; n < 32 ∧ (∀ x ∈ s.spare.tcamCopy, x.1 ≠ n) ∧ s.spare.tcamFree = t :: rest) ∧
  (∃ (r : YcpReq) (s : State), Accepted 0x0109 r s ∧ (reqBody r).length = 8 ∧ swapState (fld (reqBody r) 0 4) (fld (reqBody r) 4 4) false s ≠ stOK) ∧
  (∃ (w : PipeSwap) (s : State), s.spare.swap = some w ∧ s.spare.pipeWait = [] ∧ domainOn (pipeDomain w.new) s = true ∧ ∃ b, b ≠ w.block) ∧
  (∃ (w : PipeSwap) (s : State), s.spare.swap = some w ∧ s.spare.pipeWait = [] ∧ domainOn (pipeDomain w.new) s = true ∧ ∃ p ∈ blockPorts w.block s, p < 64) ∧
  (∃ (w : PipeSwap) (s : State), s.spare.swap = some w ∧ s.spare.pipeWait = [] ∧ domainOn (pipeDomain w.new) s = true) ∧
  (∃ (s : State), s.spare.swap = none) ∧
  (∃ (n k : Nat) (rest : List (Nat × Nat)) (s : State), s.spare.tcamCopy = (n, k) :: rest) ∧
  (∃ (s : State), s.spare.tcamCopy = []) ∧
  (∃ (x : Nat) (rest : List Nat) (s : State), s.spare.rowPend = x :: rest) ∧
  (∃ (s : State), s.spare.rowPend = []) ∧
  (∃ (w : PipeSwap) (s : State), s.spare.swap = some w ∧ domainOn (pipeDomain w.new) s = false) :=
  ⟨⟨req (policyDefault), ready, takes (by decide +kernel), (by decide +kernel), (by decide +kernel), (by decide +kernel)⟩,
   ⟨req (zeros 32), ready, takes (by decide +kernel), (by decide +kernel), (by decide +kernel), (by decide +kernel)⟩,
   ⟨req (leBytes 4 2 ++ zeros 4), { ready with pwr := { ready.pwr with domain := [(pipeDomain 0, .on), (pipeDomain 16, .on)] } }, 0, 16, takes (by decide +kernel), (by decide +kernel), (by decide +kernel), (by decide +kernel), (by decide +kernel), (by decide +kernel), (by decide +kernel), (by decide +kernel), (by decide +kernel), (fun _ h => nomatch h)⟩,
   ⟨req (leBytes 4 5 ++ zeros 4), ready, 32, [33], takes (by decide +kernel), (by decide +kernel), (by decide +kernel), (by decide +kernel), (by decide +kernel), (by decide +kernel)⟩,
   ⟨req (zeros 8), ready, takes (by decide +kernel), (by decide +kernel), (by decide +kernel)⟩,
   ⟨⟨0, 16, 0, false⟩, { State.reset with spare := { State.reset.spare with swap := some ⟨0, 16, 0, false⟩ }, pwr := { State.reset.pwr with domain := [(pipeDomain 16, .on)] } }, (by decide +kernel), (by decide +kernel), (by decide +kernel), 1, (by decide +kernel)⟩,
   ⟨⟨0, 16, 0, false⟩, port0 ({ State.reset with spare := { State.reset.spare with swap := some ⟨0, 16, 0, false⟩ }, pwr := { State.reset.pwr with domain := [(pipeDomain 16, .on)] } }), (by decide +kernel), (by decide +kernel), (by decide +kernel), 0, (by decide +kernel), (by decide +kernel)⟩,
   ⟨⟨0, 16, 0, false⟩, { State.reset with spare := { State.reset.spare with swap := some ⟨0, 16, 0, false⟩ }, pwr := { State.reset.pwr with domain := [(pipeDomain 16, .on)] } }, (by decide +kernel), (by decide +kernel), (by decide +kernel)⟩,
   ⟨State.reset, (by decide +kernel)⟩,
   ⟨0, 32, [], { State.reset with spare := { State.reset.spare with tcamCopy := [(0, 32)] } }, (by decide +kernel)⟩,
   ⟨State.reset, (by decide +kernel)⟩,
   ⟨0, [], { State.reset with spare := { State.reset.spare with rowPend := [0] } }, (by decide +kernel)⟩,
   ⟨State.reset, (by decide +kernel)⟩,
   ⟨⟨0, 16, 0, false⟩, { State.reset with spare := { State.reset.spare with swap := some ⟨0, 16, 0, false⟩ } }, (by decide +kernel), (by decide +kernel)⟩⟩

theorem witness_ServiceLife :
  (∃ (pl : Nat) (ok : Bool) (s : State), domainOn (pipeDomain pl) s = false) ∧
  (∃ (pl : Nat) (ok : Bool) (s : State), domainOn (pipeDomain pl) s = true ∧ sentinelHalves pl s = []) ∧
  (∃ (pl : Nat) (s : State), domainOn (pipeDomain pl) s = true ∧ sentinelHalves pl s = [0, 1] ∧ tget? s.spare.pipeJudge pl = none) ∧
  (∃ (pl : Nat) (s : State), domainOn (pipeDomain pl) s = true ∧ sentinelHalves pl s ≠ []) ∧
  (∃ (pl n : Nat) (s : State), domainOn (pipeDomain pl) s = true ∧ sentinelHalves pl s ≠ [] ∧ tget? s.spare.pipeJudge pl = some n ∧ n % 16 < 2) ∧
  (∃ (pl n : Nat) (s : State), domainOn (pipeDomain pl) s = true ∧ sentinelHalves pl s ≠ [] ∧ tget? s.spare.pipeJudge pl = some n ∧ 2 ≤ n % 16) ∧
  (∃ (ro : List Nat) (s : State), today s = s.spare.wearDay ∧ ∃ k v, k < 130 ∧ ro[k]? = some v) ∧
  (∃ (s : State), polBit 0 s = false) ∧
  (∃ (s : State), today s = s.spare.wearDay ∧ s.spare.running.isSome = true) ∧
  (∃ (s : State) (u : Nat), today s = s.spare.wearDay ∧ polBit 0 s = true ∧ s.spare.running = none ∧ (∀ k, 1 ≤ k → k < 5 → policyUnit k s = none) ∧ policyUnit 5 s = some u) ∧
  (∃ (s : State) (k u : Nat), s.spare.waiting = some (k, u) ∧ polBit 0 s = true ∧ windowOpen s = true ∧ s.spare.running = none ∧ swapState k u true { s with spare := { s.spare with waiting := none } } = stOK) ∧
  (∃ (s : State), (s.spare.waiting = none ∨ windowOpen s = false)) ∧
  (∃ (pl : Nat) (ok : Bool) (s : State), domainOn (pipeDomain pl) s = true) ∧
  (∃ (pl : Nat) (ok : Bool) (s : State) (h : Nat), domainOn (pipeDomain pl) s = true ∧ h < 2 ∧ h ∉ sentinelHalves pl s) ∧
  (∃ (pl : Nat) (ok : Bool) (s : State) (h : Nat), domainOn (pipeDomain pl) s = true ∧ h < 2 ∧ h ∈ sentinelHalves pl s) :=
  ⟨⟨0, false, State.reset, (by decide +kernel)⟩,
   ⟨0, true, { State.reset with pwr := { State.reset.pwr with domain := [(domPIPE 0, .on)], pipeDepth := [(0, .gated), (1, .gated)] } }, (by decide +kernel), (by decide +kernel)⟩,
   ⟨0, { State.reset with pwr := { State.reset.pwr with domain := [(domPIPE 0, .on)] } }, (by decide +kernel), (by decide +kernel), (by decide +kernel)⟩,
   ⟨0, { State.reset with pwr := { State.reset.pwr with domain := [(domPIPE 0, .on)] } }, (by decide +kernel), (by decide +kernel)⟩,
   ⟨0, 1, { State.reset with pwr := { State.reset.pwr with domain := [(domPIPE 0, .on)] }, spare := { State.reset.spare with pipeJudge := [(0, 1)] } }, (by decide +kernel), (by decide +kernel), (by decide +kernel), (by decide +kernel)⟩,
   ⟨0, 2, { State.reset with pwr := { State.reset.pwr with domain := [(domPIPE 0, .on)] }, spare := { State.reset.spare with pipeJudge := [(0, 2)] } }, (by decide +kernel), (by decide +kernel), (by decide +kernel), (by decide +kernel)⟩,
   ⟨[5], State.reset, (by decide +kernel), 0, 5, (by decide +kernel), (by decide +kernel)⟩,
   ⟨{ State.reset with spare := { State.reset.spare with policy := zeros 32 } }, (by decide +kernel)⟩,
   ⟨{ State.reset with spare := { State.reset.spare with running := some (5, 0) } }, (by decide +kernel), (by decide +kernel)⟩,
   ⟨agedTcam, 3, (by decide +kernel), (by decide +kernel), (by decide +kernel), (fun k _ h => (by decide +kernel : ∀ j, j < 5 → policyUnit j agedTcam = none ∨ j = 0) k h |>.resolve_right (by omega)), (by decide +kernel)⟩,
   ⟨{ State.reset with spare := { State.reset.spare with waiting := some (5, 0), policy := openWindow } }, 5, 0, (by decide +kernel), (by decide +kernel), (by decide +kernel), (by decide +kernel), (by decide +kernel)⟩,
   ⟨State.reset, (by decide +kernel)⟩,
   ⟨0, true, { State.reset with pwr := { State.reset.pwr with domain := [(domPIPE 0, .on)] } }, (by decide +kernel)⟩,
   ⟨0, true, { State.reset with pwr := { State.reset.pwr with domain := [(domPIPE 0, .on)], pipeDepth := [(0, .gated)] } }, 0, (by decide +kernel), (by decide +kernel), (by decide +kernel)⟩,
   ⟨0, true, { State.reset with pwr := { State.reset.pwr with domain := [(domPIPE 0, .on)], pipeDepth := [(0, .gated)] } }, 1, (by decide +kernel), (by decide +kernel), (by decide +kernel)⟩⟩

theorem witness_ObservationAndTrace :
  (∃ (a : Nat) (s : State), 0x300000000 ≤ a ∧ a < 2 ^ 40) ∧
  (∃ (a : Nat) (s : State), 0x1000000 ≤ a ∧ a < 0x1800000 ∧ domainOn domCORE s = false) ∧
  (∃ (s : State) (v : Nat), v = b2n s.obs.notReady + 2 * b2n s.obs.ue + 4 * b2n s.obs.map + 8 * b2n s.obs.badCmd + 256 * s.obs.words) ∧
  (∃ (b : Byte) (s : State), b ≠ 0x03 ∧ b ≠ 0x05 ∧ b ≠ 0x9F) ∧
  (∃ (r : YcpReq) (s : State), Accepted 0x0D20 r s ∧ let b := reqBody r; b.length = 146 ∧ traceSetLayout.clean b = true ∧ (fld b 0 1 = 1 ∨ fld b 0 1 = 2) ∧ traceSetLayout.inRange b = true ∧ (fld b 4 2 < 256 ∨ fld b 4 2 = 0xFFFF) ∧ s.obs.trc = .running) ∧
  (∃ (r : YcpReq) (s : State), Accepted 0x0D20 r s ∧ let b := reqBody r; b.length = 146 ∧ traceSetLayout.clean b = true ∧ (fld b 0 1 = 1 ∨ fld b 0 1 = 2) ∧ traceSetLayout.inRange b = true ∧ (fld b 4 2 < 256 ∨ fld b 4 2 = 0xFFFF) ∧ s.obs.trc ≠ .running ∧ ∃ k, k < 8) ∧
  (∃ (r : YcpReq) (s : State) (o : Host.Outcome State Fault Refusal), Accepted 0x0D21 r s ∧ (reqBody r).length = 4 ∧ (o = exec (.traceStart r) s ∨ o = exec (.traceStop r) s ∨ o = exec (.traceClear r) s) ∧ fld (reqBody r) 0 4 = 1) ∧
  (∃ (r : YcpReq) (s : State) (o : Host.Outcome State Fault Refusal), Accepted 0x0D21 r s ∧ (reqBody r).length = 4 ∧ (o = exec (.traceStart r) s ∨ o = exec (.traceStop r) s ∨ o = exec (.traceClear r) s) ∧ fld (reqBody r) 0 4 = 2 ∧ s.obs.trc = .running) ∧
  (∃ (r : YcpReq) (s : State) (o : Host.Outcome State Fault Refusal), Accepted 0x0D21 r s ∧ (reqBody r).length = 4 ∧ (o = exec (.traceStart r) s ∨ o = exec (.traceStop r) s ∨ o = exec (.traceClear r) s) ∧ fld (reqBody r) 0 4 = 3 ∧ s.obs.trc ≠ .running) ∧
  (∃ (r : YcpReq) (s : State) (o : Host.Outcome State Fault Refusal), Accepted 0x0D21 r s ∧ (reqBody r).length = 4 ∧ (o = exec (.traceStart r) s ∨ o = exec (.traceStop r) s ∨ o = exec (.traceClear r) s) ∧ fld (reqBody r) 0 4 = 3 ∧ s.obs.trc = .running) ∧
  (∃ (r : YcpReq) (s : State), Accepted 0x0D23 r s ∧ (reqBody r).length = 16 ∧ s.obs.trc ≠ .running) ∧
  (∃ (r : YcpReq) (s : State), Accepted 0x0D23 r s ∧ (reqBody r).length = 16 ∧ s.obs.trc = .running ∧ bit s.obs.trcTypes 9 = true ∧ (s.obs.fifo.filter fun x => x.type == 9).length < 64) ∧
  (∃ (s : State), (s.obs.trc ≠ .running ∨ s.obs.fifo = [])) ∧
  (∃ (s : State) (x : TraceRec) (rest : List TraceRec), s.obs.trc = .running ∧ s.obs.fifo = x :: rest ∧ x.type ≠ 2 ∧ s.obs.trcWr < 262144 ∧ s.obs.trcMode = 1 ∧ s.obs.postLeft = none ∧ ∃ k, k ≠ s.obs.trcWr) ∧
  (∃ (s : State) (x : TraceRec) (rest : List TraceRec), s.obs.trc = .running ∧ s.obs.fifo = x :: rest ∧ x.type ≠ 2 ∧ s.obs.trcWr < 262144 ∧ s.obs.postLeft = some 1 ∧ s.obs.trcMode = 1) ∧
  (∃ (s : State) (x : TraceRec) (rest : List TraceRec), s.obs.trc = .running ∧ s.obs.fifo = x :: rest ∧ x.type ≠ 2 ∧ s.obs.trcWr < 262144 ∧ s.obs.trcMode = 2 ∧ s.obs.wrapped = true) ∧
  (∃ (a : Nat) (s : State), 0x1000000 ≤ a ∧ a < 0x1800000 ∧ domainOn domCORE s = true ∧ traceBad s ((a - 0x1000000) / 32) = true) :=
  ⟨⟨0x300000000, State.reset, (by decide +kernel), (by decide +kernel)⟩,
   ⟨0x1000000, State.reset, (by decide +kernel), (by decide +kernel), (by decide +kernel)⟩,
   ⟨State.reset, 0, (by decide +kernel)⟩,
   ⟨0, State.reset, (by decide +kernel), (by decide +kernel), (by decide +kernel)⟩,
   ⟨req ([1] ++ zeros 145), { ready with obs := { ready.obs with trc := .running } }, takes (by decide +kernel), (by decide +kernel), (by decide +kernel), (by decide +kernel), (by decide +kernel), (by decide +kernel), (by decide +kernel)⟩,
   ⟨req (leBytes 1 1 ++ zeros 3 ++ leBytes 2 255 ++ zeros 140), ready, takes (by decide +kernel), (by decide +kernel), (by decide +kernel), (by decide +kernel), (by decide +kernel), (by decide +kernel), (by decide +kernel), 0, (by decide +kernel)⟩,
   ⟨req (leBytes 4 1), ready, _, takes (by decide +kernel), (by decide +kernel), (Or.inl rfl), (by decide +kernel)⟩,
   ⟨req (leBytes 4 2), { ready with obs := { ready.obs with trc := .running } }, _, takes (by decide +kernel), (by decide +kernel), (Or.inl rfl), (by decide +kernel), (by decide +kernel)⟩,
   ⟨req (leBytes 4 3), ready, _, takes (by decide +kernel), (by decide +kernel), (Or.inl rfl), (by decide +kernel), (by decide +kernel)⟩,
   ⟨req (leBytes 4 3), { ready with obs := { ready.obs with trc := .running } }, _, takes (by decide +kernel), (by decide +kernel), (Or.inl rfl), (by decide +kernel), (by decide +kernel)⟩,
   ⟨req (zeros 16), ready, takes (by decide +kernel), (by decide +kernel), (by decide +kernel)⟩,
   ⟨req (zeros 16), { ready with obs := { ready.obs with trc := .running, trcTypes := 512 } }, takes (by decide +kernel), (by decide +kernel), (by decide +kernel), (by decide +kernel), (by decide +kernel)⟩,
   ⟨State.reset, (by decide +kernel)⟩,
   ⟨{ State.reset with obs := { State.reset.obs with trc := .running, fifo := [⟨9, 0, 0, []⟩] } }, ⟨9, 0, 0, []⟩, [], (by decide +kernel), (by decide +kernel), (by decide +kernel), (by decide +kernel), (by decide +kernel), (by decide +kernel), 1, (by decide +kernel)⟩,
   ⟨{ State.reset with obs := { State.reset.obs with trc := .running, fifo := [⟨9, 0, 0, []⟩], postLeft := some 1 } }, ⟨9, 0, 0, []⟩, [], (by decide +kernel), (by decide +kernel), (by decide +kernel), (by decide +kernel), (by decide +kernel), (by decide +kernel)⟩,
   ⟨{ State.reset with obs := { State.reset.obs with trc := .running, fifo := [⟨9, 0, 0, []⟩], trcMode := 2, wrapped := true } }, ⟨9, 0, 0, []⟩, [], (by decide +kernel), (by decide +kernel), (by decide +kernel), (by decide +kernel), (by decide +kernel), (by decide +kernel)⟩,
   ⟨0x1000000, { State.reset with obs := { State.reset.obs with slotBad := [(0, 1)] }, pwr := { State.reset.pwr with domain := [(domCORE, .on)] } }, (by decide +kernel), (by decide +kernel), (by decide +kernel), (by decide +kernel)⟩⟩

theorem witness_ImpairmentUnits :
  (∃ (r : YcpReq) (s : State) (o : Host.Outcome State Fault Refusal), Accepted 0x0D31 r s ∧ (o = exec (.impairRequest r) s ∨ o = exec (.impairConfirm r) s ∨ o = exec (.impairDisarm r) s) ∧ let b := reqBody r; let m := BitVec.ofNat 64 (fld b 4 8); b.length = 20 ∧ fld b 16 4 = 0 ∧ fld b 0 4 = 1 ∧ inMode mASSURED s = false ∧ 4 ≤ room r) ∧
  (∃ (r : YcpReq) (s : State) (o : Host.Outcome State Fault Refusal), Accepted 0x0D31 r s ∧ (o = exec (.impairRequest r) s ∨ o = exec (.impairConfirm r) s ∨ o = exec (.impairDisarm r) s) ∧ let b := reqBody r; let m := BitVec.ofNat 64 (fld b 4 8); b.length = 20 ∧ fld b 16 4 = 0 ∧ fld b 0 4 = 1 ∧ inMode mASSURED s = true) ∧
  (∃ (r : YcpReq) (s : State) (o : Host.Outcome State Fault Refusal), Accepted 0x0D31 r s ∧ (o = exec (.impairRequest r) s ∨ o = exec (.impairConfirm r) s ∨ o = exec (.impairDisarm r) s) ∧ let b := reqBody r; let m := BitVec.ofNat 64 (fld b 4 8); let mine : ImpToken := ⟨fld b 12 4, r.mbx.val, m⟩; b.length = 20 ∧ fld b 16 4 = 0 ∧ fld b 0 4 = 2 ∧ inMode mASSURED s = false ∧ s.obs.token = some mine ∧ ∃ p, p < 64 ∧ m.getLsbD p = true) ∧
  (∃ (r : YcpReq) (s : State) (o : Host.Outcome State Fault Refusal), Accepted 0x0D31 r s ∧ (o = exec (.impairRequest r) s ∨ o = exec (.impairConfirm r) s ∨ o = exec (.impairDisarm r) s) ∧ let b := reqBody r; let m := BitVec.ofNat 64 (fld b 4 8); let mine : ImpToken := ⟨fld b 12 4, r.mbx.val, m⟩; b.length = 20 ∧ fld b 16 4 = 0 ∧ fld b 0 4 = 2 ∧ inMode mASSURED s = false ∧ s.obs.token = some mine ∧ ∃ p, p < 64 ∧ m.getLsbD p = false) ∧
  (∃ (r : YcpReq) (s : State) (o : Host.Outcome State Fault Refusal), Accepted 0x0D31 r s ∧ (o = exec (.impairRequest r) s ∨ o = exec (.impairConfirm r) s ∨ o = exec (.impairDisarm r) s) ∧ let b := reqBody r; let m := BitVec.ofNat 64 (fld b 4 8); let mine : ImpToken := ⟨fld b 12 4, r.mbx.val, m⟩; b.length = 20 ∧ fld b 16 4 = 0 ∧ fld b 0 4 = 2 ∧ inMode mASSURED s = false ∧ s.obs.token = some mine) ∧
  (∃ (r : YcpReq) (s : State) (o : Host.Outcome State Fault Refusal), Accepted 0x0D31 r s ∧ (o = exec (.impairRequest r) s ∨ o = exec (.impairConfirm r) s ∨ o = exec (.impairDisarm r) s) ∧ let b := reqBody r; let m := BitVec.ofNat 64 (fld b 4 8); let mine : ImpToken := ⟨fld b 12 4, r.mbx.val, m⟩; b.length = 20 ∧ fld b 16 4 = 0 ∧ fld b 0 4 = 2 ∧ inMode mASSURED s = false ∧ s.obs.token ≠ some mine ∧ s.obs.expired ≠ some mine) ∧
  (∃ (r : YcpReq) (s : State) (o : Host.Outcome State Fault Refusal), Accepted 0x0D31 r s ∧ (o = exec (.impairRequest r) s ∨ o = exec (.impairConfirm r) s ∨ o = exec (.impairDisarm r) s) ∧ let b := reqBody r; let m := BitVec.ofNat 64 (fld b 4 8); let mine : ImpToken := ⟨fld b 12 4, r.mbx.val, m⟩; b.length = 20 ∧ fld b 16 4 = 0 ∧ fld b 0 4 = 2 ∧ inMode mASSURED s = false ∧ s.obs.token ≠ some mine ∧ s.obs.expired = some mine) ∧
  (∃ (r : YcpReq) (s : State) (o : Host.Outcome State Fault Refusal), Accepted 0x0D31 r s ∧ (o = exec (.impairRequest r) s ∨ o = exec (.impairConfirm r) s ∨ o = exec (.impairDisarm r) s) ∧ let b := reqBody r; let m := BitVec.ofNat 64 (fld b 4 8); b.length = 20 ∧ fld b 16 4 = 0 ∧ fld b 0 4 = 2 ∧ inMode mASSURED s = true) ∧
  (∃ (r : YcpReq) (s : State) (o : Host.Outcome State Fault Refusal), Accepted 0x0D31 r s ∧ (o = exec (.impairRequest r) s ∨ o = exec (.impairConfirm r) s ∨ o = exec (.impairDisarm r) s) ∧ let b := reqBody r; let m := BitVec.ofNat 64 (fld b 4 8); b.length = 20 ∧ fld b 16 4 = 0 ∧ fld b 0 4 = 3) ∧
  (∃ (ev : Nat) (m : BitVec 64) (s : State), (∀ p, p < 64 → (impUnit p s).held = none) ∧ ∃ p, p < 64) ∧
  (∃ (p : Nat) (s : State), p < 64 ∧ (impUnit p s).armed = false) ∧
  (∃ (s : State) (t : ImpToken), s.obs.token = some t) ∧
  (∃ (s : State), s.obs.token = none) ∧
  (∃ (u : ImpUnit), impSel u.record = 0) ∧
  (∃ (u : ImpUnit), impSel u.record = 1) ∧
  (∃ (u : ImpUnit), impSel u.record = 2 ∧ 1 ≤ impPeriod u.record) ∧
  (∃ (p d : Nat) (s : State), ((impUnit p s).armed = false ∨ impEligible p (getFrame d s) (impUnit p s).record s = false)) :=
  ⟨⟨req (leBytes 4 1 ++ zeros 16), ready, _, takes (by decide +kernel), (Or.inl rfl), (by decide +kernel), (by decide +kernel), (by decide +kernel), (by decide +kernel), (by decide +kernel)⟩,
   ⟨req (leBytes 4 1 ++ zeros 16), moded mASSURED ready, _, takes (by decide +kernel), (Or.inl rfl), (by decide +kernel), (by decide +kernel), (by decide +kernel), (by decide +kernel)⟩,
   ⟨req (leBytes 4 2 ++ leBytes 8 1 ++ leBytes 4 7 ++ zeros 4), { ready with obs := { ready.obs with token := some ⟨7, 0, 1⟩ } }, _, takes (by decide +kernel), (Or.inl rfl), (by decide +kernel), (by decide +kernel), (by decide +kernel), (by decide +kernel), (by decide +kernel), 0, (by decide +kernel), (by decide +kernel)⟩,
   ⟨req (leBytes 4 2 ++ leBytes 8 1 ++ leBytes 4 7 ++ zeros 4), { ready with obs := { ready.obs with token := some ⟨7, 0, 1⟩ } }, _, takes (by decide +kernel), (Or.inl rfl), (by decide +kernel), (by decide +kernel), (by decide +kernel), (by decide +kernel), (by decide +kernel), 1, (by decide +kernel), (by decide +kernel)⟩,
   ⟨req (leBytes 4 2 ++ leBytes 8 1 ++ leBytes 4 7 ++ zeros 4), { ready with obs := { ready.obs with token := some ⟨7, 0, 1⟩ } }, _, takes (by decide +kernel), (Or.inl rfl), (by decide +kernel), (by decide +kernel), (by decide +kernel), (by decide +kernel), (by decide +kernel)⟩,
   ⟨req (leBytes 4 2 ++ leBytes 8 1 ++ leBytes 4 7 ++ zeros 4), ready, _, takes (by decide +kernel), (Or.inl rfl), (by decide +kernel), (by decide +kernel), (by decide +kernel), (by decide +kernel), (by decide +kernel), (by decide +kernel)⟩,
   ⟨req (leBytes 4 2 ++ leBytes 8 1 ++ leBytes 4 7 ++ zeros 4), { ready with obs := { ready.obs with expired := some ⟨7, 0, 1⟩ } }, _, takes (by decide +kernel), (Or.inl rfl), (by decide +kernel), (by decide +kernel), (by decide +kernel), (by decide +kernel), (by decide +kernel), (by decide +kernel)⟩,
   ⟨req (leBytes 4 2 ++ zeros 16), moded mASSURED ready, _, takes (by decide +kernel), (Or.inl rfl), (by decide +kernel), (by decide +kernel), (by decide +kernel), (by decide +kernel)⟩,
   ⟨req (leBytes 4 3 ++ zeros 16), ready, _, takes (by decide +kernel), (Or.inl rfl), (by decide +kernel), (by decide +kernel), (by decide +kernel)⟩,
   ⟨1, 1, State.reset, (fun _ _ => rfl), 0, (by decide +kernel)⟩,
   ⟨0, State.reset, (by decide +kernel), (by decide +kernel)⟩,
   ⟨{ ready with obs := { ready.obs with token := some ⟨7, 0, 1⟩ } }, ⟨7, 0, 1⟩, (by decide +kernel)⟩,
   ⟨State.reset, (by decide +kernel)⟩,
   ⟨{ record := zeros 32 }, (by decide +kernel)⟩,
   ⟨{ record := [8] ++ zeros 31 }, (by decide +kernel)⟩,
   ⟨{ record := [16] ++ zeros 15 ++ leBytes 4 1 }, (by decide +kernel), (by decide +kernel)⟩,
   ⟨0, 0, State.reset, (by decide +kernel)⟩⟩

end Sys2Proof.Tests
end

namespace Sys2Proof.Machine

/-! ## Reset and the step -/

/-- A port that no command has configured is not enabled (R319). -/
theorem recEnabled_portDefault (p : Nat) : recEnabled (portDefault p) = false := by
  rw [recEnabled, portDefault, List.append_assoc, List.append_assoc, fld_append_right (leBytes_length 1 p) (by decide)]
  decide

/-- Settles O1: every field stands at its reset value, and a table that lists nothing reads as its default. -/
theorem resetState : Obligations.ResetState := by
  refine ⟨rfl, rfl, ?_, fun _ => rfl, fun _ _ => rfl, by decide +kernel, fun _ => rfl, rfl, rfl, rfl, rfl, rfl, rfl, rfl,
    fun _ => rfl⟩
  exact fun p => (congrArg (decide (p < 64) && ·) (recEnabled_portDefault p)).trans (Bool.and_false _)

/-- Settles O36, by the cases of `step`: a command in front, a request whose turn has come, and neither. -/
theorem stepRunsFrontCommand : Obligations.StepRunsFrontCommand := by
  refine ⟨fun c rest s => rfl, fun s hempty => ⟨fun hnone => ?_, fun c t hturn => ?_⟩⟩
  · rw [step, hempty]
    simp only [hnone]
  · rw [step, hempty]
    simp only [hturn]

/-! ## Selections (R409): the form-S reads -/

section
variable {op : Nat} {r : YcpReq} {h : YHandler} {s : State}

/-- A read that answers at once and tells with MORE whether further records follow. -/
theorem ycp_answers_more (ha : Accepted op r s) {b : Bytes} {more : Bool} {u : State}
    (hx : h r (reqBody r) (room r) s = { yRead b u with more := more }) (hb : b.length ≤ room r)
    (hl : (getMbx r.mbx u).lost = (getMbx r.mbx s).lost) : Answers op r b more u (ycp op r h s) :=
  ycp_completes ha hx rfl (fun _ => hb) rfl (hl.trans ha.lost)

/-- The records of a selection take their size each. -/
theorem records_length (size first n : Nat) (rec : Nat → Bytes) :
    ((List.range n).map fun k => fit size (rec (first + k))).flatten.length = n * size := by
  simp only [List.length_flatten, List.map_map, Function.comp_def, fit_length, List.map_const', List.length_range,
    List.sum_replicate_nat]

/-- A selection that holds no more records than the room divides into fits in it. -/
theorem selection_fits {size rm n : Nat} (first : Nat) (rec : Nat → Bytes) (h8 : 8 ≤ rm) (hn : n ≤ (rm - 8) / size) :
    (leBytes 4 n ++ zeros 4 ++ ((List.range n).map fun k => fit size (rec (first + k))).flatten).length ≤ rm := by
  have hs : n * size ≤ rm - 8 := Nat.le_trans (Nat.mul_le_mul_right size hn) (Nat.div_mul_le_self _ _)
  simp only [List.length_append, leBytes_length, zeros_length, records_length]
  omega

/-- A form-S command with a selector answers its selection and changes nothing else. -/
theorem formSel_selects {sels total size first count sel : Nat} {rec : State → Nat → Nat → Bytes} (ha : Accepted op r s)
    (hb : reqBody r = selBody first count sel) (ht : first < total) (htot : total ≤ 2 ^ 32) (hc : count < 2 ^ 32)
    (hl : sel < sels) (hsels : sels ≤ 2 ^ 32) (hr : 8 + size ≤ room r) :
    Selects op total size (rec s sel) r first count s (ycp op r (formSel sels total size rec) s) := by
  refine ycp_answers_more ha ?_ (selection_fits first (rec s sel) (by omega) (Nat.min_le_right _ _)) rfl
  rw [hb]
  exact formSel_ok (by omega) hc (by omega) ht hl hr

/-- A form-S command with no selector answers its selection and changes nothing else. -/
theorem formS_selects {total size first count : Nat} {rec : State → Nat → Bytes} (ha : Accepted op r s)
    (hb : reqBody r = selBody first count 0) (ht : first < total) (htot : total ≤ 2 ^ 32) (hc : count < 2 ^ 32)
    (hr : 8 + size ≤ room r) :
    Selects op total size (rec s) r first count s (ycp op r (formS total size rec) s) :=
  formSel_selects (sels := 1) ha hb ht htot hc (by decide) (by decide) hr

/-- A selection whose response has no room for one record fails with LENGTH. -/
theorem formSel_noRoom {sels total size first count sel : Nat} {rec : State → Nat → Nat → Bytes} (ha : Accepted op r s)
    (hb : reqBody r = selBody first count sel) (hf : first < 2 ^ 32) (hc : count < 2 ^ 32) (hs : sel < 2 ^ 32)
    (hsels : sels ≠ 1) (hr : room r < 8 + size) : Fails op r stLENGTH 0 s (ycp op r (formSel sels total size rec) s) := by
  obtain ⟨-, -, -, h12⟩ := selBody_fields hf hc hs
  refine ycp_fails ha ?_ (by decide)
  rw [hb, formSel, need_pos (by simp [h12, hsels]), need_pos (by simp [selBody_length]), need_neg (by simpa using hr)]
  rfl

/-- The number of records answered is the first field of the answer. -/
theorem selection_count {n : Nat} (rest : Bytes) (hn : n < 2 ^ 32) : fld (leBytes 4 n ++ zeros 4 ++ rest) 0 4 = n := by
  rw [List.append_assoc]
  exact fld4 _ hn

/-! ### Register reads and their latched halves (R12) -/

/-- A register read answers its selection and leaves the upper halves of its _LO words latched. -/
theorem formRegs_ok {total first count rm : Nat} {val : State → Nat → Nat} {isLo : Nat → Bool} {latch : State → Tbl Nat}
    {keep : Tbl Nat → State → State} (hf : first < 2 ^ 32) (hc : count < 2 ^ 32) (ht : first < total) (hr : 12 ≤ rm) :
    formRegs total val isLo latch keep r (selBody first count 0) rm s =
      (let n := min (min count (total - first)) ((rm - 8) / 4)
       { yRead (leBytes 4 n ++ zeros 4 ++
            ((List.range n).map fun k => fit 4 (leBytes 4 (latchedReg (latch s) (val s) first (first + k)))).flatten)
          (keep (latchAfter isLo (val s) first n (latch s)) s) with
         more := decide (n < count ∧ first + n < total) }) := by
  have hn : min (min count (total - first)) ((rm - 8) / 4) < 2 ^ 32 :=
    Nat.lt_of_le_of_lt (Nat.le_trans (Nat.min_le_left _ _) (Nat.min_le_left _ _)) hc
  rw [formRegs, formS, (selBody_fields hf hc (by decide)).1, formSel_ok hf hc (by decide) ht (by decide) hr]
  simp only [yRead, if_true, selection_count _ hn]

/-- A register read selects registers, and its effect is on their latches. -/
theorem formRegs_selects {total first count : Nat} {val : State → Nat → Nat} {isLo : Nat → Bool} {latch : State → Tbl Nat}
    {keep : Tbl Nat → State → State} (ha : Accepted op r s) (hb : reqBody r = selBody first count 0) (ht : first < total)
    (htot : total ≤ 2 ^ 32) (hc : count < 2 ^ 32) (hr : 12 ≤ room r) (hk : ∀ l, (keep l s).host = s.host) :
    SelectsInto op total 4 (fun k => leBytes 4 (latchedReg (latch s) (val s) first k)) r first count
      (fun n => keep (latchAfter isLo (val s) first n (latch s)) s) (ycp op r (formRegs total val isLo latch keep) s) := by
  refine ycp_answers_more ha ?_
    (selection_fits first (fun k => leBytes 4 (latchedReg (latch s) (val s) first k)) (by omega) (Nat.min_le_right _ _))
    (by rw [getMbx_of_host (hk _)])
  rw [hb]
  exact formRegs_ok (by omega) hc ht hr

variable {isLo : Nat → Bool} {val : Nat → Nat} {first : Nat} {latch : Tbl Nat}

/-- One more register read: a _LO word latches the half after it, and any other word uses its latch up. -/
theorem latchAfter_succ (n : Nat) : latchAfter isLo val first (n + 1) latch =
    if isLo (first + n) then tput (latchAfter isLo val first n latch) (first + n + 1) (val (first + n + 1))
    else tdel (latchAfter isLo val first n latch) (first + n) := by
  rw [latchAfter, List.range_succ, List.foldl_append]
  rfl

/-- The read of one more register leaves the latches of all but it and the next one. -/
theorem latchAfter_succ_other {n k : Nat} (h0 : k ≠ first + n) (h1 : k ≠ first + n + 1) :
    tget? (latchAfter isLo val first (n + 1) latch) k = tget? (latchAfter isLo val first n latch) k := by
  rw [latchAfter_succ]
  split
  · exact tget?_tput_ne _ _ h1
  · exact tget?_tdel_ne _ h0

/-- Registers apart from those read keep their latches. -/
theorem latchAfter_outside {k : Nat} : ∀ {n : Nat}, k < first ∨ first + n < k →
    tget? (latchAfter isLo val first n latch) k = tget? latch k
  | 0, _ => rfl
  | n + 1, hk => by
    rw [latchAfter_succ_other (by omega) (by omega)]
    exact latchAfter_outside (by omega)

/-- A register read that is no _LO word has no latch left. -/
theorem latchAfter_taken {k : Nat} (hlo : isLo k = false) (hk : first ≤ k) : ∀ {n : Nat}, k < first + n →
    tget? (latchAfter isLo val first n latch) k = none
  | 0, hn => by omega
  | n + 1, hn => by
    by_cases hlast : k = first + n
    · rw [latchAfter_succ, ← hlast, hlo]
      exact tget?_tdel _ _
    · rw [latchAfter_succ_other hlast (by omega)]
      exact latchAfter_taken hlo hk (by omega)

/-- A read that ends at a _LO word leaves its upper half latched. -/
theorem latchAfter_last {n : Nat} (hlo : isLo (first + n) = true) :
    tget? (latchAfter isLo val first (n + 1) latch) (first + n + 1) = some (val (first + n + 1)) := by
  rw [latchAfter_succ, hlo]
  exact tget?_tput _ _ _

end

/-! ### Reads of counter pairs (R193): the operations on HBM leave the host interface alone -/

theorem forEach_host {α : Type} {f : α → State → State} (hf : ∀ x s, (f x s).host = s.host) (l : List α) (s : State) :
    (forEach l f s).host = s.host := by
  induction l generalizing s with
  | nil => rfl
  | cons x l ih => exact (ih (f x s)).trans (hf x s)

@[simp] theorem raise_host (src i : Nat) (m : BitVec 64) (s : State) : (raise src i m s).host = s.host := rfl

@[simp] theorem setPc_host (i : Nat) (x : Pc) (s : State) : (setPc i x s).host = s.host := rfl

@[simp] theorem panicSync_host (req : Nat) (s : State) : (panicSync req s).host = s.host := by
  unfold panicSync
  dsimp only
  split <;> split <;> rfl

@[simp] theorem outstAdd_host (req : Nat) (d : Int) (s : State) : (outstAdd req d s).host = s.host := by simp [outstAdd]

@[simp] theorem writeAt_host (i : Nat) (q : HbmReq) (s : State) : (writeAt i q s).host = s.host := by
  unfold writeAt
  dsimp only
  split <;> simp

@[simp] theorem readReq_host (i : Nat) (q : HbmReq) (s : State) : (readReq i q s).host = s.host := by
  unfold readReq
  split
  · rfl
  · simp [readAt]

@[simp] theorem lineReq_host (req : Nat) (write : Bool) (line : Nat) (s : State) :
    (lineReq req write line s).host = s.host := by
  unfold lineReq
  dsimp only
  split
  · split <;> simp
  · simp

@[simp] theorem spanReq_host (req : Nat) (write : Bool) (a n : Nat) (s : State) : (spanReq req write a n s).host = s.host :=
  forEach_host (fun _ _ => lineReq_host _ _ _ _) _ s

@[simp] theorem unitWritten_host (u : Nat) (s : State) : (unitWritten u s).host = s.host := by
  unfold unitWritten
  split <;> split <;> rfl

@[simp] theorem hbmWrite_host (req a : Nat) (b : Bytes) (s : State) : (hbmWrite req a b s).host = s.host := by
  rw [hbmWrite, spanReq_host]
  exact forEach_host unitWritten_host _ _

@[simp] theorem mendPair_host (id : Nat) (s : State) : (mendPair id s).host = s.host := by
  unfold mendPair
  split <;> simp

@[simp] theorem readPairs_host (first n : Nat) (s : State) : (readPairs first n s).host = s.host := by
  unfold readPairs
  rw [forEach_host fun _ _ => spanReq_host _ _ _ _ _]
  exact forEach_host mendPair_host _ s

/-- A counter pair on a sound line costs the read of that line. -/
theorem readPairs_one {k : Nat} {s : State} (h : spanUe (ctrPairAddr k) 16 s = false) :
    readPairs k 1 s = spanReq 5 false (64 * (ctrPairAddr k / 64)) 64 s := by
  have hm : mendPair k s = s := by simp [mendPair, h]
  show forEach [ctrPairAddr k / 64] (fun l s => spanReq 5 false (64 * l) 64 s) (mendPair k s) = _
  rw [hm]
  rfl

/-- SVC_COUNTER_READ answers the pairs that the reads of their lines leave (R193, R197). -/
theorem svcCounterRead_selects {r : YcpReq} {s : State} {first count : Nat} (ha : Accepted 0x0D10 r s)
    (hb : reqBody r = selBody first count 0) (ht : first < 1048576) (hc : count < 2 ^ 32) (hr : 24 ≤ room r) :
    SelectsInto 0x0D10 1048576 16
      (pairRecord (readPairs first (min (min count (1048576 - first)) ((room r - 8) / 16)) s)) r first count
      (fun m => readPairs first m s) (execSvcCounterRead r s) := by
  have hfirst : first < 2 ^ 32 := by omega
  refine ycp_answers_more ha ?_ (selection_fits first _ (by omega) (Nat.min_le_right _ _))
    (by rw [getMbx_of_host (readPairs_host _ _ _)])
  have hn : min (min count (1048576 - first)) ((room r - 8) / 16) < 2 ^ 32 := by omega
  have hok (u : State) := formSel_ok (sels := 1) (total := 1048576) (size := 16) (rec := fun s _ k => pairRecord s k)
    (r := r) (s := u) (sel := 0) hfirst hc (by decide) ht Nat.one_pos hr
  rw [hb, svcCounterReadH, formS, hok, (selBody_fields hfirst hc (by decide)).1]
  simp only [yRead, selection_count _ hn, hok, ne_eq, not_true_eq_false, if_false]

/-- MACE_STATUS answers its selection in what the 16 bytes after it leave of the room (R382). -/
theorem maceStatus_answers {r : YcpReq} {s : State} {first count : Nat} (ha : Accepted 0x0901 r s)
    (hb : reqBody r = selBody first count 0) (ht : first < 256) (hc : count < 2 ^ 32) (hr : 72 ≤ room r) :
    let n := min (min count (256 - first)) ((room r - 24) / 48)
    Answers 0x0901 r (leBytes 4 n ++ zeros 4 ++ ((List.range n).map fun k => fit 48 (sourceStatus s (first + k))).flatten ++
        leBytes 8 s.mace.safe.toNat ++ leBytes 4 (macePins s) ++ zeros 4)
      (decide (n < count ∧ first + n < 256)) s (execMaceStatus r s) := by
  intro n
  have hfit := selection_fits (rm := room r - 16) first (sourceStatus s) (by omega)
    (show n ≤ (room r - 16 - 8) / 48 from Nat.min_le_right _ _)
  refine ycp_answers_more ha ?_ ?_ rfl
  · rw [hb, maceStatusH, formS, formSel_ok (by omega) hc (by decide) ht (by decide) (by omega)]
    rfl
  · simp only [List.length_append, leBytes_length, zeros_length] at hfit ⊢
    omega

/-- The search from the top for the most records that fit. -/
theorem find_reverse_range {p : Nat → Bool} {n : Nat} (hp : p n = true) : ∀ {most : Nat}, n ≤ most →
    (∀ m, n < m → m ≤ most → p m = false) → (List.range (most + 1)).reverse.find? p = some n
  | 0, hn, _ => by
    obtain rfl : n = 0 := by omega
    exact List.find?_cons_of_pos hp
  | most + 1, hn, hm => by
    rw [List.range_succ, List.reverse_append, List.reverse_singleton, List.singleton_append, List.find?_cons]
    by_cases hlast : n = most + 1
    · rw [← hlast, hp]
    · rw [hm (most + 1) (by omega) (Nat.le_refl _)]
      exact find_reverse_range hp (by omega) fun m h1 h2 => hm m h1 (by omega)

/-- PORT_STATUS answers as many records as fit together with their property list (R412). -/
theorem portStatus_answers {r : YcpReq} {s : State} {first count n : Nat} (ha : Accepted 0x0302 r s)
    (hb : reqBody r = selBody first count 0) (ht : first < 64) (hc : count < 2 ^ 32) (hn : n ≤ min count (64 - first))
    (hone : 8 + 16 + (portStatusProps s first 1).length ≤ room r)
    (hfit : 8 + n * 16 + (portStatusProps s first n).length ≤ room r)
    (hmore : ∀ m, n < m → m ≤ min count (64 - first) → room r < 8 + m * 16 + (portStatusProps s first m).length) :
    Answers 0x0302 r (leBytes 4 n ++ zeros 4 ++ ((List.range n).map fun k => fit 16 (portRec (first + k) s)).flatten ++
      portStatusProps s first n) (decide (n < count ∧ first + n < 64)) s (execPortStatus r s) := by
  obtain ⟨h0, h4, h8, h12⟩ := selBody_fields (first := first) (sel := 0) (by omega) hc (by decide)
  have h88 : fld (selBody first count 0) 8 8 = 0 := by
    rw [selBody, List.append_assoc, fld_append_right (k := 8) (by simp) (by decide)]
    rfl
  have hfind := find_reverse_range (p := fun n => decide (8 + n * 16 + (portStatusProps s first n).length ≤ room r))
    (decide_eq_true hfit) hn fun m h1 h2 => decide_eq_false (Nat.not_le.2 (hmore m h1 h2))
  refine ycp_answers_more ha ?_ ?_ rfl
  · rw [hb, formSP, need_pos (by simp [h88]), need_pos (by simp [selBody_length])]
    simp only [h0, h4]
    rw [need_pos (by simpa using hone), need_pos (decide_eq_true ht), hfind]
    rfl
  · simp only [List.length_append, leBytes_length, zeros_length, records_length 16 first n (portRec · s)]
    omega

/-- Settles O6: every form-S command is `formS`, `formSel` or `formRegs`, each proved once; MACE_STATUS and PORT_STATUS, which
put more behind their records, and SVC_COUNTER_READ, which reads HBM first, are proved each on its own. -/
theorem selectionsAnswerRecords : Obligations.SelectionsAnswerRecords := by
  refine ⟨?svcTable, ?rules, ?ruleCounters, ?templates, ?queues, ?elements, ?timeRegs, ?cvuRegs, ?latchRead, ?latchLeft,
    ?words, ?lanes, ?memCounters, ?counterPairs, ?pairLine, ?counters, ?catalog, ?trace, ?mace, ?ports, ?noRoom⟩
  case svcTable | queues | elements | lanes | memCounters | trace =>
    exact fun r s first count ha hb ht hc hr => formS_selects ha hb ht (by decide) hc hr
  case rules | ruleCounters | templates =>
    exact fun r s first count sel ha hb ht hc hl hr => formSel_selects ha hb ht (by decide) hc hl (by decide) hr
  case timeRegs | cvuRegs =>
    exact fun r s first count ha hb ht hc hr => formRegs_selects ha hb ht (by decide) hc hr fun _ => rfl
  case latchRead =>
    refine fun latch val first k => ⟨fun h => ?_, fun v hv => ?_⟩
    · obtain hk | hnone := h
      · rw [latchedReg, if_neg hk]
      · rw [latchedReg, hnone, Option.getD_none, ite_self]
    · rw [latchedReg, if_pos rfl, hv, Option.getD_some]
  case latchLeft =>
    refine fun isLo val first n j latch hlo => ⟨fun hj hlast hj' => ?_, fun h1 h2 => latchAfter_taken hlo h1 h2,
      fun h => latchAfter_outside h⟩
    obtain ⟨n, rfl⟩ : ∃ m, n = m + 1 := ⟨j - first, by omega⟩
    obtain rfl : j = first + n := by omega
    exact latchAfter_last hj'
  case words => exact fun s k => ⟨rfl, rfl⟩
  case counterPairs => exact fun r s first count ha hb ht hc hr => svcCounterRead_selects ha hb ht hc hr
  case pairLine => exact fun k s h => readPairs_one h
  case counters =>
    exact fun r s first count ha hb ht hc hr =>
      formS_selects (rec := fun s id => leBytes 8 ((idValue id s).getD 0)) ha hb ht (by decide) hc hr
  case catalog =>
    exact fun r s first count ha hb ht hc hr => formS_selects (rec := fun _ k => catEntry k) ha hb ht (by decide +kernel) hc hr
  case mace => exact fun r s first count ha hb ht hc hr => maceStatus_answers ha hb ht hc hr
  case ports =>
    refine fun r s first count n ha hb ht hc hn hfits hone hmore h0 => portStatus_answers ha hb ht hc hn hone ?_ hmore
    cases n with
    | zero => simpa using h0 rfl
    | succ n => exact hfits (n + 1) (by omega) (Nat.le_refl _)
  case noRoom => exact fun r s first count ha hb ht hc hr => formSel_noRoom ha hb (by omega) hc (by decide) (by decide) hr

/-! ## The direct registers (R9, R12, R401, R403) -/

section
variable (v : Nat) (s : State)

/-- A read-only register and an unlisted offset ignore a write (R9, R400, R401). -/
theorem barWrite_ignored {off : Nat} (h4 : off % 4 = 0)
    (h : off < 0x0010 ∨ off = 0x0014 ∨ off = 0x0090 ∨ off = 0x0098 ∨ off = 0x009C ∨ (0x0220 ≤ off ∧ off < 0x0240) ∨
      (0x0260 ≤ off ∧ off < 0x2000) ∨ (0x2200 ≤ off ∧ off < 0x10000) ∨ 0x18000 ≤ off) : barWrite off v s = s := by
  unfold barWrite
  dsimp only
  simp (disch := omega) only [if_neg]

/-- The mailbox that an offset names. -/
theorem ofNat_mbx {n : Nat} {m : Fin 8} (h : n = m.val) : Fin.ofNat 8 n = m := by
  rw [h]
  exact Fin.ofNat_val_eq_self m

/-- MBX_STATUS: DONE and OVR are cleared by writing 1. -/
theorem barWrite_mbxStatus (m : Fin 8) : barWrite (0x0060 + 4 * m.val) v s =
    setMbx m { getMbx m s with done := (getMbx m s).done && !bit v 1, ovr := (getMbx m s).ovr && !bit v 2 } s := by
  have hm := m.isLt
  unfold barWrite
  dsimp only
  rw [if_neg (by omega), if_pos (by omega), ofNat_mbx (m := m) (by omega)]

/-- A write into a mailbox reaches the mailbox of its 4 KiB. -/
theorem barWrite_mailbox (m : Fin 8) {off : Nat} (h4 : off % 4 = 0) (hoff : off < 4096) :
    barWrite (0x10000 + 4096 * m.val + off) v s = mbxWrite (0x10000 + 4096 * m.val + off) v s := by
  have hm := m.isLt
  unfold barWrite
  dsimp only
  simp (disch := omega) only [if_neg, if_pos]

/-- A write that finds the mailbox BUSY is discarded and hits it (R403). -/
theorem mbxWrite_busy (m : Fin 8) {off : Nat} (hoff : off < 4096) (hb : (getMbx m s).busy = true) :
    mbxWrite (0x10000 + 4096 * m.val + off) v s = busyHit m s := by
  unfold mbxWrite
  dsimp only
  rw [ofNat_mbx (m := m) (by omega), if_pos hb]

/-- EVR_BASE_LO commits the whole of EVR_BASE while the ring is disabled. -/
theorem barWrite_evrBase (h : s.host.evrEnable = false) : barWrite 0x0080 v s =
    setHost { s.host with evrBase := s.host.evrBaseHi * 2 ^ 32 + v / 4096 * 4096 } s := by
  exact if_neg (Bool.eq_false_iff.1 h)

/-- EVR_SIZE takes the 5 bits of LOG2 while the ring is disabled. -/
theorem barWrite_evrSize (h : s.host.evrEnable = false) : barWrite 0x0088 v s =
    setHost { s.host with evrLog2 := v % 32 } s := by
  exact if_neg (Bool.eq_false_iff.1 h)

/-- While the ring is enabled its base and size stand (R9, R401). -/
theorem barWrite_evr_locked {off : Nat} (h : s.host.evrEnable = true)
    (hoff : off = 0x0080 ∨ off = 0x0084 ∨ off = 0x0088) : barWrite off v s = s := by
  obtain rfl | rfl | rfl := hoff <;> exact if_pos h

/-- EVR_CTRL takes ENABLE and MODERATE. -/
theorem evrCtrlWrite_eq : evrCtrlWrite v s =
    setHost { s.host with evrEnable := bit v 0, evrModerate := v / 256 % 256 } s := by
  exact congrArg (fun x => setHost { s.host with evrEnable := bit v 0, evrModerate := x % 256 } s)
    (Nat.shiftRight_eq_div_pow v 8)

/-- SUM_CTRL clears DONE and ERR by writing 1 and takes AUTO before GO acts. -/
theorem barWrite_sumCtrl_go (h : bit v 0 = true) : barWrite 0x00CC v s =
    sumStart (setHost { s.host with
      sumDone := s.host.sumDone && !bit v 2, sumErr := s.host.sumErr && !bit v 3, sumAuto := bit v 4 } s) :=
  if_pos h

variable {s}

/-- A SUMMARY starts when none runs and its buffer is long enough. -/
theorem sumStart_starts (hb : s.host.sumBusy = false) (hl : 262144 ≤ s.host.sumLen) :
    sumStart s = setHost { s.host with sumBusy := true, snapId := newSnapId s, sumId := newSnapId s } s := by
  rw [sumStart, if_neg (Bool.eq_false_iff.1 hb), if_neg (Nat.not_lt.2 hl)]

/-- A SUMMARY into a buffer that is too short only sets ERR. -/
theorem sumStart_short (hb : s.host.sumBusy = false) (hl : s.host.sumLen < 262144) :
    sumStart s = setHost { s.host with sumErr := true } s := by
  rw [sumStart, if_neg (Bool.eq_false_iff.1 hb), if_pos hl]

/-- A write at an aligned offset is a write of BAR0. -/
theorem exec_registerWrite {off : Nat} {w : BitVec 32} {t : State} (h4 : off % 4 = 0) (h : barWrite off w.toNat s = t) :
    exec (.registerWrite off w) s = .next t := by
  rw [← h]
  exact congrArg Host.Outcome.next (if_pos h4)

end

/-- Settles O43, register by register: what a write of each leaves is said above of `barWrite`. -/
theorem directRegisterWrites : Obligations.DirectRegisterWrites := by
  refine ⟨?ignored, fun v s => rfl, ?evr, ?locked, ?mbxStatus, ?busy, ?go, ?short, fun v s => rfl, ?ctrl, ?tails⟩
  case ignored => exact fun off v s h4 h => exec_registerWrite h4 (barWrite_ignored _ s h4 h)
  case evr =>
    exact fun v s h => ⟨exec_registerWrite (by decide) (barWrite_evrBase _ s h),
      exec_registerWrite (by decide) (barWrite_evrSize _ s h)⟩
  case locked =>
    exact fun off v s h hoff => exec_registerWrite (by omega) (barWrite_evr_locked _ s h hoff)
  case mbxStatus => exact fun m v s => exec_registerWrite (by omega) (barWrite_mbxStatus _ s m)
  case busy =>
    exact fun m off v s h4 hoff hb => exec_registerWrite (by omega)
      ((barWrite_mailbox _ s m h4 hoff).trans (mbxWrite_busy _ s m hoff hb))
  case go =>
    exact fun v s hgo hb hl => congrArg Host.Outcome.next ((barWrite_sumCtrl_go _ s hgo).trans (sumStart_starts hb hl))
  case short =>
    exact fun v s hgo hb hl => congrArg Host.Outcome.next ((barWrite_sumCtrl_go _ s hgo).trans (sumStart_short hb hl))
  case ctrl => exact fun v s => congrArg Host.Outcome.next (evrCtrlWrite_eq _ s)
  case tails =>
    exact fun q v s hq => ⟨congrArg Host.Outcome.next (if_pos hq), congrArg Host.Outcome.next (if_pos hq)⟩

/-! ## Check-value units (R374–R376) -/

/-- CVU_REG_WRITE of a word of unit `u` whose value keeps the reserved bits 0 and starts nothing that is INVALID. -/
theorem cvuRegWrite_does {r : YcpReq} {s : State} {u off v : Nat} {y : CvuUnit} (ha : Accepted 0x0908 r s)
    (hlen : (reqBody r).length = 16) (hres : fld (reqBody r) 4 4 = 0) (hu : u < 32)
    (hoff : fld (reqBody r) 0 4 = 64 * u + off) (hword : off < 64 ∧ off % 4 = 0) (hv : fld (reqBody r) 8 8 = v)
    (hv32 : v < 2 ^ 32) (hy : cvuWriteReg off v (getCvu u s) = y) (hclean : cvuResv off v = false)
    (hstart : cvuBadStart off v y = false) : Does 0x0908 r [] (setCvu u y s) (ycp 0x0908 r cvuRegWriteH s) := by
  have hdiv : (64 * u + off) / 64 = u := by omega
  have hmod : (64 * u + off) % 64 = off := by omega
  have hafter : cvuAfter (reqBody r) s = y := by rw [cvuAfter, hoff, hv, hdiv, hmod, hy]
  refine ycp_does ha ?_ (Nat.zero_le _) rfl
  rw [cvuRegWriteH, formE_ok hlen (by simpa using hres)]
  · simp only [hafter, hoff, hv, hdiv]
    exact need_pos (decide_eq_true ⟨by omega, by omega, hv32⟩)
  · simp [hafter, hoff, hv, hmod, hclean, hstart]

/-- Only a write of CVU_CTRL can be a start that is INVALID. -/
theorem cvuBadStart_of_ne {off v : Nat} (y : CvuUnit) (h : off ≠ 0) : cvuBadStart off v y = false := by
  simp [cvuBadStart, h]

/-- A write of CVU_CTRL without START is no bad start. -/
theorem cvuBadStart_of_bit {off v : Nat} (y : CvuUnit) (h : bit v 16 = false) : cvuBadStart off v y = false := by
  simp [cvuBadStart, h]

/-- While ENABLE is 1 the parameters, their staged halves, the stream and the window stand (R9, R376). -/
theorem cvuWriteReg_locked {o : Nat} (v : Nat) {x : CvuUnit} (ho : o ∈ [0x0C, 0x10, 0x14, 0x18, 0x1C, 0x20, 0x24])
    (h : x.enable = true) : cvuWriteReg o v x = x ∧ cvuResv o v = false := by
  simp only [List.mem_cons, List.not_mem_nil, or_false] at ho
  cases x
  cases h
  obtain rfl | rfl | rfl | rfl | rfl | rfl | rfl := ho <;> exact ⟨rfl, rfl⟩

/-- The numbers of the presets (R374). -/
theorem crcPreset_some {n : Nat} {p : CrcParams} (h : crcPreset n = some p) :
    n = 1 ∨ n = 2 ∨ n = 3 ∨ n = 4 := by
  unfold crcPreset at h
  split at h
  · exact .inl rfl
  · exact .inr (.inl rfl)
  · exact .inr (.inr (.inl rfl))
  · exact .inr (.inr (.inr rfl))
  · cases h

/-- CVU_CTRL written with PRESET alone while ENABLE is 0 loads the six parameters (R374). -/
theorem cvuWriteCtrl_preset_idle {n : Nat} {p : CrcParams} {x : CvuUnit} (h : crcPreset n = some p)
    (he : x.enable = false) : cvuWriteCtrl (8192 * n) x =
      { x with mode := 0, width := p.width, poly := p.poly, init := p.init, refin := p.refin, refout := p.refout,
               xorout := p.xorout, badPreset := false } := by
  cases x
  cases he
  obtain rfl | rfl | rfl | rfl := crcPreset_some h <;> cases h <;> rfl

/-- PRESET acts while ENABLE is 1 too, and the other fields of CVU_CTRL stand (R374, R376). -/
theorem cvuWriteCtrl_preset_enabled {n : Nat} {p : CrcParams} {x : CvuUnit} (h : crcPreset n = some p)
    (he : x.enable = true) : cvuWriteCtrl (8192 * n + 1) x =
      { x with width := p.width, poly := p.poly, init := p.init, refin := p.refin, refout := p.refout,
               xorout := p.xorout, badPreset := false } := by
  cases x
  cases he
  obtain rfl | rfl | rfl | rfl := crcPreset_some h <;> cases h <;> rfl

/-- A PRESET of 1–4 with or without ENABLE has no reserved bit and no START. -/
theorem cvuResv_preset {n e : Nat} {p : CrcParams} (h : crcPreset n = some p) (he : e ≤ 1) :
    cvuResv 0 (8192 * n + e) = false ∧ bit (8192 * n + e) 16 = false := by
  obtain rfl | rfl : e = 0 ∨ e = 1 := by omega
  all_goals obtain rfl | rfl | rfl | rfl := crcPreset_some h <;> decide

/-- START opens a window in a unit that is enabled, in STREAM mode and usable (R375). -/
theorem cvuWriteCtrl_start {x : CvuUnit} (he : x.enable = true) (hm : x.mode = 0) (hb : x.badPreset = false)
    (h8 : 8 ≤ x.width) (h64 : x.width ≤ 64) (hs : x.stream ≠ 7) :
    cvuWriteCtrl 0x11A01 x = { x with busy := true, done := false, acc := [] } := by
  cases x
  cases he
  cases hm
  cases hb
  refine if_pos ?_
  have hwidth := decide_eq_true (And.intro h8 h64)
  have hstream := bne_iff_ne.2 hs
  exact Bool.and_eq_true_iff.2 ⟨rfl, Bool.and_eq_true_iff.2 ⟨hwidth, hstream⟩⟩

/-! ### The end of a STREAM window (R375) -/

/-- The later of two writes of a key stands. -/
theorem tput_tput {α : Type} (t : Tbl α) (k : Nat) (v w : α) : tput (tput t k v) k w = tput t k w := by
  induction t with
  | nil => simp [tput]
  | cons e t ih =>
    obtain ⟨k', v'⟩ := e
    by_cases h1 : k < k'
    · simp [tput, h1]
    · by_cases h2 : k = k'
      · simp [tput, h2]
      · simp [tput, h1, h2, ih]

/-- A unit written twice, the first time with DONE, holds what the second write gives. -/
theorem setCvu_setCvu_of_done {u : Nat} {x y : CvuUnit} (hx : x.done = true) (hy : y.done = true) (s : State) :
    setCvu u y (setCvu u x s) = setCvu u y s := by
  have hne {z : CvuUnit} (hz : z.done = true) : z ≠ {} := by
    rintro rfl
    exact absurd hz (by decide)
  simp only [setCvu, tset, if_neg (hne hx), if_neg (hne hy), tput_tput]

@[simp] theorem getCvu_setCvu (u : Nat) (x : CvuUnit) (s : State) : getCvu u (setCvu u x s) = x := tget_tset _ _ _ _

@[simp] theorem getCvu_bump (c : Ctr) (i u : Nat) (s : State) : getCvu u (bump c i s) = getCvu u s := rfl

theorem interrupt_mace (v : Nat) (s : State) : (interrupt v s).mace = s.mace := by
  unfold interrupt
  dsimp only
  split <;> rfl

theorem evrInterrupt_mace (s : State) : (evrInterrupt s).mace = s.mace := by
  unfold evrInterrupt
  split
  · exact interrupt_mace 0 s
  · split
    · rfl
    · exact interrupt_mace 0 s

/-- An entry written to the event ring leaves Mace alone. -/
theorem evrWrite_mace (e : EvEntry) (s : State) : (evrWrite e s).mace = s.mace := by
  unfold evrWrite
  exact evrInterrupt_mace _

/-- A posted event only adds to the faults on their way to Mace (R414). -/
theorem postEvent_inflight (ty : Nat) (b : Bytes) (s : State) :
    ∃ l, (postEvent ty b s).mace.inflight = s.mace.inflight ++ l := by
  unfold postEvent
  dsimp only
  split
  · exact ⟨[], by rw [evrWrite_mace, List.append_nil]⟩
  · unfold evrBacklog
    split
    · exact ⟨[], (List.append_nil _).symm⟩
    · exact ⟨[⟨195, 0, 0⟩], rfl⟩

/-- A mismatch sets MISMATCH, counts, and sends source F144 + u to Mace (R375). -/
theorem cvuMismatch_reports {u inst : Nat} {ports : BitVec 64} {res : Nat} {x : CvuUnit} {s : State} (hx : x.done = true) :
    let t := cvuMismatch u inst ports res (bump .CVU_CHECKS u (setCvu u x s))
    (∃ l, t.mace.inflight = s.mace.inflight ++ l ++ [⟨144 + u, inst, ports⟩]) ∧
      Reports (bump .CVU_MISMATCH u (bump .CVU_CHECKS u (setCvu u { x with mismatch := true } s))) t := by
  have hset : bump .CVU_MISMATCH u (setCvu u { getCvu u (bump .CVU_CHECKS u (setCvu u x s)) with mismatch := true }
      (bump .CVU_CHECKS u (setCvu u x s))) =
      bump .CVU_MISMATCH u (bump .CVU_CHECKS u (setCvu u { x with mismatch := true } s)) := by
    rw [getCvu_bump, getCvu_setCvu]
    exact congrArg (fun w => bump .CVU_MISMATCH u (bump .CVU_CHECKS u w))
      (setCvu_setCvu_of_done (y := { x with mismatch := true }) hx hx s)
  unfold cvuMismatch
  dsimp only
  rw [hset]
  constructor
  · obtain ⟨l, hl⟩ := postEvent_inflight 12 (leBytes 1 u ++ leBytes 1 inst ++ zeros 2 ++ leBytes 8 res)
      (bump .CVU_MISMATCH u (bump .CVU_CHECKS u (setCvu u { x with mismatch := true } s)))
    exact ⟨l, congrArg (· ++ [_]) hl⟩
  · exact (reports_postEvent _ _ _).trans (reports_raise _ _ _ (by omega))

/-- The end of a full STREAM window: the result is stored and counted, and compared with EXPECT (R375). -/
theorem cvuStreamDone_full {u : Nat} {data : Bytes} {s s1 : State} (hr : cvuRuns u s = true)
    (hm : (getCvu u s).mode = 0) (hb : (getCvu u s).busy = true) (hw : windowFull (getCvu u s) = true)
    (hs1 : s1 = if (getCvu u s).stream = 4 then
      addCtr .REQ_OPS 11 (((streamBytes (getCvu u s) s).length + 63) / 64) s else s) :
    exec (.cvuStreamDone u data) s =
      (let x := getCvu u s
       let res := crc (cvuParams x) (streamBytes x s)
       let t := bump .CVU_CHECKS u (setCvu u { x with busy := false, done := true, result := res } s1)
       .next (if res = x.expect % 2 ^ x.width then t else cvuMismatch u x.sel (cvuPorts x) res t)) := by
  subst hs1
  exact congrArg Host.Outcome.next (if_pos (by simp [hr, hm, hb, hw]))

/-- A unit that does not run, has no window open, or waits for further frames goes on as it is (R375). -/
theorem cvuStreamDone_goesOn {u : Nat} {data : Bytes} {s : State} (h : cvuRuns u s = false ∨ (getCvu u s).busy = false ∨
    ((getCvu u s).stream ∉ [4, 5] ∧ (getCvu u s).acc.length < (getCvu u s).window)) :
    exec (.cvuStreamDone u data) s = .next s := by
  refine congrArg Host.Outcome.next (if_neg ?_)
  obtain h | h | ⟨hst, hlen⟩ := h
  · rw [h]
    exact Bool.false_ne_true
  · rw [h, Bool.and_false]
    exact Bool.false_ne_true
  · have hw : windowFull (getCvu u s) = false := by
      simp only [List.mem_cons, List.not_mem_nil, or_false, not_or] at hst
      rw [windowFull, beq_false_of_ne hst.1, beq_false_of_ne hst.2, decide_eq_false (Nat.not_le.2 hlen)]
      rfl
    rw [hw, Bool.and_false]
    exact Bool.false_ne_true

/-- Settles O32: the register writes go through `cvuRegWrite_does`, and the window's end through `cvuStreamDone_full` and
`cvuMismatch_reports`. -/
theorem checkUnits : Obligations.CheckUnits := by
  refine ⟨?expect, ?locked, ?presetIdle, ?presetEnabled, ?start, by decide, ?values, ?agrees, ?goesOn, ?differs⟩
  case expect =>
    intro r s u ha b hl hr hu ho hv
    exact cvuRegWrite_does ha hl hr hu ho (by decide) rfl hv rfl rfl (cvuBadStart_of_ne _ (by decide))
  case locked =>
    intro r s u o ha b hl hr hu ho hof hv he
    obtain ⟨hsame, hclean⟩ := cvuWriteReg_locked (fld b 8 8) ho he
    have hword : (o < 64 ∧ o % 4 = 0) ∧ o ≠ 0 := by
      simp only [List.mem_cons, List.not_mem_nil, or_false] at ho
      omega
    exact cvuRegWrite_does ha hl hr hu hof hword.1 rfl hv hsame hclean (cvuBadStart_of_ne _ hword.2)
  case presetIdle =>
    intro r s u n p ha b hl hr hu ho hv hp he
    obtain ⟨hclean, hstart⟩ := cvuResv_preset (e := 0) hp (by decide)
    exact cvuRegWrite_does (off := 0) ha hl hr hu ho (by decide) hv (by have := crcPreset_some hp; omega)
      (cvuWriteCtrl_preset_idle hp he) hclean (cvuBadStart_of_bit _ hstart)
  case presetEnabled =>
    intro r s u n p ha b hl hr hu ho hv hp he
    obtain ⟨hclean, hstart⟩ := cvuResv_preset (e := 1) hp (by decide)
    exact cvuRegWrite_does (off := 0) ha hl hr hu ho (by decide) hv (by have := crcPreset_some hp; omega)
      (cvuWriteCtrl_preset_enabled hp he) hclean (cvuBadStart_of_bit _ hstart)
  case start =>
    intro r s u ha b hl hr hu ho hv he hm hb h8 h64 hs hw
    refine cvuRegWrite_does (off := 0) ha hl hr hu ho (by decide) hv (by decide)
      (cvuWriteCtrl_start he hm hb h8 h64 hs) (by decide) ?_
    by_cases h3 : (getCvu u s).stream ≤ 3
    · simp [cvuBadStart, hw h3]
    · simp [cvuBadStart, h3]
  case values =>
    intro p
    refine ⟨?_, ?_, ?_, ?_⟩ <;> (rintro ⟨⟩; decide +kernel)
  case agrees =>
    intro u data s s1 x res hr hm hb hw hres hs1
    exact (cvuStreamDone_full hr hm hb hw hs1).trans (congrArg Host.Outcome.next (if_pos hres))
  case goesOn => exact fun u data s h => cvuStreamDone_goesOn h
  case differs =>
    intro u data s s1 x res hr hm hb hw hres hs1
    have hin : s1.mace.inflight = s.mace.inflight := by
      rw [hs1]
      split <;> rfl
    rw [← hin]
    exact ⟨_, (cvuStreamDone_full hr hm hb hw hs1).trans (congrArg Host.Outcome.next (if_neg hres)),
      cvuMismatch_reports rfl⟩

end Sys2Proof.Machine

namespace Sys2Proof.Machine

/-! ## Action graphs (R133–R161): rules for the contexts, the task lists and the spill rings -/

section
variable (c l : Nat) (s : State)

@[simp] theorem getLevel_setLevel (x : LevelSt) : getLevel l (setLevel l x s) = x := tget_tset _ _ _ _

@[simp] theorem getLevel_bump (k : Ctr) (i : Nat) : getLevel l (bump k i s) = getLevel l s := rfl

@[simp] theorem getLevel_setGauge (k : Ctr) (i v : Nat) : getLevel l (setGauge k i v s) = getLevel l s := rfl

@[simp] theorem getCtr_setLevel (x : LevelSt) (k : Ctr) (i : Nat) : getCtr k i (setLevel l x s) = getCtr k i s := rfl

@[simp] theorem setLevel_host (x : LevelSt) : (setLevel l x s).host = s.host := rfl

@[simp] theorem getCtx_setCtx (x : Ctx) : getCtx c (setCtx c x s) = some x := tget?_tput _ _ _

@[simp] theorem getCtx_setLevel (x : LevelSt) : getCtx c (setLevel l x s) = getCtx c s := rfl

@[simp] theorem getCtx_bump (k : Ctr) (i : Nat) : getCtx c (bump k i s) = getCtx c s := rfl

@[simp] theorem getLevel_setCtx (x : Ctx) : getLevel l (setCtx c x s) = getLevel l s := rfl

@[simp] theorem getCtr_setCtx (x : Ctx) (k : Ctr) (i : Nat) : getCtr k i (setCtx c x s) = getCtr k i s := rfl

@[simp] theorem setCtx_host (x : Ctx) : (setCtx c x s).host = s.host := rfl

end

/-- A list with a task put in its place holds that task and what it held before. -/
@[simp] theorem mem_insertTask {t x : Task} {ts : List Task} : x ∈ insertTask t ts ↔ x = t ∨ x ∈ ts := by
  induction ts with
  | nil => simp [insertTask]
  | cons y ys ih =>
    rw [insertTask]
    split
    · simp
    · simp [ih, or_left_comm]

/-- Back-pressure of a level is all that its synchronisation changes in it (R152). -/
theorem getLevel_bpSync (l : Nat) (s : State) : ∃ b, getLevel l (bpSync l s) = { getLevel l s with bp := b } := by
  unfold bpSync
  dsimp only
  split
  · exact ⟨true, by simp⟩
  · split
    · exact ⟨false, by simp⟩
    · exact ⟨(getLevel l s).bp, rfl⟩

/-- Of the counters, the synchronisation of a level writes SPILL_DEPTH, and it can write BP_ENTER (R152). -/
theorem getCtr_bpSync {k : Ctr} (l i : Nat) (s : State) (h : k ≠ .BP_ENTER) :
    getCtr k i (bpSync l s) = getCtr k i (setGauge .SPILL_DEPTH l (getLevel l s).ring.length s) := by
  unfold bpSync
  dsimp only
  split
  · rw [getCtr_bump, if_neg fun e => h e.1]
    rfl
  · split <;> rfl

@[simp] theorem bpSync_host (l : Nat) (s : State) : (bpSync l s).host = s.host := by
  unfold bpSync
  dsimp only
  split
  · rfl
  · split <;> rfl

@[simp] theorem spillLine_host (t : Task) (s : State) : (spillLine t s).host = s.host := by
  unfold spillLine
  dsimp only
  split
  · rfl
  · exact hbmWrite_host _ _ _ _

@[simp] theorem pushTask_host (t : Task) (s : State) : (pushTask t s).host = s.host := by
  unfold pushTask
  dsimp only
  split <;> simp

/-- A task that becomes ready takes a slot while one is free and the ring is empty (R150). -/
theorem pushTask_slot {t : Task} {s : State} (hr : (getLevel t.level s).ring = [])
    (hn : (getLevel t.level s).slots.length < 16384) :
    pushTask t s = setLevel t.level { getLevel t.level s with slots := insertTask t (getLevel t.level s).slots }
      (bump .TASK_READY t.level s) := by
  refine if_pos ?_
  rw [hr, decide_eq_true hn]
  rfl

/-! ### Host runs: GRAPH_RUN and GRAPH_CANCEL (R147, R153, R412, R413) -/

@[simp] theorem startRun_host (t : Nat) (v : List Nat) (m : Option (Fin 8)) (s : State) :
    (startRun t v m s).host = s.host := pushTask_host _ _

/-- A run that starts while its level has a free slot and an empty ring: its slots stand in the run table, and its start task
is ready (R147, R149, R150). -/
theorem startRun_ready {t : Nat} (v : List Nat) (m : Option (Fin 8)) {s : State}
    (hr : (getLevel (tplPrio (tplRec s.ep.activeNo t s)) s).ring = [])
    (hn : (getLevel (tplPrio (tplRec s.ep.activeNo t s)) s).slots.length < 16384) :
    let l := tplPrio (tplRec s.ep.activeNo t s)
    let u := startRun t v m s
    tget? u.task.run (nextRun s) = some { tpl := t, bank := s.ep.activeNo, v := v, mbx := m } ∧
      (∃ x ∈ (getLevel l u).slots, x.ty = .start ∧ x.runId = nextRun s ∧ x.tpl = t) ∧
      getCtr .TASK_READY l u = (getCtr .TASK_READY l s + 1) % 2 ^ 64 := by
  intro l u
  let s1 : State := setTask { s.task with
    lastRun := nextRun s
    run := tput s.task.run (nextRun s) { tpl := t, bank := s.ep.activeNo, v := v, mbx := m } } s
  let x : Task := { ty := .start, level := l, bank := s.ep.activeNo, tpl := t, stamp := readyStamp s,
                    arg0 := v.headD 0, arg1 := nextRun s, runId := nextRun s }
  have hu : u = setLevel l { getLevel l s with slots := insertTask x (getLevel l s).slots } (bump .TASK_READY l s1) :=
    pushTask_slot (t := x) (s := s1) hr hn
  rw [hu]
  refine ⟨tget?_tput _ _ _, ⟨x, ?_, rfl, rfl, rfl⟩, ?_⟩
  · rw [getLevel_setLevel]
    exact mem_insertTask.2 (.inl rfl)
  · exact (getCtr_bump .TASK_READY .TASK_READY l l s1).trans (if_pos ⟨rfl, rfl⟩)

/-- A GRAPH_RUN whose fields hold goes on to the checks against the level and the template (R408, R412). -/
theorem graphRunH_formed {r : YcpReq} {b tr : Bytes} {rm : Nat} {s : State} (hl : b.length = 72) (hf : fld b 4 4 < 2)
    (ht : fld b 0 4 < 1024) (htr : tplRec s.ep.activeNo (fld b 0 4) s = tr) : graphRunH r b rm s =
      (need (!inBp (tplPrio tr) s) stBUSY s <|
       need (!startRefused (tplPrio tr) s) stNOSPACE s <|
       need (tplCount tr != 0) stNOT_FOUND s <|
       need (tplKind tr == 0) stINVALID s
         { yRead (leBytes 4 (nextRun s) ++ zeros 4) (startRun (fld b 0 4) ((List.range 8).map fun k => fld b (8 + 8 * k) 8)
             (if bit (fld b 4 4) 0 then some r.mbx else none) s) with cfg := true, wait := bit (fld b 4 4) 0 }) := by
  subst htr
  rw [graphRunH, need_pos (decide_eq_true hf), need_pos (beq_iff_eq.2 hl), need_pos (decide_eq_true ht)]

/-- A command that goes on executing, whatever body its handler gives. -/
theorem ycp_waits_with {op : Nat} {r : YcpReq} {h : YHandler} {s u : State} {b : Bytes} (ha : Accepted op r s)
    (hx : h r (reqBody r) (room r) s = { yRead b u with cfg := true, wait := true }) : Waits op r u (ycp op r h s) := by
  rw [Waits, ycp_accepted ha, hx]
  rfl

section
variable {r : YcpReq} {s : State} {tr : Bytes} (ha : Accepted 0x0412 r s) (hl : (reqBody r).length = 72)
  (hf : fld (reqBody r) 4 4 < 2) (ht : fld (reqBody r) 0 4 < 1024)
  (htr : tplRec s.ep.activeNo (fld (reqBody r) 0 4) s = tr)
include ha hl hf ht htr

/-- GRAPH_RUN is refused while the level of its template is in back-pressure (R152). -/
theorem graphRun_pressed (hbp : inBp (tplPrio tr) s = true) : Fails 0x0412 r stBUSY 0 s (exec (.graphRun r) s) := by
  refine ycp_fails ha ((graphRunH_formed hl hf ht htr).trans ?_) (by decide)
  exact need_neg (by rw [hbp]; rfl)

variable (hbp : inBp (tplPrio tr) s = false)
include hbp

/-- GRAPH_RUN is refused while the ring of its level holds as many start tasks as it may (R151). -/
theorem graphRun_noSpace (hstart : startRefused (tplPrio tr) s = true) :
    Fails 0x0412 r stNOSPACE 0 s (exec (.graphRun r) s) := by
  refine ycp_fails ha ((graphRunH_formed hl hf ht htr).trans ?_) (by decide)
  rw [need_pos (by rw [hbp]; rfl)]
  exact need_neg (by rw [hstart]; rfl)

variable (hstart : startRefused (tplPrio tr) s = false) (hcount : tplCount tr ≠ 0)
include hstart hcount

omit ha in
/-- What GRAPH_RUN does with a template that exists, on a level that takes its start task. -/
theorem graphRunH_taken : graphRunH r (reqBody r) (room r) s = need (tplKind tr == 0) stINVALID s
    { yRead (leBytes 4 (nextRun s) ++ zeros 4) (startRun (fld (reqBody r) 0 4)
        ((List.range 8).map fun k => fld (reqBody r) (8 + 8 * k) 8)
        (if bit (fld (reqBody r) 4 4) 0 then some r.mbx else none) s) with
      cfg := true, wait := bit (fld (reqBody r) 4 4) 0 } := by
  refine (graphRunH_formed hl hf ht htr).trans ?_
  rw [need_pos (by rw [hbp]; rfl), need_pos (by rw [hstart]; rfl), need_pos (bne_iff_ne.2 hcount)]

/-- The host runs templates of kind 0 alone (R136, R412). -/
theorem graphRun_otherKind (hk : tplKind tr ≠ 0) : Fails 0x0412 r stINVALID 0 s (exec (.graphRun r) s) :=
  ycp_fails ha ((graphRunH_taken hl hf ht htr hbp hstart hcount).trans (need_neg (beq_false_of_ne hk))) (by decide)

/-- A GRAPH_RUN without WAIT answers the RUN_ID at once (R412). -/
theorem graphRun_does (hk : tplKind tr = 0) (hw : fld (reqBody r) 4 4 = 0) (hroom : 8 ≤ room r) :
    Does 0x0412 r (leBytes 4 (nextRun s) ++ zeros 4)
      (startRun (fld (reqBody r) 0 4) ((List.range 8).map fun k => fld (reqBody r) (8 + 8 * k) 8) none s)
      (exec (.graphRun r) s) := by
  have htaken := graphRunH_taken hl hf ht htr hbp hstart hcount
  rw [need_pos (beq_iff_eq.2 hk), hw] at htaken
  exact ycp_does ha htaken (by simpa using hroom) (by rw [getMbx_of_host (startRun_host ..)])

/-- A GRAPH_RUN with WAIT goes on until its run ends (R412, R413). -/
theorem graphRun_waits (hk : tplKind tr = 0) (hw : fld (reqBody r) 4 4 = 1) :
    Waits 0x0412 r (startRun (fld (reqBody r) 0 4) ((List.range 8).map fun k => fld (reqBody r) (8 + 8 * k) 8)
      (some r.mbx) s) (exec (.graphRun r) s) := by
  have htaken := graphRunH_taken hl hf ht htr hbp hstart hcount
  rw [need_pos (beq_iff_eq.2 hk), hw] at htaken
  exact ycp_waits_with ha htaken

end

/-- A response leaves a mailbox that was not lost as one that is not lost (R402, R403). -/
theorem respond_notLost {k : Fin 8} {op : Nat} {r : YcpReq} {st dt : Nat} {b : Bytes} {rp mo : Bool} {ep : BitVec 32}
    {s : State} (h : (getMbx k s).lost = false) : (getMbx k (respond op r st dt b rp mo ep s)).lost = false := by
  unfold respond
  dsimp only
  split
  · rw [getMbx_setMbx]
    split
    · rfl
    · exact h
  · have hd : getMbx k (if (isDma r && !b.isEmpty) = true then dmaWrite (rspAddr r) b s else s) = getMbx k s := by
      split <;> rfl
    rw [(reports_interrupt _ _).mbx, getMbx_setMbx]
    split
    · rename_i hk
      exact hk ▸ h
    · rw [hd]
      exact h

/-- So does the completion of a command that leaves nothing for after its response. -/
theorem complete_notLost {k : Fin 8} {op : Nat} {r : YcpReq} {x : YRes} (ha : x.after = fun s => s)
    (h : (getMbx k x.st).lost = false) : (getMbx k (complete op r x)).lost = false := by
  unfold complete
  dsimp only
  rw [ha, (reports_traceRec _ _ _ _).mbx]
  have hpost (b : Bool) (ty : Nat) (p : Bytes) (s : State) (hs : (getMbx k s).lost = false) :
      (getMbx k (if b = true then postEvent ty p s else s)).lost = false := by
    split
    · rw [(reports_postEvent _ _ _).mbx]
      exact hs
    · exact hs
  refine hpost _ _ _ _ (respond_notLost ?_)
  have hcfg : getMbx k (if (decide (x.status = stOK) && x.cfg) = true then cfgExtend op r x.st else x.st) = getMbx k x.st := by
    split <;> rfl
  have herr (b : Prop) [Decidable b] (s : State) : getMbx k (if b then s else bump .MBX_ERRORS r.mbx.val s) = getMbx k s := by
    split <;> rfl
  have hbump (c : Ctr) (i : Nat) (s : State) : getMbx k (bump c i s) = getMbx k s := rfl
  rw [herr, hbump, getMbx_setMbx]
  split
  · rename_i hk
    subst hk
    dsimp only
    rw [hcfg]
    exact h
  · rw [hcfg]
    exact h

/-- A result that leaves the host interface alone and nothing for later is held to the room as such a result. -/
theorem fitted_host {r : YcpReq} {s : State} {x : YRes} (ha : x.after = fun s => s) (hh : x.st.host = s.host) :
    (fitted r s x).after = (fun s => s) ∧ (fitted r s x).st.host = s.host := by
  unfold fitted
  split
  · exact ⟨ha, hh⟩
  · split
    · exact ⟨rfl, rfl⟩
    · split
      · exact ⟨rfl, rfl⟩
      · exact ⟨ha, hh⟩

/-- A command that was still executing completes, and no mailbox becomes lost by it (R402, R404). -/
theorem finishRunning_notLost {k m : Fin 8} {mk : State → YRes} {s : State} (ha : (mk s).after = fun s => s)
    (hh : (mk s).st.host = s.host) (h : (getMbx k s).lost = false) : (getMbx k (finishRunning m mk s)).lost = false := by
  unfold finishRunning
  split
  · obtain ⟨hafter, hhost⟩ := fitted_host ha hh
    exact complete_notLost hafter ((getMbx_of_host hhost).symm ▸ h)
  · exact h

/-- The end of a run, with the response of a GRAPH_RUN that waits for it (R155, R413). -/
theorem endRun_notLost {k : Fin 8} {id status : Nat} {out : Bytes} {s : State} (h : (getMbx k s).lost = false) :
    (getMbx k (endRun id status out s)).lost = false := by
  unfold endRun
  split
  · exact h
  · have hpost (t : State) (p : Bytes) (ht : (getMbx k t).lost = false) : (getMbx k (postEvent 14 p t)).lost = false := by
      rw [(reports_postEvent _ _ _).mbx]
      exact ht
    dsimp only
    split
    · exact hpost _ _ h
    · refine finishRunning_notLost ?_ ?_ (hpost _ _ h)
      · split <;> rfl
      · split <;> rfl

@[simp] theorem dropTasks_host (c : Nat) (s : State) : (dropTasks c s).host = s.host := by
  unfold dropTasks
  split <;> rfl

@[simp] theorem closeIf_host (c : Nat) (s : State) : (closeIf c s).host = s.host := by
  unfold closeIf releaseCtx
  split
  · split
    · split <;> rfl
    · rfl
  · rfl

@[simp] theorem cancelInst_host (c : Nat) (s : State) : (cancelInst c s).host = s.host := by
  unfold cancelInst
  split
  · rfl
  · split
    · rfl
    · dsimp only
      rw [closeIf_host, setCtx_host, bump_host, dropTasks_host]
      split <;> rfl

@[simp] theorem dropStart_host (id : Nat) (s : State) : (dropStart id s).host = s.host :=
  forEach_host (fun _ _ => by rw [bpSync_host, setLevel_host]) _ _

/-- A cancelled run leaves no mailbox lost that was not (R402, R413). -/
theorem cancelRun_notLost {k : Fin 8} {id : Nat} {h : HostRun} {s : State} (hk : (getMbx k s).lost = false) :
    (getMbx k (cancelRun id h s)).lost = false := by
  refine endRun_notLost ?_
  rw [getMbx_of_host (t := s)]
  · exact hk
  · rw [tookFree_host]
    split
    · exact cancelInst_host _ _
    · exact dropStart_host _ _

section
variable {r : YcpReq} {s : State} {h : HostRun} (ha : Accepted 0x0413 r s) (hl : (reqBody r).length = 4)
include ha hl

/-- GRAPH_CANCEL of a RUN_ID that names no run. -/
theorem graphCancel_unknown (hrun : tget? s.task.run (fld (reqBody r) 0 4) = none) :
    Fails 0x0413 r stNOT_FOUND 0 s (exec (.graphCancel r) s) := by
  refine ycp_fails ha ?_ (by decide)
  rw [graphCancelH, formO_ok hl fun _ hp => absurd hp List.not_mem_nil, hrun]
  rfl

variable (hrun : tget? s.task.run (fld (reqBody r) 0 4) = some h)
include hrun

/-- GRAPH_CANCEL of a run that stands and whose context, if it has one, is of no kind 1, 2 or 3 (R153, R413). -/
theorem graphCancel_does (hkind : ∀ x, h.ctx.bind (getCtx · s) = some x → ¬(1 ≤ x.kind ∧ x.kind ≤ 3)) :
    Does 0x0413 r [] (cancelRun (fld (reqBody r) 0 4) h s) (exec (.graphCancel r) s) := by
  refine ycp_does ha ?_ (Nat.zero_le _) ((cancelRun_notLost ha.lost).trans ha.lost.symm)
  rw [graphCancelH, formO_ok hl fun _ hp => absurd hp List.not_mem_nil, hrun]
  refine need_pos ?_
  cases hx : h.ctx.bind (getCtx · s) with
  | none => rfl
  | some x => exact congrArg not (decide_eq_false (hkind x hx))

/-- GRAPH_CANCEL of a run whose context has chained into a graph of kind 1, 2 or 3. -/
theorem graphCancel_denied {x : Ctx} (hx : h.ctx.bind (getCtx · s) = some x) (hkind : 1 ≤ x.kind ∧ x.kind ≤ 3) :
    Fails 0x0413 r stDENIED 0 s (exec (.graphCancel r) s) := by
  refine ycp_fails ha ?_ (by decide)
  rw [graphCancelH, formO_ok hl fun _ hp => absurd hp List.not_mem_nil, hrun]
  refine need_neg ?_
  rw [hx]
  exact congrArg not (decide_eq_true hkind)

end

/-! ### Dispatch (R148, R159, R371) -/

/-- A flit of a fabric in which nothing is injected leaves the state alone (R371, R372). -/
theorem flit_clean {link : Nat} {s : State} (h : s.mace.injection = none) : (flit link s).2 = s := by
  simp only [flit, takeInjection, h]

@[simp] theorem takeInjection_task (struct place : Nat) (s : State) : (takeInjection struct place s).2.task = s.task := by
  unfold takeInjection
  split
  · split <;> rfl
  · rfl

@[simp] theorem flit_task (link : Nat) (s : State) : (flit link s).2.task = s.task := by
  have h := takeInjection_task injFABRIC link s
  unfold flit
  dsimp only
  split <;> exact h

/-- With no task to take, the engines of a clock do nothing. -/
theorem dispatchTo_idle {es : List Nat} {s : State} (h : nextTask s = none) : dispatchTo es s = s := by
  cases es with
  | nil => rfl
  | cons e es => rw [dispatchTo, h]

section
variable {e : Nat} {es : List Nat} {t : Task} {s : State}

/-- A sound engine runs the task; it is the only one of its clock when no other task can be taken. -/
theorem dispatchTo_sound (h : nextTask s = some t) (he : tget 0 s.task.suspect e = 0)
    (hn : nextTask (runTask e t s) = none) : dispatchTo (e :: es) s = runTask e t s := by
  simp only [dispatchTo, h, if_pos he]
  exact dispatchTo_idle hn

/-- An engine that has a fault commits nothing: F035 names it, it takes no more tasks, and its task goes back (R159). -/
theorem dispatchTo_suspect (h : nextTask s = some t) (he : tget 0 s.task.suspect e ≠ 0) {u : State}
    (hu : u = raise 35 e 0 (bump .NODE_FAULT 0 (setSuspect e 2 (bump .TASK_DISPATCH t.level (takeTask t s)))))
    (hn : nextTask u = none) : dispatchTo (e :: es) s = returnTask t u := by
  simp only [dispatchTo, h, if_neg he]
  rw [← hu, dispatchTo_idle hn]

end

/-- Out of standby a dispatch clocks the scheduler, and the engines take their tasks (R148, R442). -/
theorem taskDispatch_awake {s : State} (h : s.pwr.standby ≠ .inStandby) :
    exec .taskDispatch s =
      .next (dispatchTo ((workingEngines (nextClk s)).take 16) (flit linkACT (nextClk s)).2) :=
  congrArg Host.Outcome.next (if_neg h)

/-- A task that an engine gives back stands in its level again, beside all that stood there (R159). -/
theorem mem_returnTask {t x : Task} {s : State} :
    x ∈ (getLevel t.level (returnTask t s)).slots ↔ x = t ∨ x ∈ (getLevel t.level s).slots := by
  rw [returnTask, getLevel_setLevel]
  exact mem_insertTask

/-! ### The choice of the next task (R148, R445) -/

/-- A start task that still needs its context is passed over: one before it waits for a context, it waits for one itself, or
a warm reset is under way (R148, R445). -/
def startWaits (held : Bool) (t : Task) (s : State) : Bool :=
  t.ty == .start && !t.pre && (held || noContext t s || s.pwr.warm != .none)

theorem firstTask_cons (held : Bool) (t : Task) (ts : List Task) (s : State) : firstTask s held (t :: ts) =
    if s.task.clk < t.stamp then none
    else if startWaits held t s then firstTask s true ts
    else if stepHeld t s || cacheHeld t s then firstTask s held ts
    else some t := rfl

/-- A start task that waits for a context is one that still needs it. -/
theorem noContext_start {t : Task} {s : State} (h : noContext t s = true) : t.ty = .start ∧ t.pre = false := by
  simp only [noContext, Bool.and_eq_true, Bool.not_eq_true', beq_iff_eq] at h
  exact h.1

theorem startWaits_iff {held : Bool} {t : Task} {s : State} : startWaits held t s = true ↔
    t.ty = .start ∧ t.pre = false ∧ (held = true ∨ noContext t s = true ∨ s.pwr.warm ≠ .none) := by
  simp [startWaits, and_assoc, or_assoc]

/-- What the task that a level yields fulfils, behind a start task that waits for a context when `held` (R148). -/
theorem firstTask_some {s : State} {t : Task} {ts : List Task} {held : Bool}
    (hs : ts.Pairwise fun a b => a.stamp ≤ b.stamp) (h : firstTask s held ts = some t) :
    t ∈ ts ∧ t.stamp ≤ s.task.clk ∧ startWaits held t s = false ∧ stepHeld t s = false ∧ cacheHeld t s = false ∧
      (t.ty = .start → t.pre = false → ∀ x ∈ ts, noContext x s = true → t.stamp ≤ x.stamp) := by
  induction ts generalizing held with
  | nil => cases h
  | cons y ys ih =>
    obtain ⟨hy, hys⟩ := List.pairwise_cons.1 hs
    rw [firstTask_cons] at h
    split at h
    · cases h
    · rename_i hclk
      split at h
      · obtain ⟨hm, hst, hsw, hstep, hcache, -⟩ := ih hys h
        have hready (hty : t.ty = .start) (hpre : t.pre = false) : False :=
          Bool.eq_false_iff.1 hsw (startWaits_iff.2 ⟨hty, hpre, .inl rfl⟩)
        refine ⟨.tail _ hm, hst, Bool.eq_false_iff.2 fun hw => ?_, hstep, hcache, fun hty hpre => (hready hty hpre).elim⟩
        obtain ⟨hty, hpre, -⟩ := startWaits_iff.1 hw
        exact hready hty hpre
      · rename_i hgo
        split at h
        · obtain ⟨hm, hst, hsw, hstep, hcache, hfirst⟩ := ih hys h
          refine ⟨.tail _ hm, hst, hsw, hstep, hcache, fun hty hpre x hx hn => ?_⟩
          obtain rfl | hx := List.mem_cons.1 hx
          · obtain ⟨hxty, hxpre⟩ := noContext_start hn
            exact absurd (startWaits_iff.2 ⟨hxty, hxpre, .inr (.inl hn)⟩) hgo
          · exact hfirst hty hpre x hx hn
        · rename_i hheld
          cases h
          obtain ⟨hstep, hcache⟩ := Bool.or_eq_false_iff.1 (Bool.eq_false_iff.2 hheld)
          refine ⟨.head _, Nat.le_of_not_lt hclk, Bool.eq_false_iff.2 hgo, hstep, hcache, fun _ _ x hx _ => ?_⟩
          obtain rfl | hx := List.mem_cons.1 hx
          · exact Nat.le_refl _
          · exact hy x hx

/-- Why a level yields no task: each is not due, held, or a start task behind one that waits for a context or in the quiesce of
a warm reset (R148, R445). -/
theorem firstTask_none {s : State} {ts : List Task} {held : Bool}
    (hs : ts.Pairwise fun a b => a.stamp ≤ b.stamp) (h : firstTask s held ts = none) {x : Task} (hx : x ∈ ts) :
    s.task.clk < x.stamp ∨ stepHeld x s = true ∨ cacheHeld x s = true ∨
      (x.ty = .start ∧ x.pre = false ∧
        (held = true ∨ s.pwr.warm ≠ .none ∨ ∃ y ∈ ts, noContext y s = true)) := by
  induction ts generalizing held with
  | nil => cases hx
  | cons y ys ih =>
    obtain ⟨hy, hys⟩ := List.pairwise_cons.1 hs
    rw [firstTask_cons] at h
    split at h
    · rename_i hclk
      obtain rfl | hx := List.mem_cons.1 hx
      · exact .inl hclk
      · exact .inl (Nat.lt_of_lt_of_le hclk (hy x hx))
    · split at h
      · rename_i hwait
        obtain ⟨hty, hpre, hwhy⟩ := startWaits_iff.1 hwait
        have hcause : held = true ∨ s.pwr.warm ≠ .none ∨ ∃ z ∈ y :: ys, noContext z s = true := by
          obtain hh | hn | hw := hwhy
          · exact .inl hh
          · exact .inr (.inr ⟨y, .head _, hn⟩)
          · exact .inr (.inl hw)
        obtain rfl | hx := List.mem_cons.1 hx
        · exact .inr (.inr (.inr ⟨hty, hpre, hcause⟩))
        · obtain hc | hc | hc | ⟨hxty, hxpre, -⟩ := ih hys h hx
          · exact .inl hc
          · exact .inr (.inl hc)
          · exact .inr (.inr (.inl hc))
          · exact .inr (.inr (.inr ⟨hxty, hxpre, hcause⟩))
      · split at h
        · rename_i hheld
          obtain rfl | hx := List.mem_cons.1 hx
          · obtain hc | hc := Bool.or_eq_true_iff.1 hheld
            · exact .inr (.inl hc)
            · exact .inr (.inr (.inl hc))
          · obtain hc | hc | hc | ⟨hxty, hxpre, hc⟩ := ih hys h hx
            · exact .inl hc
            · exact .inr (.inl hc)
            · exact .inr (.inr (.inl hc))
            · refine .inr (.inr (.inr ⟨hxty, hxpre, hc.imp_right (Or.imp_right ?_)⟩))
              exact fun ⟨z, hz, hn⟩ => ⟨z, .tail _ hz, hn⟩
        · cases h

/-- The next task is the first of its level, and no level above it yields one (R148). -/
theorem nextTask_some {s : State} {t : Task} (h : nextTask s = some t) :
    ∃ l, l ≤ 7 ∧ firstTask s false (getLevel l s).slots = some t ∧
      ∀ k, l < k → k ≤ 7 → firstTask s false (getLevel k s).slots = none := by
  obtain ⟨above, l, below, hlist, hl, hnone⟩ := List.findSome?_eq_some_iff.1 h
  have hmem (k : Nat) : k ∈ above ++ l :: below ↔ k ≤ 7 := by
    rw [← hlist]
    simp only [List.mem_cons, List.not_mem_nil, or_false]
    omega
  have hdown : (above ++ l :: below).Pairwise fun a b => b < a := by
    rw [← hlist]
    decide
  have hbelow : ∀ k ∈ below, k < l := (List.pairwise_cons.1 (List.pairwise_append.1 hdown).2.1).1
  refine ⟨l, (hmem l).1 (by simp), hl, fun k hlk hk => hnone k ?_⟩
  obtain hk | hk := List.mem_append.1 ((hmem k).2 hk)
  · exact hk
  · obtain rfl | hk := List.mem_cons.1 hk
    · exact absurd hlk (Nat.lt_irrefl _)
    · exact absurd (hbelow k hk) (Nat.lt_asymm hlk)

/-- The task that the scheduler takes from levels in stamp order: it is due and nothing holds it, no start task before it waits
for a context if it needs one itself, and every task of a level above is not due, held, or such a start task (R148, R445). -/
theorem nextTask_dispatchable {t : Task} {s : State}
    (hsort : ∀ l, l ≤ 7 → (getLevel l s).slots.Pairwise fun a b => a.stamp ≤ b.stamp) (h : nextTask s = some t) :
    ∃ l, l ≤ 7 ∧ t ∈ (getLevel l s).slots ∧ t.stamp ≤ s.task.clk ∧
    noContext t s = false ∧ stepHeld t s = false ∧ cacheHeld t s = false ∧
    (t.ty = .start → t.pre = false → s.pwr.warm = .none ∧
      ∀ x ∈ (getLevel l s).slots, noContext x s = true → t.stamp ≤ x.stamp) ∧
    ∀ k, l < k → k ≤ 7 → ∀ x ∈ (getLevel k s).slots, s.task.clk < x.stamp ∨ stepHeld x s = true ∨ cacheHeld x s = true ∨
      (x.ty = .start ∧ x.pre = false ∧ (s.pwr.warm ≠ .none ∨ ∃ y ∈ (getLevel k s).slots, noContext y s = true)) := by
  obtain ⟨l, hl, hfirst, habove⟩ := nextTask_some h
  obtain ⟨hm, hstamp, hwait, hstep, hcache, hord⟩ := firstTask_some (hsort l hl) hfirst
  have hnow (hty : t.ty = .start) (hpre : t.pre = false) : ¬(noContext t s = true ∨ s.pwr.warm ≠ .none) :=
    fun hw => Bool.eq_false_iff.1 hwait (startWaits_iff.2 ⟨hty, hpre, .inr hw⟩)
  refine ⟨l, hl, hm, hstamp, Bool.eq_false_iff.2 fun hn => ?_, hstep, hcache, fun hty hpre => ⟨?_, hord hty hpre⟩,
    fun k hlk hk x hx => ?_⟩
  · obtain ⟨hty, hpre⟩ := noContext_start hn
    exact hnow hty hpre (.inl hn)
  · exact Decidable.byContradiction fun hw => hnow hty hpre (.inr hw)
  · simpa only [Bool.false_eq_true, false_or] using firstTask_none (hsort k hk) (habove k hlk hk) hx

/-! ### Nodes (R140–R142) -/

/-- A node that a working engine runs: skipped in one cycle, or with its effect in those of its operation (R140, R141). -/
theorem runTask_node {e : Nat} {t : Task} {x : Ctx} {s : State} (hty : t.ty = .node) (hbad : symCount t.bad < 2)
    (hx : getCtx t.ctx s = some x) (hxbad : x.bad < 2) (he : engineState e s = .working) :
    runTask e t s =
      (let n := tplNode (tplRec x.bank x.tpl s) t.node
       let s1 := addCycles e (nodeCycles x n) (bump .TASK_DISPATCH t.level (takeTask t s))
       if skipped x n = true then nodeDone t.ctx t.node id s1
       else nodeEffect t.ctx t.node x (tplRec x.bank x.tpl s) n s1) := by
  have hctx : getCtx t.ctx (bump .TASK_DISPATCH t.level (takeTask t s)) = some x := hx
  have heng : engineState e (bump .TASK_DISPATCH t.level (takeTask t s)) = .working := he
  have hlost : ctxLost t.ctx (bump .TASK_DISPATCH t.level (takeTask t s)) = false := by
    rw [ctxLost, hctx]
    exact decide_eq_false (Nat.not_le.2 hxbad)
  rw [runTask, if_neg (Nat.not_le.2 hbad)]
  simp only [heng, reduceCtorEq, if_false, hlost, Bool.and_false, Bool.false_eq_true, hty, hctx]
  rfl

theorem nodeCycles_skipped {x : Ctx} {n : Bytes} (h : skipped x n = true) : nodeCycles x n = 1 := if_pos h

/-- A predicate skips its node when the value of its slot, negated where PRED_NEG is set, is 0 (R140). -/
theorem skipped_iff (x : Ctx) (n : Bytes) : skipped x n = true ↔
    nodePredEn n = true ∧ ¬(xor (x.slot (nodePred n) ≠ 0) (nodePredNeg n) = true) := by
  unfold skipped
  by_cases h : x.slot (nodePred n) = 0 <;> cases nodePredNeg n <;> simp [h]

/-- The ALU by SUB (R141). -/
theorem aluResult_eq (x : Ctx) (n : Bytes) (s : State) : let a := x.slot (nodeSrcA n)
    let b := x.opB n
    (nodeSub n = 0 → aluResult x n s = (a + b) % 2 ^ 64) ∧
    (nodeSub n = 1 → b ≤ a → a < 2 ^ 64 → aluResult x n s = a - b) ∧
    (nodeSub n = 2 → aluResult x n s = a &&& b) ∧ (nodeSub n = 3 → aluResult x n s = a ||| b) ∧
    (nodeSub n = 4 → aluResult x n s = a ^^^ b) ∧
    (nodeSub n = 5 → b < 64 → aluResult x n s = (a * 2 ^ b) % 2 ^ 64) ∧
    (nodeSub n = 6 → b < 64 → aluResult x n s = a / 2 ^ b) ∧
    (nodeSub n = 7 → aluResult x n s = min a b) ∧ (nodeSub n = 8 → aluResult x n s = max a b) ∧
    (nodeSub n = 9 → aluResult x n s = if a = b then 1 else 0) ∧
    (nodeSub n = 10 → aluResult x n s = if a < b then 1 else 0) ∧ (nodeSub n = 11 → aluResult x n s = b) := by
  intro a b
  refine ⟨?_, fun h hba ha => ?sub, ?_, ?_, ?_, fun h hb => ?shl, fun h hb => ?shr, ?_, ?_, ?eq, ?lt, ?_⟩
  case sub =>
    have hsub : aluResult x n s = (a + 2 ^ 64 - b) % 2 ^ 64 := by simp only [aluResult, h]; rfl
    omega
  case shl =>
    have hshl : aluResult x n s = if 64 ≤ b then 0 else (a <<< b) % 2 ^ 64 := by simp only [aluResult, h]; rfl
    rw [hshl, if_neg (Nat.not_le.2 hb), Nat.shiftLeft_eq]
  case shr =>
    have hshr : aluResult x n s = if 64 ≤ b then 0 else a >>> b := by simp only [aluResult, h]; rfl
    rw [hshr, if_neg (Nat.not_le.2 hb), Nat.shiftRight_eq_div_pow]
  case eq =>
    intro h
    have heq : aluResult x n s = b2n (a == b) := by simp only [aluResult, h]; rfl
    rw [heq, b2n]
    exact ite_congr (propext beq_iff_eq) (fun _ => rfl) fun _ => rfl
  case lt =>
    intro h
    have hlt : aluResult x n s = b2n (decide (a < b)) := by simp only [aluResult, h]; rfl
    rw [hlt, b2n]
    exact ite_congr (propext decide_eq_true_iff) (fun _ => rfl) fun _ => rfl
  all_goals
    intro h
    simp only [aluResult, h]
    rfl

/-- A node of HBM whose address lies outside its template's regions fails its graph with F038 (R142). -/
theorem nodeEffect_badAddr {c j : Nat} {x : Ctx} {r n : Bytes} {s : State}
    (hop : nodeOp n = 9 ∨ nodeOp n = 10 ∨ nodeOp n = 11) (ha : nodeAddrOk r n x = false) :
    nodeEffect c j x r n s = nodeFault c j x s := by
  obtain h | h | h := hop <;> simp only [nodeEffect, h, ha, Bool.false_eq_true, if_false]

/-- An entry that is absent or sound is found as it stands (R103). -/
theorem hotCheck_sound {k : Nat} {s : State} (h : ∀ e, hotGet k s = some e → e.bad = 0) : hotCheck k s = s := by
  unfold hotCheck
  split
  · rename_i e he
    exact if_pos (h e he)
  · rfl

/-- A node whose flow has left its place in the hot tier counts HOT_GONE and gives 0 (R141, R156). -/
theorem hotNode_gone {x : Ctx} {n : Bytes} {s : State} (hgone : heldEntry x (locPlace (x.slot (nodeSrcA n))) s = none)
    (h : ∀ e, hotGet (locPlace (x.slot (nodeSrcA n))) s = some e → e.bad = 0) :
    hotUpdate x n s = (0, bump .HOT_GONE 0 s) ∧ tcpStep x n s = (0, bump .HOT_GONE 0 s) := by
  have hcheck := hotCheck_sound h
  constructor
  · simp only [hotUpdate, hcheck, hgone]
  · simp only [tcpStep, hcheck, hgone]

/-! ### Returns (R139, R141, R145, R153) -/

/-- The return of an operation that is not outstanding does nothing. -/
theorem hbmNodeCompletion_stray {c node : Nat} {s : State} (h : ∀ x, getCtx c s = some x → node ∉ x.outst) :
    exec (.hbmNodeCompletion c node) s = .next s := by
  refine congrArg Host.Outcome.next ?_
  split
  · rfl
  · rename_i x hx
    refine if_pos ?_
    rw [Bool.eq_false_iff.2 fun hm => h x hx (List.contains_iff_mem.1 hm)]
    rfl

/-- The return of a node's data changes no field of its context but those it fills. -/
theorem returned_kind (j : Nat) (r : NodeRet) (dst : Nat) (x : Ctx) : (returned j r dst x).kind = x.kind := by
  unfold returned Ctx.put
  dsimp only
  split
  · split <;> rfl
  · rfl

section
variable {c node : Nat} {x : Ctx} {s : State}

/-- A return for which HBM still owes data or an acceptance has to come again. -/
theorem hbmNodeCompletion_owed (hx : getCtx c s = some x) (h : owed x (tget {} x.ret node) s = true) :
    exec (.hbmNodeCompletion c node) s = .next s := by
  refine congrArg Host.Outcome.next ?_
  simp only [hx]
  refine if_pos ?_
  rw [h, Bool.or_true]

/-- The return of an operation of no CAM, map or eviction node and with no undo entry: the context takes what it brings, and
its state says what follows. -/
theorem hbmNodeCompletion_returns (hx : getCtx c s = some x) (hm : node ∈ x.outst) (hn : node < 32) (hlog : x.log = none)
    (ho : owed x (tget {} x.ret node) s = false) {n : Bytes} (hnode : n = tplNode (tplRec x.bank x.tpl s) node)
    (hcam : nodeOp n ≠ 0x13) (hmap : nodeOp n ≠ 0x18) (hback : ¬(nodeOp n = 0x0A ∧ x.kind = 2)) :
    let s1 := setCtx c (returned node (tget {} x.ret node) (nodeDst n) x) s
    (x.st = .closing → exec (.hbmNodeCompletion c node) s = .next (closeIf c s1)) ∧
    (x.st = .frozen → exec (.hbmNodeCompletion c node) s = .next s1) ∧
    (x.st = .running → exec (.hbmNodeCompletion c node) s = .next (nodeDone c node id s1)) := by
  have hins (r : NodeRet) : insertReturn x r n s = s := by
    unfold insertReturn
    split
    · exact if_neg hmap
    · rfl
  have hcamRet : camReturn n s = s := if_neg hcam
  have hacc : backAccepted c n (setCtx c (returned node (tget {} x.ret node) (nodeDst n) x) s) =
      setCtx c (returned node (tget {} x.ret node) (nodeDst n) x) s := by
    simp only [backAccepted, getCtx_setCtx, returned_kind]
    exact if_neg fun h => hback ⟨h.1, h.2.1⟩
  have hcont : (!x.outst.contains node || owed x (tget {} x.ret node) s) = false := by
    rw [List.contains_iff_mem.2 hm, ho]
    rfl
  refine ⟨fun hst => congrArg Host.Outcome.next ?_, fun hst => congrArg Host.Outcome.next ?_,
    fun hst => congrArg Host.Outcome.next ?_⟩
  all_goals simp only [hx, hcont, Bool.false_eq_true, if_false, hn, if_true, ← hnode, hcamRet, hins, hlog, true_and, hacc,
    ite_self, hst]

end

/-! ### Timers, timeouts and cancelling (R141, R153, R155) -/

/-- A node whose timer has run out completes; before that it waits (R141). -/
theorem waitEventTimer_eq {c node t : Nat} {x : Ctx} {s : State} (hx : getCtx c s = some x)
    (ht : tget? x.timers node = some t) : exec (.waitEventTimer c node) s =
      .next (if t ≤ s.time.free ∧ x.st = .running then nodeDone c node (fun y => { y with timers := tdel y.timers node }) s
        else s) := by
  refine congrArg Host.Outcome.next ?_
  simp only [hx, ht]

/-- Time spent in a pause counts only towards the life of a graph (R155). -/
theorem elapsedNs_le (x : Ctx) (s : State) : elapsedNs x s ≤ lifeNs x s :=
  Nat.le_trans (Nat.sub_le _ _) (Nat.sub_le _ _)

/-- Without a pause the life of a graph is its elapsed time. -/
theorem elapsedNs_unpaused {x : Ctx} (s : State) (hp : x.pausedNs = 0) (ha : x.pausedAt = none) :
    elapsedNs x s = lifeNs x s := by
  rw [elapsedNs, hp, ha]
  rfl

theorem timedOut_iff (x : Ctx) (s : State) : timedOut x s = true ↔
    timeoutUs (tplRec x.bank x.tpl s) ≤ elapsedNs x s / 1000 ∨ 2 * timeoutUs (tplRec x.bank x.tpl s) ≤ lifeNs x s / 1000 :=
  decide_eq_true_iff

/-- A graph that times out has lived for TIMEOUT. -/
theorem timeout_le_life {x : Ctx} {s : State} (h : timedOut x s = true) :
    timeoutUs (tplRec x.bank x.tpl s) ≤ lifeNs x s / 1000 := by
  obtain h | h := (timedOut_iff x s).1 h
  · exact Nat.le_trans h (Nat.div_le_div_right (elapsedNs_le x s))
  · omega

/-- Without a pause the timeout is a matter of the life alone. -/
theorem timedOut_unpaused {x : Ctx} {s : State} (hp : x.pausedNs = 0) (ha : x.pausedAt = none) :
    timedOut x s = true ↔ timeoutUs (tplRec x.bank x.tpl s) ≤ lifeNs x s / 1000 := by
  rw [timedOut_iff, elapsedNs_unpaused s hp ha]
  omega

section
variable {c : Nat} {x : Ctx} {s : State}

/-- A graph that runs out of its time fails with TIMEOUT and F034; one of an eviction or an ageing makes a pool audit due
(R155, R197). -/
theorem graphTimeout_running (hx : getCtx c s = some x) (hst : x.st = .running) :
    exec (.graphTimeout c) s = .next (
      let s1 := raise 34 x.tpl 0 (bump .GRAPH_TIMEOUT x.kind s)
      if timedOut x s = true then
        failInst c stTIMEOUT (if x.kind = 2 ∨ x.kind = 3 then { s1 with pwr := { s1.pwr with auditDue := true } } else s1)
      else s) := by
  refine congrArg Host.Outcome.next ?_
  simp only [hx, hst, true_or, true_and]

/-- A graph with no log of an admission fails by being cancelled, with its slot pushed and its run ended (R153, R155). -/
theorem failInst_cancels {status : Nat} (hx : getCtx c s = some x) (hk : x.kind ≠ 1) :
    failInst c status s = endRun x.runId status [] (pushRecord x (cancelInst c s)) := by
  simp only [failInst, hx, if_neg hk]

/-- An admission whose log is attached is abandoned (R126). -/
theorem failInst_abandons {l status : Nat} (hx : getCtx c s = some x) (hk : x.kind = 1) (hl : x.log = some l) :
    failInst c status s = beginUndo l .abandon s := by
  simp only [failInst, hx, if_pos hk, hl]

/-- What is left of a cancelled graph before its context is released: a context in CLOSING without tasks in the slots
(R153, R154). -/
theorem cancelInst_closing (hx : getCtx c s = some x) (hst : x.st ≠ .closing) :
    ∃ u y, cancelInst c s = closeIf c u ∧ getCtx c u = some y ∧ y.st = .closing ∧ y.outst = x.outst ∧
      u.task.gen = s.task.gen ∧
      (getLevel x.level u).slots = (getLevel x.level s).slots.filter (fun t => !ownTask c t) ∧
      getCtr .GRAPH_CANCEL x.kind u = (getCtr .GRAPH_CANCEL x.kind s + 1) % 2 ^ 64 := by
  -- the count of a race touches neither the tasks nor the cancellations counted
  obtain ⟨s0, hrace, htask, hctr⟩ : ∃ s0, (if racing c x s = true then bump .CANCEL_RACE 0 s else s) = s0 ∧
      s0.task = s.task ∧ getCtr .GRAPH_CANCEL x.kind s0 = getCtr .GRAPH_CANCEL x.kind s := by
    split
    · exact ⟨_, rfl, rfl, (getCtr_bump ..).trans (if_neg fun h => nomatch h.1)⟩
    · exact ⟨_, rfl, rfl, rfl⟩
  have hx0 : getCtx c s0 = some x := (congrArg (fun z : TaskState => tget? z.ctx c) htask).trans hx
  have hdrop : dropTasks c s0 = setLevel x.level
      { getLevel x.level s0 with slots := (getLevel x.level s0).slots.filter fun t => !ownTask c t } s0 := by
    simp only [dropTasks, hx0]
  let y : Ctx := { x with st := .closing, cancelReq := true, timers := [], evictSlot := none }
  refine ⟨setCtx c y (bump .GRAPH_CANCEL x.kind (dropTasks c s0)), y, ?_, getCtx_setCtx c _ y, rfl, rfl, ?_, ?_, ?_⟩
  · simp only [cancelInst, hx, if_neg hst, hrace]
    rfl
  · rw [hdrop]
    show s0.task.gen = s.task.gen
    rw [htask]
  · rw [getLevel_setCtx, getLevel_bump, hdrop, getLevel_setLevel]
    exact congrArg (fun z : TaskState => (tget {} z.level x.level).slots.filter fun t => !ownTask c t) htask
  · rw [getCtr_setCtx, getCtr_bump, if_pos ⟨rfl, rfl⟩, hdrop, getCtr_setLevel, hctr]

/-- A context in CLOSING with nothing outstanding is released (R153). -/
theorem closeIf_releases (hx : getCtx c s = some x) (hst : x.st = .closing) (ho : x.outst = []) :
    closeIf c s = releaseCtx c s := by
  simp only [closeIf, hx, hst, ho, List.isEmpty_nil, and_self, if_true]

/-- A context in CLOSING waits for what is outstanding (R153). -/
theorem closeIf_waits (hx : getCtx c s = some x) (ho : x.outst ≠ []) : closeIf c s = s := by
  simp only [closeIf, hx]
  exact if_neg fun h => ho (List.isEmpty_iff.1 h.2)

/-- A released context is free, with GEN increased (R135). -/
theorem releaseCtx_frees (hx : getCtx c s = some x) : getCtx c (releaseCtx c s) = none ∧
    tget 0 (releaseCtx c s).task.gen c = (tget 0 s.task.gen c + 1) % 256 := by
  simp only [releaseCtx, hx]
  exact ⟨tget?_tdel _ _, tget_tset _ _ _ _⟩

@[simp] theorem getLevel_closeIf (l : Nat) : getLevel l (closeIf c s) = getLevel l s := by
  unfold closeIf releaseCtx
  split
  · split
    · split <;> rfl
    · rfl
  · rfl

/-- The end of a context counts in CTX_IN_USE alone. -/
theorem getCtr_closeIf {k : Ctr} (i : Nat) (h : k ≠ .CTX_IN_USE) : getCtr k i (closeIf c s) = getCtr k i s := by
  unfold closeIf releaseCtx
  split
  · split
    · split
      · rfl
      · exact (getCtr_setGauge ..).trans (if_neg fun e => h e.1)
    · rfl
  · rfl

/-- What a cancel leaves: the context released or in CLOSING, no node or retire task of it in the slots, and one more cancel
counted (R153). -/
theorem cancelInst_leaves (hx : getCtx c s = some x) (hst : x.st ≠ .closing) :
    (x.outst = [] → getCtx c (cancelInst c s) = none ∧
      tget 0 (cancelInst c s).task.gen c = (tget 0 s.task.gen c + 1) % 256) ∧
    (x.outst ≠ [] → (getCtx c (cancelInst c s)).map (·.st) = some .closing) ∧
    (∀ t ∈ (getLevel x.level (cancelInst c s)).slots, t.ty ≠ .start → t.ctx ≠ c) ∧
    getCtr .GRAPH_CANCEL x.kind (cancelInst c s) = (getCtr .GRAPH_CANCEL x.kind s + 1) % 2 ^ 64 := by
  obtain ⟨u, y, hcancel, hy, hyst, hyo, hgen, hslots, hctr⟩ := cancelInst_closing hx hst
  rw [hcancel]
  refine ⟨fun ho => ?_, fun ho => ?_, fun t ht hty hc => ?_, ?_⟩
  · rw [closeIf_releases hy hyst (hyo.trans ho), ← hgen]
    exact releaseCtx_frees hy
  · rw [closeIf_waits hy (hyo ▸ ho), hy]
    exact congrArg some hyst
  · rw [getLevel_closeIf, hslots] at ht
    have hown := (List.mem_filter.1 ht).2
    simp [ownTask, hc, hty] at hown
  · rw [getCtr_closeIf _ (by decide)]
    exact hctr

end

/-! ### The spill ring (R150, R161) -/

/-- A level whose ring is empty has nothing to read back. -/
theorem spillRingRefill_empty {l : Nat} {s : State} (hl : l < 8) (h : (getLevel l s).ring = []) :
    exec (.spillRingRefill l) s = .next s := by
  refine congrArg Host.Outcome.next (if_pos (.inl ?_))
  rw [Nat.mod_eq_of_lt hl, h]
  rfl

/-- The one task of a ring, still of a live graph, takes its place among the slots (R150). -/
theorem spillRingRefill_one {l : Nat} {t : Task} {s : State} (hl : l < 8) (hr : (getLevel l s).ring = [t])
    (hn : (getLevel l s).slots.length ≤ 16368) (ha : taskAlive s t = true) :
    exec (.spillRingRefill l) s = .next (bpSync l (setLevel l { getLevel l s with
      slots := insertTask t (getLevel l s).slots, ring := [], ringRead := (getLevel l s).ringRead + 2 }
      (addCtr .SPILL_READ l 1 s))) := by
  have hfew : ¬(min 16 (getLevel l s).ring.length = 0 ∨ 16368 < (getLevel l s).slots.length) := by
    rw [hr, List.length_singleton]
    omega
  show Host.Outcome.next _ = _
  refine congrArg Host.Outcome.next ?_
  rw [Nat.mod_eq_of_lt hl, if_neg hfew, hr]
  simp [ha, forEach]

/-- What the read-back of that task leaves in its level and counters (R150, R161). -/
theorem spillRingRefill_one_leaves {l : Nat} {t : Task} {s : State} (hl : l < 8) (hr : (getLevel l s).ring = [t])
    (hn : (getLevel l s).slots.length ≤ 16368) (ha : taskAlive s t = true) :
    ∃ u, exec (.spillRingRefill l) s = .next u ∧ (getLevel l u).ring = [] ∧
      (getLevel l u).slots = insertTask t (getLevel l s).slots ∧
      getCtr .SPILL_READ l u = (getCtr .SPILL_READ l s + 1) % 2 ^ 64 ∧ getCtr .SPILL_DEPTH l u = 0 := by
  refine ⟨_, spillRingRefill_one hl hr hn ha, ?_⟩
  generalize hv : setLevel l _ (addCtr .SPILL_READ l 1 s) = v
  have hlevel : getLevel l v = { getLevel l s with
      slots := insertTask t (getLevel l s).slots, ring := [], ringRead := (getLevel l s).ringRead + 2 } := by
    rw [← hv, getLevel_setLevel]
  obtain ⟨b, hb⟩ := getLevel_bpSync l v
  rw [hb, hlevel, getCtr_bpSync _ _ _ (by decide), getCtr_bpSync _ _ _ (by decide), hlevel, getCtr_setGauge, getCtr_setGauge,
    if_neg (fun h => nomatch h.1), if_pos ⟨rfl, rfl⟩, ← hv, getCtr_setLevel, getCtr_addCtr, if_pos ⟨rfl, rfl⟩]
  exact ⟨rfl, rfl, rfl, rfl⟩

/-! ### Engines (R159, R160) -/

@[simp] theorem otpAppend_task (kind unit old new : Nat) (s : State) : (otpAppend kind unit old new s).task = s.task := by
  unfold otpAppend
  split <;> rfl

@[simp] theorem otpAppend_ctr (kind unit old new : Nat) (s : State) : (otpAppend kind unit old new s).ctr = s.ctr := by
  unfold otpAppend
  split <;> rfl

theorem isProactive_otpAppend (k e kind unit old new : Nat) (s : State) :
    isProactive k e (otpAppend kind unit old new s) = isProactive k e s := by
  unfold otpAppend
  split <;> rfl

/-- The swap of an engine that the policy has not started counts in SPARE_SWAP alone (R490). -/
theorem spareDone_engine {e : Nat} {s : State} (h : isProactive 3 e s = false) :
    spareDone 3 e s = bump .SPARE_SWAP 2 s := by
  refine if_neg fun hr => ?_
  rw [isProactive, show s.spare.running = some (3, e) from hr] at h
  simp at h

/-- Spare `k` works, and the engine that called for it is off the list (R159). -/
def engineJoined (k : Nat) (s : State) : State :=
  setSpare { s.spare with engineOut := s.spare.engineOut.drop 1 }
    (setTask { s.task with joining := s.task.joining - 1, engine := tput s.task.engine k .working } s)

/-- The first spare of the order joins in the place of an engine that the policy has not taken out (R159, R488). -/
theorem spareEngineJoin_joins {s : State} {k e : Nat} {ks : List Nat} (hj : 0 < s.task.joining) (hk : joinOrder s = k :: ks)
    (he : s.spare.engineOut = [e]) (hp : isProactive 3 e s = false) :
    exec .spareEngineJoin s = .next (bump .SPARE_SWAP 2 (otpAppend 4 0 e k (engineJoined k s))) := by
  have hdone : spareDone 3 e (otpAppend 4 0 e k (engineJoined k s)) =
      bump .SPARE_SWAP 2 (otpAppend 4 0 e k (engineJoined k s)) := spareDone_engine ((isProactive_otpAppend ..).trans hp)
  have hhead : s.spare.engineOut.headD 68 = e := by rw [he]; rfl
  refine congrArg Host.Outcome.next ((if_neg (Nat.ne_of_gt hj)).trans ?_)
  simp only [hk, hhead, hp, Bool.false_eq_true, if_false]
  exact hdone

/-- After a join the spare works, and the engine that it replaces stands as it did (R159). -/
theorem spareEngineJoin_leaves {s : State} {k e : Nat} {ks : List Nat} (hj : 0 < s.task.joining) (hk : joinOrder s = k :: ks)
    (he : s.spare.engineOut = [e]) (hne : e ≠ k) (hp : isProactive 3 e s = false) :
    ∃ u, exec .spareEngineJoin s = .next u ∧ engineState k u = .working ∧ u.task.joining = s.task.joining - 1 ∧
      engineState e u = engineState e s ∧ getCtr .SPARE_SWAP 2 u = (getCtr .SPARE_SWAP 2 s + 1) % 2 ^ 64 := by
  refine ⟨_, spareEngineJoin_joins hj hk he hp, ?_, ?_, ?_, ?_⟩
  · rw [engineState, bump_task, otpAppend_task]
    exact tget_tput _ _ _ _
  · rw [bump_task, otpAppend_task]
    rfl
  · rw [engineState, bump_task, otpAppend_task]
    exact tget_tput_ne _ _ _ hne
  · rw [getCtr_bump, if_pos ⟨rfl, rfl⟩, getCtr, otpAppend_ctr]
    rfl

/-- An idle engine is gated under FRUGAL while four others go on working (R160). -/
theorem engineClockGate_eq (e : Nat) (s : State) : exec (.engineClockGate e) s =
    .next (if inMode mFRUGAL s ∧ engineState e s = .working ∧
      4 < ((List.range 68).filter fun k => engineState k s == .working).length then setEngine e .gated s else s) := rfl

/-- Settles O14, part by part of the life of a graph: the runs of the host, the dispatch and the choice of the task, the nodes
and their returns, timeouts and cancels, the spill ring and the engines. -/
theorem graphsRun : Obligations.GraphsRun := by
  refine ⟨?run, ?started, ?cancel, ?dispatch, ?back,
    fun t s hsort h => nextTask_dispatchable hsort h, fun e t s h => if_pos h, ?node, skipped_iff, aluResult_eq, ?effect,
    fun x n s hgone hbad => hotNode_gone hgone hbad, fun c node s h => hbmNodeCompletion_stray h, ?returns, ?timer, ?timeout,
    fun c x s hx hst => cancelInst_leaves hx hst, fun l s hr hl => spillRingRefill_empty hl hr,
    fun l t s hl hr hn ha => spillRingRefill_one_leaves hl hr hn ha, ?selfTest,
    fun s h => congrArg Host.Outcome.next (if_pos h),
    fun s k e ks hj hk he hne hp => spareEngineJoin_leaves hj hk he hne hp, ?gate⟩
  case run =>
    intro r s ha b t tr v hl hf ht hroom
    exact ⟨graphRun_pressed ha hl hf ht rfl, graphRun_noSpace ha hl hf ht rfl, fun hbp hstart hcount =>
      ⟨graphRun_otherKind ha hl hf ht rfl hbp hstart hcount,
        fun hk hw => graphRun_does ha hl hf ht rfl hbp hstart hcount hk hw hroom,
        graphRun_waits ha hl hf ht rfl hbp hstart hcount⟩⟩
  case started => exact fun t v m s hr hn => ⟨_, rfl, startRun_ready v m hr hn⟩
  case cancel =>
    intro r s ha id hl
    refine ⟨graphCancel_unknown ha hl, fun h hrun hctx => ?_, fun h c x hrun hctx hx => ?_⟩
    · exact graphCancel_does ha hl hrun fun x hx => by simp [hctx] at hx
    · have hbind : h.ctx.bind (getCtx · s) = some x := by rw [hctx, Option.bind_some, hx]
      refine ⟨fun hk => graphCancel_does ha hl hrun fun y hy => ?_,
        fun h1 h3 => graphCancel_denied ha hl hrun hbind ⟨h1, h3⟩⟩
      obtain rfl := Option.some.inj (hbind.symm.trans hy)
      omega
  case dispatch =>
    intro s s1 s2
    have hsuspect (e : Nat) : tget 0 s2.task.suspect e = tget 0 s.task.suspect e :=
      congrArg (fun z => tget 0 z.suspect e) (flit_task linkACT s1)
    refine ⟨fun h => flit_clean h, fun h => congrArg Host.Outcome.next (if_pos h), fun h hn => ?_,
      fun t e es h ht hes he hn => ?_,
      fun t e es h ht hes he => ?_⟩
    · exact (taskDispatch_awake h).trans (congrArg Host.Outcome.next (dispatchTo_idle hn))
    · rw [taskDispatch_awake h, show workingEngines (nextClk s) = e :: es from hes]
      exact congrArg Host.Outcome.next (dispatchTo_sound ht ((hsuspect e).trans he) hn)
    · intro s3 hn
      rw [taskDispatch_awake h, show workingEngines (nextClk s) = e :: es from hes]
      exact congrArg Host.Outcome.next (dispatchTo_suspect ht (fun hz => he ((hsuspect e).symm.trans hz)) rfl hn)
  case back => exact fun t s => ⟨mem_returnTask.2 (.inl rfl), fun x hx => mem_returnTask.2 (.inr hx)⟩
  case node =>
    intro e t x s hty hbad hx hxbad he n s1
    have hrun := runTask_node hty hbad hx hxbad he
    refine ⟨fun hs => ?_, fun hs => ?_⟩
    · exact hrun.trans ((if_pos hs).trans (by rw [nodeCycles_skipped hs]))
    · exact hrun.trans (if_neg (Bool.eq_false_iff.1 hs))
  case effect =>
    intro c j x r n s
    refine ⟨fun h => ?_, fun h => ?_, fun h ha => nodeEffect_badAddr h ha, fun h hsub => ?_⟩
    · simp only [nodeEffect, h]
    · simp only [nodeEffect, h]
    · simp only [nodeEffect, h, hsub, Nat.one_ne_zero, if_false]
  case returns =>
    intro c node x s hx hm hn hlog n
    exact ⟨hbmNodeCompletion_owed hx, fun ho hcam hmap hback =>
      hbmNodeCompletion_returns hx hm hn hlog ho rfl hcam hmap hback⟩
  case timer =>
    intro c node t x s hx ht
    have heq := waitEventTimer_eq hx ht
    refine ⟨fun hle hst => ?_, fun hlt => ?_⟩
    · exact heq.trans (congrArg Host.Outcome.next (if_pos ⟨hle, hst⟩))
    · exact heq.trans (congrArg Host.Outcome.next (if_neg fun h => Nat.not_le.2 hlt h.1))
  case timeout =>
    intro c x s hx hst r s1
    have hrun := graphTimeout_running hx hst
    refine ⟨fun ht => ?_, timedOut_unpaused, timeout_le_life, fun h2 => (timedOut_iff x s).2 (.inr h2), fun ht hk => ?_,
      fun ht hk => ?_, fun l ht hk hl => ?_⟩
    · exact hrun.trans (congrArg Host.Outcome.next (if_neg (Bool.eq_false_iff.1 ht)))
    · simp only [if_pos ht, if_neg (show ¬(x.kind = 2 ∨ x.kind = 3) by omega)] at hrun
      exact hrun.trans (congrArg Host.Outcome.next (failInst_cancels hx (by omega)))
    · simp only [if_pos ht, if_pos hk] at hrun
      exact hrun.trans (congrArg Host.Outcome.next (failInst_cancels hx (by omega)))
    · simp only [if_pos ht, if_neg (show ¬(x.kind = 2 ∨ x.kind = 3) by omega)] at hrun
      exact hrun.trans (congrArg Host.Outcome.next (failInst_abandons hx hk hl))
  case selfTest =>
    exact fun e s h => ⟨congrArg Host.Outcome.next (if_neg h), congrArg Host.Outcome.next (if_neg h)⟩
  case gate =>
    intro e s he n
    refine ⟨fun hm hn => ?_, fun h => ?_⟩
    · exact (engineClockGate_eq e s).trans (congrArg Host.Outcome.next (if_pos ⟨hm, he, hn⟩))
    · refine (engineClockGate_eq e s).trans (congrArg Host.Outcome.next (if_neg ?_))
      rintro ⟨hm, -, hn⟩
      obtain hf | hle := h
      · exact Bool.eq_false_iff.1 hf hm
      · exact Nat.not_le.2 hn hle

end Sys2Proof.Machine

namespace Sys2Proof.Machine

/-! ## The account of the buffer (R233–R265): what the pool manager and the queues write -/

/-- A relation that every operation of a fold keeps holds over the fold. -/
theorem forEach_rel {α : Type} {R : State → State → Prop} {f : α → State → State} (hrefl : ∀ s, R s s)
    (htrans : ∀ {u v t}, R u v → R v t → R u t) (hf : ∀ x s, R s (f x s)) (l : List α) (s : State) :
    R s (forEach l f s) := by
  induction l generalizing s with
  | nil => exact hrefl s
  | cons x l ih => exact htrans (hf x s) (ih (f x s))

/-- What one operation of a fold sets up and every one keeps holds at its end. -/
theorem forEach_reaches {α : Type} {P : State → Prop} {f : α → State → State} {x : α} (hset : ∀ s, P (f x s))
    (hkeep : ∀ y s, P s → P (f y s)) {l : List α} (hx : x ∈ l) (s : State) : P (forEach l f s) := by
  induction l generalizing s with
  | nil => simp at hx
  | cons y l ih =>
    obtain rfl | hx := List.mem_cons.1 hx
    · exact forEach_rel (R := fun u v => P u → P v) (fun _ => id) (fun h k => k ∘ h) hkeep l (f x s) (hset s)
    · exact ih hx (f y s)

theorem forEach_buf {α : Type} {f : α → State → State} (hf : ∀ x s, (f x s).buf = s.buf) (l : List α) (s : State) :
    (forEach l f s).buf = s.buf :=
  forEach_rel (R := fun u v => v.buf = u.buf) (fun _ => rfl) (fun h k => k.trans h) hf l s

/-- Of two tables that differ in one written key, every other key is listed alike. -/
theorem tget?_tset_ne {α : Type} [DecidableEq α] (d : α) (t : Tbl α) {k j : Nat} (v : α) (h : j ≠ k) :
    tget? (tset d t k v) j = tget? t j := by
  unfold tset
  split
  · exact tget?_tdel_ne t h
  · exact tget?_tput_ne t v h

/-- A table rewritten entry by entry reads as its entries say, and elsewhere as the table it is written into. -/
theorem tget_foldl_tset {α : Type} [DecidableEq α] (d : α) (g : Nat → α → α) (k : Nat) :
    ∀ {n : Nat} {l : Tbl α} (t : Tbl α), twfFrom d n l = true →
    tget d (l.foldl (fun t p => tset d t p.1 (g p.1 p.2)) t) k = ((tget? l k).map (g k)).getD (tget d t k)
  | _, [], _, _ => rfl
  | n, (j, v) :: l, t, w => by
    simp only [twfFrom, Bool.and_eq_true, decide_eq_true_eq] at w
    rw [List.foldl_cons, tget_foldl_tset d g k _ w.2]
    by_cases h : j = k
    · subst h
      simp [tget?, tget?_below (Nat.lt_succ_self j) w.2]
    · simp [tget?, h, tget_tset_ne d t (g j v) (Ne.symm h)]

/-! ### Pools, cells and queues after a write -/

section
variable (i j k q : Nat) (s : State)

theorem getPool_setPool (p : PoolRec) : getPool j (setPool k p s) = if j = k then p else getPool j s := by
  split
  · next h => subst h; exact tget_tset _ _ _ _
  · next h => exact congrArg (Option.getD · _) (tget?_tset_ne _ _ _ h)

@[simp] theorem getPool_setCell (c : CellHdr) : getPool j (setCell i c s) = getPool j s := rfl

@[simp] theorem getCell_setCell (c : CellHdr) : getCell i (setCell i c s) = c := tget_tset _ _ _ _

@[simp] theorem getCell_setPool (p : PoolRec) : getCell i (setPool k p s) = getCell i s := rfl

theorem getQueue_setQueue (x : QueueSt) : getQueue j (setQueue q x s) = if j = q then x else getQueue j s :=
  tget_tset_if _ _ _ _ _

theorem getPool_of_buf {t : State} (h : t.buf.pool = s.buf.pool) : getPool k t = getPool k s := by
  rw [getPool, getPool, h]

theorem getCell_of_buf {t : State} (h : t.buf.cell = s.buf.cell) : getCell i t = getCell i s := by
  rw [getCell, getCell, h]

theorem getQueue_of_buf {t : State} (h : t.buf.queue = s.buf.queue) : getQueue q t = getQueue q s := by
  rw [getQueue, getQueue, h]

@[simp] theorem takeInjection_buf (struct place : Nat) : (takeInjection struct place s).2.buf = s.buf := by
  unfold takeInjection
  split
  · split <;> rfl
  · rfl

@[simp] theorem traceRec_buf (ty sub : Nat) (b : Bytes) : (traceRec ty sub b s).buf = s.buf :=
  (reports_traceRec ty sub b s).buf

@[simp] theorem postEvent_buf (ty : Nat) (b : Bytes) : (postEvent ty b s).buf = s.buf := (reports_postEvent ty b s).buf

@[simp] theorem raise_buf (src inst : Nat) (m : BitVec 64) : (raise src inst m s).buf = s.buf := rfl

/-- A buffer pushed on a free list is the next one popped (R241). -/
@[simp] theorem popFree_pushFree (p : PoolRec) : popFree (pushFree i p).free = some (i, p.free) := rfl

end

/-! ### Levels (R245) -/

@[simp] theorem levelChange_buf (k l : Nat) (e : Bool) (s : State) : (levelChange k l e s).buf = s.buf := by
  unfold levelChange
  dsimp only
  split
  · simp
  · split <;> simp

/-- A level sync writes the levels of its pool, in a state that else differs only by what levels report (R245). -/
theorem levelSync_cases (k : Nat) (s : State) :
    (levelsNow (getPool k s) = (getPool k s).levels ∧ levelSync k s = s) ∨
      (levelSync k s).buf = (setPool k { getPool k s with levels := levelsNow (getPool k s) } s).buf := by
  unfold levelSync
  dsimp only
  split
  · next h => exact .inl ⟨h, rfl⟩
  · refine .inr (forEach_buf (fun l u => ?_) _ _)
    split
    · exact levelChange_buf _ _ _ u
    · rfl

/-- Of the buffer, a level sync writes the pools alone. -/
theorem levelSync_buf (k : Nat) (s : State) : (levelSync k s).buf = { s.buf with pool := (levelSync k s).buf.pool } := by
  obtain ⟨-, h⟩ | h := levelSync_cases k s
  · rw [h]
  · rw [h]
    rfl

/-- A level sync writes the levels of its own pool alone (R245). -/
theorem getPool_levelSync (j k : Nat) (s : State) : getPool j (levelSync k s) =
    if j = k then { getPool k s with levels := levelsNow (getPool k s) } else getPool j s := by
  obtain ⟨hl, h⟩ | h := levelSync_cases k s
  · rw [h, hl]
    split
    · next hj => rw [hj]
    · rfl
  · rw [getPool_of_buf _ _ (congrArg (·.pool) h), getPool_setPool]

@[simp] theorem getPool_levelSync_free (j k : Nat) (s : State) : (getPool j (levelSync k s)).free = (getPool j s).free := by
  rw [getPool_levelSync]
  split
  · next h => rw [h]
  · rfl

@[simp] theorem getPool_levelSync_owes (j k : Nat) (s : State) : (getPool j (levelSync k s)).owes = (getPool j s).owes := by
  rw [getPool_levelSync]
  split
  · next h => rw [h]
  · rfl

@[simp] theorem getCell_levelSync (i k : Nat) (s : State) : getCell i (levelSync k s) = getCell i s :=
  getCell_of_buf _ _ (by rw [levelSync_buf])

/-! ### What freeing a frame writes (R240–R247) -/

/-- Counters of the pool manager: those of its checks, levels and injections, and what reporting advances. -/
def poolCtrs : List Ctr :=
  reportCtrs ++ ([.BUF_BAD_PTR, .BUF_DOUBLE_FREE, .BUF_WRONG_OWNER, .BUF_CE, .POOL_WARN, .INJECT_DONE] : List Ctr)

/-- Of the buffer, `t` is `u` but for what the pool manager writes: cells, pools, descriptors and the use of HEADROOM; of the
counters, but for its own. -/
structure PoolOnly (u t : State) : Prop where
  buf : t.buf = { u.buf with cell := t.buf.cell, pool := t.buf.pool, frame := t.buf.frame, hrUse := t.buf.hrUse }
  ctr : ∀ c i, c ∉ poolCtrs → getCtr c i t = getCtr c i u

namespace PoolOnly

theorem refl (s : State) : PoolOnly s s := ⟨rfl, fun _ _ _ => rfl⟩

theorem trans {u v t : State} (h : PoolOnly u v) (k : PoolOnly v t) : PoolOnly u t :=
  ⟨by rw [k.buf, h.buf], fun c i hc => (k.ctr c i hc).trans (h.ctr c i hc)⟩

theorem queue {u t : State} (h : PoolOnly u t) : t.buf.queue = u.buf.queue := congrArg (·.queue) h.buf

theorem of_reports {u t : State} (h : Reports u t) : PoolOnly u t :=
  ⟨by rw [h.buf], fun c i hc => h.ctr c i fun hr => hc (List.mem_append_left _ hr)⟩

variable (s : State)

theorem bump {c : Ctr} (hc : c ∈ poolCtrs) (i : Nat) : PoolOnly s (bump c i s) :=
  ⟨rfl, fun d j hd => by
    rw [getCtr_bump, if_neg]
    rintro ⟨rfl, -⟩
    exact hd hc⟩

theorem raise (src i : Nat) (m : BitVec 64) : PoolOnly s (raise src i m s) := ⟨rfl, fun _ _ _ => rfl⟩

theorem setCell (i : Nat) (c : CellHdr) : PoolOnly s (setCell i c s) := ⟨rfl, fun _ _ _ => rfl⟩

theorem setPool (k : Nat) (p : PoolRec) : PoolOnly s (setPool k p s) := ⟨rfl, fun _ _ _ => rfl⟩

theorem setHr (charge n : Nat) : PoolOnly s (setHr charge n s) := ⟨rfl, fun _ _ _ => rfl⟩

theorem takeInjection (struct place : Nat) : PoolOnly s (takeInjection struct place s).2 := by
  unfold Machine.takeInjection
  split
  · split
    · exact .trans (v := { s with mace := { s.mace with injection := none } }) ⟨rfl, fun _ _ _ => rfl⟩
        (.bump _ (by decide) 0)
    · exact .refl s
  · exact .refl s

theorem levelChange (k l : Nat) (e : Bool) : PoolOnly s (levelChange k l e s) := by
  have htrace (sub : Nat) (b : Bytes) : PoolOnly s (traceRec 6 sub b s) := of_reports (reports_traceRec 6 sub b s)
  unfold Machine.levelChange
  dsimp only
  split
  · exact (htrace _ _).trans ((bump _ (by decide) k).trans (of_reports (reports_postEvent _ _ _)))
  · split
    · exact (htrace _ _).trans (raise _ _ _ _)
    · exact htrace _ _

theorem levelSync (k : Nat) : PoolOnly s (levelSync k s) := by
  unfold Machine.levelSync
  dsimp only
  split
  · exact .refl s
  · refine .trans (.setPool s _ _) (forEach_rel refl trans (fun l u => ?_) _ _)
    split
    · exact .levelChange _ _ _ _
    · exact .refl u

theorem failHeader (i : Nat) : PoolOnly s (failHeader i s) := .trans (.setCell s _ _) (.raise _ _ _ _)

theorem correctHeader (i : Nat) : PoolOnly s (correctHeader i s) := by
  unfold Machine.correctHeader
  dsimp only
  split
  · exact .trans (.setCell s _ _) (.bump _ (by decide) 0)
  · exact .refl s

theorem releaseCell (i : Nat) : PoolOnly s (releaseCell i s) := by
  have hinj := takeInjection s injBUFFER (hdrUnit i)
  unfold Machine.releaseCell
  generalize Machine.takeInjection injBUFFER (hdrUnit i) s = x at hinj ⊢
  obtain ⟨hb, u⟩ := x
  have hpush (c : CellHdr) (k : Nat) (p : PoolRec) : PoolOnly s (Machine.setPool k p (Machine.setCell i c u)) :=
    hinj.trans ((setCell u i c).trans (setPool _ k p))
  dsimp only
  refine trans ?_ (levelSync _ _)
  split
  · exact (hpush _ _ _).trans (setHr _ _ _)
  · exact hpush _ _ _

/-- A check of a free that fails counts and raises its fault (R242). -/
theorem refused {c : Ctr} (hc : c ∈ poolCtrs) (src i : Nat) : PoolOnly s (Machine.raise src i 0 (Machine.bump c 0 s)) :=
  .trans (.bump s hc 0) (.raise _ _ _ _)

theorem walkFree : ∀ (n i : Nat) (s : State), PoolOnly s (walkFree n i s)
  | 0, _, s => .refl s
  | n + 1, i, s => by
    unfold Machine.walkFree
    dsimp only
    split
    · exact .refused s (by decide) _ _
    · split
      · exact .failHeader s i
      · split
        · exact .refused s (by decide) _ _
        · split
          · exact .refl s
          · have hfreed : PoolOnly s (Machine.releaseCell i (Machine.correctHeader i s)) :=
              .trans (.correctHeader s i) (.releaseCell _ i)
            split
            · exact hfreed
            · exact hfreed.trans (walkFree n _ _)

theorem freePtr (ptr pool owner : Nat) : PoolOnly s (freePtr ptr pool owner s) := by
  unfold Machine.freePtr
  dsimp only
  split
  · exact .refused s (by decide) _ _
  · split
    · exact .failHeader s _
    · split
      · exact .refused s (by decide) _ _
      · split
        · exact .refused s (by decide) _ _
        · split
          · exact .setCell s _ _
          · exact .walkFree _ _ s

theorem freeDescPtr (ptr pool owner : Nat) : PoolOnly s (freeDescPtr ptr pool owner s) := by
  unfold Machine.freeDescPtr
  dsimp only
  split
  · exact .refused s (by decide) _ _
  · split
    · exact .refused s (by decide) _ _
    · split
      · exact .refused s (by decide) _ _
      · refine .trans (v := setBuf { s.buf with frame := tdel s.buf.frame _ } s) ⟨rfl, fun _ _ _ => rfl⟩
          (.trans (.setPool _ _ _) (.levelSync _ _))

theorem freeFrame (d : Nat) : PoolOnly s (freeFrame d s) := by
  unfold Machine.freeFrame
  refine .trans ?_ (.freeDescPtr _ _ _ _)
  split
  · exact .freePtr s _ _ _
  · exact .refl s

/-- A frame or copy that is discarded changes the account of the pools alone. -/
theorem discard (d : Nat) : PoolOnly s (discard d s) := by
  refine .trans ?_ (.freeFrame _ d)
  unfold noteAssured
  dsimp only
  split
  · exact .raise _ _ _ _
  · exact .refl s

end PoolOnly

/-! ### What follows a change of the buffer (R250, R252) -/

/-- Of the buffer and the counters, `t` is `u` but for the priorities in XOFF and the pause frames sent for them (R252). -/
structure PauseOnly (u t : State) : Prop where
  buf : t.buf = { u.buf with xoff := t.buf.xoff, pauseOut := t.buf.pauseOut }
  ctr : ∀ c i, c ≠ .PAUSE_TX → getCtr c i t = getCtr c i u

namespace PauseOnly

theorem refl (s : State) : PauseOnly s s := ⟨rfl, fun _ _ _ => rfl⟩

theorem trans {u v t : State} (h : PauseOnly u v) (k : PauseOnly v t) : PauseOnly u t :=
  ⟨by rw [k.buf, h.buf], fun c i hc => (k.ctr c i hc).trans (h.ctr c i hc)⟩

theorem sendPause (p prio quanta : Nat) (s : State) : PauseOnly s (sendPause p prio quanta s) := by
  unfold Machine.sendPause
  split
  · exact refl s
  · exact ⟨rfl, fun c i hc => (getCtr_bump _ _ _ _ _).trans (if_neg fun h => hc h.1)⟩

theorem xoffOne (p prio : Nat) (s : State) : PauseOnly s (xoffOne p prio s) := by
  have hset (v : Nat) : PauseOnly s (setBuf { s.buf with xoff := tset 0 s.buf.xoff p v } s) := ⟨rfl, fun _ _ _ => rfl⟩
  unfold Machine.xoffOne
  dsimp only
  split
  · exact refl s
  · split
    · exact (hset _).trans (sendPause _ _ _ _)
    · split
      · exact hset _
      · exact (hset _).trans (sendPause _ _ _ _)

theorem xoffSync (s : State) : PauseOnly s (xoffSync s) :=
  forEach_rel refl trans (fun p => forEach_rel refl trans (fun k => xoffOne p k) _) _ s

end PauseOnly

/-- Of the buffer, what follows a change of it writes the queues, XOFF and the pause frames sent. -/
theorem bufSync_buf (s : State) : (bufSync s).buf = { s.buf with
    queue := (congSync s).buf.queue, xoff := (bufSync s).buf.xoff, pauseOut := (bufSync s).buf.pauseOut } :=
  (PauseOnly.xoffSync (congSync s)).buf

theorem getCtr_bufSync {c : Ctr} (h : c ≠ .PAUSE_TX) (i : Nat) (s : State) : getCtr c i (bufSync s) = getCtr c i s :=
  (PauseOnly.xoffSync (congSync s)).ctr c i h

theorem bufSync_rebuild (s : State) : (bufSync s).buf.rebuild = s.buf.rebuild := by
  rw [bufSync_buf]

@[simp] theorem getPool_bufSync (k : Nat) (s : State) : getPool k (bufSync s) = getPool k s :=
  getPool_of_buf _ _ (by rw [bufSync_buf])

@[simp] theorem getCell_bufSync (i : Nat) (s : State) : getCell i (bufSync s) = getCell i s :=
  getCell_of_buf _ _ (by rw [bufSync_buf])

/-- The congestion rule leaves the frames of a queue and its depth alone (R248, R250). -/
theorem getQueue_bufSync {s : State} (h : twf {} s.buf.queue = true) (q : Nat) :
    (getQueue q (bufSync s)).list = (getQueue q s).list ∧ (getQueue q (bufSync s)).depth = (getQueue q s).depth := by
  have hq : getQueue q (bufSync s) = getQueue q (congSync s) := getQueue_of_buf _ _ (by rw [bufSync_buf])
  have hfold : getQueue q (congSync s) =
      ((tget? s.buf.queue q).map fun x => queueSynced q s x).getD (tget {} s.buf.queue q) :=
    tget_foldl_tset ({} : QueueSt) (fun k x => queueSynced k s x) q s.buf.queue h
  rw [hq, hfold, getQueue, tget]
  cases tget? s.buf.queue q <;> exact ⟨rfl, rfl⟩

/-! ### The checks of a free (R242, R243, R247) -/

section
variable {ptr pool owner : Nat} {s : State}

/-- A pointer that names no cell (R242). -/
theorem freePtr_badPtr (h : ptr % 256 ≠ 0 ∨ 393216 ≤ ptr / 256) :
    freePtr ptr pool owner s = raise 40 0 0 (bump .BUF_BAD_PTR 0 s) := if_pos h

variable (hptr : ptr % 256 = 0) (hcell : ptr / 256 < 393216)
include hptr hcell

/-- A pointer that names a cell goes through the checks of its header in their order (R242). -/
theorem freePtr_cell : freePtr ptr pool owner s =
    if 2 ≤ (getCell (ptr / 256) s).hdrBad then failHeader (ptr / 256) s
    else if (getCell (ptr / 256) s).free then raise 41 (ptr / 256) 0 (bump .BUF_DOUBLE_FREE 0 s)
    else if !ownerOk pool owner (getCell (ptr / 256) s).pool (getCell (ptr / 256) s).owner
        (decide (0 < (getCell (ptr / 256) s).refcnt) && (getCell (ptr / 256) s).owner == ownREPL) then
      raise 42 (ptr / 256) 0 (bump .BUF_WRONG_OWNER 0 s)
    else if 1 < (getCell (ptr / 256) s).refcnt then
      setCell (ptr / 256) { getCell (ptr / 256) s with refcnt := (getCell (ptr / 256) s).refcnt - 1 } s
    else walkFree 41 (ptr / 256) s :=
  if_neg fun h => h.elim (· hptr) (Nat.not_le.2 hcell)

theorem freePtr_badHeader (h : 2 ≤ (getCell (ptr / 256) s).hdrBad) :
    freePtr ptr pool owner s = failHeader (ptr / 256) s := by
  rw [freePtr_cell hptr hcell, if_pos h]

variable (hgood : (getCell (ptr / 256) s).hdrBad < 2)
include hgood

theorem freePtr_doubleFree (h : (getCell (ptr / 256) s).free = true) :
    freePtr ptr pool owner s = raise 41 (ptr / 256) 0 (bump .BUF_DOUBLE_FREE 0 s) := by
  rw [freePtr_cell hptr hcell, if_neg (Nat.not_le.2 hgood), if_pos h]

variable (hused : (getCell (ptr / 256) s).free = false)
include hused

/-- The requester names another pool, is not the owner, or is none of those that free a shared frame (R242). -/
theorem freePtr_wrongOwner (h : (getCell (ptr / 256) s).pool ≠ pool ∨
      ((getCell (ptr / 256) s).refcnt = 0 ∧ (getCell (ptr / 256) s).owner ≠ owner) ∨
      (0 < (getCell (ptr / 256) s).refcnt ∧ (getCell (ptr / 256) s).owner = 18 ∧ owner ≠ 17 ∧ owner ≠ 18 ∧ owner ≠ 20)) :
    freePtr ptr pool owner s = raise 42 (ptr / 256) 0 (bump .BUF_WRONG_OWNER 0 s) := by
  rw [freePtr_cell hptr hcell, if_neg (Nat.not_le.2 hgood), if_neg (Bool.eq_false_iff.1 hused), if_pos]
  obtain h | ⟨hr, ho⟩ | ⟨hr, ho, h17, h18, h20⟩ := h
  · simp [ownerOk, Ne.symm h]
  · simp [ownerOk, hr, ho]
  · simp [ownerOk, hr, ho, ownREPL, ownQUEUE, ownPUNT, h17, h18, h20]

/-- A reference of a shared frame that is not the last one is given back (R243). -/
theorem freePtr_shared (hpool : (getCell (ptr / 256) s).pool = pool) (href : 1 < (getCell (ptr / 256) s).refcnt)
    (hrepl : (getCell (ptr / 256) s).owner = 18) (howner : owner = 17 ∨ owner = 18 ∨ owner = 20) :
    freePtr ptr pool owner s =
      setCell (ptr / 256) { getCell (ptr / 256) s with refcnt := (getCell (ptr / 256) s).refcnt - 1 } s := by
  rw [freePtr_cell hptr hcell, if_neg (Nat.not_le.2 hgood), if_neg (Bool.eq_false_iff.1 hused), if_neg, if_pos href]
  obtain rfl | rfl | rfl := howner <;> simp [ownerOk, hpool, hrepl, ownREPL, ownQUEUE, ownPUNT, Nat.zero_lt_of_lt href]

/-- The owner of a frame of one cell frees it, its header corrected first (R241, R247). -/
theorem freePtr_single (hpool : (getCell (ptr / 256) s).pool = pool) (href : (getCell (ptr / 256) s).refcnt = 0)
    (howner : (getCell (ptr / 256) s).owner = owner) (hlast : (getCell (ptr / 256) s).last = true) (hne : owner ≠ 23) :
    freePtr ptr pool owner s = releaseCell (ptr / 256) (correctHeader (ptr / 256) s) := by
  rw [freePtr_cell hptr hcell, if_neg (Nat.not_le.2 hgood), if_neg (Bool.eq_false_iff.1 hused), if_neg, if_neg (by omega),
    walkFree, if_neg (show ¬cellCount ≤ ptr / 256 from Nat.not_le.2 hcell)]
  · simp only [if_neg (Nat.not_le.2 hgood), hused, Bool.false_eq_true, if_false, howner,
      if_neg (show ¬owner = ownRECLAIM from hne), hlast, if_true]
  · simp [ownerOk, hpool, href, howner]

end

/-- A header with nothing to correct stands. -/
theorem correctHeader_clean {i : Nat} {s : State} (h : (getCell i s).hdrBad = 0) : correctHeader i s = s :=
  if_neg (by omega)

theorem correctHeader_bad {i : Nat} {s : State} (h : (getCell i s).hdrBad = 1) :
    correctHeader i s = bump .BUF_CE 0 (setCell i { getCell i s with hdrBad := 0 } s) := if_pos h

section
variable {ptr pool owner : Nat} {s : State}

/-- A pointer that names no descriptor (R242). -/
theorem freeDescPtr_badPtr (h : ptr % 32 ≠ 0 ∨ 458752 ≤ ptr / 32) :
    freeDescPtr ptr pool owner s = raise 40 0 0 (bump .BUF_BAD_PTR 0 s) := if_pos h

/-- A descriptor that is not in use is freed twice (R242). -/
theorem freeDescPtr_doubleFree (hptr : ptr % 32 = 0) (hdesc : ptr / 32 < 458752) (h : tget? s.buf.frame (ptr / 32) = none) :
    freeDescPtr ptr pool owner s = raise 41 (ptr / 32) 0 (bump .BUF_DOUBLE_FREE 0 s) := by
  unfold freeDescPtr
  dsimp only
  rw [if_neg fun hbad => hbad.elim (· hptr) (Nat.not_le.2 hdesc), h]

end

/-! ### Queues: congestion, linking and age (R248–R251, R257, R258) -/

/-- A queue becomes congested at its limit (R250). -/
theorem congestedNow_enter (depth limit gap : Nat) : congestedNow depth limit gap false = true ↔ limit ≤ depth :=
  decide_eq_true_iff

/-- A queue stays congested until it is XON_GAP below its limit, or empty (R250). -/
theorem congestedNow_leave (depth limit gap : Nat) :
    congestedNow depth limit gap true = true ↔ ¬(depth + gap ≤ limit ∨ depth = 0) := by
  simp [congestedNow]

section
variable {d q p : Nat} {s : State}

/-- A flushed port ends what is sent towards it (R264). -/
theorem enqueue_flushed (hq : queuePort q s = some p) (h : inMask s.buf.flushed p = true) :
    enqueue d q s = (false, true, discard d (bump .PORT_DOWN_DROP p s)) := by
  simp only [enqueue, hq, h, if_true]

theorem enqueue_links (hq : queuePort q s = some p) (h : inMask s.buf.flushed p = false) (hs : inSafe p s = false) :
    enqueue d q s = (true, false, linkQueue d q p s) := by
  simp only [enqueue, hq, h, hs, Bool.false_and, Bool.false_eq_true, if_false]

end

section
variable (s : State)

@[simp] theorem tracePkt_buf (x : TracePkt) : (tracePkt x s).buf = s.buf := by
  unfold tracePkt
  split
  · rfl
  · dsimp only
    split
    · exact traceRec_buf _ _ _ _
    · rfl

@[simp] theorem laneTo_buf (ix st : Nat) : (laneTo ix st s).buf = s.buf := by
  unfold laneTo
  dsimp only
  split
  · rfl
  · exact traceRec_buf _ _ _ _

@[simp] theorem setPortDepth_buf (p : Nat) (x : Depth) : (setPortDepth p x s).buf = s.buf :=
  forEach_buf (f := fun ix s => setLaneDepth ix x s) (fun _ _ => rfl) _ _

@[simp] theorem domainWake_buf (x : Nat) : (domainWake x s).buf = s.buf := by
  unfold domainWake
  dsimp only
  split <;> rfl

@[simp] theorem spareWake_buf (g : Nat) : (spareWake g s).buf = s.buf := by
  unfold spareWake
  split
  · dsimp only
    split
    · rfl
    · split
      · exact laneTo_buf _ _ _
      · rfl
  · rfl

/-- A port that wakes leaves the buffer alone (R437). -/
@[simp] theorem wakePort_buf (p : Nat) : (wakePort p s).buf = s.buf := by
  unfold wakePort
  split
  · simp
  · simp [forEach_buf, setLane, setPwr]
  · rfl

@[simp] theorem fillTags_buf (q : Nat) : (fillTags q s).buf = s.buf := by
  unfold fillTags
  split
  · rfl
  · exact forEach_buf (fun e u => show (setTag e _ u).buf = u.buf from rfl) _ _

@[simp] theorem passOwner_queue (d owner : Nat) : (passOwner d owner s).buf.queue = s.buf.queue := by
  unfold passOwner
  dsimp only
  split <;> rfl

end

/-- The record of a queue that has taken a frame (R248, R251). -/
def linkedQueue (d q : Nat) (s : State) : QueueSt :=
  let x := queueSynced q s (getQueue q s)
  { x with list := x.list ++ [d], depth := x.depth + cellsOf (getFrame d s).len,
           srcMap := if x.congested then x.srcMap ||| srcBit (getFrame d s) else x.srcMap }

/-- Of the queues, linking a frame writes its own alone, up to what follows a change of the buffer. -/
theorem linkQueue_eq (d q p : Nat) (s : State) : ∃ u, linkQueue d q p s = bufSync u ∧
    u.buf.queue = tset {} s.buf.queue q (linkedQueue d q s) := by
  refine ⟨_, rfl, ?_⟩
  rw [wakePort_buf, tracePkt_buf]
  refine congrArg (fun t => tset {} t q (linkedQueue d q s)) ((passOwner_queue _ _ _).trans ?_)
  rw [fillTags_buf]
  split <;> rfl

/-- A linked frame stands at the tail of its queue, whose depth grows by its cells (R248). -/
theorem getQueue_linkQueue {s : State} (w : twf {} s.buf.queue = true) (d q p : Nat) :
    (getQueue q (linkQueue d q p s)).list = (getQueue q s).list ++ [d] ∧
    (getQueue q (linkQueue d q p s)).depth = (getQueue q s).depth + cellsOf (getFrame d s).len := by
  obtain ⟨u, hlink, hqueue⟩ := linkQueue_eq d q p s
  have hx : getQueue q u = linkedQueue d q s := by rw [getQueue, hqueue, tget_tset]
  obtain ⟨hl, hd⟩ := getQueue_bufSync (s := u) (by rw [hqueue]; exact twf_tset _ _ _ _ w) q
  rw [hlink, hl, hd, hx]
  exact ⟨rfl, rfl⟩

/-- A frame that ages out changes no queue further than its unlinking did. -/
@[simp] theorem ageDrop_queue (port d : Nat) (s : State) : (ageDrop port d s).buf.queue = s.buf.queue :=
  (PoolOnly.discard (bump .AGE_DROP (16 * port + (getFrame d s).tc) s) d).queue

/-- The unlinked head leaves the rest of its queue (R248). -/
theorem unlinkHead_list {q d : Nat} {rest : List Nat} {s : State} (h : (getQueue q s).list = d :: rest) :
    (getQueue q (unlinkHead q s)).list = rest := by
  rw [unlinkHead]
  simp only [h, getQueue_setQueue, if_true]

/-- The ager takes frames from the head alone, and stops at one that has not expired (R258). -/
theorem ageQueue_spec (q : Nat) : ∀ (n : Nat) (s : State), (getQueue q s).list.length ≤ n →
    (getQueue q (ageQueue n q s)).list <:+ (getQueue q s).list ∧
    ∀ d rest, (getQueue q (ageQueue n q s)).list = d :: rest →
      expired (getFrame d (ageQueue n q s)) (ageQueue n q s) = false
  | 0, s, hn => by
    have hnil : (getQueue q s).list = [] := List.eq_nil_of_length_eq_zero (Nat.le_zero.1 hn)
    exact ⟨List.suffix_refl _, fun d rest h => by simp [ageQueue, hnil] at h⟩
  | n + 1, s, hn => by
    rw [ageQueue]
    split
    · next d rest hl =>
      split
      · have hrest : (getQueue q (ageDrop ((queuePort q s).getD 0) d (unlinkHead q s))).list = rest := by
          rw [getQueue_of_buf _ _ (ageDrop_queue _ _ _), unlinkHead_list hl]
        have hlen : rest.length ≤ n := by simpa [hl] using hn
        obtain ⟨hsuf, hhead⟩ := ageQueue_spec q n _ (hrest ▸ hlen)
        rw [hrest] at hsuf
        exact ⟨hsuf.trans (hl ▸ List.suffix_cons d rest), hhead⟩
      · next hexp =>
        refine ⟨List.suffix_refl _, fun e l he => ?_⟩
        cases hl.symm.trans he
        exact Bool.eq_false_iff.2 hexp
    · next hl => exact ⟨List.suffix_refl _, fun d rest h => by simp [hl] at h⟩

/-! ### Parking and the flush (R263, R264) -/

/-- A park timer runs out by the ticks counted, or by twice its value with the pauses (R263, R395). -/
theorem parkExpired_iff (p : Nat) (s : State) : parkExpired p s = true ↔
    parkTime p s * 100000 ≤ 80 * (tget (0, 0) s.buf.parkTicks p).1 ∨
      2 * (parkTime p s * 100000) ≤ 80 * (tget (0, 0) s.buf.parkTicks p).2 := decide_eq_true_iff

theorem parkTimerExpiry_idle {p : Nat} {s : State}
    (h : inMask s.buf.parked p = false ∨ isUp p s = true ∨ parkExpired p s = false) :
    exec (.parkTimerExpiry p) s = .next s := by
  refine congrArg Host.Outcome.next (if_neg ?_)
  obtain h | h | h := h <;> simp [h]

theorem parkTimerExpiry_flushes {p : Nat} {s : State} (hp : inMask s.buf.parked p = true) (hu : isUp p s = false)
    (he : parkExpired p s = true) : exec (.parkTimerExpiry p) s = .next (flushPort p s) :=
  congrArg Host.Outcome.next (if_pos (by simp [hp, hu, he]))

/-- A queue is emptied and its frames are freed. -/
def flushQueue (q : Nat) (s : State) : State :=
  forEach (getQueue q s).list discard (setQueue q { getQueue q s with list := [], depth := 0 } s)

/-- The flush empties the queues of the port one by one. -/
theorem emptyQueues_eq (p : Nat) (s : State) : emptyQueues p false s = forEach (portQueues p s) flushQueue s := rfl

/-- The frames freed change no queue. -/
theorem flushQueue_poolOnly (q : Nat) (s : State) :
    PoolOnly (setQueue q { getQueue q s with list := [], depth := 0 } s) (flushQueue q s) :=
  forEach_rel PoolOnly.refl PoolOnly.trans (fun d u => PoolOnly.discard u d) _ _

/-- The flush of a queue empties it and leaves the others. -/
theorem getQueue_flushQueue (j q : Nat) (s : State) : getQueue j (flushQueue q s) =
    if j = q then { getQueue q s with list := [], depth := 0 } else getQueue j s := by
  rw [getQueue_of_buf _ _ (flushQueue_poolOnly q s).queue, getQueue_setQueue]

theorem getCtr_flushQueue {c : Ctr} (h : c ∉ poolCtrs) (i q : Nat) (s : State) :
    getCtr c i (flushQueue q s) = getCtr c i s :=
  (flushQueue_poolOnly q s).ctr c i h

theorem freeHeld_poolOnly (p : Nat) (s : State) : PoolOnly s (freeHeld p s) := by
  unfold freeHeld
  split
  · next u _ =>
    split
    · next d _ =>
      exact .trans (v := setObs { s.obs with imp := tput s.obs.imp p { u with held := none, heldLeft := 0 } } s)
        ⟨rfl, fun _ _ _ => rfl⟩ (.discard _ d)
    · exact .refl s
  · exact .refl s

section
variable {p : Nat} {s : State}

/-- A flush leaves every queue of its port empty (R263). -/
theorem emptyQueues_empty {q : Nat} (hq : q ∈ portQueues p s) :
    (getQueue q (emptyQueues p false s)).list = [] ∧ (getQueue q (emptyQueues p false s)).depth = 0 := by
  rw [emptyQueues_eq]
  refine forEach_reaches (P := fun u => (getQueue q u).list = [] ∧ (getQueue q u).depth = 0)
    (fun u => ?_) (fun j u hu => ?_) hq s
  · rw [getQueue_flushQueue, if_pos rfl]
    exact ⟨rfl, rfl⟩
  · rw [getQueue_flushQueue]
    split
    · exact ⟨rfl, rfl⟩
    · exact hu

theorem emptyQueues_twf (w : twf {} s.buf.queue = true) : twf {} (emptyQueues p false s).buf.queue = true := by
  rw [emptyQueues_eq]
  refine forEach_rel (R := fun u v => twf {} u.buf.queue = true → twf {} v.buf.queue = true) (fun _ => id)
    (fun h k => k ∘ h) (fun q u hu => ?_) _ s w
  rw [(flushQueue_poolOnly q u).queue]
  exact twf_tset _ _ _ _ hu

theorem getCtr_emptyQueues {c : Ctr} (h : c ∉ poolCtrs) (i : Nat) : getCtr c i (emptyQueues p false s) = getCtr c i s := by
  rw [emptyQueues_eq]
  exact forEach_rel (R := fun u v => getCtr c i v = getCtr c i u) (fun _ => rfl) (fun h k => k.trans h)
    (getCtr_flushQueue h i) _ s

theorem inMask_clear (m : BitVec 64) (p : Nat) : inMask (m &&& ~~~(portMask p)) p = false := by
  simp [inMask, portMask]

theorem inMask_set (m : BitVec 64) (h : p < 64) : inMask (m ||| portMask p) p = true := by
  simp [inMask, portMask, h]

@[simp] theorem linkEvent_buf (p code : Nat) (s : State) : (linkEvent p code s).buf = s.buf := postEvent_buf _ _ _

/-- What a flush has written before the buffer is synchronised: the queues emptied, the marks of the port, and LINK_FLAP
(R263, R264). -/
theorem flushPort_eq (p : Nat) (s : State) : ∃ u, flushPort p s = bufSync u ∧
    u.buf.queue = (emptyQueues p false s).buf.queue ∧ inMask u.buf.parked p = false ∧
    (p < 64 → inMask u.buf.flushed p = true) ∧
    getCtr .LINK_FLAP p u = (getCtr .LINK_FLAP p s + 1) % 2 ^ 64 := by
  have hkeep : getCtr .LINK_FLAP p (freeHeld p (emptyQueues p false s)) = getCtr .LINK_FLAP p s :=
    ((freeHeld_poolOnly _ _).ctr _ _ (by decide)).trans (getCtr_emptyQueues (by decide) p)
  refine ⟨_, rfl, ?_, ?_, fun h => ?_, ?_⟩
  · rw [linkEvent_buf]
    exact (freeHeld_poolOnly p (emptyQueues p false s)).queue
  · rw [linkEvent_buf]
    exact inMask_clear _ p
  · rw [linkEvent_buf]
    exact inMask_set _ h
  · rw [linkEvent, (reports_postEvent _ _ _).ctr _ _ (by decide), getCtr_bump, if_pos ⟨rfl, rfl⟩, ← hkeep]
    rfl

/-- A flushed port is parked no more, its mark stands until it comes up, the flush has counted, and no queue of the port
holds a frame (R263, R264). -/
theorem flushPort_flushes (hport : p < 64) : inMask (flushPort p s).buf.parked p = false ∧
    inMask (flushPort p s).buf.flushed p = true ∧
    getCtr .LINK_FLAP p (flushPort p s) = (getCtr .LINK_FLAP p s + 1) % 2 ^ 64 ∧
    (twf {} s.buf.queue = true → ∀ q ∈ portQueues p s,
      (getQueue q (flushPort p s)).list = [] ∧ (getQueue q (flushPort p s)).depth = 0) := by
  obtain ⟨u, hflush, hqueue, hparked, hflushed, hcount⟩ := flushPort_eq p s
  rw [hflush]
  refine ⟨?_, ?_, (getCtr_bufSync (by decide) p u).trans hcount, fun w q hq => ?_⟩
  · rw [bufSync_buf]
    exact hparked
  · rw [bufSync_buf]
    exact hflushed hport
  · obtain ⟨hl, hd⟩ := getQueue_bufSync (s := u) (hqueue ▸ emptyQueues_twf w) q
    rw [hl, hd, getQueue_of_buf _ _ hqueue]
    exact emptyQueues_empty hq

end

/-! ### Residue, reclaim and the move of cells (R236, R246, R247, R259) -/

theorem setResidue_same {s : State} {l : List Residue} (h : s.buf.residue = l) : setResidue l s = s := by
  rw [← h]
  rfl

/-- An empty residue list has nothing to re-examine. -/
theorem mcResidueRecheck_nil {s : State} (h : s.buf.residue = []) : exec .mcResidueRecheck s = .next (bufSync s) := by
  refine congrArg Host.Outcome.next ?_
  rw [residueCheck, h]
  exact congrArg bufSync (setResidue_same h)

theorem residueCheck_one {r : Residue} {x : Option Residue} {s t : State} (h : s.buf.residue = [r])
    (hx : residueOne r s = (x, t)) : residueCheck s = bufSync (setResidue x.toList t) := by
  -- spelt as the fold spells it, so that the kernel need not evaluate `residueOne`
  have hfold : residueOne r (([] : List Residue), s).2 = (x, t) := hx
  rw [residueCheck, h, List.foldl_cons, List.foldl_nil, hfold]
  rfl

theorem residueOne_aged {r : Residue} {s : State} (he : expired (getFrame r.desc s) s = true) : residueOne r s =
    (none, discard r.desc (forEach (maskPorts r.mask) (fun p s => bump .MC_RESIDUE_AGED p s) s)) := if_pos he

/-- A residue past its age limit is dropped, once counted for every destination left (R259). -/
theorem mcResidueRecheck_aged {r : Residue} {s : State} (h : s.buf.residue = [r])
    (he : expired (getFrame r.desc s) s = true) : exec .mcResidueRecheck s = .next (bufSync (setResidue []
      (discard r.desc (forEach (maskPorts r.mask) (fun p s => bump .MC_RESIDUE_AGED p s) s)))) := by
  have hcheck := residueCheck_one h (residueOne_aged he)
  exact congrArg Host.Outcome.next hcheck

/-- The reclaim leaves a buffer without a leaked cell alone. -/
theorem reclaimScan_none {s : State} (h : ∀ x ∈ s.buf.cell, leaked x.1 s = false) : reclaimScan s = s := by
  have hscan (l : List Nat) (hl : ∀ i ∈ l, leaked i s = false) :
      forEach l (fun i s => if leaked i s then releaseCell i (bump .BUF_RECLAIM 0 s) else s) s = s := by
    induction l with
    | nil => rfl
    | cons i l ih =>
      rw [forEach, List.foldl_cons, if_neg (Bool.eq_false_iff.1 (hl i (List.mem_cons_self ..)))]
      exact ih fun j hj => hl j (List.mem_cons_of_mem _ hj)
  exact hscan _ fun i hi => by
    obtain ⟨x, hx, rfl⟩ := List.mem_map.1 hi
    exact h x hx

/-- The only cell in use is reclaimed when it has leaked (R246). -/
theorem reclaimScan_one {i : Nat} {c : CellHdr} {s : State} (hc : s.buf.cell = [(i, c)]) (h : leaked i s = true) :
    reclaimScan s = releaseCell i (bump .BUF_RECLAIM 0 s) := by
  rw [reclaimScan, hc]
  exact if_pos h

/-- No cell moves while no pool has one to give up (R236). -/
theorem moveCell_none {s : State} (h : ∀ k ∈ [0, 1, 2, 3], (getPool k s).owes ≤ 0) : moveCell s = s := by
  have hnone :
      cellPools.find? (fun k => decide (0 < (getPool k s).owes) && listHead (getPool k s).free != chainEnd) = none :=
    List.find?_eq_none.2 fun k hk => by simp [Int.not_lt.2 (h k hk)]
  rw [moveCell, hnone]

/-- A head whose header is uncorrectable breaks the list (R247). -/
theorem popHead_breaks {a i : Nat} {f : FreeList} {s : State} (hp : popFree (getPool a s).free = some (i, f))
    (hbad : 2 ≤ (getCell i s).hdrBad) : popHead a s = (none, breakList a i f s) := by
  simp only [popHead, hp, if_pos hbad]

theorem popHead_pops {a i : Nat} {f : FreeList} {s : State} (hp : popFree (getPool a s).free = some (i, f))
    (hgood : (getCell i s).hdrBad < 2) : popHead a s = (some i, setPool a { getPool a s with free := f } s) := by
  simp only [popHead, hp, if_neg (Nat.not_le.2 hgood)]

section
variable {a b i : Nat} {f : FreeList} {s : State}
  (ha : cellPools.find? (fun k => decide (0 < (getPool k s).owes) && listHead (getPool k s).free != chainEnd) = some a)
  (hb : cellPools.find? (fun k => decide ((getPool k s).owes < 0)) = some b)
  (hp : popFree (getPool a s).free = some (i, f))
include ha hb hp

/-- The move ends at a head whose header is uncorrectable (R247). -/
theorem moveCell_breaks (hbad : 2 ≤ (getCell i s).hdrBad) : moveCell s = breakList a i f s := by
  rw [moveCell, ha, hb]
  simp only [popHead_breaks hp hbad]

/-- The head of the shrinking pool's list becomes the head of the growing pool's, its POOL rewritten, and each pool owes one
cell less (R236). -/
theorem moveCell_moves (hgood : (getCell i s).hdrBad < 2) :
    (getPool a (moveCell s)).free = f ∧ (getPool a (moveCell s)).owes = (getPool a s).owes - 1 ∧
    popFree (getPool b (moveCell s)).free = some (i, (getPool b s).free) ∧
    (getPool b (moveCell s)).owes = (getPool b s).owes + 1 ∧
    (getCell i (moveCell s)).pool = b ∧ (getCell i (moveCell s)).free = true := by
  have hab : a ≠ b := by
    have hfound := List.find?_some ha
    have hpos : 0 < (getPool a s).owes := of_decide_eq_true (Bool.and_eq_true_iff.1 hfound).1
    have hneg : (getPool b s).owes < 0 := by simpa using List.find?_some hb
    rintro rfl
    omega
  have hinj (u : State) (k : Nat) : getPool k (takeInjection injBUFFER (hdrUnit i) u).2 = getPool k u :=
    getPool_of_buf _ _ (by rw [takeInjection_buf])
  rw [moveCell, ha, hb]
  simp only [popHead_pops hp hgood]
  simp [hinj, getPool_setPool, hab, hab.symm]

end

/-- The links of a list are written in the headers of its cells alone (R238). -/
theorem relink_buf (tail : Nat) (l : List Nat) (s : State) :
    (relink tail l s).buf = { s.buf with cell := (relink tail l s).buf.cell } := by
  induction l generalizing s with
  | nil => rfl
  | cons i l ih => rw [relink, ih]; rfl

@[simp] theorem getPool_relink (k tail : Nat) (l : List Nat) (s : State) : getPool k (relink tail l s) = getPool k s :=
  getPool_of_buf _ _ (by rw [relink_buf])

/-- A rebuilt list holds the buffers of both its parts, and its pool waits no more (R247). -/
theorem rebuildList_joins (k : Nat) (f : FreeList) (s : State) : (rebuildList k f s).buf.rebuild = tdel s.buf.rebuild k ∧
    (getPool k (rebuildList k f s)).free = joinLists (getPool k s).free f := by
  constructor
  · rw [rebuildList, levelSync_buf, setList, relink_buf]
    rfl
  · rw [rebuildList, getPool_levelSync_free, setList, getPool_relink, getPool_setPool, if_pos rfl]

/-- Settles O22, part by part: the checks of a free, the queues and the ager, the park timer and its flush, the residue,
the reclaim and the lists of the pools. -/
theorem bufferKeepsAccount : Obligations.BufferKeepsAccount := by
  refine ⟨?free, fun ptr pool owner s => ⟨freeDescPtr_badPtr, freeDescPtr_doubleFree⟩, fun i p => popFree_pushFree i p,
    fun depth limit gap => ⟨congestedNow_enter depth limit gap, congestedNow_leave depth limit gap⟩,
    fun d q p s hq => ⟨enqueue_flushed hq, enqueue_links hq⟩, fun d q p s w => getQueue_linkQueue w d q p,
    fun q s => ⟨rfl, ageQueue_spec q _ (fastClock s) (Nat.le_refl _)⟩, fun p s h => parkTimerExpiry_idle h,
    fun p s => parkExpired_iff p s,
    fun p s hport hp hu he => ⟨_, parkTimerExpiry_flushes hp hu he, flushPort_flushes hport⟩,
    fun s h => mcResidueRecheck_nil h, fun r s h he => mcResidueRecheck_aged h he,
    fun s h => congrArg (fun u => Host.Outcome.next (bufSync u)) (reclaimScan_none h),
    fun i c s hc h => congrArg (fun u => Host.Outcome.next (bufSync u)) (reclaimScan_one hc h),
    fun s h => congrArg (fun u => Host.Outcome.next (bufSync u)) (moveCell_none h), ?move, ?idle, ?rebuild, fun a b => rfl⟩
  case free =>
    intro ptr pool owner s
    refine ⟨freePtr_badPtr, freePtr_badHeader, freePtr_doubleFree, freePtr_wrongOwner, freePtr_shared,
      fun hptr hcell hused hpool href howner hlast hne => ⟨fun hclean => ?_, fun hbad => ?_⟩⟩
    · rw [freePtr_single hptr hcell (by omega) hused hpool href howner hlast hne, correctHeader_clean hclean]
    · rw [freePtr_single hptr hcell (by omega) hused hpool href howner hlast hne, correctHeader_bad hbad]
  case move =>
    intro a b i f s ha hb hp
    refine ⟨fun hbad => congrArg (fun u => Host.Outcome.next (bufSync u)) (moveCell_breaks ha hb hp hbad),
      fun hgood => ⟨_, rfl, ?_⟩⟩
    simpa only [getPool_bufSync, getCell_bufSync] using moveCell_moves ha hb hp hgood
  case idle =>
    intro s h
    refine congrArg Host.Outcome.next ?_
    rw [h]
  case rebuild =>
    intro k f l s h
    obtain ⟨hrebuild, hfree⟩ := rebuildList_joins k f s
    exact ⟨bufSync (rebuildList k f s), congrArg Host.Outcome.next (by rw [h]), (bufSync_rebuild _).trans hrebuild,
      (congrArg (·.free) (getPool_bufSync _ _)).trans hfree⟩

end Sys2Proof.Machine
